-- ==== Sys2Proof/Word.lean ====
section
/-! DEFINITION. The plain words of the Elvelm 8T1024 (00, Numbers, units and stamps; 08, R263). -/
namespace Sys2Proof

/-- A byte. -/
abbrev Byte := BitVec 8
/-- A management register: 32 bits (00, Registers). -/
abbrev Word := BitVec 32
/-- The 64 host data bytes of a line; byte b is bits 8b+7 to 8b. -/
abbrev HostLine := BitVec 512
/-- A media line of 96 bytes (R263); byte b is bits 8b+7 to 8b. -/
abbrev Line := BitVec 768
/-- A string of bytes as it lies in a message, an image or a record. -/
abbrev Bytes := List Byte

/-- A sparse table: the entry of a key is the first pair that bears it. -/
abbrev Tbl (κ α : Type) := List (κ × α)

/-- An SRAM word or tag that the lookups of a host request read (R276 to R278, R317, R339): the catch's entry of its line and those of its map lines and nodes; the tag and the data of its cache way, of its leaf map line, of its key and of a node of its path; its stem map entry, presence filter word, bole, and taproot (both copies of it, or one); and a word of another hub array its address decode reads. -/
inductive SramWord where
  | catchLine
  | catchLeaf
  | catchStem
  | catchNode (level : Nat)
  | cacheTag
  | cacheData
  | leafTag
  | leafData
  | stemData
  | keyTag
  | keyData
  | nodeTag (level : Nat)
  | nodeData (level : Nat)
  | filter
  | bole
  | taproot (both : Bool)
  | hubTable
  deriving DecidableEq, Repr

/-- An error in such a word: of two bits, or of one. A tag's parity sees one (R276). -/
structure Upset where
  place : SramWord
  double : Bool
  deriving DecidableEq, Repr

/-- What a fabric word belongs to (R13, R283): a host request, a member of a read-around, a line that an engine reads (the number of its detector, R289), or the answer to a management register read. -/
inductive Transfer where
  | request (id : Nat)
  | member (op member : Nat)
  | engine (det line : Nat)
  | register
  deriving DecidableEq, Repr

/-- The parts of a transfer in pieces (03, R104; 14, R438). -/
inductive XferAction where
  | full | initiate | next | finish | abort
  deriving DecidableEq, Repr

end Sys2Proof
end

