-- ==== Sys2Proof/Syntax.lean ====
section
/-! DEFINITION. The commands of the Elvelm 8T1024: one constructor per row of the table, with its operands. -/
namespace Sys2Proof

/-- A command. The sender of a mailbox command is its interface (R354) and, on a host port, the logical device; a write of a register bit with an effect of its own names its interface. -/
inductive Instr where
  /-- FABRIC_WORD_RECEIVE (R13). -/
  | fabricWordReceive (src dst : Nat) (use : Transfer) (word : Nat)
  /-- HELPER_COMPLETE (R18). -/
  | helperComplete (helper code : Nat) (data : Bytes)
  /-- HELD_REQUEST_RELEASE (R22). -/
  | heldRequestRelease (tile : Nat)
  /-- ISOLATE (R35). -/
  | isolate (iface tile : Nat)
  /-- CATCH_ESCROW_DRAIN_DONE (R25). -/
  | catchEscrowDrainDone (tile : Nat) (bad : List Nat)
  /-- ISOLATION_REISSUE (R25). -/
  | isolationReissue (tile : Nat)
  /-- RESTORE (R35). -/
  | restore (iface tile : Nat)
  /-- RESTORE_VERIFY_DONE (R33). -/
  | restoreVerifyDone (tile : Nat) (pass : Bool)
  /-- REBUILD_STRIPE (R33). -/
  | rebuildStripe (tile : Nat)
  /-- HOME_MOVE_BACK (R33). -/
  | homeMoveBack (tile : Nat)
  /-- TILE_SERVICE (R38). -/
  | tileService (iface ld : Nat) (input : Bytes)
  /-- TILE_WATCHDOG_EXPIRE (R433). -/
  | tileWatchdogExpire (tile : Nat)
  /-- STEWARD_LOCKUP (R478). -/
  | stewardLockup (tile : Nat)
  /-- TILE_FABRIC_LINK_FAIL (R25). -/
  | tileFabricLinkFail (tile : Nat)
  /-- TILE_INTERNAL_ERROR (R25). -/
  | tileInternalError (tile : Nat)
  /-- READ (R54). -/
  | read (chan : Nat) (block : Bytes)
  /-- PROG_FAST (R64). -/
  | progFast (chan : Nat) (block : Bytes) (data : Line)
  /-- SHEET_LOAD (R50). -/
  | sheetLoad (chan : Nat) (block : Bytes) (data : Line)
  /-- PROG_DENSE (R51). -/
  | progDense (chan : Nat) (block : Bytes)
  /-- SUSPEND (R53). -/
  | suspend (chan : Nat) (block : Bytes)
  /-- DENSE_SUSPEND_REACHED (R53). -/
  | denseSuspendReached (chan die : Nat)
  /-- RESUME (R53). -/
  | resume (chan : Nat) (block : Bytes)
  /-- DENSE_AUTO_RESUME (R54). -/
  | denseAutoResume (chan die : Nat)
  /-- ABORT (R56). -/
  | abort (chan : Nat) (block : Bytes)
  /-- STATUS (R69). -/
  | status (chan : Nat) (block : Bytes)
  /-- IDENTIFY (R64). -/
  | identify (chan : Nat) (block : Bytes)
  /-- REF_LOAD (R49). -/
  | refLoad (chan : Nat) (block : Bytes)
  /-- REF_DEFAULT (R49). -/
  | refDefault (chan : Nat) (block : Bytes)
  /-- ECHO (R64). -/
  | echo (chan : Nat) (block : Bytes)
  /-- ARRAY_READ_DONE (R64). -/
  | arrayReadDone (chan die : Nat)
  /-- FAST_PROGRAM_DONE (R64). -/
  | fastProgramDone (chan die steps unverified : Nat)
  /-- DENSE_PROGRAM_DONE (R52). -/
  | denseProgramDone (chan die steps unverified : Nat)
  /-- BAD_BLOCK_RECEIVE (R70). -/
  | badBlockReceive (chan discarded : Nat)
  /-- VMED_LOW_DETECT (R75). -/
  | vmedLowDetect (chan : Nat)
  /-- READ_DATA (R270). -/
  | readData (chan : Nat) (header : Bytes) (data : Line)
  /-- COMPLETION (R65). -/
  | completion (chan : Nat) (header : Bytes)
  /-- STATUS_DATA (R71). -/
  | statusData (chan : Nat) (header : Bytes) (data : Bytes)
  /-- IDENT_DATA (R65). -/
  | identData (chan : Nat) (header : Bytes) (data : Bytes)
  /-- ECHO_DATA (R65). -/
  | echoData (chan : Nat) (header : Bytes) (data : Bytes)
  /-- ERR_NOTICE (R70). -/
  | errNotice (chan : Nat) (header : Bytes)
  /-- BAD_RESPONSE_RECEIVE (R70). -/
  | badResponseReceive (chan : Nat)
  /-- STATUS_POLL_TIMEOUT (R69). -/
  | statusPollTimeout (chan : Nat)
  /-- COMMAND_RESPONSE_TIMEOUT (R71). -/
  | commandResponseTimeout (chan tag : Nat)
  /-- LINK_CRC_ERROR_LIMIT (R72). -/
  | linkCrcErrorLimit (chan : Nat)
  /-- BLOCK_LOCK_LOSS (R72). -/
  | blockLockLoss (chan : Nat)
  /-- DETECT_TERMINATION_SENSED (R61). -/
  | detectTerminationSensed (chan : Nat)
  /-- BIT_LOCK_ACHIEVED (R61). -/
  | bitLockAchieved (chan : Nat)
  /-- BLOCK_LOCK_ACHIEVED (R61). -/
  | blockLockAchieved (chan : Nat)
  /-- TRAIN_PRESETS_DONE (R61). -/
  | trainPresetsDone (chan preset : Nat)
  /-- CONFIG_TS2_MATCHED (R61). -/
  | configTs2Matched (chan : Nat)
  /-- RECOVERY_DONE (R61). -/
  | recoveryDone (chan : Nat)
  /-- TRAINING_STATE_TIMEOUT (R61). -/
  | trainingStateTimeout (chan : Nat)
  /-- PACKAGE_TS0_RECEIVE (R62). -/
  | packageTs0Receive (chan : Nat)
  /-- UNANNOUNCED_IDLE_TIMEOUT (R62). -/
  | unannouncedIdleTimeout (chan : Nat)
  /-- LNK_RETRAIN (R76). -/
  | lnkRetrain (iface chan : Nat)
  /-- LNK_DISABLE (R76). -/
  | lnkDisable (iface chan value : Nat)
  /-- LNK_ERR_CLEAR (R78). -/
  | lnkErrClear (iface chan : Nat)
  /-- STAGE_IMAGE (R104). -/
  | stageImage (iface ld : Nat) (input : Bytes)
  /-- IMAGE_CHECKS_DONE (R103). -/
  | imageChecksDone
  /-- VERIFY (R121). -/
  | verify (iface : Nat)
  /-- APPLY_LIVE (R111). -/
  | applyLive (iface : Nat)
  /-- APPLY_AT_RESUME (R106). -/
  | applyAtResume (iface value : Nat)
  /-- RETURN_PREV (R119). -/
  | returnPrev (iface : Nat)
  /-- DISCARD_STAGED (R121). -/
  | discardStaged (iface : Nat)
  /-- IMAGE_CONTROL (R107). -/
  | imageControl (iface ld : Nat) (input : Bytes)
  /-- APPLY_COMPARISON_DONE (R111). -/
  | applyComparisonDone
  /-- COMPARTMENT_QUIET (R114). -/
  | compartmentQuiet (comp : Nat)
  /-- QUIET_WAIT_EXPIRE (R114). -/
  | quietWaitExpire (comp : Nat)
  /-- FORCED_HOLD_EXPIRE (R114). -/
  | forcedHoldExpire (comp : Nat)
  /-- SWITCH_DEADLINE_EXPIRE (R117). -/
  | switchDeadlineExpire (comp : Nat)
  /-- APPLY_COMMIT (R108). -/
  | applyCommit
  /-- APPLY_COMMIT_DONE (R108). -/
  | applyCommitDone
  /-- STAND_IMAGE_RESUME_CHECK (R109). -/
  | standImageResumeCheck
  /-- HOST_LINK_TRAINED (R125). -/
  | hostLinkTrained (port link rate width : Nat)
  /-- IDE_INTEGRITY_FAIL (R134). -/
  | ideIntegrityFail (port link stream : Nat)
  /-- IDE_KEY_PROGRAM (R134). -/
  | ideKeyProgram (port link stream : Nat) (key : Bytes)
  /-- CXL_MEM_READ (R159). -/
  | cxlMemRead (port ld tag hpa : Nat) (upsets : List Upset)
  /-- CXL_MEM_WRITE (R191). -/
  | cxlMemWrite (port ld tag hpa : Nat) (data : HostLine) (upsets : List Upset)
  /-- CXL_MEM_PARTIAL_WRITE (R192). -/
  | cxlMemPartialWrite (port ld tag hpa : Nat) (data : HostLine) (enables : Nat) (upsets : List Upset)
  /-- MEM_SPEC_RD (R132). -/
  | memSpecRd (port ld tag hpa : Nat)
  /-- GLOBAL_PERSISTENT_FLUSH (R140). -/
  | globalPersistentFlush (port phase : Nat)
  /-- CONFIG_REQUEST (R477). -/
  | configRequest (port ld offset : Nat) (write : Bool) (value : Nat)
  /-- CDAT_READ (R129). -/
  | cdatRead (port ld handle : Nat)
  /-- SPDM_REQUEST (R387). -/
  | spdmRequest (port ld : Nat) (request : Bytes)
  /-- GET_EVENT_RECORDS (R139). -/
  | getEventRecords (iface ld log : Nat)
  /-- CLEAR_EVENT_RECORDS (R139). -/
  | clearEventRecords (iface ld log : Nat) (all : Bool) (handles : List Nat)
  /-- GET_EVENT_INTERRUPT_POLICY (R141). -/
  | getEventInterruptPolicy (iface ld : Nat)
  /-- SET_EVENT_INTERRUPT_POLICY (R139). -/
  | setEventInterruptPolicy (iface ld : Nat) (vectors : List Nat)
  /-- GET_FW_INFO (R141). -/
  | getFwInfo (iface ld : Nat)
  /-- TRANSFER_FW (R438). -/
  | transferFw (iface ld : Nat) (action : XferAction) (slot offset : Nat) (data : Bytes)
  /-- ACTIVATE_FW (R439). -/
  | activateFw (iface ld : Nat) (online : Bool) (slot : Nat)
  /-- GET_TIMESTAMP (R141). -/
  | getTimestamp (iface ld : Nat)
  /-- SET_TIMESTAMP (R141). -/
  | setTimestamp (iface ld value : Nat)
  /-- GET_SUPPORTED_LOGS (R141). -/
  | getSupportedLogs (iface ld : Nat)
  /-- GET_LOG (R141). -/
  | getLog (iface ld log : Nat)
  /-- IDENTIFY_MEMORY_DEVICE (R128). -/
  | identifyMemoryDevice (iface ld : Nat)
  /-- GET_PARTITION_INFO (R141). -/
  | getPartitionInfo (iface ld : Nat)
  /-- GET_LSA (R141). -/
  | getLsa (iface ld offset length : Nat)
  /-- SET_LSA (R141). -/
  | setLsa (iface ld offset : Nat) (data : Bytes)
  /-- GET_HEALTH_INFO (R259). -/
  | getHealthInfo (iface ld : Nat)
  /-- GET_ALERT_CONFIG (R259). -/
  | getAlertConfig (iface ld : Nat)
  /-- SET_ALERT_CONFIG (R259). -/
  | setAlertConfig (iface ld spare : Nat)
  /-- GET_SHUTDOWN_STATE (R140). -/
  | getShutdownState (iface ld : Nat)
  /-- SET_SHUTDOWN_STATE (R140). -/
  | setShutdownState (iface ld : Nat) (dirty : Bool)
  /-- GET_POISON_LIST (R294). -/
  | getPoisonList (iface ld dpa length : Nat)
  /-- INJECT_POISON (R294). -/
  | injectPoison (iface ld dpa : Nat)
  /-- CLEAR_POISON (R141). -/
  | clearPoison (iface ld dpa : Nat) (data : HostLine)
  /-- GET_SCAN_MEDIA_CAPABILITIES (R288). -/
  | getScanMediaCapabilities (iface ld dpa length : Nat)
  /-- SCAN_MEDIA (R288). -/
  | scanMedia (iface ld dpa length : Nat)
  /-- GET_SCAN_MEDIA_RESULTS (R288). -/
  | getScanMediaResults (iface ld : Nat)
  /-- SANITIZE (R141). -/
  | sanitize (iface ld : Nat)
  /-- SECURE_ERASE (R141). -/
  | secureErase (iface ld : Nat)
  /-- UNSUPPORTED_COMMAND (R141). -/
  | unsupportedCommand (iface ld opcode : Nat)
  /-- GET_LD_INFO (R133). -/
  | getLdInfo (port link : Nat)
  /-- GET_LD_ALLOCATIONS (R133). -/
  | getLdAllocations (port link : Nat) (input : Bytes)
  /-- SET_LD_ALLOCATIONS (R133). -/
  | setLdAllocations (port link : Nat) (input : Bytes)
  /-- CREATE_QUEUE_PAIR (R145). -/
  | createQueuePair (iface ld : Nat) (input : Bytes)
  /-- DELETE_QUEUE_PAIR (R145). -/
  | deleteQueuePair (iface ld : Nat) (input : Bytes)
  /-- GET_QUEUE_PAIR_STATUS (R154). -/
  | getQueuePairStatus (iface ld : Nat) (input : Bytes)
  /-- SQ_TAIL_DOORBELL (R153). -/
  | sqTailDoorbell (port ld queue value : Nat)
  /-- CQ_HEAD_DOORBELL (R154). -/
  | cqHeadDoorbell (port ld queue value : Nat)
  /-- DESCRIPTOR_FETCH_DONE (R147). -/
  | descriptorFetchDone (queue : Nat) (bytes : Bytes) (ok : Bool)
  /-- COPY (R148). -/
  | copy (queue desc : Nat) (srcUpsets upsets : List Upset)
  /-- FILL (R148). -/
  | fill (queue desc : Nat) (upsets : List Upset)
  /-- CLEAR (R148). -/
  | clear (queue desc : Nat)
  /-- DISCARD (R148). -/
  | discard (queue desc : Nat)
  /-- QUEUE_COMPLETION_POST (R154). -/
  | queueCompletionPost (queue desc : Nat)
  /-- PERST_ASSERT (R487). -/
  | perstAssert (port : Nat)
  /-- HOT_RESET (R487). -/
  | hotReset (port link : Nat)
  /-- HOST_LINK_DOWN (R487). -/
  | hostLinkDown (port link : Nat)
  /-- FUNCTION_LEVEL_RESET (R487). -/
  | functionLevelReset (port ld : Nat)
  /-- CXL_RESET (R487). -/
  | cxlReset (port ld : Nat)
  /-- HPT_WFAIL_CLEAR (R144). -/
  | hptWfailClear (iface port : Nat)
  /-- HPT_RDLAT_CLEAR (R188). -/
  | hptRdlatClear (iface port : Nat)
  /-- HPT_LT_CLEAR (R188). -/
  | hptLtClear (iface port : Nat)
  /-- READ_PATIENCE_EXPIRE (R176). -/
  | readPatienceExpire (req : Nat)
  /-- YIELD_WINDOW_END (R173). -/
  | yieldWindowEnd (tile : Nat)
  /-- LEVEL_TIMING_RELEASE (R184). -/
  | levelTimingRelease (req : Nat) (late : Bool)
  /-- WRITE_ADMIT_RESUME (R194). -/
  | writeAdmitResume (tile : Nat)
  /-- LINGER_EXPIRE (R195). -/
  | lingerExpire (tile line : Nat)
  /-- DESTAGE_LEAF (R197). -/
  | destageLeaf (tile : Nat) (upsets : List (Nat × Upset))
  /-- LINE_STRIPE_FILL_TIMEOUT (R198). -/
  | lineStripeFillTimeout (tile : Nat)
  /-- LEAF_SWITCH (R199). -/
  | leafSwitch (tile leaf : Nat)
  /-- STEM_COPY_START (R203). -/
  | stemCopyStart (tile : Nat)
  /-- SHEET_READBACK (R205). -/
  | sheetReadback (tile stem : Nat)
  /-- STEM_SWITCH (R203). -/
  | stemSwitch (tile stem : Nat)
  /-- STEM_COPY_ABANDON (R206). -/
  | stemCopyAbandon (tile stem : Nat)
  /-- REFRESH_DUE (R208). -/
  | refreshDue (tile stem : Nat)
  /-- VIN_WARN (R211). -/
  | vinWarn (mv : Nat)
  /-- VIN_COMMIT (R212). -/
  | vinCommit (mv : Nat)
  /-- FLUSH_DONE (R212). -/
  | flushDone (unsealed : List Nat)
  /-- VIN_VALID (R472). -/
  | vinValid (mv : Nat)
  /-- VIN_OFF (R472). -/
  | vinOff (mv : Nat)
  /-- COMMIT_OFF_TIMEOUT (R472). -/
  | commitOffTimeout
  /-- LITTER_REPLAY (R217). -/
  | litterReplay (tile : Nat) (badGroups : List (Nat × Nat)) (badLines : List Nat)
  /-- CENSUS_END (R235). -/
  | censusEnd (tile : Nat)
  /-- FILTER_REBUILD_DONE (R237). -/
  | filterRebuildDone (tile : Nat)
  /-- STEM_MAP_RESIDENT (R163). -/
  | stemMapResident (tile : Nat)
  /-- WEAR_LEVEL_TICK (R246). -/
  | wearLevelTick (tile : Nat)
  /-- RETIRE (R253). -/
  | retire (iface ld : Nat) (input : Bytes)
  /-- RETIRE_DONE (R256). -/
  | retireDone
  /-- GET_HEALTH_REPORT (R258). -/
  | getHealthReport (iface ld : Nat)
  /-- GET_MEDIA_ERROR_RECORDS (R293). -/
  | getMediaErrorRecords (iface ld : Nat) (input : Bytes)
  /-- SCRUB_LINE_STRIPE (R285). -/
  | scrubLineStripe (tile : Nat)
  /-- SCRUB_POSITION_PERSIST (R287). -/
  | scrubPositionPersist (tile : Nat)
  /-- SRAM_CLEAR (R295). -/
  | sramClear (iface tile : Nat)
  /-- CHECKER_OPEN (R297). -/
  | checkerOpen (iface tile : Nat)
  /-- CHECKER_CLOSE (R300). -/
  | checkerClose (iface tile : Nat)
  /-- CHECKER_WRITE (R298). -/
  | checkerWrite (iface tile : Nat)
  /-- CHECKER_READ (R299). -/
  | checkerRead (iface tile : Nat)
  /-- CHECKER_OP_DONE (R301). -/
  | checkerOpDone (tile : Nat)
  /-- CLEAN (R312). -/
  | clean (iface tile : Nat)
  /-- INVALIDATE (R312). -/
  | invalidate (iface tile : Nat)
  /-- CLEAN_AND_INVALIDATE (R312). -/
  | cleanAndInvalidate (iface tile : Nat)
  /-- LOCK (R314). -/
  | lock (iface tile : Nat)
  /-- UNLOCK (R312). -/
  | unlock (iface tile : Nat)
  /-- RANGE_OP_DONE (R316). -/
  | rangeOpDone (tile : Nat)
  /-- CREATE_KEY_SLOT (R319). -/
  | createKeySlot (iface ld : Nat) (input : Bytes)
  /-- DESTROY_KEY_SLOT (R321). -/
  | destroyKeySlot (iface ld : Nat) (input : Bytes)
  /-- GET_KEY_SLOT_INFO (R325). -/
  | getKeySlotInfo (iface ld : Nat) (input : Bytes)
  /-- KEY_UNWRAP_DONE (R322). -/
  | keyUnwrapDone (tile key : Nat)
  /-- REROOT (R341). -/
  | reroot (iface value : Nat)
  /-- REROOT_DONE (R341). -/
  | rerootDone (tile : Nat)
  /-- TAPROOT_ACCEPT (R344). -/
  | taprootAccept
  /-- SEALED_SET_SAVE (R344). -/
  | sealedSetSave
  /-- START_REKEY (R350). -/
  | startRekey (iface ld : Nat) (input : Bytes)
  /-- REKEY_LINE (R347). -/
  | rekeyLine (tile slot : Nat) (upsets : List Upset)
  /-- REKEY_END (R349). -/
  | rekeyEnd (slot : Nat)
  /-- SUBMIT_WARRANT (R363). -/
  | submitWarrant (iface ld : Nat) (input : Bytes)
  /-- WARRANT_LAPSE (R365). -/
  | warrantLapse (iface : Nat)
  /-- QOS_WINDOW_END (R390). -/
  | qosWindowEnd (tile : Nat)
  /-- MEDIA_ISSUE (R394). -/
  | mediaIssue (chan : Nat)
  /-- SHORTFALL_SPAN_END (R399). -/
  | shortfallSpanEnd (tile : Nat)
  /-- GLADE_SECOND (R402). -/
  | gladeSecond
  /-- FINE_TIME_RESYNC (R406). -/
  | fineTimeResync
  /-- TRACE_START (R410). -/
  | traceStart (iface value : Nat)
  /-- TRACE_STOP (R413). -/
  | traceStop (iface : Nat)
  /-- TRACE_DATA_READ (R431). -/
  | traceDataRead (iface : Nat)
  /-- EVENT_FIFO_TAKE (R417). -/
  | eventFifoTake
  /-- EVF_DATA0_READ (R416). -/
  | evfData0Read
  /-- FINE_LO_READ (R429). -/
  | fineLoRead (iface : Nat)
  /-- LOG_RECORD_WRITE_DONE (R419). -/
  | logRecordWriteDone
  /-- LOG_SECTOR_ERASE_DONE (R420). -/
  | logSectorEraseDone
  /-- LOG_QUEUE_GAP_WRITE (R424). -/
  | logQueueGapWrite
  /-- RATE_WINDOW_END (R422). -/
  | rateWindowEnd (code : Nat)
  /-- LOG_FREEZE (R426). -/
  | logFreeze (iface : Nat)
  /-- LOG_THAW (R426). -/
  | logThaw (iface : Nat)
  /-- FREEZE_LIMIT_EXPIRE (R426). -/
  | freezeLimitExpire
  /-- READ_RING_LOG (R427). -/
  | readRingLog (iface ld : Nat) (input : Bytes)
  /-- WARDEN_WATCHDOG_EXPIRE (R433). -/
  | wardenWatchdogExpire
  /-- WATCHDOG_KICK (R433). -/
  | watchdogKick (core : Nat)
  /-- SEEDBANK_WINDOW_READ (R435). -/
  | seedbankWindowRead (iface offset : Nat)
  /-- PROCESSOR_READY (R440). -/
  | processorReady (core : Nat) (measured : Bool)
  /-- STEWARD_READY_TIMEOUT (R439). -/
  | stewardReadyTimeout (tile : Nat)
  /-- FW_TRIAL_END (R442). -/
  | fwTrialEnd
  /-- IRQ_SOURCE_EDGE (R443). -/
  | irqSourceEdge (source : Nat)
  /-- IRQ_CLAIM (R445). -/
  | irqClaim (target : Nat)
  /-- IRQ_DONE (R445). -/
  | irqDone (target source : Nat)
  /-- IRQ_HOLD_EXPIRE (R446). -/
  | irqHoldExpire (target : Nat)
  /-- PS_READ (R448). -/
  | psRead (iface key length : Nat)
  /-- PS_WRITE (R449). -/
  | psWrite (iface key length : Nat)
  /-- PS_DELETE (R448). -/
  | psDelete (iface key length : Nat)
  /-- PS_SHADOW (R452). -/
  | psShadow (iface : Nat)
  /-- PS_WRITE_DONE (R450). -/
  | psWriteDone (ok : Bool)
  /-- PS_COMPACT (R449). -/
  | psCompact
  /-- USB4_CONNECT (R453). -/
  | usb4Connect
  /-- USB4_DISCONNECT (R453). -/
  | usb4Disconnect
  /-- REGISTER_READ (R453). -/
  | registerRead (iface address count : Nat)
  /-- REGISTER_WRITE (R453). -/
  | registerWrite (iface address : Nat) (values : List Nat)
  /-- STORE_READ (R453). -/
  | storeRead (iface key : Nat)
  /-- STORE_WRITE (R453). -/
  | storeWrite (iface key : Nat) (value : Bytes)
  /-- ATTESTATION_REPORT (R388). -/
  | attestationReport (iface ld : Nat) (secured : Bool) (nonce : Bytes)
  /-- LINE_READ (R379). -/
  | lineRead (iface dpa : Nat) (upsets : List Upset)
  /-- LINE_WRITE (R379). -/
  | lineWrite (iface dpa enables : Nat) (data : HostLine) (upsets : List Upset)
  /-- STRUCTURE_READ (R379). -/
  | structureRead (iface group die grove line member : Nat)
  /-- CORE_HALT (R453). -/
  | coreHalt (iface core : Nat)
  /-- CORE_STEP (R453). -/
  | coreStep (iface core : Nat) (upset : Option Bool)
  /-- CORE_RESUME (R453). -/
  | coreResume (iface core : Nat)
  /-- CORE_MEMORY_READ (R453). -/
  | coreMemoryRead (iface core address count : Nat) (upset : Option Bool)
  /-- IDCODE (R530). -/
  | idcode
  /-- SAMPLE_PRELOAD (R530). -/
  | samplePreload (bits : Bytes)
  /-- EXTEST (R530). -/
  | extest (bits : Bytes)
  /-- HIGHZ (R530). -/
  | highz
  /-- CLAMP (R530). -/
  | clamp
  /-- DBGMSG (R530). -/
  | dbgmsg
  /-- TAP_WARRANT (R530). -/
  | tapWarrant (input : Bytes)
  /-- BYPASS (R530). -/
  | bypass (code : Nat)
  /-- TAP_RESET (R365). -/
  | tapReset
  /-- ENEC (R454). -/
  | enec (events : Nat)
  /-- DISEC (R454). -/
  | disec (events : Nat)
  /-- RSTDAA (R455). -/
  | rstdaa
  /-- ENTDAA (R455). -/
  | entdaa (addr : Nat)
  /-- SETMWL (R454). -/
  | setmwl (length : Nat)
  /-- SETMRL (R454). -/
  | setmrl (length : Nat)
  /-- RSTACT (R454). -/
  | rstact
  /-- GETPID (R454). -/
  | getpid
  /-- GETBCR (R454). -/
  | getbcr
  /-- GETDCR (R454). -/
  | getdcr
  /-- GETSTATUS (R454). -/
  | getstatus
  /-- GETMWL (R454). -/
  | getmwl
  /-- GETMRL (R454). -/
  | getmrl
  /-- UNSUPPORTED_CCC (R454). -/
  | unsupportedCcc (code : Nat)
  /-- SIDEBAND_PRIVATE_READ (R456). -/
  | sidebandPrivateRead
  /-- IDENT (R456). -/
  | ident
  /-- HEALTH (R456). -/
  | health (offset length : Nat)
  /-- REG_READ (R456). -/
  | regRead (address : Nat)
  /-- LOG_READ (R456). -/
  | logRead (input : Bytes)
  /-- PARAM_READ (R456). -/
  | paramRead (key : Nat)
  /-- PARAM_WRITE (R456). -/
  | paramWrite (key : Nat) (value : Bytes)
  /-- RESET (R456). -/
  | reset (scope : Nat)
  /-- WARRANT (R456). -/
  | warrant (input : Bytes)
  /-- L_READ (R457). -/
  | lRead (address length : Nat)
  /-- L_WRITE (R457). -/
  | lWrite (address : Nat) (value : Bytes)
  /-- L_UNLOCK (R457). -/
  | lUnlock (password : Bytes)
  /-- L_LOCK (R457). -/
  | lLock
  /-- L_SETPW (R457). -/
  | lSetpw (oldpw newpw : Bytes)
  /-- PG_CHANGE (R462). -/
  | pgChange (rail : Nat) (good : Bool)
  /-- DEPENDENCY_ENABLE (R466). -/
  | dependencyEnable (rail : Nat)
  /-- ENABLE (R465). -/
  | stepEnable
  /-- DISABLE (R465). -/
  | stepDisable
  /-- WAIT (R465). -/
  | stepWait
  /-- CHECK (R465). -/
  | stepCheck
  /-- JUMP (R465). -/
  | stepJump
  /-- SAFE (R465). -/
  | stepSafe
  /-- SYNC (R471). -/
  | stepSync
  /-- END (R466). -/
  | stepEnd
  /-- STEP_WAIT_EXPIRE (R465). -/
  | stepWaitExpire
  /-- SEQSYNC_HIGH (R471). -/
  | seqsyncHigh
  /-- RAIL_ON_DONE (R465). -/
  | railOnDone (rail : Nat)
  /-- RAIL_OFF_DONE (R467). -/
  | railOffDone (rail : Nat)
  /-- ON_TIMEOUT_EXPIRE (R468). -/
  | onTimeoutExpire (rail : Nat)
  /-- CHECK_TIMEOUT_EXPIRE (R468). -/
  | checkTimeoutExpire
  /-- SYNC_TIMEOUT_EXPIRE (R471). -/
  | syncTimeoutExpire
  /-- DISCHARGE_TIMEOUT (R467). -/
  | dischargeTimeout (rail : Nat)
  /-- PG_CHATTER (R468). -/
  | pgChatter (rail : Nat)
  /-- MIN_OFF_TIME_END (R473). -/
  | minOffTimeEnd
  /-- PBTN_PRESS (R476). -/
  | pbtnPress
  /-- PBTN_RELEASE (R476). -/
  | pbtnRelease
  /-- PBTN_HOLD_8S (R476). -/
  | pbtnHold8s
  /-- PBTN_HOLD_15S (R476). -/
  | pbtnHold15s
  /-- MRST_ASSERT (R477). -/
  | mrstAssert
  /-- RST_ASSERT (R477). -/
  | rstAssert
  /-- COLD_RESET (R482). -/
  | coldReset
  /-- WARM_RESET (R479). -/
  | warmReset (failed : List Nat)
  /-- RESET_PIN_RELEASE (R492). -/
  | resetPinRelease (pin : Nat)
  /-- TRIM_LOAD_DONE (R484). -/
  | trimLoadDone
  /-- CLOCK_GATE_RELEASE (R483). -/
  | clockGateRelease (domain : Nat)
  /-- CLOCK_FAIL (R481). -/
  | clockFail (domain : Nat)
  /-- OSCILLATOR_RESTART_DONE (R481). -/
  | oscillatorRestartDone (stable : Bool)
  /-- GLADE_RESET (R539). -/
  | gladeReset
  /-- RST_WARM (R495). -/
  | rstWarm (iface : Nat)
  /-- RST_COLD (R495). -/
  | rstCold (iface : Nat)
  /-- RST_TILE (R495). -/
  | rstTile (iface tile : Nat)
  /-- RST_HOST_PORT (R495). -/
  | rstHostPort (iface port : Nat)
  /-- RST_POWER_OFF (R495). -/
  | rstPowerOff (iface : Nat)
  /-- RST_POWER_CYCLE (R495). -/
  | rstPowerCycle (iface : Nat)
  /-- SEQ_FAULT_CLEAR (R494). -/
  | seqFaultClear (iface : Nat)
  /-- SEQ_VIN_CLEAR (R494). -/
  | seqVinClear (iface : Nat)
  /-- TILE_IDLE_T1 (R489). -/
  | tileIdleT1 (tile : Nat)
  /-- TILE_IDLE_T2 (R489). -/
  | tileIdleT2 (tile : Nat)
  /-- TILE_IDLE_T3 (R489). -/
  | tileIdleT3 (tile : Nat)
  /-- TILE_SLEEP_ENTRY_DONE (R489). -/
  | tileSleepEntryDone (tile : Nat)
  /-- TILE_WAKE (R490). -/
  | tileWake (tile : Nat)
  /-- TILE_WAKE_DONE (R20). -/
  | tileWakeDone (tile : Nat)
  /-- P1_ENTER (R491). -/
  | p1Enter
  /-- P2_ENTER (R491). -/
  | p2Enter
  /-- P2_EXIT (R491). -/
  | p2Exit
  /-- THERMAL_SAMPLE (R498). -/
  | thermalSample (sensor : Nat) (temp : Int)
  /-- THERMAL_RESTART (R503). -/
  | thermalRestart
  /-- THERMAL_HISTORY_SAVE (R508). -/
  | thermalHistorySave
  /-- PMC_EVEN_READ (R514). -/
  | pmcEvenRead (iface block index : Nat)
  /-- PMC_SEL_WRITE (R519). -/
  | pmcSelWrite (iface block index value : Nat)
  /-- PMC_FILT_WRITE (R519). -/
  | pmcFiltWrite (iface block index value : Nat)
  /-- READ_COUNTERS (R522). -/
  | readCounters (iface ld : Nat) (input : Bytes)
  /-- MANAGEMENT_REGISTER_WRITE (R529). -/
  | managementRegisterWrite (iface address value : Nat)
  /-- WARDEN_LOCKUP (R478). -/
  | wardenLockup
  /-- VGLADE_FIRST_PRESENT (R478). -/
  | vgladeFirstPresent
  /-- PROGRAM_ABORT_DONE (R56). -/
  | programAbortDone (chan die : Nat)
  /-- HOST_LINK_L1_ENTRY (R491). -/
  | hostLinkL1Entry (port link : Nat)
  /-- PS_SECTOR_ERASE_DONE (R449). -/
  | psSectorEraseDone (ok : Bool)
  deriving DecidableEq, Repr

end Sys2Proof
end

