-- ==== Sys2Proof/Machine/Bits.lean ====
section
/-! DEFINITION. Bit fields, byte order, saturating counts and the sparse table every structure of the device is kept in. -/
namespace Sys2Proof.Machine

/-- Bits hi down to lo of a natural number, as a number. -/
def bits (n hi lo : Nat) : Nat := (n >>> lo) % 2 ^ (hi - lo + 1)

/-- A Boolean as the value of a one-bit field. -/
def b2n (b : Bool) : Nat := if b then 1 else 0

/-- A count that saturates (for example R36 isolations, R144 count). -/
def satAdd (n k max : Nat) : Nat := if n + k ≤ max then n + k else max

/-- A field written with a value outside its range takes the nearer limit (R124, R186, R220 and others). -/
def clamp (lo hi n : Nat) : Nat := if n < lo then lo else if hi < n then hi else n

/-- n as k bytes, little-endian (R86, R289, R418). -/
def le : (k : Nat) → (n : Nat) → Bytes
  | 0, _ => []
  | k + 1, n => BitVec.ofNat 8 (n % 256) :: le k (n / 256)

/-- The number a little-endian byte string stands for. -/
def ofLe : Bytes → Nat
  | [] => 0
  | b :: t => b.toNat + 256 * ofLe t

/-- The k bytes at an offset, as far as the string reaches. -/
def slice (l : Bytes) (off k : Nat) : Bytes := (l.drop off).take k

/-- The little-endian number of k bytes at an offset. -/
def getLe (l : Bytes) (off k : Nat) : Nat := ofLe (slice l off k)

/-- Every byte of a string is zero: how a reserved field must be (R8, R86). -/
def allZero (l : Bytes) : Bool := l.all (· == 0#8)

/-- n zero bytes. -/
def zeros (n : Nat) : Bytes := List.replicate n 0#8

/-- The string cut or zero-filled to n bytes (R418: event data, zero-filled). -/
def fit (n : Nat) (l : Bytes) : Bytes := (l ++ zeros n).take n

/-- A temperature or another signed number in w bits, two's complement (R509). -/
def signed (w : Nat) (i : Int) : Nat := (i % (2 ^ w : Int)).toNat

/-- The numbers 0 to n - 1. -/
def upto (n : Nat) : List Nat := List.range n

/-- The entry of a key. -/
def tget {κ α : Type} [DecidableEq κ] : Tbl κ α → κ → Option α
  | [], _ => none
  | (k, v) :: t, q => if k = q then some v else tget t q

/-- The entry of a key, or a default. -/
def tgetD {κ α : Type} [DecidableEq κ] (t : Tbl κ α) (k : κ) (d : α) : α := (tget t k).getD d

/-- The table with the entry of a key set; a new key goes last. -/
def tput {κ α : Type} [DecidableEq κ] : Tbl κ α → κ → α → Tbl κ α
  | [], k, v => [(k, v)]
  | (q, w) :: t, k, v => if q = k then (k, v) :: t else (q, w) :: tput t k v

/-- The table without a key. -/
def tdel {κ α : Type} [DecidableEq κ] (t : Tbl κ α) (k : κ) : Tbl κ α := t.filter (fun p => decide (p.1 ≠ k))

/-- The table with the entry of a key changed by a function, from a default. -/
def tmod {κ α : Type} [DecidableEq κ] (t : Tbl κ α) (k : κ) (d : α) (f : α → α) : Tbl κ α := tput t k (f (tgetD t k d))

/-- The key has an entry. -/
def thas {κ α : Type} [DecidableEq κ] (t : Tbl κ α) (k : κ) : Bool := (tget t k).isSome

/-- The list with the element at an index changed. -/
def lmod {α : Type} (l : List α) (i : Nat) (f : α → α) : List α := l.modify i f

/-- A function run over a list of arguments, in order. -/
def each {α σ : Type} (l : List α) (s : σ) (f : σ → α → σ) : σ := l.foldl f s

/-- A string of characters as ASCII bytes (for example R88: ELVELM-STAND-V1). -/
def ascii (t : String) : Bytes := t.toList.map (fun c => BitVec.ofNat 8 c.toNat)

end Sys2Proof.Machine
end

