-- ==== Sys2Proof/Machine/Codes.lean ====
section
/-! DEFINITION. The codes of chapter 08 and the checks of 02: the granule code (R267, R268), the line CRC (R269), the stripe code (R272 to R274), the internal word code (R275), CRC-16 of Ozbex frames (R63), CRC-8 of the sideband (R456), and the products of the tag (R327). -/
namespace Sys2Proof.Machine

/-- One bit of a reflected CRC-32C (R269: polynomial 0x1EDC6F41, reflected). -/
def crc32cBit (c : Nat) : Nat := if c % 2 = 1 then (c >>> 1) ^^^ 0x82F63B78 else c >>> 1

/-- n bits of CRC-32C. -/
def crc32cBits : Nat → Nat → Nat
  | 0, c => c
  | n + 1, c => crc32cBits n (crc32cBit c)

/-- The CRC register over a byte string. -/
def crc32cRun : Nat → Bytes → Nat
  | c, [] => c
  | c, b :: t => crc32cRun (crc32cBits 8 (c ^^^ b.toNat)) t

/-- The CRC-32 of this manual: CRC-32C (R269). -/
def crc32 (l : Bytes) : Nat := crc32cRun 0xFFFFFFFF l ^^^ 0xFFFFFFFF

/-- n bits of an unreflected CRC of width w with polynomial p. -/
def crcMsbBits (w p : Nat) : Nat → Nat → Nat
  | 0, c => c
  | n + 1, c => crcMsbBits w p n (if c.testBit (w - 1) then ((c <<< 1) ^^^ p) % 2 ^ w else (c <<< 1) % 2 ^ w)

/-- CRC-16 of command blocks, response headers, TS1 and TS2 (R63). -/
def crc16 (l : Bytes) : Nat := l.foldl (fun c b => crcMsbBits 16 0x1021 8 (c ^^^ (b.toNat <<< 8))) 0xFFFF

/-- CRC-8 of sideband fragments (R456). -/
def crc8 (l : Bytes) : Nat := l.foldl (fun c b => crcMsbBits 8 0x07 8 (c ^^^ b.toNat)) 0

/-- The generator of the granule code (R267). -/
def granuleGen : Nat := 0x1EE5B42FD

/-- The remainder modulo the generator of a polynomial of degree below 32 + k (R267). -/
def granuleMod : Nat → Nat → Nat
  | 0, v => v
  | k + 1, v => granuleMod k (if v.testBit (32 + k) then v ^^^ (granuleGen <<< k) else v)

/-- The check bits of 128 data bits (R267). -/
def granuleCheck (d : BitVec 128) : BitVec 32 := BitVec.ofNat 32 (granuleMod 128 (d.toNat <<< 32))

/-- The polynomial of a stored granule: data bit k is the coefficient of x^(32+k), check bit j that of x^j (R267). -/
def granulePoly (g : BitVec 160) : Nat := ((g.toNat % 2 ^ 128) <<< 32) ||| (g.toNat >>> 128)

/-- The remainders of x^0 to x^159, with their exponents. -/
def granuleColumns : List (Nat × Nat) := (upto 160).map (fun i => (i, granuleMod 128 (1 <<< i)))

/-- A set of w exponents out of the list whose remainders sum to r. -/
def findErrors : Nat → List (Nat × Nat) → Nat → Option (List Nat)
  | 0, _, r => if r = 0 then some [] else none
  | _ + 1, [], _ => none
  | w + 1, (i, c) :: t, r =>
    match findErrors w t (r ^^^ c) with
    | some l => some (i :: l)
    | none => findErrors (w + 1) t r

/-- The fewest errors, at most 4, that explain a remainder (R268). -/
def locateErrors (r : Nat) : Option (List Nat) :=
  if r = 0 then some []
  else
    let cols := granuleColumns
    ((findErrors 1 cols r).orElse fun _ => (findErrors 2 cols r).orElse fun _ =>
      (findErrors 3 cols r).orElse fun _ => findErrors 4 cols r)

/-- A granule with the coefficient of x^i flipped. -/
def flipCoeff (g : BitVec 160) (i : Nat) : BitVec 160 :=
  g ^^^ (if i < 32 then BitVec.ofNat 160 (1 <<< (128 + i)) else BitVec.ofNat 160 (1 <<< (i - 32)))

/-- The granule engine: the corrected granule and the count of bits corrected, or a failure (R268). -/
def granuleDecode (g : BitVec 160) : Option (BitVec 160 × Nat) :=
  match locateErrors (granuleMod 128 (granulePoly g)) with
  | some l => some (l.foldl flipCoeff g, l.length)
  | none => none

/-- Byte b of a media line. -/
def lineByte (l : Line) (b : Nat) : Byte := l.extractLsb' (8 * b) 8

/-- The bytes of a media line. -/
def lineBytes (l : Line) : Bytes := (upto 96).map (lineByte l)

/-- Granule g of a media line, 20 bytes (R263). -/
def lineGranule (l : Line) (g : Nat) : BitVec 160 := l.extractLsb' (160 * g) 160

/-- The 64 data bytes of a media line (R263). -/
def lineData (l : Line) : HostLine :=
  l.extractLsb' 480 128 ++ l.extractLsb' 320 128 ++ l.extractLsb' 160 128 ++ l.extractLsb' 0 128

/-- The integrity tag, bytes 80 to 87. -/
def lineTag (l : Line) : BitVec 64 := l.extractLsb' 640 64

/-- The metadata word, bytes 88 to 91 (R264). -/
def lineMeta (l : Line) : Word := l.extractLsb' 704 32

/-- The line CRC field, bytes 92 to 95. -/
def lineCrcField (l : Line) : Word := l.extractLsb' 736 32

/-- The minor counter W[15:0] (R264). -/
def metaMinor (w : Word) : Nat := w.toNat % 2 ^ 16
/-- The poison flag W[16] (R264). -/
def metaPoison (w : Word) : Bool := w.getLsbD 16
/-- The format code W[19:17] (R264). -/
def metaFormat (w : Word) : Nat := bits w.toNat 19 17
/-- The key-slot generation W[31:20] (R264). -/
def metaGen (w : Word) : Nat := bits w.toNat 31 20

/-- A metadata word from its fields (R264). -/
def mkMeta (minor : Nat) (poison : Bool) (format gen : Nat) : Word :=
  BitVec.ofNat 32 (minor % 2 ^ 16 + (b2n poison <<< 16) + ((format % 8) <<< 17) + ((gen % 4096) <<< 20))

/-- A granule of 128 data bits with its check bytes. -/
def encodeGranule (d : BitVec 128) : BitVec 160 := granuleCheck d ++ d

/-- Bytes 0 to 91 of a line from its data, tag and metadata, check bytes computed (R263, R267). -/
def lineBody (d : HostLine) (tag : BitVec 64) (w : Word) : BitVec 736 :=
  w ++ tag ++ encodeGranule (d.extractLsb' 384 128) ++ encodeGranule (d.extractLsb' 256 128)
    ++ encodeGranule (d.extractLsb' 128 128) ++ encodeGranule (d.extractLsb' 0 128)

/-- The line CRC over bytes 0 to 91 (R269). -/
def lineCrc (body : BitVec 736) : Word :=
  BitVec.ofNat 32 (crc32 ((upto 92).map (fun b => body.extractLsb' (8 * b) 8)))

/-- A whole media line (R263). -/
def composeLine (d : HostLine) (tag : BitVec 64) (w : Word) : Line :=
  let b := lineBody d tag w
  lineCrc b ++ b

/-- A line with its check bytes and CRC computed again from its data, tag and metadata (R298 step 2). -/
def recodeLine (l : Line) : Line := composeLine (lineData l) (lineTag l) (lineMeta l)

/-- The filler line (R266). -/
def fillerLine : Line := composeLine 0 0 0x000A0000#32

/-- A poisoned line with the given metadata (R266). -/
def poisonLine (minor format gen : Nat) : Line := composeLine 0 0 (mkMeta minor true format gen)

/-- How a line is classified (R270 step 3). -/
inductive LineClass where
  | clean
  | corrected
  | uncorrectable
  deriving DecidableEq, Repr

/-- What checking a line finds (R270). -/
structure LineCheck where
  cls : LineClass
  /-- the line with every correctable granule corrected -/
  fixed : Line
  /-- bits corrected in each granule, or 7 for a failure (R301 corr) -/
  corr : List Nat
  crcOk : Bool
  poisoned : Bool
  deriving DecidableEq, Repr

/-- The four granules decoded. -/
def lineGranules (l : Line) : List (Option (BitVec 160 × Nat)) := (upto 4).map (fun g => granuleDecode (lineGranule l g))

/-- Granule g as decoded, or as stored where it failed. -/
def pickGranule (l : Line) (gs : List (Option (BitVec 160 × Nat))) (g : Nat) : BitVec 160 :=
  match gs[g]? with
  | some (some p) => p.1
  | _ => lineGranule l g

/-- The line check of R270; an empty list of formats accepts any format. -/
def checkLine (l : Line) (formats : List Nat) : LineCheck :=
  let gs := lineGranules l
  let corr := gs.map (fun o => match o with | some p => p.2 | none => 7)
  let body : BitVec 736 := l.extractLsb' 704 32 ++ l.extractLsb' 640 64 ++ pickGranule l gs 3 ++ pickGranule l gs 2
    ++ pickGranule l gs 1 ++ pickGranule l gs 0
  let fixed : Line := lineCrcField l ++ body
  let allOk := corr.all (· ≤ 4)
  let crcOk := allOk && (lineCrc body == lineCrcField l)
  let fmtOk := formats.isEmpty || formats.contains (metaFormat (lineMeta l))
  let bad := !(crcOk && fmtOk)
  { cls := if bad then .uncorrectable else if corr.any (0 < ·) then .corrected else .clean
    fixed := fixed, corr := corr, crcOk := crcOk
    poisoned := !bad && metaPoison (lineMeta l) }

/-- The most bits corrected in one granule. -/
def LineCheck.most (c : LineCheck) : Nat := c.corr.foldl Nat.max 0

/-- Multiplication in GF(2^8) by polynomial 0x11D (R272). -/
def gfMul : Nat → Nat → Nat → Nat
  | 0, _, _ => 0
  | n + 1, a, b =>
    (if b % 2 = 1 then a else 0) ^^^ gfMul n (if a.testBit 7 then ((a <<< 1) ^^^ 0x11D) % 256 else a <<< 1) (b / 2)

/-- The product of two elements of GF(2^8). -/
def gmul (a b : Nat) : Nat := gfMul 8 a b

/-- Powers of an element. -/
def gpow (a : Nat) : Nat → Nat
  | 0 => 1
  | n + 1 => gmul a (gpow a n)

/-- The coefficient g^i of data member i (R272). -/
def stripeCoeff (i : Nat) : Nat := gpow 2 i

/-- The inverse of a non-zero element: its 254th power. -/
def ginv (a : Nat) : Nat := gpow a 254

/-- The 76-byte stripe vector of a member (R271). -/
def stripeVector (l : Line) : List Nat :=
  (upto 76).map (fun v => (lineByte l (if v < 64 then 20 * (v / 16) + v % 16 else v + 16)).toNat)

/-- The line a stripe vector stands for: check bytes and CRC computed (R273, R274). -/
def lineOfVector (v : List Nat) : Line :=
  let n := v.reverse.foldl (fun acc b => acc * 256 + b) 0
  let b := BitVec.ofNat 608 n
  composeLine (b.extractLsb' 0 512) (b.extractLsb' 512 64) (b.extractLsb' 576 32)

/-- The XOR of vectors, byte by byte. -/
def vxor (a b : List Nat) : List Nat := (a.zip b).map (fun p => p.1 ^^^ p.2)

/-- A vector times an element. -/
def vscale (c : Nat) (a : List Nat) : List Nat := a.map (gmul c)

/-- The zero vector. -/
def vzero : List Nat := List.replicate 76 0

/-- The XOR over i of g^i times data member i, over a list of (i, vector) (R272). -/
def qSum (ds : List (Nat × List Nat)) : List Nat := ds.foldl (fun acc p => vxor acc (vscale (stripeCoeff p.1) p.2)) vzero

/-- The XOR of data members (R272). -/
def pSum (ds : List (Nat × List Nat)) : List Nat := ds.foldl (fun acc p => vxor acc p.2) vzero

/-- The parity vectors P and Q of the data members (R272). -/
def parityOf (ds : List (Nat × List Nat)) : List Nat × List Nat := (pSum ds, qSum ds)

/-- The vector of member m from the present members (R274); `have_` lists (member, vector) of members that are not uncorrectable. None when more than two members are missing. -/
def reconstruct (have_ : List (Nat × List Nat)) (m : Nat) : Option (List Nat) :=
  let at_ := fun i => tget have_ i
  let missing := (upto 16).filter (fun i => (at_ i).isNone)
  let ds := have_.filter (fun p => decide (p.1 < 14))
  if 2 < missing.length then none
  else if !missing.contains m then at_ m
  else
    let lost := missing.filter (· < 14)
    match lost with
    | [] => some (if m = 14 then pSum ds else qSum ds)
    | [x] =>
      match at_ 14 with
      | some p =>
        let dx := vxor p (pSum ds)
        if m = x then some dx else some (qSum (ds ++ [(x, dx)]))
      | none =>
        match at_ 15 with
        | some q =>
          let dx := vscale (ginv (stripeCoeff x)) (vxor q (qSum ds))
          if m = x then some dx else some (pSum (ds ++ [(x, dx)]))
        | none => none
    | x :: y :: _ =>
      match at_ 14, at_ 15 with
      | some p, some q =>
        let p' := vxor p (pSum ds)
        let q' := vxor q (qSum ds)
        let c := ginv (stripeCoeff (y - x) ^^^ 1)
        let dx := vscale c (vxor (vscale (stripeCoeff (y - x)) p') (vscale (ginv (stripeCoeff x)) q'))
        if m = x then some dx else some (vxor p' dx)
      | _, _ => none

/-- The member that explains both syndromes, where one does (R285 step 4): S_P and S_Q of the 16 vectors. -/
def blameMember (sp sq : List Nat) : Option Nat :=
  if sq.all (· == 0) then some 14
  else if sp.all (· == 0) then some 15
  else (upto 14).find? (fun x => sq == vscale (stripeCoeff x) sp)

/-- The positions of data bits 0 to 127 in an internal word: 3, 5, 6, 7, 9 and so on (R275). -/
def hammingPositions : List Nat := (upto 137).filter (fun p => decide (p ∉ [0, 1, 2, 4, 8, 16, 32, 64, 128]))

/-- The XOR of the positions of the data bits that are set: check bits c0 to c7 as one number (R275). -/
def hammingCheck (d : BitVec 128) : Nat :=
  ((upto 128).zip hammingPositions).foldl (fun acc p => if d.getLsbD p.1 then acc ^^^ p.2 else acc) 0

/-- The parity of a number's bits below n. -/
def parityBits : Nat → Nat → Bool
  | 0, _ => false
  | n + 1, v => (v.testBit n) != parityBits n v

/-- A 128-bit word encoded (R275). -/
def hammingEncode (d : BitVec 128) : BitVec 137 :=
  let low := d.toNat + (hammingCheck d <<< 128)
  BitVec.ofNat 137 (low + (b2n (parityBits 136 low) <<< 136))

/-- What the SEC-DED decoder finds (R275). -/
inductive WordCheck where
  | clean (d : BitVec 128)
  | corrected (d : BitVec 128)
  | uncorrectable
  deriving DecidableEq, Repr

/-- The SEC-DED decoder (R275). -/
def hammingDecode (w : BitVec 137) : WordCheck :=
  let d : BitVec 128 := w.extractLsb' 0 128
  let s := hammingCheck d ^^^ bits w.toNat 135 128
  let bad := parityBits 137 w.toNat
  if s = 0 then (if bad then .corrected d else .clean d)
  else if s ≤ 136 && bad then
    match ((upto 128).zip hammingPositions).find? (fun p => p.2 == s) with
    | some p => .corrected (d ^^^ (1#128 <<< p.1))
    | none => .corrected d
  else .uncorrectable

/-- Product in GF(2^128) modulo x^128 + x^7 + x^2 + x + 1 (R327). -/
def tagMulAux : Nat → Nat → Nat → Nat
  | 0, _, _ => 0
  | n + 1, a, b =>
    (if b % 2 = 1 then a else 0) ^^^ tagMulAux n (if a.testBit 127 then ((a <<< 1) ^^^ 0x87) % 2 ^ 128 else a <<< 1) (b / 2)

/-- Product of two blocks (R327). -/
def tagMul (a b : BitVec 128) : BitVec 128 := BitVec.ofNat 128 (tagMulAux 128 a.toNat b.toNat)

/-- S = X1·H^5 + X2·H^4 + X3·H^3 + X4·H^2 + X5·H (R327), by Horner's rule. -/
def tagHash (h x1 x2 x3 x4 x5 : BitVec 128) : BitVec 128 :=
  tagMul (tagMul (tagMul (tagMul (tagMul x1 h ^^^ x2) h ^^^ x3) h ^^^ x4) h ^^^ x5) h

/-- Even parity over bits [60:0] of a tag entry (R302, R276). -/
def evenParity (w : BitVec 61) : Bool := parityBits 61 w.toNat

end Sys2Proof.Machine
end

