-- ==== Sys2Proof/Config.lean ====
section
/-! DEFINITION. What an implementation fixes, the ciphers and digests the spec takes from other standards, and the free values: constants with no body (log 9, log 10). -/
namespace Sys2Proof

/-- SHA-256 (FIPS 180-4): uninterpreted (log 9). -/
opaque Config.sha256 : Bytes → BitVec 256
/-- AES-256 of one block: uninterpreted (log 9). -/
opaque Config.aes256 : BitVec 256 → BitVec 128 → BitVec 128
/-- SLH-DSA verification by parameter set, public key, context, message, signature: uninterpreted (log 9). -/
opaque Config.slhVerify : Nat → Bytes → Bytes → Bytes → Bytes → Bool
/-- SLH-DSA-SHA2-128f: the key a seed generates, and signing with it, of context and message (R376, R388): uninterpreted (log 9). -/
opaque Config.slhKeyGen : BitVec 256 → Bytes
opaque Config.slhSign : Bytes → Bytes → Bytes → Bytes
/-- ECDSA P-384: the key a seed generates, and its public key (R376, R388): uninterpreted (log 9). -/
opaque Config.ecKeyGen : BitVec 256 → Bytes
opaque Config.ecPublic : Bytes → Bytes
/-- The counter-mode KDF of NIST SP 800-108 with HMAC-SHA-512, by key, label and parameters (R376): uninterpreted (log 9). -/
opaque Config.kdf : BitVec 256 → Bytes → List Nat → BitVec 256
/-- What the DRBG drew at Manufacture exit: the UDS and the identity seed (R367, R376); what the key-wrap engine holds in place of a storage root that has been cleared (log 162). -/
opaque Config.uds : BitVec 256
opaque Config.identitySeed : BitVec 256
opaque Config.clearedRoot : BitVec 256
/-- The certificate chains the vendor stored at Manufacture: 0 of the identity key, 1 of the SPDM key (R386). -/
opaque Config.certChain : Nat → Bytes
/-- What SPDM 1.3 answers a request with, from the responder's key, its certificate chain, its measurement blocks and the free-value counter (R387; log 13). -/
opaque Config.spdmAnswer : Bytes → Bytes → List Bytes → Bytes → Nat → Bytes
/-- The key a slot holds at a generation, drawn by the DRBG at its creation (R319): uninterpreted (log 9). -/
opaque Config.slotKey : Nat → Nat → Nat → BitVec 256
/-- The DRBG's n-th output (R319, R362): uninterpreted (log 9). -/
opaque Config.drbg : Nat → BitVec 256
/-- The n-th free value: a value the spec leaves open (log 10). -/
opaque Config.free : Nat → Nat
/-- What cells whose content is undefined hold when the device's own engines read them: by the free-value counter, channel, die, grove, line (log 11). -/
opaque Config.openCells : Nat → Nat → Nat → Nat → Nat → Line
/-- What the layout of the system places leaves open: by tile (8 for the hub), kind (0 stem map, 1 leaf map, 2 counter tree, 3 hub structures, 4 litter), the line's number, copy 0 or 1, the number of the try, and which choice: 0 stripe group, 1 die, 2 grove, 3 line, 4 member (log 22). -/
opaque Config.systemPlace : Nat → Nat → Nat → Nat → Nat → Nat → Nat
/-- The set of a set-associative cache an entry falls into: by cache (0 leaf map cache, 1 counter cache) and entry (R234, R336; log 159). -/
opaque Config.cacheSet : Nat → Nat → Nat
/-- A payload another standard defines (CXL, PCIe, SPDM), by opcode, input and the free-value counter (log 13). -/
opaque Config.standardPayload : Nat → Bytes → Nat → Bytes
/-- The vendor's public keys in ROM, by kind (0 firmware, 1 image, 2 warrant) and number 0 to 3 (R375). -/
opaque Config.vendorKey : Nat → Nat → Bytes
/-- The parameter set each vendor key declares (R375). -/
opaque Config.vendorKeySet : Nat → Nat → Nat
/-- A byte of the seedbank whose record layout or place the spec does not give, by the free-value counter and its address (log 34). -/
opaque Config.seedByte : Nat → Nat → Nat
/-- The bytes of a device record of the parameter store whose layout the spec does not give, by its key and what the model keeps under it (R242, R403, R450, R508; log 101). -/
opaque Config.deviceRecord : Nat → Bytes → Bytes
/-- The ROM version (R388, R437). -/
opaque Config.romVersion : Nat
/-- The vendor's JEDEC code and MIPI manufacturer ID in the fuses, and the die revision (R454, R530). -/
opaque Config.jedec : Nat
opaque Config.mipi : Nat
opaque Config.dieRevision : Nat
/-- What a package's factory data says of it: revision, serial, trim version (R65). -/
opaque Config.packageRevision : Nat → Nat
opaque Config.packageSerial : Nat → Nat
opaque Config.packageTrim : Nat → Nat

end Sys2Proof
end

