-- ==== Sys2Proof/Machine/Types.lean ====
section
/-! DEFINITION. The plain data the hub keeps: the register table's rows, the parsed stand image, events and log records, rights, power, management. -/
namespace Sys2Proof.Machine

/-! ## Registers (00, R6 to R8) -/

/-- The access types of R6 (RW, RO, W1C, W1S, RWL, RWS, ROS, WO). -/
inductive Access where
  | rw | ro | w1c | w1s | rwl | rws | ros | wo
  deriving DecidableEq, Repr, Inhabited

/-- A reset value column of a field table (00, Registers): a number, Kept, Image, Fuse or Glade. -/
inductive RVal where
  | num (n : Nat)
  | kept | image | fuse | glade
  deriving DecidableEq, Repr, Inhabited

/-- The rights of R355, in the order of their bits 0 to 28. -/
inductive Right where
  | mgmtRead | mgmtWrite | healthRead | logRead | logFreeze | counterRead | trace | queue | keyAdmin | retire
  | tileService | imageStage | imageApply | imageReturn | firmware | paramRead | paramWrite | attest | address
  | plaintext | mediaRead | mediaWrite | test | reRoot | reset | seedbank | coreDebug | decommission | ownerTransfer
  deriving DecidableEq, Repr, Inhabited

/-- The bit of a right in the rights word (R355). -/
def Right.bit : Right → Nat
  | .mgmtRead => 0 | .mgmtWrite => 1 | .healthRead => 2 | .logRead => 3 | .logFreeze => 4 | .counterRead => 5
  | .trace => 6 | .queue => 7 | .keyAdmin => 8 | .retire => 9 | .tileService => 10 | .imageStage => 11
  | .imageApply => 12 | .imageReturn => 13 | .firmware => 14 | .paramRead => 15 | .paramWrite => 16 | .attest => 17
  | .address => 18 | .plaintext => 19 | .mediaRead => 20 | .mediaWrite => 21 | .test => 22 | .reRoot => 23
  | .reset => 24 | .seedbank => 25 | .coreDebug => 26 | .decommission => 27 | .ownerTransfer => 28

/-- A field of the management space: the address of its register and its bits [hi:lo]. -/
structure Fld where
  addr : Nat
  hi : Nat
  lo : Nat
  deriving DecidableEq, Repr, Inhabited

/-- A row of a field table: bits, access, cold and warm reset value, the right an RWL field names, the range a written value is clamped to. -/
structure FieldDesc where
  hi : Nat
  lo : Nat
  acc : Access
  cold : RVal
  warm : RVal
  right : Option Right
  clamp : Option (Nat × Nat)
  deriving DecidableEq, Repr, Inhabited

/-- A register or a row of like registers: tile-replicated or not, base, count, stride and fields (R527, R528). -/
structure RegRow where
  tiled : Bool
  base : Nat
  count : Nat
  stride : Nat
  fields : List FieldDesc
  deriving DecidableEq, Repr, Inhabited

/-! ## The device (00, R1) and its fuses (11, R366 to R375) -/

/-- The family members of R1. -/
inductive Member where
  | m1T32 | m2T128 | m4T512 | m8T1024
  deriving DecidableEq, Repr, Inhabited

/-- The member and the serial of the part. No command changes them. -/
structure Dev where
  member : Member
  serial : Nat
  deriving DecidableEq, Repr, Inhabited

/-- An owner fuse bank (R368): the digest it holds, and the burned cells of its burn and release triples (R374). -/
structure Bank where
  digest : BitVec 256
  cells : Nat
  released : Nat
  deriving DecidableEq, Repr, Inhabited

/-- The security fuses: state, decommission, banks, storage generation, security floor (cells of each triple, R374, R437) and the revocation bits (R375). -/
structure Fuses where
  unowned : Nat
  decom : Nat
  banks : List Bank
  storageGen : List Nat
  floor : List Nat
  revoked : List Nat
  /-- the UDS, until act 3 ends it, and the identity seed (R376) -/
  uds : Option (BitVec 256)
  idSeed : BitVec 256
  deriving DecidableEq, Repr, Inhabited

/-- Keys the device holds beside its fuses (R376, R386): the storage root in the key-wrap engine, the identity key in the SLH-DSA assist, the SPDM key in the hub; and the certificate chains of the last two in the seedbank. -/
structure Vault where
  root : Option (BitVec 256)
  identity : Bytes
  spdm : Bytes
  identityChain : Bytes
  spdmChain : Bytes
  deriving DecidableEq, Repr, Inhabited
/-- The keys as a cold reset regenerates them from the fuses (R376, R386): a burned decommission fuse leaves no storage root. -/
def Vault.regenerate (v : Vault) (uds : Option (BitVec 256)) (seed : BitVec 256) (gen : Nat) : Vault :=
  { v with root := uds.map (fun u => Config.kdf u (ascii "ELVELM-STORAGE") [gen]), identity := Config.slhKeyGen (Config.kdf seed (ascii "IDENT") []), spdm := Config.ecKeyGen (Config.kdf seed (ascii "SPDM") []) }

/-! ## The stand image, parsed (03, R86 to R102) -/

/-- A tile role entry (R90). -/
structure Role where
  role : Nat
  nurse : Nat
  flags : Nat
  floor : Nat
  deriving DecidableEq, Repr, Inhabited

/-- An interleave pattern (R91): granule and tile sequence. -/
structure Pattern where
  granule : Nat
  tiles : List Nat
  deriving DecidableEq, Repr, Inhabited

/-- A key-slice run (R96). -/
structure Run where
  start : Nat
  count : Nat
  key : Nat
  deriving DecidableEq, Repr, Inhabited

/-- A compartment entry with its key-slice runs (R94, R96). -/
structure Comp where
  id : Nat
  attrs : Nat
  base : Nat
  size : Nat
  ports : Nat
  ld : Nat
  policy : Nat
  cipher : Nat
  integrity : Nat
  bwClass : Nat
  interleave : Nat
  defaultKey : Nat
  runs : List Run
  deriving DecidableEq, Repr, Inhabited

/-- A dependency entry of the sequencer program (15, R464). -/
structure DepEntry where
  deps : Nat
  mode : Nat
  required : Bool
  onTimeout : Nat
  discharge : Nat
  settle : Nat
  deriving DecidableEq, Repr, Inhabited

/-- A step of the sequencer program (15, R465). -/
structure SeqStep where
  op : Nat
  a : Nat
  b : Nat
  deriving DecidableEq, Repr, Inhabited

/-- The sequencer program (15, R463). -/
structure Prog where
  autoOn : Bool
  downStart : Nat
  deps : List DepEntry
  steps : List SeqStep
  deriving DecidableEq, Repr, Inhabited

/-- A master or class entry of the bandwidth section (R97): guarantee, weight, real_time. -/
structure Share where
  guarantee : Nat
  weight : Nat
  realTime : Bool
  deriving DecidableEq, Repr, Inhabited

/-- An event rate limit (R100). -/
structure RateLimit where
  code : Nat
  count : Nat
  window : Nat
  deriving DecidableEq, Repr, Inhabited

/-- A warrant root (R102). -/
structure Root where
  set : Nat
  num : Nat
  keyId : Nat
  key : Bytes
  deriving DecidableEq, Repr, Inhabited

/-- A stand image as the image parser reads it, with its bytes. -/
structure Img where
  bytes : Bytes
  epoch : Nat
  returnFloor : Nat
  flags : Nat
  sigSet : Nat
  signer : Nat
  keyId : Nat
  roles : List Role
  chans : List Nat
  groups : List (List Nat)
  patterns : List Pattern
  comps : List Comp
  masters : List Share
  classes : List Share
  refs : List (List Nat)
  waveforms : List Nat
  refresh : List Nat
  sensors : List (Nat × Nat)
  prog : Prog
  rates : List RateLimit
  standings : List (Nat × Nat)
  roots : List Root
  deriving DecidableEq, Repr, Inhabited

/-! ## Events and the ring log (13) -/

/-- An event as its source raises it (R407, R408, R414): code, source, sequence, fine time, data; the compartments and the logical device it concerns (R423); and how many of its FIFO entries the warden has read (R416). -/
structure Ev where
  code : Nat
  src : Nat
  seq : Nat
  fine : Nat
  data : Bytes
  comps : List Nat
  taken : Nat
  deriving DecidableEq, Repr, Inhabited

/-- A group in the event FIFO: an event, or a gap marker with its count (R415). -/
inductive FifoItem where
  | event (e : Ev)
  | gap (fine : Nat) (count : Nat)
  deriving DecidableEq, Repr, Inhabited

/-- A ring log record (R418). -/
structure LogRec where
  code : Nat
  src : Nat
  redacted : Bool
  rounded : Bool
  heart : Bool
  fromGlade : Bool
  number : Nat
  seq : Nat
  opsec : Nat
  pwrcyc : Nat
  fine : Nat
  suppressed : Nat
  data : Bytes
  deriving DecidableEq, Repr, Inhabited

/-- A slot of the ring log (R419); an erased slot is not listed. -/
inductive LogSlot where
  | partialSlot
  | held (r : LogRec)
  deriving DecidableEq, Repr, Inhabited

/-- The ring log (R420, R424, R426): the heartwood's used slots, the sapwood sectors in rotation (oldest first, current last) and the place of the oldest among the 281, the erased sectors and the one being erased, the queue, the record being programmed, the next number (R421), drops, the freeze. -/
structure RingLog where
  heart : List LogSlot
  sectors : List (List LogSlot)
  first : Nat
  erased : Nat
  erasing : Bool
  queue : List LogRec
  writing : Option LogRec
  next : Nat
  dropped : Nat
  frozen : Bool
  freezer : Nat
  deriving DecidableEq, Repr, Inhabited

/-- The running rate-limit window of an event code (R422): when it ends, records so far, suppressed so far. -/
structure RateState where
  running : Bool
  count : Nat
  suppressed : Nat
  deriving DecidableEq, Repr, Inhabited

/-- A trace record as it is stored, in full (R411, R412). -/
structure TraceRec where
  seq : Nat
  opsec : Nat
  fine : Nat
  src : Nat
  flags : Nat
  line : Nat
  home : Nat
  path : Nat
  comp : Nat
  latency : Nat
  epoch : Nat
  deriving DecidableEq, Repr, Inhabited

/-- Request trace (R410, R413): the stored records, oldest first, and the per-port counts. -/
structure Trace where
  buf : List TraceRec
  counts : Tbl Nat Nat
  deriving DecidableEq, Repr, Inhabited

/-! ## Rights (11) -/

/-- A warrant (R360), without its signature. -/
structure Warrant where
  sigSet : Nat
  signer : Nat
  root : Nat
  subject : Nat
  flags : Nat
  rights : Nat
  serial : Nat
  notBefore : Nat
  notAfter : Nat
  pcFirst : Nat
  pcLast : Nat
  nonce : Bytes
  comps : List (Nat × Nat)
  keys : List (Nat × Nat)
  object : Bytes
  deriving DecidableEq, Repr, Inhabited

/-- The lifecycle record in the seedbank (R374, R434): lifecycle state, burned banks, storage generation. -/
structure LifeRec where
  state : Nat
  banks : Nat
  gen : Nat
  deriving DecidableEq, Repr, Inhabited

/-- Held warrants and challenge of each interface, the owner key set record, roots suspended (R362, R365, R369, R371), test mode (R366), the lifecycle record of the seedbank (R374). -/
structure Rights where
  held : Tbl Nat (List Warrant)
  challenge : Tbl Nat (BitVec 128)
  ownerSet : Option Bytes
  rootsSuspended : Bool
  testOpen : Bool
  record : LifeRec
  deriving DecidableEq, Repr, Inhabited

/-! ## The Glade domain (13, R402; 15, R479, R493) -/

/-- What the Glade domain holds: the counters (R402); epoch floor copy (03, R84); taproot digests (10, R343); leases (10, R332); band records (16, R507) and history (16, R508); rate limits (R422); buffer (R425, R426) with the drops RLG_STAT shows, and those since it was last written out; the program copy (15); thermal shutdown seconds (16, R504); the fall-back store (14, R452). -/
structure Glade where
  elapsed : Nat
  opsec : Nat
  pwrcyc : Nat
  floorCopy : Option Nat
  committed : Option (BitVec 256)
  pendingDigest : Option (BitVec 256)
  leases : Tbl Nat Nat
  bands : Tbl (Nat × Nat) Nat
  history : Tbl (Nat × Nat) Nat
  rates : Tbl Nat RateState
  buffer : List LogRec
  bufDrops : Nat
  bufGap : Nat
  program : Option Prog
  shutdowns : List Nat
  fallback : Option (Tbl Nat Bytes)
  lost : Bool
  deriving DecidableEq, Repr, Inhabited

/-! ## Power, clocks and reset (15) -/

/-- A rail (R460 to R462, R467): EN level; on; debounced PG; whether its discharge time has passed since EN went low. -/
structure Rail where
  en : Bool
  on : Bool
  pg : Bool
  passed : Bool
  deriving DecidableEq, Repr, Inhabited

/-- What the present step of the sequencer waits for (R465). -/
inductive StepWait where
  | ready
  | railOn (r : Nat)
  | railOff (r : Nat)
  | duration
  | level (mask : Nat) (up : Bool)
  | sync (n : Nat)
  | required
  | allOff
  | rolling (rest : List Nat)
  deriving DecidableEq, Repr, Inhabited

/-- What may start the next power-up (R468, R473, R475, R476, R480, R503, R504): VIN valid with auto_on; VIN valid alone; a press; the conditions of R503; a press, MRST# or VIN valid after Off; a press or MRST#. -/
inductive AfterOff where
  | valid | again | press | thermal | locked | thermalLocked
  deriving DecidableEq, Repr, Inhabited

/-- A reset that is requested and has not begun (R480): scope code of R479, cause of R478, detail. -/
structure ResetReq where
  scope : Nat
  cause : Nat
  detail : Nat
  deriving DecidableEq, Repr, Inhabited

/-- The pins the device reads (15, R476, R477; 18, R524). -/
structure Pins where
  rst : Bool
  mrst : Bool
  perst : List Bool
  nvwp : Bool
  posnIn : Bool
  hpbif : List Bool
  seqsync : Bool
  deriving DecidableEq, Repr, Inhabited

/-- The sequencer and the supplies (R460 to R476). -/
structure Power where
  rails : List Rail
  program : Prog
  wait : StepWait
  safe : Nat
  order : List Nat
  flushing : Bool
  flushed : Bool
  committed : Bool
  /-- the fine time of the Commit crossing (R223) -/
  commitFine : Nat
  braceFine : Nat
  braceLow : Nat
  released : Bool
  minOff : Bool
  after : AfterOff
  pins : Pins
  pressed : Bool
  pstate : Nat
  vin : Nat
  /-- VIN is valid (R472) -/
  vinValid : Bool
  deriving DecidableEq, Repr, Inhabited

/-- Clock domains released (R482, R483), oscillator restarts tried (R481), trim load running (R484), and what the resume has done (R492). -/
structure Clocks where
  held : List Nat
  restarts : Nat
  oscFailed : Bool
  trimming : Bool
  imageChecked : Bool
  taprootsAccepted : Bool
  dirtyCounted : Bool
  portsStopped : Bool
  deriving DecidableEq, Repr, Inhabited

/-! ## Management (14) -/

/-- A parameter store record (R448). -/
structure PsRec where
  key : Nat
  gen : Nat
  area : Nat
  deleted : Bool
  value : Bytes
  deriving DecidableEq, Repr, Inhabited

/-- A sector of the parameter store in use (R448): its place among the 128, its sequence number, its erase count, its records. -/
structure PsSector where
  pos : Nat
  seq : Nat
  erases : Nat
  recs : List PsRec
  deriving DecidableEq, Repr, Inhabited

/-- The parameter store (R448 to R452): sectors in use, oldest first, head last; erased sectors ready and sectors being erased, with their erase counts; sectors failed; the write in progress; the buffer WDN_PS_BUF; the interface and opcode whose store write runs; the Glade shadow (R452). -/
structure ParamStore where
  sectors : List PsSector
  erased : List (Nat × Nat)
  erasing : List (Nat × Nat)
  failed : List Nat
  writing : Option PsRec
  buf : Bytes
  waiter : Option (Nat × Nat)
  shadow : Option (Tbl Nat Bytes)
  deriving DecidableEq, Repr, Inhabited

/-- A firmware transfer in progress (R438): interface, bytes so far. -/
structure FwXfer where
  iface : Nat
  bytes : Bytes
  deriving DecidableEq, Repr, Inhabited

/-- An online activation (R439): the new slot, the processor being restarted (0 warden, 1 + n steward n), and whether it is rolling back. -/
structure FwAct where
  slot : Nat
  iface : Nat
  ld : Nat
  core : Nat
  rolling : Bool
  deriving DecidableEq, Repr, Inhabited

/-- Firmware (R432 to R442): the two slots, transfer, activation, slot marked for the next cold reset, the operating second a trial began at, the slot each processor runs, halted processors (R453), a fault seen in the trial (R442), and the fine time each watchdog was last restarted (R433). -/
structure Firmware where
  slots : List (Option Bytes)
  xfer : Option FwXfer
  act : Option FwAct
  marked : Option Nat
  trialStart : Nat
  running : List Nat
  halted : List Nat
  fault : Bool
  kicked : Tbl Nat Nat
  deriving DecidableEq, Repr, Inhabited

/-- The interrupt hub (R443 to R447): pending sources in the order they became pending, with the fine time; level sources in service by target; targets whose line is asserted; the fine time each target's line last asserted. -/
structure Irq where
  waiting : List (Nat × Nat)
  service : List (Nat × Nat)
  lines : List Nat
  asserted : Tbl Nat Nat
  deriving DecidableEq, Repr, Inhabited

/-- The sideband target and the legacy lock (R454 to R457): lengths, in-band interrupts enabled, response left, fragments received, wrong passwords this power cycle. -/
structure Sideband where
  mwl : Nat
  mrl : Nat
  ibi : Bool
  response : Bytes
  frag : Nat
  status : Nat
  wrong : Nat
  deriving DecidableEq, Repr, Inhabited

/-- The test access port (18, R530): the instruction loaded and the boundary-scan register. -/
structure Tap where
  instr : Nat
  boundary : Bytes
  deriving DecidableEq, Repr, Inhabited

/-! ## What the device sends -/

/-- Return codes of mailbox commands, by the names the chapters use. -/
inductive Ret where
  | success | background | invalidInput | unsupported | internalError | busy | invalidSecurityState | mediaDisabled | fwInProgress
  | fwOutOfOrder | fwAuthFailed | invalidSlot | fwRolledBack | coldResetRequired | invalidHandle | invalidAddress
  | injectLimit | aborted | invalidLength | retry
  deriving DecidableEq, Repr, Inhabited

/-- Output pins and lines (18, R524). -/
inductive Pin where
  | en (rail : Nat)
  | seqsync | posnOut
  | statics
  deriving DecidableEq, Repr, Inhabited

/-- Something the device or a package sends, newest first in the state's list. -/
inductive Output where
  /-- A read completion on a host port: data, or a poisoned completion (04, R136, R137). -/
  | hostData (port ld tag : Nat) (data : HostLine) (poison : Bool)
  /-- A write completion, or an error completion (04, R135). -/
  | hostCmp (port ld tag : Nat) (error : Bool)
  /-- A completion of a configuration request; none stands for Configuration Request Retry Status (15, R477). -/
  | config (port ld offset : Nat) (value : Option Nat)
  /-- The end of a mailbox, service or debug command. -/
  | reply (iface ld opcode : Nat) (code : Ret) (payload : Bytes)
  /-- The status of a background command, when it ends (04, R141). -/
  | bgEnd (iface ld opcode : Nat) (code : Ret) (payload : Bytes)
  /-- The value a management read returns. -/
  | regValue (iface addr : Nat) (value : Nat)
  /-- A command the device sends to a package (02, R64). -/
  | command (chan : Nat) (block : Bytes) (data : Option Line)
  /-- A response the package sends (02, R65). -/
  | response (chan : Nat) (header : Bytes) (data : Bytes)
  /-- Link training traffic of a channel: EIOS and the like (02, R61, R62). -/
  | eios (chan : Nat)
  /-- A host interrupt (04, R139, R154). -/
  | msix (port ld vector : Nat)
  /-- A notification to the service port (0) or the sideband (1) (14, R447). -/
  | notify (target source : Nat)
  /-- The answer to a phase of a Global Persistent Flush (04, R140). -/
  | gpf (port phase : Nat)
  /-- A processor's interrupt line (14, R446). -/
  | irqLine (target : Nat) (source : Nat)
  /-- A pin takes a level. -/
  | pin (p : Pin) (level : Bool)
  /-- A descriptor fetch, and a completion entry, in host memory (04, R146, R154). -/
  | dmaRead (port addr length : Nat)
  | dmaWrite (port addr : Nat) (data : Bytes)
  /-- The data register a TAP instruction shifts out (18, R530). -/
  | tap (bytes : Bytes)
  /-- A CCC's answer, or NACK (14, R454). -/
  | ccc (bytes : Bytes)
  | nack
  deriving DecidableEq, Repr, Inhabited

end Sys2Proof.Machine
end

