-- ==== Sys2Proof/Machine/RegMap.lean ====
section
/-! DEFINITION. The register map: the field tables of every chapter (access type, reset values, right, range), and each field's place in the management space (R6, R527, R528). -/
namespace Sys2Proof.Machine

/-- WDN_TILE_CTRL (R35). -/
def row_WDN_TILE_CTRL : RegRow := ⟨false, 0x400, 8, 16, [⟨0, 0, .rwl, (.num 0), (.num 0), (some .tileService), none⟩, ⟨1, 1, .rwl, (.num 0), (.num 0), (some .tileService), none⟩, ⟨2, 2, .rwl, .image, .image, (some .tileService), none⟩, ⟨6, 4, .rwl, .image, .image, (some .tileService), none⟩]⟩

/-- WDN_TILE_STAT (R36). -/
def row_WDN_TILE_STAT : RegRow := ⟨false, 0x404, 8, 16, [⟨2, 0, .ro, (.num 0), (.num 0), none, none⟩, ⟨3, 3, .ro, (.num 0), (.num 0), none, none⟩, ⟨4, 4, .ro, (.num 0), .kept, none, none⟩, ⟨7, 5, .ros, (.num 0), .kept, none, none⟩, ⟨15, 8, .ros, (.num 0), .kept, none, none⟩, ⟨25, 16, .ro, (.num 0), (.num 0), none, none⟩]⟩

/-- MSC_LNK_CTRL (R76). -/
def row_MSC_LNK_CTRL : RegRow := ⟨true, 0x1000, 128, 16, [⟨0, 0, .rwl, (.num 0), (.num 0), (some .tileService), none⟩, ⟨1, 1, .rwl, .image, .image, (some .tileService), none⟩, ⟨2, 2, .rwl, (.num 0), (.num 0), (some .tileService), none⟩]⟩

/-- MSC_LNK_STAT (R77). -/
def row_MSC_LNK_STAT : RegRow := ⟨true, 0x1004, 128, 16, [⟨3, 0, .ro, (.num 0), (.num 0), none, none⟩, ⟨7, 4, .ro, (.num 0), (.num 0), none, none⟩, ⟨11, 8, .ro, (.num 0), (.num 0), none, none⟩, ⟨14, 12, .ro, (.num 0), (.num 0), none, none⟩, ⟨23, 16, .ros, (.num 0), .kept, none, none⟩]⟩

/-- MSC_LNK_ERR (R78). -/
def row_MSC_LNK_ERR : RegRow := ⟨true, 0x1008, 128, 16, [⟨15, 0, .ros, (.num 0), .kept, none, none⟩, ⟨23, 16, .ros, (.num 0), .kept, none, none⟩, ⟨31, 31, .wo, (.num 0), (.num 0), none, none⟩]⟩

/-- STD_EPOCH_ACTIVE (R120). -/
def row_STD_EPOCH_ACTIVE : RegRow := ⟨false, 0x60000, 1, 4, [⟨31, 0, .ro, .image, .kept, none, none⟩]⟩

/-- STD_EPOCH_PREVIOUS (R120). -/
def row_STD_EPOCH_PREVIOUS : RegRow := ⟨false, 0x60004, 1, 4, [⟨31, 0, .ro, .image, .kept, none, none⟩]⟩

/-- STD_EPOCH_STAGED (R120). -/
def row_STD_EPOCH_STAGED : RegRow := ⟨false, 0x60008, 1, 4, [⟨31, 0, .ro, .image, .kept, none, none⟩]⟩

/-- STD_EPOCH_FLOOR (R120). -/
def row_STD_EPOCH_FLOOR : RegRow := ⟨false, 0x6000c, 1, 4, [⟨31, 0, .ro, .glade, .kept, none, none⟩]⟩

/-- STD_CTRL (R121). -/
def row_STD_CTRL : RegRow := ⟨false, 0x60010, 1, 4, [⟨0, 0, .rwl, (.num 0), (.num 0), (some .imageStage), none⟩, ⟨1, 1, .rwl, (.num 0), (.num 0), (some .imageApply), none⟩, ⟨2, 2, .rwl, (.num 0), .kept, (some .imageApply), none⟩, ⟨3, 3, .rwl, (.num 0), (.num 0), (some .imageReturn), none⟩, ⟨4, 4, .rwl, (.num 0), (.num 0), (some .imageStage), none⟩]⟩

/-- STD_STAT (R122). -/
def row_STD_STAT : RegRow := ⟨false, 0x60014, 1, 4, [⟨2, 0, .ro, (.num 0), (.num 0), none, none⟩, ⟨15, 8, .ro, (.num 0), .kept, none, none⟩, ⟨31, 16, .ro, (.num 65535), .kept, none, none⟩]⟩

/-- STD_APPLY_STAT (R123). -/
def row_STD_APPLY_STAT : RegRow := ⟨false, 0x60018, 1, 4, [⟨12, 0, .ro, (.num 0), .kept, none, none⟩, ⟨25, 13, .ro, (.num 0), .kept, none, none⟩, ⟨27, 26, .ro, (.num 0), .kept, none, none⟩]⟩

/-- STD_APPLY_FAIL (R123). -/
def row_STD_APPLY_FAIL : RegRow := ⟨false, 0x6001c, 1, 4, [⟨11, 0, .ro, (.num 0), .kept, none, none⟩, ⟨15, 12, .ro, (.num 0), .kept, none, none⟩, ⟨18, 16, .ro, (.num 0), .kept, none, none⟩, ⟨31, 31, .w1c, (.num 0), .kept, none, none⟩]⟩

/-- STD_APPLY_CFG (R124). -/
def row_STD_APPLY_CFG : RegRow := ⟨false, 0x60020, 1, 4, [⟨12, 0, .rwl, (.num 4000), .kept, (some .imageApply), (some (0, 4900))⟩, ⟨22, 16, .rwl, (.num 64), .kept, (some .imageApply), (some (1, 64))⟩]⟩

/-- HPT_LINK (R143). -/
def row_HPT_LINK : RegRow := ⟨false, 0x90000, 4, 256, [⟨0, 0, .ro, (.num 0), .kept, none, none⟩, ⟨3, 1, .ro, (.num 0), (.num 0), none, none⟩, ⟨8, 4, .ro, (.num 0), (.num 0), none, none⟩, ⟨11, 9, .ro, (.num 0), (.num 0), none, none⟩, ⟨16, 12, .ro, (.num 0), (.num 0), none, none⟩, ⟨17, 17, .ro, (.num 0), (.num 0), none, none⟩, ⟨18, 18, .ro, (.num 0), (.num 0), none, none⟩]⟩

/-- HPT_WFAIL (R144). -/
def row_HPT_WFAIL : RegRow := ⟨false, 0x90004, 4, 256, [⟨19, 0, .ros, (.num 0), .kept, none, none⟩, ⟨23, 20, .ros, (.num 0), .kept, none, none⟩, ⟨27, 24, .ros, (.num 0), .kept, none, none⟩, ⟨31, 31, .w1c, (.num 0), .kept, none, none⟩]⟩

/-- HPT_WFAIL_DPAL (R144). -/
def row_HPT_WFAIL_DPAL : RegRow := ⟨false, 0x90008, 4, 256, [⟨31, 0, .ros, (.num 0), .kept, none, none⟩]⟩

/-- HPT_WFAIL_DPAH (R144). -/
def row_HPT_WFAIL_DPAH : RegRow := ⟨false, 0x9000c, 4, 256, [⟨31, 0, .ros, (.num 0), .kept, none, none⟩]⟩

/-- MSC_RD_CFG (R186). -/
def row_MSC_RD_CFG : RegRow := ⟨true, 0x100, 1, 4, [⟨7, 0, .rwl, (.num 24), .kept, (some .tileService), none⟩, ⟨11, 8, .rwl, (.num 15), .kept, (some .tileService), (some (5, 15))⟩, ⟨15, 12, .rwl, (.num 5), .kept, (some .tileService), (some (1, 15))⟩, ⟨23, 16, .rwl, (.num 10), .kept, (some .tileService), (some (5, 40))⟩]⟩

/-- MSC_RD_STAT (R187). -/
def row_MSC_RD_STAT : RegRow := ⟨true, 0x104, 1, 4, [⟨0, 0, .ro, (.num 0), (.num 0), none, none⟩, ⟨1, 1, .ro, .glade, .glade, none, none⟩, ⟨2, 2, .ro, (.num 0), (.num 0), none, none⟩, ⟨10, 4, .ro, (.num 0), (.num 0), none, none⟩, ⟨31, 16, .ros, (.num 0), .kept, none, none⟩]⟩

/-- HPT_RDLAT (R188). -/
def row_HPT_RDLAT : RegRow := ⟨false, 0x90010, 4, 256, [⟨15, 0, .ros, (.num 0), .kept, none, none⟩, ⟨30, 16, .ros, (.num 0), .kept, none, none⟩, ⟨31, 31, .wo, (.num 0), (.num 0), none, none⟩]⟩

/-- HPT_LT (R188). -/
def row_HPT_LT : RegRow := ⟨false, 0x90014, 4, 256, [⟨19, 0, .ros, (.num 0), .kept, none, none⟩, ⟨30, 20, .ro, (.num 0), (.num 0), none, none⟩, ⟨31, 31, .wo, (.num 0), (.num 0), none, none⟩]⟩

/-- MSC_WR_CFG (R220). -/
def row_MSC_WR_CFG : RegRow := ⟨true, 0x200, 1, 4, [⟨7, 0, .rwl, (.num 10), .kept, (some .tileService), (some (1, 255))⟩, ⟨14, 8, .rwl, (.num 50), .kept, (some .tileService), (some (10, 90))⟩, ⟨20, 16, .rwl, (.num 8), .kept, (some .tileService), (some (1, 16))⟩, ⟨30, 24, .rwl, (.num 60), .kept, (some .tileService), (some (20, 90))⟩]⟩

/-- MSC_WR_STAT (R221). -/
def row_MSC_WR_STAT : RegRow := ⟨true, 0x204, 1, 4, [⟨16, 0, .ro, (.num 0), (.num 0), none, none⟩, ⟨17, 17, .ro, (.num 0), (.num 0), none, none⟩, ⟨18, 18, .ro, (.num 0), (.num 0), none, none⟩, ⟨19, 19, .ro, (.num 0), (.num 0), none, none⟩, ⟨20, 20, .ro, (.num 0), (.num 0), none, none⟩, ⟨27, 21, .ro, (.num 0), (.num 0), none, none⟩]⟩

/-- MSC_UND_STAT (R222). -/
def row_MSC_UND_STAT : RegRow := ⟨true, 0x208, 1, 4, [⟨15, 0, .ro, (.num 0), (.num 0), none, none⟩, ⟨31, 16, .ro, (.num 0), (.num 0), none, none⟩]⟩

/-- MSC_FLUSH_STAT (R223). -/
def row_MSC_FLUSH_STAT : RegRow := ⟨true, 0x20c, 1, 4, [⟨0, 0, .ros, (.num 0), .kept, none, none⟩, ⟨1, 1, .ros, (.num 0), .kept, none, none⟩, ⟨18, 2, .ros, (.num 0), .kept, none, none⟩, ⟨26, 19, .ros, (.num 0), .kept, none, none⟩]⟩

/-- TRN_SPARE (R260). -/
def row_TRN_SPARE : RegRow := ⟨false, 0x70000, 1, 4, [⟨27, 0, .ro, (.num 0), .kept, none, none⟩]⟩

/-- TRN_SPARE_BASE (R260). -/
def row_TRN_SPARE_BASE : RegRow := ⟨false, 0x70004, 1, 4, [⟨27, 0, .ro, (.num 0), .kept, none, none⟩]⟩

/-- TRN_HEALTH (R260). -/
def row_TRN_HEALTH : RegRow := ⟨false, 0x70008, 1, 4, [⟨1, 0, .ro, (.num 0), .kept, none, none⟩, ⟨8, 2, .ro, (.num 0), .kept, none, none⟩, ⟨15, 9, .ro, (.num 0), .kept, none, none⟩, ⟨16, 16, .ro, (.num 0), .kept, none, none⟩, ⟨17, 17, .ro, (.num 0), .kept, none, none⟩]⟩

/-- TRN_DEAD (R260). -/
def row_TRN_DEAD : RegRow := ⟨false, 0x7000c, 1, 4, [⟨12, 0, .ro, (.num 0), .kept, none, none⟩, ⟨23, 13, .ro, (.num 0), .kept, none, none⟩]⟩

/-- TRN_DEAD_ENT (R260). -/
def row_TRN_DEAD_ENT : RegRow := ⟨false, 0x70010, 1, 4, [⟨20, 0, .ro, (.num 0), .kept, none, none⟩]⟩

/-- TRN_WEAR_CFG (R261). -/
def row_TRN_WEAR_CFG : RegRow := ⟨true, 0x10000, 1, 4, [⟨15, 0, .rwl, (.num 100), .kept, (some .tileService), (some (1, 65535))⟩, ⟨23, 16, .rwl, (.num 10), .kept, (some .tileService), (some (1, 255))⟩, ⟨24, 24, .rwl, (.num 1), .kept, (some .tileService), none⟩]⟩

/-- TRN_MAP_STAT (R262). -/
def row_TRN_MAP_STAT : RegRow := ⟨true, 0x10004, 1, 4, [⟨0, 0, .ro, (.num 0), (.num 0), none, none⟩, ⟨1, 1, .ro, (.num 0), (.num 0), none, none⟩, ⟨2, 2, .ro, (.num 0), (.num 0), none, none⟩, ⟨25, 16, .ro, (.num 0), (.num 0), none, none⟩]⟩

/-- TRN_RETIRE_STAT (R262). -/
def row_TRN_RETIRE_STAT : RegRow := ⟨true, 0x10008, 1, 4, [⟨9, 0, .ro, (.num 0), .kept, none, none⟩, ⟨12, 10, .ro, (.num 0), .kept, none, none⟩, ⟨31, 14, .ro, (.num 0), .kept, none, none⟩]⟩

/-- MSC_SRAM_ERR (R295). -/
def row_MSC_SRAM_ERR : RegRow := ⟨true, 0x318, 1, 4, [⟨15, 0, .ros, (.num 0), .kept, none, none⟩, ⟨23, 16, .ros, (.num 0), .kept, none, none⟩, ⟨27, 24, .ros, (.num 0), .kept, none, none⟩, ⟨31, 31, .wo, (.num 0), (.num 0), none, none⟩]⟩

/-- MSC_SCR_CFG (R296). -/
def row_MSC_SCR_CFG : RegRow := ⟨true, 0x310, 1, 4, [⟨0, 0, .rwl, (.num 1), .kept, (some .tileService), none⟩, ⟨1, 1, .rwl, (.num 1), .kept, (some .tileService), none⟩, ⟨15, 4, .rwl, (.num 168), .kept, (some .tileService), (some (1, 4095))⟩, ⟨20, 16, .rwl, (.num 2), .kept, (some .tileService), (some (1, 20))⟩]⟩

/-- MSC_SCR_STAT (R296). -/
def row_MSC_SCR_STAT : RegRow := ⟨true, 0x314, 1, 4, [⟨9, 0, .ro, (.num 0), .kept, none, none⟩, ⟨10, 10, .ro, (.num 0), (.num 0), none, none⟩, ⟨31, 16, .ros, (.num 0), .kept, none, none⟩]⟩

/-- MSC_CHK_CTRL (R301). -/
def row_MSC_CHK_CTRL : RegRow := ⟨true, 0x300, 1, 4, [⟨0, 0, .rwl, (.num 0), (.num 0), (some .test), none⟩, ⟨1, 1, .rwl, (.num 0), (.num 0), (some .test), none⟩, ⟨2, 2, .rwl, (.num 0), (.num 0), (some .test), none⟩, ⟨3, 3, .rwl, (.num 0), (.num 0), (some .test), none⟩, ⟨4, 4, .rwl, (.num 0), (.num 0), (some .test), none⟩, ⟨5, 5, .rwl, (.num 0), (.num 0), (some .test), none⟩, ⟨6, 6, .rwl, (.num 0), (.num 0), (some .test), none⟩, ⟨7, 7, .rwl, (.num 0), (.num 0), (some .test), none⟩]⟩

/-- MSC_CHK_ADDR (R301). -/
def row_MSC_CHK_ADDR : RegRow := ⟨true, 0x308, 1, 4, [⟨4, 0, .rwl, (.num 0), (.num 0), (some .test), (some (0, 24))⟩, ⟨8, 5, .rwl, (.num 0), (.num 0), (some .test), none⟩, ⟨12, 9, .rwl, (.num 0), (.num 0), (some .test), none⟩]⟩

/-- MSC_CHK_PLACE (R301). -/
def row_MSC_CHK_PLACE : RegRow := ⟨true, 0x30c, 1, 4, [⟨18, 0, .ro, (.num 0), (.num 0), none, none⟩, ⟨24, 19, .ro, (.num 0), (.num 0), none, none⟩, ⟨26, 25, .ro, (.num 0), (.num 0), none, none⟩, ⟨27, 27, .ro, (.num 0), (.num 0), none, none⟩]⟩

/-- MSC_CHK_STAT (R301). -/
def row_MSC_CHK_STAT : RegRow := ⟨true, 0x304, 1, 4, [⟨0, 0, .ro, (.num 0), (.num 0), none, none⟩, ⟨1, 1, .ro, (.num 0), (.num 0), none, none⟩, ⟨4, 2, .ro, (.num 0), (.num 0), none, none⟩, ⟨5, 5, .ro, (.num 0), (.num 0), none, none⟩, ⟨17, 6, .ro, (.num 0), (.num 0), none, none⟩]⟩

/-- MSC_CHK_DATA (R301). -/
def row_MSC_CHK_DATA : RegRow := ⟨true, 0x340, 24, 4, [⟨31, 0, .rwl, (.num 0), (.num 0), some .test, none⟩]⟩
/-- MSC_CHK_FLIP (R301). -/
def row_MSC_CHK_FLIP : RegRow := ⟨true, 0x3A0, 24, 4, [⟨31, 0, .rwl, (.num 0), (.num 0), some .test, none⟩]⟩
/-- CCH_CFG (R318). -/
def row_CCH_CFG : RegRow := ⟨true, 0x30000, 1, 4, [⟨0, 0, .rwl, (.num 1), .kept, (some .tileService), none⟩, ⟨4, 1, .rwl, (.num 12), .kept, (some .tileService), (some (0, 12))⟩]⟩

/-- CCH_STAT (R318). -/
def row_CCH_STAT : RegRow := ⟨true, 0x30004, 1, 4, [⟨18, 0, .ro, (.num 0), (.num 0), none, none⟩, ⟨25, 19, .ro, (.num 0), (.num 0), none, none⟩, ⟨31, 26, .ros, (.num 0), .kept, none, none⟩]⟩

/-- CCH_RM_CTRL (R318). -/
def row_CCH_RM_CTRL : RegRow := ⟨true, 0x30010, 1, 4, [⟨2, 0, .rwl, (.num 0), (.num 0), (some .tileService), none⟩, ⟨3, 3, .rwl, (.num 0), (.num 0), (some .tileService), none⟩, ⟨4, 4, .rwl, (.num 0), (.num 0), (some .tileService), none⟩]⟩

/-- CCH_RM_COMP (R318). -/
def row_CCH_RM_COMP : RegRow := ⟨true, 0x30014, 1, 4, [⟨11, 0, .rwl, (.num 0), (.num 0), (some .tileService), none⟩]⟩

/-- CCH_RM_START (R318). -/
def row_CCH_RM_START : RegRow := ⟨true, 0x30018, 1, 4, [⟨31, 0, .rwl, (.num 0), (.num 0), (some .tileService), none⟩]⟩

/-- CCH_RM_COUNT (R318). -/
def row_CCH_RM_COUNT : RegRow := ⟨true, 0x3001c, 1, 4, [⟨31, 0, .rwl, (.num 0), (.num 0), (some .tileService), none⟩]⟩

/-- CCH_RM_HIGH (R318). -/
def row_CCH_RM_HIGH : RegRow := ⟨true, 0x30020, 1, 4, [⟨7, 0, .rwl, (.num 0), (.num 0), (some .tileService), none⟩, ⟨15, 8, .rwl, (.num 0), (.num 0), (some .tileService), none⟩]⟩

/-- CCH_RM_STAT (R318). -/
def row_CCH_RM_STAT : RegRow := ⟨true, 0x30024, 1, 4, [⟨0, 0, .ro, (.num 0), (.num 0), none, none⟩, ⟨3, 1, .ro, (.num 0), (.num 0), none, none⟩]⟩

/-- CCH_RM_SKIP (R318). -/
def row_CCH_RM_SKIP : RegRow := ⟨true, 0x30028, 1, 4, [⟨31, 0, .ro, (.num 0), (.num 0), none, none⟩]⟩

/-- CIF_ROOT_STAT (R351). -/
def row_CIF_ROOT_STAT : RegRow := ⟨false, 0x80000, 1, 4, [⟨1, 0, .ro, (.num 0), .kept, none, none⟩, ⟨2, 2, .ro, (.num 0), .kept, none, none⟩, ⟨3, 3, .ro, (.num 0), .kept, none, none⟩, ⟨31, 16, .ro, (.num 0), .kept, none, none⟩]⟩

/-- CIF_REROOT_CTRL (R351). -/
def row_CIF_REROOT_CTRL : RegRow := ⟨false, 0x80004, 1, 4, [⟨11, 0, .rwl, (.num 0), (.num 0), (some .reRoot), none⟩, ⟨14, 12, .rwl, (.num 0), (.num 0), (some .reRoot), none⟩, ⟨15, 15, .rwl, (.num 0), (.num 0), (some .reRoot), none⟩, ⟨16, 16, .rwl, (.num 0), (.num 0), (some .reRoot), none⟩]⟩

/-- CIF_REROOT_STAT (R351). -/
def row_CIF_REROOT_STAT : RegRow := ⟨false, 0x80008, 1, 4, [⟨0, 0, .ro, (.num 0), (.num 0), none, none⟩, ⟨2, 1, .ro, (.num 0), .kept, none, none⟩, ⟨31, 8, .ro, (.num 0), .kept, none, none⟩]⟩

/-- CIF_REKEY (R351). -/
def row_CIF_REKEY : RegRow := ⟨false, 0x80100, 16, 8, [⟨11, 0, .ro, (.num 0), .kept, none, none⟩, ⟨12, 12, .ro, (.num 0), .kept, none, none⟩, ⟨22, 13, .ro, (.num 0), .kept, none, none⟩]⟩

/-- CIF_REKEY_KEY (R351). -/
def row_CIF_REKEY_KEY : RegRow := ⟨false, 0x80104, 16, 8, [⟨19, 0, .ro, (.num 0), .kept, none, none⟩]⟩

/-- CIF_CACHE_STAT (R352). -/
def row_CIF_CACHE_STAT : RegRow := ⟨true, 0x20000, 1, 4, [⟨9, 0, .ro, (.num 0), (.num 0), none, none⟩, ⟨19, 10, .ro, (.num 0), (.num 0), none, none⟩]⟩

/-- CIF_ERR (R352). -/
def row_CIF_ERR : RegRow := ⟨true, 0x20004, 1, 4, [⟨15, 0, .ros, (.num 0), .kept, none, none⟩, ⟨22, 16, .ros, (.num 0), .kept, none, none⟩, ⟨30, 23, .ros, (.num 0), .kept, none, none⟩, ⟨31, 31, .wo, (.num 0), (.num 0), none, none⟩]⟩

/-- WDN_LIFECYCLE (R389). -/
def row_WDN_LIFECYCLE : RegRow := ⟨false, 0x600, 1, 4, [⟨1, 0, .ro, .fuse, .fuse, none, none⟩, ⟨6, 2, .ro, .fuse, .fuse, none, none⟩, ⟨10, 7, .ro, .fuse, .fuse, none, none⟩, ⟨11, 11, .ro, .fuse, (.num 0), none, none⟩, ⟨12, 12, .ro, (.num 0), .kept, none, none⟩, ⟨13, 13, .ro, (.num 0), .kept, none, none⟩]⟩

/-- WDN_WARRANT_STAT (R389). -/
def row_WDN_WARRANT_STAT : RegRow := ⟨false, 0x604, 1, 4, [⟨7, 0, .ro, (.num 0), .kept, none, none⟩, ⟨10, 8, .ro, (.num 0), .kept, none, none⟩, ⟨19, 12, .ros, (.num 0), .kept, none, none⟩, ⟨27, 20, .ros, (.num 0), .kept, none, none⟩]⟩

/-- WDN_RIGHTS_LO (R389). -/
def row_WDN_RIGHTS_LO : RegRow := ⟨false, 0x610, 8, 8, [⟨31, 0, .ro, .image, .image, none, none⟩]⟩

/-- WDN_RIGHTS_HI (R389). -/
def row_WDN_RIGHTS_HI : RegRow := ⟨false, 0x614, 8, 8, [⟨31, 0, .ro, (.num 0), (.num 0), none, none⟩]⟩

/-- QOS_CAP (R400). -/
def row_QOS_CAP : RegRow := ⟨true, 0x40000, 1, 4, [⟨11, 0, .ro, (.num 0), (.num 0), none, none⟩, ⟨23, 12, .ro, (.num 0), (.num 0), none, none⟩, ⟨24, 24, .ro, (.num 0), (.num 0), none, none⟩, ⟨25, 25, .ro, (.num 0), (.num 0), none, none⟩]⟩

/-- QOS_GRANT (R400). -/
def row_QOS_GRANT : RegRow := ⟨true, 0x40040, 11, 4, [⟨15, 0, .ro, .image, .image, none, none⟩, ⟨31, 16, .ro, (.num 0), (.num 0), none, none⟩]⟩

/-- QOS_SHORT (R401). -/
def row_QOS_SHORT : RegRow := ⟨true, 0x40010, 1, 4, [⟨10, 0, .w1c, (.num 0), .kept, none, none⟩]⟩

/-- QOS_SF_CFG (R401). -/
def row_QOS_SF_CFG : RegRow := ⟨true, 0x40014, 1, 4, [⟨7, 0, .rwl, (.num 100), .kept, (some .tileService), (some (1, 255))⟩, ⟨18, 8, .rwl, (.num 2047), .kept, (some .tileService), none⟩]⟩

/-- GLD_ELAPSED (R429). -/
def row_GLD_ELAPSED : RegRow := ⟨false, 0x10000, 1, 4, [⟨31, 0, .ro, .glade, .kept, none, none⟩]⟩

/-- GLD_OPSEC (R429). -/
def row_GLD_OPSEC : RegRow := ⟨false, 0x10004, 1, 4, [⟨31, 0, .ro, .glade, .kept, none, none⟩]⟩

/-- GLD_PWRCYC (R429). -/
def row_GLD_PWRCYC : RegRow := ⟨false, 0x10008, 1, 4, [⟨31, 0, .ro, .glade, .kept, none, none⟩]⟩

/-- GLD_TIME_STAT (R429). -/
def row_GLD_TIME_STAT : RegRow := ⟨false, 0x1000c, 1, 4, [⟨0, 0, .ro, .glade, .kept, none, none⟩]⟩

/-- WDN_FINE_LO (R429). -/
def row_WDN_FINE_LO : RegRow := ⟨false, 0x700, 1, 4, [⟨31, 0, .ro, (.num 0), .kept, none, none⟩]⟩

/-- WDN_FINE_HI (R429). -/
def row_WDN_FINE_HI : RegRow := ⟨false, 0x704, 1, 4, [⟨31, 0, .ro, (.num 0), .kept, none, none⟩]⟩

/-- WDN_EVF_DATA (R429). -/
def row_WDN_EVF_DATA : RegRow := ⟨false, 0x710, 4, 4, [⟨31, 0, .ro, (.num 0), (.num 0), none, none⟩]⟩

/-- WDN_EVF_STAT (R429). -/
def row_WDN_EVF_STAT : RegRow := ⟨false, 0x720, 1, 4, [⟨10, 0, .ro, (.num 0), (.num 0), none, none⟩, ⟨11, 11, .ro, (.num 1), (.num 1), none, none⟩, ⟨12, 12, .w1c, (.num 0), (.num 0), none, none⟩, ⟨13, 13, .ro, (.num 0), (.num 0), none, none⟩, ⟨31, 16, .ros, (.num 0), .kept, none, none⟩]⟩

/-- RLG_CTRL (R430). -/
def row_RLG_CTRL : RegRow := ⟨false, 0xa0000, 1, 4, [⟨0, 0, .rwl, (.num 0), (.num 0), (some .logFreeze), none⟩, ⟨12, 1, .rwl, (.num 600), .kept, (some .logFreeze), (some (1, 3600))⟩]⟩

/-- RLG_STAT (R430). -/
def row_RLG_STAT : RegRow := ⟨false, 0xa0004, 1, 4, [⟨0, 0, .ro, (.num 0), (.num 0), none, none⟩, ⟨9, 1, .ro, .glade, .glade, none, none⟩, ⟨25, 10, .ros, .glade, .kept, none, none⟩, ⟨26, 26, .ro, (.num 0), .kept, none, none⟩]⟩

/-- RLG_NEXT (R430). -/
def row_RLG_NEXT : RegRow := ⟨false, 0xa0008, 1, 4, [⟨31, 0, .ro, (.num 0), .kept, none, none⟩]⟩

/-- RLG_TRC_CTRL (R431). -/
def row_RLG_TRC_CTRL : RegRow := ⟨false, 0xa0100, 1, 4, [⟨0, 0, .rwl, (.num 0), (.num 0), (some .trace), none⟩, ⟨1, 1, .rwl, (.num 0), (.num 0), (some .trace), none⟩, ⟨13, 2, .rwl, (.num 0), (.num 0), (some .trace), none⟩, ⟨17, 14, .rwl, (.num 0), (.num 0), (some .trace), none⟩, ⟨18, 18, .rwl, (.num 0), (.num 0), (some .trace), none⟩, ⟨22, 19, .rwl, (.num 0), (.num 0), (some .trace), none⟩, ⟨25, 23, .ro, (.num 0), (.num 0), none, none⟩]⟩

/-- RLG_TRC_STAT (R431). -/
def row_RLG_TRC_STAT : RegRow := ⟨false, 0xa0104, 1, 4, [⟨14, 0, .ro, (.num 0), (.num 0), none, none⟩, ⟨15, 15, .ro, (.num 0), (.num 0), none, none⟩, ⟨31, 16, .ro, (.num 0), (.num 0), none, none⟩]⟩

/-- RLG_TRC_DATA (R431). -/
def row_RLG_TRC_DATA : RegRow := ⟨false, 0xa0120, 8, 4, [⟨31, 0, .ro, (.num 0), (.num 0), none, none⟩]⟩

/-- WDN_SB_BANK (R458). -/
def row_WDN_SB_BANK : RegRow := ⟨false, 0x800, 1, 4, [⟨4, 0, .rwl, (.num 0), .kept, (some .seedbank), none⟩]⟩

/-- WDN_FW_STAT (R458). -/
def row_WDN_FW_STAT : RegRow := ⟨false, 0x804, 1, 4, [⟨0, 0, .ro, (.num 0), .kept, none, none⟩, ⟨1, 1, .ro, (.num 0), .kept, none, none⟩, ⟨2, 2, .ro, (.num 0), .kept, none, none⟩, ⟨3, 3, .ro, (.num 0), (.num 0), none, none⟩, ⟨9, 4, .ro, .fuse, .fuse, none, none⟩, ⟨23, 16, .ro, (.num 0), .kept, none, none⟩, ⟨27, 24, .ro, (.num 15), .kept, none, none⟩]⟩

/-- WDN_PS_CTRL (R458). -/
def row_WDN_PS_CTRL : RegRow := ⟨false, 0x810, 1, 4, [⟨15, 0, .rwl, (.num 0), (.num 0), (some .paramRead), none⟩, ⟨17, 16, .rwl, (.num 0), (.num 0), (some .paramRead), none⟩, ⟨28, 18, .rwl, (.num 0), (.num 0), (some .paramRead), none⟩, ⟨29, 29, .rwl, (.num 0), (.num 0), (some .paramRead), none⟩, ⟨30, 30, .rwl, (.num 0), (.num 0), (some .paramWrite), none⟩]⟩

/-- WDN_PS_STAT (R458). -/
def row_WDN_PS_STAT : RegRow := ⟨false, 0x814, 1, 4, [⟨0, 0, .ro, (.num 0), (.num 0), none, none⟩, ⟨1, 1, .ro, .glade, .kept, none, none⟩, ⟨2, 2, .ro, (.num 0), (.num 0), none, none⟩, ⟨3, 3, .ro, (.num 0), .kept, none, none⟩, ⟨4, 4, .ro, (.num 0), (.num 0), none, none⟩, ⟨7, 5, .ro, (.num 0), (.num 0), none, none⟩, ⟨15, 8, .ro, (.num 0), .kept, none, none⟩, ⟨31, 16, .ro, (.num 0), .kept, none, none⟩]⟩

/-- WDN_I3C_STAT (R458). -/
def row_WDN_I3C_STAT : RegRow := ⟨false, 0x818, 1, 4, [⟨6, 0, .ro, (.num 0), .kept, none, none⟩, ⟨7, 7, .ro, (.num 0), .kept, none, none⟩, ⟨8, 8, .ro, (.num 0), (.num 0), none, none⟩, ⟨9, 9, .ro, (.num 0), .kept, none, none⟩, ⟨10, 10, .ro, (.num 0), (.num 0), none, none⟩]⟩

/-- IRQ_SRC (R459). -/
def row_IRQ_SRC : RegRow := ⟨false, 0x50000, 272, 4, [⟨8, 0, .rw, (.num 1), (.num 1), none, none⟩, ⟨10, 9, .rw, (.num 0), (.num 0), none, none⟩, ⟨12, 11, .rw, (.num 1), (.num 1), none, none⟩, ⟨13, 13, .rw, (.num 0), (.num 0), none, none⟩, ⟨14, 14, .rw, (.num 1), (.num 1), none, none⟩, ⟨15, 15, .ro, (.num 0), (.num 0), none, none⟩, ⟨16, 16, .w1c, (.num 0), (.num 0), none, none⟩]⟩

/-- IRQ_CLAIM (R459). -/
def row_IRQ_CLAIM : RegRow := ⟨false, 0x50800, 9, 16, [⟨9, 0, .ro, (.num 1023), (.num 1023), none, none⟩]⟩

/-- IRQ_DONE (R459). -/
def row_IRQ_DONE : RegRow := ⟨false, 0x50804, 9, 16, [⟨9, 0, .wo, (.num 0), (.num 0), none, none⟩]⟩

/-- IRQ_MOD (R459). -/
def row_IRQ_MOD : RegRow := ⟨false, 0x50808, 9, 16, [⟨5, 0, .rw, (.num 1), (.num 1), none, (some (1, 32))⟩, ⟨13, 6, .rw, (.num 0), (.num 0), none, none⟩, ⟨21, 14, .rw, (.num 0), (.num 0), none, none⟩, ⟨22, 22, .rw, (.num 1), (.num 1), none, none⟩]⟩

/-- SEQ_STAT (R494). -/
def row_SEQ_STAT : RegRow := ⟨false, 0x20000, 1, 4, [⟨1, 0, .ro, .glade, .kept, none, none⟩, ⟨13, 2, .ro, .glade, .kept, none, none⟩, ⟨14, 14, .ro, .glade, .kept, none, none⟩, ⟨15, 15, .ro, .glade, .kept, none, none⟩, ⟨17, 16, .ro, .glade, .kept, none, none⟩, ⟨18, 18, .ro, .glade, .kept, none, none⟩, ⟨31, 19, .ro, .glade, .kept, none, none⟩]⟩

/-- SEQ_RAILS (R494). -/
def row_SEQ_RAILS : RegRow := ⟨false, 0x20004, 1, 4, [⟨15, 0, .ro, .glade, .kept, none, none⟩, ⟨31, 16, .ro, .glade, .kept, none, none⟩]⟩

/-- SEQ_FAULT (R494). -/
def row_SEQ_FAULT : RegRow := ⟨false, 0x20008, 1, 4, [⟨3, 0, .ro, .glade, .kept, none, none⟩, ⟨7, 4, .ro, .glade, .kept, none, none⟩, ⟨19, 8, .ro, .glade, .kept, none, none⟩, ⟨27, 20, .ro, .glade, .kept, none, none⟩, ⟨31, 31, .w1c, .glade, .kept, none, none⟩]⟩

/-- SEQ_VIN (R494). -/
def row_SEQ_VIN : RegRow := ⟨false, 0x2000c, 1, 4, [⟨11, 0, .ro, (.num 0), (.num 0), none, none⟩, ⟨23, 12, .ro, .glade, .kept, none, none⟩, ⟨24, 24, .ro, (.num 0), (.num 0), none, none⟩, ⟨25, 25, .ro, (.num 0), (.num 0), none, none⟩, ⟨31, 31, .wo, (.num 0), (.num 0), none, none⟩]⟩

/-- SEQ_SLEEP (R494). -/
def row_SEQ_SLEEP : RegRow := ⟨false, 0x20010, 1, 4, [⟨7, 0, .rwl, (.num 50), .kept, (some .tileService), (some (1, 255))⟩, ⟨15, 8, .rwl, (.num 10), .kept, (some .tileService), (some (1, 255))⟩, ⟨16, 16, .rwl, (.num 1), .kept, (some .tileService), none⟩, ⟨17, 17, .rwl, (.num 1), .kept, (some .tileService), none⟩]⟩

/-- RST_CTRL (R495). -/
def row_RST_CTRL : RegRow := ⟨false, 0x30000, 1, 4, [⟨2, 0, .rwl, (.num 0), (.num 0), (some .reset), none⟩, ⟨5, 3, .rwl, (.num 0), (.num 0), (some .reset), none⟩, ⟨6, 6, .rwl, (.num 0), (.num 0), (some .reset), none⟩]⟩

/-- RST_STAT (R495). -/
def row_RST_STAT : RegRow := ⟨false, 0x30004, 1, 4, [⟨4, 0, .ro, .glade, .kept, none, none⟩, ⟨7, 5, .ro, .glade, .kept, none, none⟩, ⟨8, 8, .ro, .glade, .kept, none, none⟩, ⟨10, 9, .ro, .glade, .kept, none, none⟩, ⟨28, 11, .ro, (.num 0), (.num 0), none, none⟩, ⟨29, 29, .ro, (.num 0), (.num 0), none, none⟩]⟩

/-- RST_COUNT (R495). -/
def row_RST_COUNT : RegRow := ⟨false, 0x30008, 1, 4, [⟨31, 0, .ro, .glade, .kept, none, none⟩]⟩

/-- RST_HIST (R495). -/
def row_RST_HIST : RegRow := ⟨false, 0x30040, 16, 4, [⟨4, 0, .ro, .glade, .kept, none, none⟩, ⟨7, 5, .ro, .glade, .kept, none, none⟩, ⟨12, 8, .ro, .glade, .kept, none, none⟩, ⟨31, 13, .ro, .glade, .kept, none, none⟩]⟩

/-- THM_DIE (R509). -/
def row_THM_DIE : RegRow := ⟨false, 0x40000, 9, 4, [⟨11, 0, .ro, (.num 0), .kept, none, none⟩, ⟨13, 12, .ro, (.num 0), .kept, none, none⟩, ⟨27, 16, .ros, (.num 0), .kept, none, none⟩]⟩

/-- THM_ZONE (R509). -/
def row_THM_ZONE : RegRow := ⟨false, 0x40040, 32, 4, [⟨11, 0, .ro, (.num 0), .kept, none, none⟩, ⟨13, 12, .ro, (.num 0), .kept, none, none⟩, ⟨16, 14, .ro, .glade, .kept, none, none⟩, ⟨17, 17, .ro, (.num 0), .kept, none, none⟩, ⟨18, 18, .ro, .image, .image, none, none⟩]⟩

/-- THM_STAT (R510). -/
def row_THM_STAT : RegRow := ⟨false, 0x400c0, 1, 4, [⟨8, 0, .ro, (.num 0), .kept, none, none⟩, ⟨17, 9, .ro, (.num 0), .kept, none, none⟩, ⟨18, 18, .ros, .glade, .kept, none, none⟩, ⟨24, 19, .ros, .glade, .kept, none, none⟩, ⟨26, 25, .ros, .glade, .kept, none, none⟩]⟩

/-- THM_ZWARN (R510). -/
def row_THM_ZWARN : RegRow := ⟨false, 0x400c4, 1, 4, [⟨31, 0, .ro, (.num 0), .kept, none, none⟩]⟩

/-- THM_ZTHR (R510). -/
def row_THM_ZTHR : RegRow := ⟨false, 0x400c8, 1, 4, [⟨31, 0, .ro, (.num 0), .kept, none, none⟩]⟩

/-- PMC_CNT, hub block (R523). -/
def row_HUB_PMC_CNT : RegRow := ⟨false, 0xb0000, 96, 4, [⟨31, 0, .ros, (.num 0), .kept, none, none⟩]⟩

/-- PMC_CNT, tile block (R523). -/
def row_TILE_PMC_CNT : RegRow := ⟨true, 0x50000, 224, 4, [⟨31, 0, .ros, (.num 0), .kept, none, none⟩]⟩

/-- PMC_SEL, hub block (R523). -/
def row_HUB_PMC_SEL : RegRow := ⟨false, 0xb0400, 12, 4, [⟨2, 0, .rwl, (.num 0), .kept, (some .counterRead), none⟩, ⟨6, 4, .rwl, (.num 0), .kept, (some .counterRead), none⟩, ⟨10, 8, .rwl, (.num 0), .kept, (some .counterRead), none⟩, ⟨14, 12, .rwl, (.num 0), .kept, (some .counterRead), none⟩, ⟨18, 16, .rwl, (.num 0), .kept, (some .counterRead), none⟩, ⟨22, 20, .rwl, (.num 0), .kept, (some .counterRead), none⟩, ⟨26, 24, .rwl, (.num 0), .kept, (some .counterRead), none⟩, ⟨30, 28, .rwl, (.num 0), .kept, (some .counterRead), none⟩, ⟨7, 7, .rwl, (.num 0), .kept, (some .counterRead), none⟩, ⟨15, 15, .rwl, (.num 0), .kept, (some .counterRead), none⟩, ⟨23, 23, .rwl, (.num 0), .kept, (some .counterRead), none⟩, ⟨31, 31, .rwl, (.num 0), .kept, (some .counterRead), none⟩]⟩

/-- PMC_SEL, tile block (R523). -/
def row_TILE_PMC_SEL : RegRow := ⟨true, 0x50400, 28, 4, [⟨2, 0, .rwl, (.num 0), .kept, (some .counterRead), none⟩, ⟨6, 4, .rwl, (.num 0), .kept, (some .counterRead), none⟩, ⟨10, 8, .rwl, (.num 0), .kept, (some .counterRead), none⟩, ⟨14, 12, .rwl, (.num 0), .kept, (some .counterRead), none⟩, ⟨18, 16, .rwl, (.num 0), .kept, (some .counterRead), none⟩, ⟨22, 20, .rwl, (.num 0), .kept, (some .counterRead), none⟩, ⟨26, 24, .rwl, (.num 0), .kept, (some .counterRead), none⟩, ⟨30, 28, .rwl, (.num 0), .kept, (some .counterRead), none⟩, ⟨7, 7, .rwl, (.num 0), .kept, (some .counterRead), none⟩, ⟨15, 15, .rwl, (.num 0), .kept, (some .counterRead), none⟩, ⟨23, 23, .rwl, (.num 0), .kept, (some .counterRead), none⟩, ⟨31, 31, .rwl, (.num 0), .kept, (some .counterRead), none⟩]⟩

/-- PMC_FILT, hub block (R523). -/
def row_HUB_PMC_FILT : RegRow := ⟨false, 0xb0484, 7, 4, [⟨11, 0, .rwl, (.num 0), .kept, (some .counterRead), none⟩, ⟨12, 12, .rwl, (.num 0), .kept, (some .counterRead), none⟩]⟩

/-- PMC_FILT, tile block (R523). -/
def row_TILE_PMC_FILT : RegRow := ⟨true, 0x50484, 7, 4, [⟨11, 0, .rwl, (.num 0), .kept, (some .counterRead), none⟩, ⟨12, 12, .rwl, (.num 0), .kept, (some .counterRead), none⟩]⟩

/-- PMC_OVF, hub block (R523). -/
def row_HUB_PMC_OVF : RegRow := ⟨false, 0xb0500, 3, 4, [⟨31, 0, .w1c, (.num 0), .kept, none, none⟩]⟩

/-- PMC_OVF, tile block (R523). -/
def row_TILE_PMC_OVF : RegRow := ⟨true, 0x50500, 7, 4, [⟨31, 0, .w1c, (.num 0), .kept, none, none⟩]⟩

/-- PMC_HI, hub block (R523). -/
def row_HUB_PMC_HI : RegRow := ⟨false, 0xb0520, 1, 4, [⟨31, 0, .ro, (.num 0), (.num 0), none, none⟩]⟩

/-- PMC_HI, tile block (R523). -/
def row_TILE_PMC_HI : RegRow := ⟨true, 0x50520, 1, 4, [⟨31, 0, .ro, (.num 0), (.num 0), none, none⟩]⟩

/-- The registers of the hub blocks (R527). -/
def hubRows : List RegRow :=
  [row_WDN_TILE_CTRL, row_WDN_TILE_STAT, row_STD_EPOCH_ACTIVE, row_STD_EPOCH_PREVIOUS,
   row_STD_EPOCH_STAGED, row_STD_EPOCH_FLOOR, row_STD_CTRL, row_STD_STAT,
   row_STD_APPLY_STAT, row_STD_APPLY_FAIL, row_STD_APPLY_CFG, row_HPT_LINK,
   row_HPT_WFAIL, row_HPT_WFAIL_DPAL, row_HPT_WFAIL_DPAH, row_HPT_RDLAT,
   row_HPT_LT, row_TRN_SPARE, row_TRN_SPARE_BASE, row_TRN_HEALTH,
   row_TRN_DEAD, row_TRN_DEAD_ENT, row_CIF_ROOT_STAT, row_CIF_REROOT_CTRL,
   row_CIF_REROOT_STAT, row_CIF_REKEY, row_CIF_REKEY_KEY, row_WDN_LIFECYCLE,
   row_WDN_WARRANT_STAT, row_WDN_RIGHTS_LO, row_WDN_RIGHTS_HI, row_GLD_ELAPSED,
   row_GLD_OPSEC, row_GLD_PWRCYC, row_GLD_TIME_STAT, row_WDN_FINE_LO,
   row_WDN_FINE_HI, row_WDN_EVF_DATA, row_WDN_EVF_STAT, row_RLG_CTRL,
   row_RLG_STAT, row_RLG_NEXT, row_RLG_TRC_CTRL, row_RLG_TRC_STAT,
   row_RLG_TRC_DATA, row_WDN_SB_BANK, row_WDN_FW_STAT, row_WDN_PS_CTRL,
   row_WDN_PS_STAT, row_WDN_I3C_STAT, row_IRQ_SRC, row_IRQ_CLAIM,
   row_IRQ_DONE, row_IRQ_MOD, row_SEQ_STAT, row_SEQ_RAILS,
   row_SEQ_FAULT, row_SEQ_VIN, row_SEQ_SLEEP, row_RST_CTRL,
   row_RST_STAT, row_RST_COUNT, row_RST_HIST, row_THM_DIE,
   row_THM_ZONE, row_THM_STAT, row_THM_ZWARN, row_THM_ZTHR,
   row_HUB_PMC_CNT, row_HUB_PMC_SEL, row_HUB_PMC_FILT, row_HUB_PMC_OVF,
   row_HUB_PMC_HI]

/-- The registers of a tile's window (R528). -/
def tileRows : List RegRow :=
  [row_MSC_LNK_CTRL, row_MSC_LNK_STAT, row_MSC_LNK_ERR, row_MSC_RD_CFG,
   row_MSC_RD_STAT, row_MSC_WR_CFG, row_MSC_WR_STAT, row_MSC_UND_STAT,
   row_MSC_FLUSH_STAT, row_TRN_WEAR_CFG, row_TRN_MAP_STAT, row_TRN_RETIRE_STAT,
   row_MSC_SRAM_ERR, row_MSC_SCR_CFG, row_MSC_SCR_STAT, row_MSC_CHK_CTRL,
   row_MSC_CHK_ADDR, row_MSC_CHK_PLACE, row_MSC_CHK_STAT, row_MSC_CHK_DATA, row_MSC_CHK_FLIP, row_CCH_CFG,
   row_CCH_STAT, row_CCH_RM_CTRL, row_CCH_RM_COMP, row_CCH_RM_START,
   row_CCH_RM_COUNT, row_CCH_RM_HIGH, row_CCH_RM_STAT, row_CCH_RM_SKIP,
   row_CIF_CACHE_STAT, row_CIF_ERR, row_QOS_CAP, row_QOS_GRANT,
   row_QOS_SHORT, row_QOS_SF_CFG, row_TILE_PMC_CNT, row_TILE_PMC_SEL,
   row_TILE_PMC_FILT, row_TILE_PMC_OVF, row_TILE_PMC_HI]

namespace F

/-- WDN_TILE_CTRL.isolate (R35). -/
def WDN_TILE_CTRL_isolate (i : Nat) : Fld := ⟨0x400 + 0x10 * i, 0, 0⟩
/-- WDN_TILE_CTRL.restore (R35). -/
def WDN_TILE_CTRL_restore (i : Nat) : Fld := ⟨0x400 + 0x10 * i, 1, 1⟩
/-- WDN_TILE_CTRL.auto_restore (R35). -/
def WDN_TILE_CTRL_auto_restore (i : Nat) : Fld := ⟨0x400 + 0x10 * i, 2, 2⟩
/-- WDN_TILE_CTRL.nurse (R35). -/
def WDN_TILE_CTRL_nurse (i : Nat) : Fld := ⟨0x400 + 0x10 * i, 6, 4⟩
/-- WDN_TILE_STAT.state (R36). -/
def WDN_TILE_STAT_state (i : Nat) : Fld := ⟨0x404 + 0x10 * i, 2, 0⟩
/-- WDN_TILE_STAT.catch_drained (R36). -/
def WDN_TILE_STAT_catch_drained (i : Nat) : Fld := ⟨0x404 + 0x10 * i, 3, 3⟩
/-- WDN_TILE_STAT.degraded_stripes (R36). -/
def WDN_TILE_STAT_degraded_stripes (i : Nat) : Fld := ⟨0x404 + 0x10 * i, 4, 4⟩
/-- WDN_TILE_STAT.cause (R36). -/
def WDN_TILE_STAT_cause (i : Nat) : Fld := ⟨0x404 + 0x10 * i, 7, 5⟩
/-- WDN_TILE_STAT.isolations (R36). -/
def WDN_TILE_STAT_isolations (i : Nat) : Fld := ⟨0x404 + 0x10 * i, 15, 8⟩
/-- WDN_TILE_STAT.rebuild_permille (R36). -/
def WDN_TILE_STAT_rebuild_permille (i : Nat) : Fld := ⟨0x404 + 0x10 * i, 25, 16⟩
/-- MSC_LNK_CTRL.retrain (R76). -/
def MSC_LNK_CTRL_retrain (t i : Nat) : Fld := ⟨0x101000 + 0x100000 * t + 0x10 * i, 0, 0⟩
/-- MSC_LNK_CTRL.disable (R76). -/
def MSC_LNK_CTRL_disable (t i : Nat) : Fld := ⟨0x101000 + 0x100000 * t + 0x10 * i, 1, 1⟩
/-- MSC_LNK_CTRL.loopback (R76). -/
def MSC_LNK_CTRL_loopback (t i : Nat) : Fld := ⟨0x101000 + 0x100000 * t + 0x10 * i, 2, 2⟩
/-- MSC_LNK_STAT.lstate (R77). -/
def MSC_LNK_STAT_lstate (t i : Nat) : Fld := ⟨0x101004 + 0x100000 * t + 0x10 * i, 3, 0⟩
/-- MSC_LNK_STAT.dies_present (R77). -/
def MSC_LNK_STAT_dies_present (t i : Nat) : Fld := ⟨0x101004 + 0x100000 * t + 0x10 * i, 7, 4⟩
/-- MSC_LNK_STAT.dies_alive (R77). -/
def MSC_LNK_STAT_dies_alive (t i : Nat) : Fld := ⟨0x101004 + 0x100000 * t + 0x10 * i, 11, 8⟩
/-- MSC_LNK_STAT.preset (R77). -/
def MSC_LNK_STAT_preset (t i : Nat) : Fld := ⟨0x101004 + 0x100000 * t + 0x10 * i, 14, 12⟩
/-- MSC_LNK_STAT.recoveries (R77). -/
def MSC_LNK_STAT_recoveries (t i : Nat) : Fld := ⟨0x101004 + 0x100000 * t + 0x10 * i, 23, 16⟩
/-- MSC_LNK_ERR.crc_errors (R78). -/
def MSC_LNK_ERR_crc_errors (t i : Nat) : Fld := ⟨0x101008 + 0x100000 * t + 0x10 * i, 15, 0⟩
/-- MSC_LNK_ERR.timeouts (R78). -/
def MSC_LNK_ERR_timeouts (t i : Nat) : Fld := ⟨0x101008 + 0x100000 * t + 0x10 * i, 23, 16⟩
/-- MSC_LNK_ERR.clear (R78). -/
def MSC_LNK_ERR_clear (t i : Nat) : Fld := ⟨0x101008 + 0x100000 * t + 0x10 * i, 31, 31⟩
/-- STD_EPOCH_ACTIVE.epoch (R120). -/
def STD_EPOCH_ACTIVE_epoch : Fld := ⟨0x60000, 31, 0⟩
/-- STD_EPOCH_PREVIOUS.epoch (R120). -/
def STD_EPOCH_PREVIOUS_epoch : Fld := ⟨0x60004, 31, 0⟩
/-- STD_EPOCH_STAGED.epoch (R120). -/
def STD_EPOCH_STAGED_epoch : Fld := ⟨0x60008, 31, 0⟩
/-- STD_EPOCH_FLOOR.epoch (R120). -/
def STD_EPOCH_FLOOR_epoch : Fld := ⟨0x6000c, 31, 0⟩
/-- STD_CTRL.verify (R121). -/
def STD_CTRL_verify : Fld := ⟨0x60010, 0, 0⟩
/-- STD_CTRL.apply_live (R121). -/
def STD_CTRL_apply_live : Fld := ⟨0x60010, 1, 1⟩
/-- STD_CTRL.apply_at_resume (R121). -/
def STD_CTRL_apply_at_resume : Fld := ⟨0x60010, 2, 2⟩
/-- STD_CTRL.return_prev (R121). -/
def STD_CTRL_return_prev : Fld := ⟨0x60010, 3, 3⟩
/-- STD_CTRL.discard_staged (R121). -/
def STD_CTRL_discard_staged : Fld := ⟨0x60010, 4, 4⟩
/-- STD_STAT.state (R122). -/
def STD_STAT_state : Fld := ⟨0x60014, 2, 0⟩
/-- STD_STAT.result (R122). -/
def STD_STAT_result : Fld := ⟨0x60014, 15, 8⟩
/-- STD_STAT.detail (R122). -/
def STD_STAT_detail : Fld := ⟨0x60014, 31, 16⟩
/-- STD_APPLY_STAT.switched (R123). -/
def STD_APPLY_STAT_switched : Fld := ⟨0x60018, 12, 0⟩
/-- STD_APPLY_STAT.total (R123). -/
def STD_APPLY_STAT_total : Fld := ⟨0x60018, 25, 13⟩
/-- STD_APPLY_STAT.outcome (R123). -/
def STD_APPLY_STAT_outcome : Fld := ⟨0x60018, 27, 26⟩
/-- STD_APPLY_FAIL.compartment (R123). -/
def STD_APPLY_FAIL_compartment : Fld := ⟨0x6001c, 11, 0⟩
/-- STD_APPLY_FAIL.reason (R123). -/
def STD_APPLY_FAIL_reason : Fld := ⟨0x6001c, 15, 12⟩
/-- STD_APPLY_FAIL.tile (R123). -/
def STD_APPLY_FAIL_tile : Fld := ⟨0x6001c, 18, 16⟩
/-- STD_APPLY_FAIL.valid (R123). -/
def STD_APPLY_FAIL_valid : Fld := ⟨0x6001c, 31, 31⟩
/-- STD_APPLY_CFG.quiet_wait (R124). -/
def STD_APPLY_CFG_quiet_wait : Fld := ⟨0x60020, 12, 0⟩
/-- STD_APPLY_CFG.parallel (R124). -/
def STD_APPLY_CFG_parallel : Fld := ⟨0x60020, 22, 16⟩
/-- HPT_LINK.bif (R143). -/
def HPT_LINK_bif (i : Nat) : Fld := ⟨0x90000 + 0x100 * i, 0, 0⟩
/-- HPT_LINK.rate_a (R143). -/
def HPT_LINK_rate_a (i : Nat) : Fld := ⟨0x90000 + 0x100 * i, 3, 1⟩
/-- HPT_LINK.width_a (R143). -/
def HPT_LINK_width_a (i : Nat) : Fld := ⟨0x90000 + 0x100 * i, 8, 4⟩
/-- HPT_LINK.rate_b (R143). -/
def HPT_LINK_rate_b (i : Nat) : Fld := ⟨0x90000 + 0x100 * i, 11, 9⟩
/-- HPT_LINK.width_b (R143). -/
def HPT_LINK_width_b (i : Nat) : Fld := ⟨0x90000 + 0x100 * i, 16, 12⟩
/-- HPT_LINK.ide_a (R143). -/
def HPT_LINK_ide_a (i : Nat) : Fld := ⟨0x90000 + 0x100 * i, 17, 17⟩
/-- HPT_LINK.ide_b (R143). -/
def HPT_LINK_ide_b (i : Nat) : Fld := ⟨0x90000 + 0x100 * i, 18, 18⟩
/-- HPT_WFAIL.count (R144). -/
def HPT_WFAIL_count (i : Nat) : Fld := ⟨0x90004 + 0x100 * i, 19, 0⟩
/-- HPT_WFAIL.ld (R144). -/
def HPT_WFAIL_ld (i : Nat) : Fld := ⟨0x90004 + 0x100 * i, 23, 20⟩
/-- HPT_WFAIL.cause (R144). -/
def HPT_WFAIL_cause (i : Nat) : Fld := ⟨0x90004 + 0x100 * i, 27, 24⟩
/-- HPT_WFAIL.valid (R144). -/
def HPT_WFAIL_valid (i : Nat) : Fld := ⟨0x90004 + 0x100 * i, 31, 31⟩
/-- HPT_WFAIL_DPAL.dpa (R144). -/
def HPT_WFAIL_DPAL_dpa (i : Nat) : Fld := ⟨0x90008 + 0x100 * i, 31, 0⟩
/-- HPT_WFAIL_DPAH.dpa (R144). -/
def HPT_WFAIL_DPAH_dpa (i : Nat) : Fld := ⟨0x9000c + 0x100 * i, 31, 0⟩
/-- MSC_RD_CFG.susp_limit (R186). -/
def MSC_RD_CFG_susp_limit (t : Nat) : Fld := ⟨0x100100 + 0x100000 * t, 7, 0⟩
/-- MSC_RD_CFG.yield_pct (R186). -/
def MSC_RD_CFG_yield_pct (t : Nat) : Fld := ⟨0x100100 + 0x100000 * t, 11, 8⟩
/-- MSC_RD_CFG.resume_pct (R186). -/
def MSC_RD_CFG_resume_pct (t : Nat) : Fld := ⟨0x100100 + 0x100000 * t, 15, 12⟩
/-- MSC_RD_CFG.patience (R186). -/
def MSC_RD_CFG_patience (t : Nat) : Fld := ⟨0x100100 + 0x100000 * t, 23, 16⟩
/-- MSC_RD_STAT.yielding (R187). -/
def MSC_RD_STAT_yielding (t : Nat) : Fld := ⟨0x100104 + 0x100000 * t, 0, 0⟩
/-- MSC_RD_STAT.age_unknown (R187). -/
def MSC_RD_STAT_age_unknown (t : Nat) : Fld := ⟨0x100104 + 0x100000 * t, 1, 1⟩
/-- MSC_RD_STAT.ra_blocked (R187). -/
def MSC_RD_STAT_ra_blocked (t : Nat) : Fld := ⟨0x100104 + 0x100000 * t, 2, 2⟩
/-- MSC_RD_STAT.last_share (R187). -/
def MSC_RD_STAT_last_share (t : Nat) : Fld := ⟨0x100104 + 0x100000 * t, 10, 4⟩
/-- MSC_RD_STAT.yields (R187). -/
def MSC_RD_STAT_yields (t : Nat) : Fld := ⟨0x100104 + 0x100000 * t, 31, 16⟩
/-- HPT_RDLAT.max_ns (R188). -/
def HPT_RDLAT_max_ns (i : Nat) : Fld := ⟨0x90010 + 0x100 * i, 15, 0⟩
/-- HPT_RDLAT.over (R188). -/
def HPT_RDLAT_over (i : Nat) : Fld := ⟨0x90010 + 0x100 * i, 30, 16⟩
/-- HPT_RDLAT.clear (R188). -/
def HPT_RDLAT_clear (i : Nat) : Fld := ⟨0x90010 + 0x100 * i, 31, 31⟩
/-- HPT_LT.late (R188). -/
def HPT_LT_late (i : Nat) : Fld := ⟨0x90014 + 0x100 * i, 19, 0⟩
/-- HPT_LT.delay (R188). -/
def HPT_LT_delay (i : Nat) : Fld := ⟨0x90014 + 0x100 * i, 30, 20⟩
/-- HPT_LT.clear (R188). -/
def HPT_LT_clear (i : Nat) : Fld := ⟨0x90014 + 0x100 * i, 31, 31⟩
/-- MSC_WR_CFG.linger_ms (R220). -/
def MSC_WR_CFG_linger_ms (t : Nat) : Fld := ⟨0x100200 + 0x100000 * t, 7, 0⟩
/-- MSC_WR_CFG.destage_pct (R220). -/
def MSC_WR_CFG_destage_pct (t : Nat) : Fld := ⟨0x100200 + 0x100000 * t, 14, 8⟩
/-- MSC_WR_CFG.brace_limit (R220). -/
def MSC_WR_CFG_brace_limit (t : Nat) : Fld := ⟨0x100200 + 0x100000 * t, 20, 16⟩
/-- MSC_WR_CFG.mig_start (R220). -/
def MSC_WR_CFG_mig_start (t : Nat) : Fld := ⟨0x100200 + 0x100000 * t, 30, 24⟩
/-- MSC_WR_STAT.catch_dirty (R221). -/
def MSC_WR_STAT_catch_dirty (t : Nat) : Fld := ⟨0x100204 + 0x100000 * t, 16, 0⟩
/-- MSC_WR_STAT.braced (R221). -/
def MSC_WR_STAT_braced (t : Nat) : Fld := ⟨0x100204 + 0x100000 * t, 17, 17⟩
/-- MSC_WR_STAT.destage_paused (R221). -/
def MSC_WR_STAT_destage_paused (t : Nat) : Fld := ⟨0x100204 + 0x100000 * t, 18, 18⟩
/-- MSC_WR_STAT.migrating (R221). -/
def MSC_WR_STAT_migrating (t : Nat) : Fld := ⟨0x100204 + 0x100000 * t, 19, 19⟩
/-- MSC_WR_STAT.spare_blocked (R221). -/
def MSC_WR_STAT_spare_blocked (t : Nat) : Fld := ⟨0x100204 + 0x100000 * t, 20, 20⟩
/-- MSC_WR_STAT.und_use_pct (R221). -/
def MSC_WR_STAT_und_use_pct (t : Nat) : Fld := ⟨0x100204 + 0x100000 * t, 27, 21⟩
/-- MSC_UND_STAT.share (R222). -/
def MSC_UND_STAT_share (t : Nat) : Fld := ⟨0x100208 + 0x100000 * t, 15, 0⟩
/-- MSC_UND_STAT.used (R222). -/
def MSC_UND_STAT_used (t : Nat) : Fld := ⟨0x100208 + 0x100000 * t, 31, 16⟩
/-- MSC_FLUSH_STAT.complete (R223). -/
def MSC_FLUSH_STAT_complete (t : Nat) : Fld := ⟨0x10020c + 0x100000 * t, 0, 0⟩
/-- MSC_FLUSH_STAT.half (R223). -/
def MSC_FLUSH_STAT_half (t : Nat) : Fld := ⟨0x10020c + 0x100000 * t, 1, 1⟩
/-- MSC_FLUSH_STAT.lines (R223). -/
def MSC_FLUSH_STAT_lines (t : Nat) : Fld := ⟨0x10020c + 0x100000 * t, 18, 2⟩
/-- MSC_FLUSH_STAT.time_8us (R223). -/
def MSC_FLUSH_STAT_time_8us (t : Nat) : Fld := ⟨0x10020c + 0x100000 * t, 26, 19⟩
/-- TRN_SPARE.count (R260). -/
def TRN_SPARE_count : Fld := ⟨0x70000, 27, 0⟩
/-- TRN_SPARE_BASE.base (R260). -/
def TRN_SPARE_BASE_base : Fld := ⟨0x70004, 27, 0⟩
/-- TRN_HEALTH.spare_state (R260). -/
def TRN_HEALTH_spare_state : Fld := ⟨0x70008, 1, 0⟩
/-- TRN_HEALTH.remaining (R260). -/
def TRN_HEALTH_remaining : Fld := ⟨0x70008, 8, 2⟩
/-- TRN_HEALTH.life_used (R260). -/
def TRN_HEALTH_life_used : Fld := ⟨0x70008, 15, 9⟩
/-- TRN_HEALTH.age_unknown (R260). -/
def TRN_HEALTH_age_unknown : Fld := ⟨0x70008, 16, 16⟩
/-- TRN_HEALTH.retire_busy (R260). -/
def TRN_HEALTH_retire_busy : Fld := ⟨0x70008, 17, 17⟩
/-- TRN_DEAD.dies (R260). -/
def TRN_DEAD_dies : Fld := ⟨0x7000c, 12, 0⟩
/-- TRN_DEAD.channels (R260). -/
def TRN_DEAD_channels : Fld := ⟨0x7000c, 23, 13⟩
/-- TRN_DEAD_ENT.entries (R260). -/
def TRN_DEAD_ENT_entries : Fld := ⟨0x70010, 20, 0⟩
/-- TRN_WEAR_CFG.gap (R261). -/
def TRN_WEAR_CFG_gap (t : Nat) : Fld := ⟨0x110000 + 0x100000 * t, 15, 0⟩
/-- TRN_WEAR_CFG.level_10ms (R261). -/
def TRN_WEAR_CFG_level_10ms (t : Nat) : Fld := ⟨0x110000 + 0x100000 * t, 23, 16⟩
/-- TRN_WEAR_CFG.level_en (R261). -/
def TRN_WEAR_CFG_level_en (t : Nat) : Fld := ⟨0x110000 + 0x100000 * t, 24, 24⟩
/-- TRN_MAP_STAT.stem_resident (R262). -/
def TRN_MAP_STAT_stem_resident (t : Nat) : Fld := ⟨0x110004 + 0x100000 * t, 0, 0⟩
/-- TRN_MAP_STAT.filter_ready (R262). -/
def TRN_MAP_STAT_filter_ready (t : Nat) : Fld := ⟨0x110004 + 0x100000 * t, 1, 1⟩
/-- TRN_MAP_STAT.census (R262). -/
def TRN_MAP_STAT_census (t : Nat) : Fld := ⟨0x110004 + 0x100000 * t, 2, 2⟩
/-- TRN_MAP_STAT.lmc_hit (R262). -/
def TRN_MAP_STAT_lmc_hit (t : Nat) : Fld := ⟨0x110004 + 0x100000 * t, 25, 16⟩
/-- TRN_RETIRE_STAT.permille (R262). -/
def TRN_RETIRE_STAT_permille (t : Nat) : Fld := ⟨0x110008 + 0x100000 * t, 9, 0⟩
/-- TRN_RETIRE_STAT.kind (R262). -/
def TRN_RETIRE_STAT_kind (t : Nat) : Fld := ⟨0x110008 + 0x100000 * t, 12, 10⟩
/-- TRN_RETIRE_STAT.stems_left (R262). -/
def TRN_RETIRE_STAT_stems_left (t : Nat) : Fld := ⟨0x110008 + 0x100000 * t, 31, 14⟩
/-- MSC_SRAM_ERR.corrected (R295). -/
def MSC_SRAM_ERR_corrected (t : Nat) : Fld := ⟨0x100318 + 0x100000 * t, 15, 0⟩
/-- MSC_SRAM_ERR.uncorrectable (R295). -/
def MSC_SRAM_ERR_uncorrectable (t : Nat) : Fld := ⟨0x100318 + 0x100000 * t, 23, 16⟩
/-- MSC_SRAM_ERR.tag_parity (R295). -/
def MSC_SRAM_ERR_tag_parity (t : Nat) : Fld := ⟨0x100318 + 0x100000 * t, 27, 24⟩
/-- MSC_SRAM_ERR.clear (R295). -/
def MSC_SRAM_ERR_clear (t : Nat) : Fld := ⟨0x100318 + 0x100000 * t, 31, 31⟩
/-- MSC_SCR_CFG.enable (R296). -/
def MSC_SCR_CFG_enable (t : Nat) : Fld := ⟨0x100310 + 0x100000 * t, 0, 0⟩
/-- MSC_SCR_CFG.rewrite_en (R296). -/
def MSC_SCR_CFG_rewrite_en (t : Nat) : Fld := ⟨0x100310 + 0x100000 * t, 1, 1⟩
/-- MSC_SCR_CFG.period_h (R296). -/
def MSC_SCR_CFG_period_h (t : Nat) : Fld := ⟨0x100310 + 0x100000 * t, 15, 4⟩
/-- MSC_SCR_CFG.cap_pct (R296). -/
def MSC_SCR_CFG_cap_pct (t : Nat) : Fld := ⟨0x100310 + 0x100000 * t, 20, 16⟩
/-- MSC_SCR_STAT.permille (R296). -/
def MSC_SCR_STAT_permille (t : Nat) : Fld := ⟨0x100314 + 0x100000 * t, 9, 0⟩
/-- MSC_SCR_STAT.late (R296). -/
def MSC_SCR_STAT_late (t : Nat) : Fld := ⟨0x100314 + 0x100000 * t, 10, 10⟩
/-- MSC_SCR_STAT.passes (R296). -/
def MSC_SCR_STAT_passes (t : Nat) : Fld := ⟨0x100314 + 0x100000 * t, 31, 16⟩
/-- MSC_CHK_CTRL.open (R301). -/
def MSC_CHK_CTRL_open (t : Nat) : Fld := ⟨0x100300 + 0x100000 * t, 0, 0⟩
/-- MSC_CHK_CTRL.close (R301). -/
def MSC_CHK_CTRL_close (t : Nat) : Fld := ⟨0x100300 + 0x100000 * t, 1, 1⟩
/-- MSC_CHK_CTRL.write (R301). -/
def MSC_CHK_CTRL_write (t : Nat) : Fld := ⟨0x100300 + 0x100000 * t, 2, 2⟩
/-- MSC_CHK_CTRL.read (R301). -/
def MSC_CHK_CTRL_read (t : Nat) : Fld := ⟨0x100300 + 0x100000 * t, 3, 3⟩
/-- MSC_CHK_CTRL.encode (R301). -/
def MSC_CHK_CTRL_encode (t : Nat) : Fld := ⟨0x100300 + 0x100000 * t, 4, 4⟩
/-- MSC_CHK_CTRL.parity (R301). -/
def MSC_CHK_CTRL_parity (t : Nat) : Fld := ⟨0x100300 + 0x100000 * t, 5, 5⟩
/-- MSC_CHK_CTRL.raw (R301). -/
def MSC_CHK_CTRL_raw (t : Nat) : Fld := ⟨0x100300 + 0x100000 * t, 6, 6⟩
/-- MSC_CHK_CTRL.recon (R301). -/
def MSC_CHK_CTRL_recon (t : Nat) : Fld := ⟨0x100300 + 0x100000 * t, 7, 7⟩
/-- MSC_CHK_ADDR.grove (R301). -/
def MSC_CHK_ADDR_grove (t : Nat) : Fld := ⟨0x100308 + 0x100000 * t, 4, 0⟩
/-- MSC_CHK_ADDR.line_stripe (R301). -/
def MSC_CHK_ADDR_line_stripe (t : Nat) : Fld := ⟨0x100308 + 0x100000 * t, 8, 5⟩
/-- MSC_CHK_ADDR.member (R301). -/
def MSC_CHK_ADDR_member (t : Nat) : Fld := ⟨0x100308 + 0x100000 * t, 12, 9⟩
/-- MSC_CHK_PLACE.place (R301). -/
def MSC_CHK_PLACE_place (t : Nat) : Fld := ⟨0x10030c + 0x100000 * t, 18, 0⟩
/-- MSC_CHK_PLACE.group (R301). -/
def MSC_CHK_PLACE_group (t : Nat) : Fld := ⟨0x10030c + 0x100000 * t, 24, 19⟩
/-- MSC_CHK_PLACE.die_index (R301). -/
def MSC_CHK_PLACE_die_index (t : Nat) : Fld := ⟨0x10030c + 0x100000 * t, 26, 25⟩
/-- MSC_CHK_PLACE.valid (R301). -/
def MSC_CHK_PLACE_valid (t : Nat) : Fld := ⟨0x10030c + 0x100000 * t, 27, 27⟩
/-- MSC_CHK_STAT.open (R301). -/
def MSC_CHK_STAT_open (t : Nat) : Fld := ⟨0x100304 + 0x100000 * t, 0, 0⟩
/-- MSC_CHK_STAT.busy (R301). -/
def MSC_CHK_STAT_busy (t : Nat) : Fld := ⟨0x100304 + 0x100000 * t, 1, 1⟩
/-- MSC_CHK_STAT.outcome (R301). -/
def MSC_CHK_STAT_outcome (t : Nat) : Fld := ⟨0x100304 + 0x100000 * t, 4, 2⟩
/-- MSC_CHK_STAT.crc_ok (R301). -/
def MSC_CHK_STAT_crc_ok (t : Nat) : Fld := ⟨0x100304 + 0x100000 * t, 5, 5⟩
/-- MSC_CHK_STAT.corr (R301). -/
def MSC_CHK_STAT_corr (t : Nat) : Fld := ⟨0x100304 + 0x100000 * t, 17, 6⟩
/-- MSC_CHK_DATAi (R301). -/
def MSC_CHK_DATA (t i : Nat) : Fld := ⟨0x100340 + 0x100000 * t + 4 * i, 31, 0⟩
/-- MSC_CHK_FLIPi (R301). -/
def MSC_CHK_FLIP (t i : Nat) : Fld := ⟨0x1003A0 + 0x100000 * t + 4 * i, 31, 0⟩
/-- CCH_CFG.prefetch_en (R318). -/
def CCH_CFG_prefetch_en (t : Nat) : Fld := ⟨0x130000 + 0x100000 * t, 0, 0⟩
/-- CCH_CFG.lock_ways (R318). -/
def CCH_CFG_lock_ways (t : Nat) : Fld := ⟨0x130000 + 0x100000 * t, 4, 1⟩
/-- CCH_STAT.locked (R318). -/
def CCH_STAT_locked (t : Nat) : Fld := ⟨0x130004 + 0x100000 * t, 18, 0⟩
/-- CCH_STAT.victim_used (R318). -/
def CCH_STAT_victim_used (t : Nat) : Fld := ⟨0x130004 + 0x100000 * t, 25, 19⟩
/-- CCH_STAT.lock_lost (R318). -/
def CCH_STAT_lock_lost (t : Nat) : Fld := ⟨0x130004 + 0x100000 * t, 31, 26⟩
/-- CCH_RM_CTRL.op (R318). -/
def CCH_RM_CTRL_op (t : Nat) : Fld := ⟨0x130010 + 0x100000 * t, 2, 0⟩
/-- CCH_RM_CTRL.force (R318). -/
def CCH_RM_CTRL_force (t : Nat) : Fld := ⟨0x130010 + 0x100000 * t, 3, 3⟩
/-- CCH_RM_CTRL.go (R318). -/
def CCH_RM_CTRL_go (t : Nat) : Fld := ⟨0x130010 + 0x100000 * t, 4, 4⟩
/-- CCH_RM_COMP.id (R318). -/
def CCH_RM_COMP_id (t : Nat) : Fld := ⟨0x130014 + 0x100000 * t, 11, 0⟩
/-- CCH_RM_START.low (R318). -/
def CCH_RM_START_low (t : Nat) : Fld := ⟨0x130018 + 0x100000 * t, 31, 0⟩
/-- CCH_RM_COUNT.low (R318). -/
def CCH_RM_COUNT_low (t : Nat) : Fld := ⟨0x13001c + 0x100000 * t, 31, 0⟩
/-- CCH_RM_HIGH.start (R318). -/
def CCH_RM_HIGH_start (t : Nat) : Fld := ⟨0x130020 + 0x100000 * t, 7, 0⟩
/-- CCH_RM_HIGH.count (R318). -/
def CCH_RM_HIGH_count (t : Nat) : Fld := ⟨0x130020 + 0x100000 * t, 15, 8⟩
/-- CCH_RM_STAT.busy (R318). -/
def CCH_RM_STAT_busy (t : Nat) : Fld := ⟨0x130024 + 0x100000 * t, 0, 0⟩
/-- CCH_RM_STAT.outcome (R318). -/
def CCH_RM_STAT_outcome (t : Nat) : Fld := ⟨0x130024 + 0x100000 * t, 3, 1⟩
/-- CCH_RM_SKIP.count (R318). -/
def CCH_RM_SKIP_count (t : Nat) : Fld := ⟨0x130028 + 0x100000 * t, 31, 0⟩
/-- CIF_ROOT_STAT.source (R351). -/
def CIF_ROOT_STAT_source : Fld := ⟨0x80000, 1, 0⟩
/-- CIF_ROOT_STAT.last_seal_ok (R351). -/
def CIF_ROOT_STAT_last_seal_ok : Fld := ⟨0x80000, 2, 2⟩
/-- CIF_ROOT_STAT.leap (R351). -/
def CIF_ROOT_STAT_leap : Fld := ⟨0x80000, 3, 3⟩
/-- CIF_ROOT_STAT.unverifiable (R351). -/
def CIF_ROOT_STAT_unverifiable : Fld := ⟨0x80000, 31, 16⟩
/-- CIF_REROOT_CTRL.compartment (R351). -/
def CIF_REROOT_CTRL_compartment : Fld := ⟨0x80004, 11, 0⟩
/-- CIF_REROOT_CTRL.tile (R351). -/
def CIF_REROOT_CTRL_tile : Fld := ⟨0x80004, 14, 12⟩
/-- CIF_REROOT_CTRL.all_tiles (R351). -/
def CIF_REROOT_CTRL_all_tiles : Fld := ⟨0x80004, 15, 15⟩
/-- CIF_REROOT_CTRL.go (R351). -/
def CIF_REROOT_CTRL_go : Fld := ⟨0x80004, 16, 16⟩
/-- CIF_REROOT_STAT.busy (R351). -/
def CIF_REROOT_STAT_busy : Fld := ⟨0x80008, 0, 0⟩
/-- CIF_REROOT_STAT.outcome (R351). -/
def CIF_REROOT_STAT_outcome : Fld := ⟨0x80008, 2, 1⟩
/-- CIF_REROOT_STAT.poisoned (R351). -/
def CIF_REROOT_STAT_poisoned : Fld := ⟨0x80008, 31, 8⟩
/-- CIF_REKEY.compartment (R351). -/
def CIF_REKEY_compartment (i : Nat) : Fld := ⟨0x80100 + 0x8 * i, 11, 0⟩
/-- CIF_REKEY.active (R351). -/
def CIF_REKEY_active (i : Nat) : Fld := ⟨0x80100 + 0x8 * i, 12, 12⟩
/-- CIF_REKEY.permille (R351). -/
def CIF_REKEY_permille (i : Nat) : Fld := ⟨0x80100 + 0x8 * i, 22, 13⟩
/-- CIF_REKEY_KEY.key (R351). -/
def CIF_REKEY_KEY_key (i : Nat) : Fld := ⟨0x80104 + 0x8 * i, 19, 0⟩
/-- CIF_CACHE_STAT.kc_hit (R352). -/
def CIF_CACHE_STAT_kc_hit (t : Nat) : Fld := ⟨0x120000 + 0x100000 * t, 9, 0⟩
/-- CIF_CACHE_STAT.cc_hit (R352). -/
def CIF_CACHE_STAT_cc_hit (t : Nat) : Fld := ⟨0x120000 + 0x100000 * t, 19, 10⟩
/-- CIF_ERR.tag_fail (R352). -/
def CIF_ERR_tag_fail (t : Nat) : Fld := ⟨0x120004 + 0x100000 * t, 15, 0⟩
/-- CIF_ERR.subtree (R352). -/
def CIF_ERR_subtree (t : Nat) : Fld := ⟨0x120004 + 0x100000 * t, 22, 16⟩
/-- CIF_ERR.regen (R352). -/
def CIF_ERR_regen (t : Nat) : Fld := ⟨0x120004 + 0x100000 * t, 30, 23⟩
/-- CIF_ERR.clear (R352). -/
def CIF_ERR_clear (t : Nat) : Fld := ⟨0x120004 + 0x100000 * t, 31, 31⟩
/-- WDN_LIFECYCLE.state (R389). -/
def WDN_LIFECYCLE_state : Fld := ⟨0x600, 1, 0⟩
/-- WDN_LIFECYCLE.banks (R389). -/
def WDN_LIFECYCLE_banks : Fld := ⟨0x600, 6, 2⟩
/-- WDN_LIFECYCLE.storage_gen (R389). -/
def WDN_LIFECYCLE_storage_gen : Fld := ⟨0x600, 10, 7⟩
/-- WDN_LIFECYCLE.test_open (R389). -/
def WDN_LIFECYCLE_test_open : Fld := ⟨0x600, 11, 11⟩
/-- WDN_LIFECYCLE.roots_suspended (R389). -/
def WDN_LIFECYCLE_roots_suspended : Fld := ⟨0x600, 12, 12⟩
/-- WDN_LIFECYCLE.key_set_missing (R389). -/
def WDN_LIFECYCLE_key_set_missing : Fld := ⟨0x600, 13, 13⟩
/-- WDN_WARRANT_STAT.last_status (R389). -/
def WDN_WARRANT_STAT_last_status : Fld := ⟨0x604, 7, 0⟩
/-- WDN_WARRANT_STAT.last_interface (R389). -/
def WDN_WARRANT_STAT_last_interface : Fld := ⟨0x604, 10, 8⟩
/-- WDN_WARRANT_STAT.accepted (R389). -/
def WDN_WARRANT_STAT_accepted : Fld := ⟨0x604, 19, 12⟩
/-- WDN_WARRANT_STAT.refused (R389). -/
def WDN_WARRANT_STAT_refused : Fld := ⟨0x604, 27, 20⟩
/-- WDN_RIGHTS_LO.rights (R389). -/
def WDN_RIGHTS_LO_rights (i : Nat) : Fld := ⟨0x610 + 0x8 * i, 31, 0⟩
/-- WDN_RIGHTS_HI.rights (R389). -/
def WDN_RIGHTS_HI_rights (i : Nat) : Fld := ⟨0x614 + 0x8 * i, 31, 0⟩
/-- QOS_CAP.cap (R400). -/
def QOS_CAP_cap (t : Nat) : Fld := ⟨0x140000 + 0x100000 * t, 11, 0⟩
/-- QOS_CAP.avail (R400). -/
def QOS_CAP_avail (t : Nat) : Fld := ⟨0x140000 + 0x100000 * t, 23, 12⟩
/-- QOS_CAP.scaled (R400). -/
def QOS_CAP_scaled (t : Nat) : Fld := ⟨0x140000 + 0x100000 * t, 24, 24⟩
/-- QOS_CAP.rt_cut (R400). -/
def QOS_CAP_rt_cut (t : Nat) : Fld := ⟨0x140000 + 0x100000 * t, 25, 25⟩
/-- QOS_GRANT.effective (R400). -/
def QOS_GRANT_effective (t i : Nat) : Fld := ⟨0x140040 + 0x100000 * t + 0x4 * i, 15, 0⟩
/-- QOS_GRANT.used (R400). -/
def QOS_GRANT_used (t i : Nat) : Fld := ⟨0x140040 + 0x100000 * t + 0x4 * i, 31, 16⟩
/-- QOS_SHORT.short (R401). -/
def QOS_SHORT_short (t : Nat) : Fld := ⟨0x140010 + 0x100000 * t, 10, 0⟩
/-- QOS_SF_CFG.span (R401). -/
def QOS_SF_CFG_span (t : Nat) : Fld := ⟨0x140014 + 0x100000 * t, 7, 0⟩
/-- QOS_SF_CFG.irq_mask (R401). -/
def QOS_SF_CFG_irq_mask (t : Nat) : Fld := ⟨0x140014 + 0x100000 * t, 18, 8⟩
/-- GLD_ELAPSED.seconds (R429). -/
def GLD_ELAPSED_seconds : Fld := ⟨0x10000, 31, 0⟩
/-- GLD_OPSEC.seconds (R429). -/
def GLD_OPSEC_seconds : Fld := ⟨0x10004, 31, 0⟩
/-- GLD_PWRCYC.count (R429). -/
def GLD_PWRCYC_count : Fld := ⟨0x10008, 31, 0⟩
/-- GLD_TIME_STAT.backup_lost (R429). -/
def GLD_TIME_STAT_backup_lost : Fld := ⟨0x1000c, 0, 0⟩
/-- WDN_FINE_LO.fine (R429). -/
def WDN_FINE_LO_fine : Fld := ⟨0x700, 31, 0⟩
/-- WDN_FINE_HI.fine (R429). -/
def WDN_FINE_HI_fine : Fld := ⟨0x704, 31, 0⟩
/-- WDN_EVF_DATA.word (R429). -/
def WDN_EVF_DATA_word (i : Nat) : Fld := ⟨0x710 + 0x4 * i, 31, 0⟩
/-- WDN_EVF_STAT.level (R429). -/
def WDN_EVF_STAT_level : Fld := ⟨0x720, 10, 0⟩
/-- WDN_EVF_STAT.empty (R429). -/
def WDN_EVF_STAT_empty : Fld := ⟨0x720, 11, 11⟩
/-- WDN_EVF_STAT.underrun (R429). -/
def WDN_EVF_STAT_underrun : Fld := ⟨0x720, 12, 12⟩
/-- WDN_EVF_STAT.full (R429). -/
def WDN_EVF_STAT_full : Fld := ⟨0x720, 13, 13⟩
/-- WDN_EVF_STAT.drops (R429). -/
def WDN_EVF_STAT_drops : Fld := ⟨0x720, 31, 16⟩
/-- RLG_CTRL.freeze (R430). -/
def RLG_CTRL_freeze : Fld := ⟨0xa0000, 0, 0⟩
/-- RLG_CTRL.freeze_limit (R430). -/
def RLG_CTRL_freeze_limit : Fld := ⟨0xa0000, 12, 1⟩
/-- RLG_STAT.frozen (R430). -/
def RLG_STAT_frozen : Fld := ⟨0xa0004, 0, 0⟩
/-- RLG_STAT.buffered (R430). -/
def RLG_STAT_buffered : Fld := ⟨0xa0004, 9, 1⟩
/-- RLG_STAT.buf_drops (R430). -/
def RLG_STAT_buf_drops : Fld := ⟨0xa0004, 25, 10⟩
/-- RLG_STAT.hw_full (R430). -/
def RLG_STAT_hw_full : Fld := ⟨0xa0004, 26, 26⟩
/-- RLG_NEXT.number (R430). -/
def RLG_NEXT_number : Fld := ⟨0xa0008, 31, 0⟩
/-- RLG_TRC_CTRL.enable (R431). -/
def RLG_TRC_CTRL_enable : Fld := ⟨0xa0100, 0, 0⟩
/-- RLG_TRC_CTRL.all (R431). -/
def RLG_TRC_CTRL_all : Fld := ⟨0xa0100, 1, 1⟩
/-- RLG_TRC_CTRL.compartment (R431). -/
def RLG_TRC_CTRL_compartment : Fld := ⟨0xa0100, 13, 2⟩
/-- RLG_TRC_CTRL.ports (R431). -/
def RLG_TRC_CTRL_ports : Fld := ⟨0xa0100, 17, 14⟩
/-- RLG_TRC_CTRL.wrap (R431). -/
def RLG_TRC_CTRL_wrap : Fld := ⟨0xa0100, 18, 18⟩
/-- RLG_TRC_CTRL.sample_log2 (R431). -/
def RLG_TRC_CTRL_sample_log2 : Fld := ⟨0xa0100, 22, 19⟩
/-- RLG_TRC_CTRL.owner (R431). -/
def RLG_TRC_CTRL_owner : Fld := ⟨0xa0100, 25, 23⟩
/-- RLG_TRC_STAT.level (R431). -/
def RLG_TRC_STAT_level : Fld := ⟨0xa0104, 14, 0⟩
/-- RLG_TRC_STAT.full (R431). -/
def RLG_TRC_STAT_full : Fld := ⟨0xa0104, 15, 15⟩
/-- RLG_TRC_STAT.dropped (R431). -/
def RLG_TRC_STAT_dropped : Fld := ⟨0xa0104, 31, 16⟩
/-- RLG_TRC_DATA.word (R431). -/
def RLG_TRC_DATA_word (i : Nat) : Fld := ⟨0xa0120 + 0x4 * i, 31, 0⟩
/-- WDN_SB_BANK.bank (R458). -/
def WDN_SB_BANK_bank : Fld := ⟨0x800, 4, 0⟩
/-- WDN_FW_STAT.active_slot (R458). -/
def WDN_FW_STAT_active_slot : Fld := ⟨0x804, 0, 0⟩
/-- WDN_FW_STAT.trial (R458). -/
def WDN_FW_STAT_trial : Fld := ⟨0x804, 1, 1⟩
/-- WDN_FW_STAT.rom_only (R458). -/
def WDN_FW_STAT_rom_only : Fld := ⟨0x804, 2, 2⟩
/-- WDN_FW_STAT.busy (R458). -/
def WDN_FW_STAT_busy : Fld := ⟨0x804, 3, 3⟩
/-- WDN_FW_STAT.floor (R458). -/
def WDN_FW_STAT_floor : Fld := ⟨0x804, 9, 4⟩
/-- WDN_FW_STAT.result (R458). -/
def WDN_FW_STAT_result : Fld := ⟨0x804, 23, 16⟩
/-- WDN_FW_STAT.failed_core (R458). -/
def WDN_FW_STAT_failed_core : Fld := ⟨0x804, 27, 24⟩
/-- WDN_PS_CTRL.key (R458). -/
def WDN_PS_CTRL_key : Fld := ⟨0x810, 15, 0⟩
/-- WDN_PS_CTRL.op (R458). -/
def WDN_PS_CTRL_op : Fld := ⟨0x810, 17, 16⟩
/-- WDN_PS_CTRL.length (R458). -/
def WDN_PS_CTRL_length : Fld := ⟨0x810, 28, 18⟩
/-- WDN_PS_CTRL.go (R458). -/
def WDN_PS_CTRL_go : Fld := ⟨0x810, 29, 29⟩
/-- WDN_PS_CTRL.shadow (R458). -/
def WDN_PS_CTRL_shadow : Fld := ⟨0x810, 30, 30⟩
/-- WDN_PS_STAT.busy (R458). -/
def WDN_PS_STAT_busy : Fld := ⟨0x814, 0, 0⟩
/-- WDN_PS_STAT.fallback (R458). -/
def WDN_PS_STAT_fallback : Fld := ⟨0x814, 1, 1⟩
/-- WDN_PS_STAT.nvwp (R458). -/
def WDN_PS_STAT_nvwp : Fld := ⟨0x814, 2, 2⟩
/-- WDN_PS_STAT.password_set (R458). -/
def WDN_PS_STAT_password_set : Fld := ⟨0x814, 3, 3⟩
/-- WDN_PS_STAT.unlocked (R458). -/
def WDN_PS_STAT_unlocked : Fld := ⟨0x814, 4, 4⟩
/-- WDN_PS_STAT.result (R458). -/
def WDN_PS_STAT_result : Fld := ⟨0x814, 7, 5⟩
/-- WDN_PS_STAT.good_sectors (R458). -/
def WDN_PS_STAT_good_sectors : Fld := ⟨0x814, 15, 8⟩
/-- WDN_PS_STAT.live_bytes (R458). -/
def WDN_PS_STAT_live_bytes : Fld := ⟨0x814, 31, 16⟩
/-- WDN_I3C_STAT.dyn_addr (R458). -/
def WDN_I3C_STAT_dyn_addr : Fld := ⟨0x818, 6, 0⟩
/-- WDN_I3C_STAT.addr_valid (R458). -/
def WDN_I3C_STAT_addr_valid : Fld := ⟨0x818, 7, 7⟩
/-- WDN_I3C_STAT.posn_in (R458). -/
def WDN_I3C_STAT_posn_in : Fld := ⟨0x818, 8, 8⟩
/-- WDN_I3C_STAT.posn_out (R458). -/
def WDN_I3C_STAT_posn_out : Fld := ⟨0x818, 9, 9⟩
/-- WDN_I3C_STAT.nacking (R458). -/
def WDN_I3C_STAT_nacking : Fld := ⟨0x818, 10, 10⟩
/-- IRQ_SRC.targets (R459). -/
def IRQ_SRC_targets (i : Nat) : Fld := ⟨0x50000 + 0x4 * i, 8, 0⟩
/-- IRQ_SRC.notify (R459). -/
def IRQ_SRC_notify (i : Nat) : Fld := ⟨0x50000 + 0x4 * i, 10, 9⟩
/-- IRQ_SRC.priority (R459). -/
def IRQ_SRC_priority (i : Nat) : Fld := ⟨0x50000 + 0x4 * i, 12, 11⟩
/-- IRQ_SRC.level (R459). -/
def IRQ_SRC_level (i : Nat) : Fld := ⟨0x50000 + 0x4 * i, 13, 13⟩
/-- IRQ_SRC.enable (R459). -/
def IRQ_SRC_enable (i : Nat) : Fld := ⟨0x50000 + 0x4 * i, 14, 14⟩
/-- IRQ_SRC.pending (R459). -/
def IRQ_SRC_pending (i : Nat) : Fld := ⟨0x50000 + 0x4 * i, 15, 15⟩
/-- IRQ_SRC.lost (R459). -/
def IRQ_SRC_lost (i : Nat) : Fld := ⟨0x50000 + 0x4 * i, 16, 16⟩
/-- IRQ_CLAIM.source (R459). -/
def IRQ_CLAIM_source (i : Nat) : Fld := ⟨0x50800 + 0x10 * i, 9, 0⟩
/-- IRQ_DONE.source (R459). -/
def IRQ_DONE_source (i : Nat) : Fld := ⟨0x50804 + 0x10 * i, 9, 0⟩
/-- IRQ_MOD.mod_count (R459). -/
def IRQ_MOD_mod_count (i : Nat) : Fld := ⟨0x50808 + 0x10 * i, 5, 0⟩
/-- IRQ_MOD.hold_us (R459). -/
def IRQ_MOD_hold_us (i : Nat) : Fld := ⟨0x50808 + 0x10 * i, 13, 6⟩
/-- IRQ_MOD.idle_us (R459). -/
def IRQ_MOD_idle_us (i : Nat) : Fld := ⟨0x50808 + 0x10 * i, 21, 14⟩
/-- IRQ_MOD.bypass_en (R459). -/
def IRQ_MOD_bypass_en (i : Nat) : Fld := ⟨0x50808 + 0x10 * i, 22, 22⟩
/-- SEQ_STAT.phase (R494). -/
def SEQ_STAT_phase : Fld := ⟨0x20000, 1, 0⟩
/-- SEQ_STAT.step (R494). -/
def SEQ_STAT_step : Fld := ⟨0x20000, 13, 2⟩
/-- SEQ_STAT.rom_program (R494). -/
def SEQ_STAT_rom_program : Fld := ⟨0x20000, 14, 14⟩
/-- SEQ_STAT.auto_on (R494). -/
def SEQ_STAT_auto_on : Fld := ⟨0x20000, 15, 15⟩
/-- SEQ_STAT.retries (R494). -/
def SEQ_STAT_retries : Fld := ⟨0x20000, 17, 16⟩
/-- SEQ_STAT.seqsync (R494). -/
def SEQ_STAT_seqsync : Fld := ⟨0x20000, 18, 18⟩
/-- SEQ_STAT.sync_state (R494). -/
def SEQ_STAT_sync_state : Fld := ⟨0x20000, 31, 19⟩
/-- SEQ_RAILS.en (R494). -/
def SEQ_RAILS_en : Fld := ⟨0x20004, 15, 0⟩
/-- SEQ_RAILS.pg (R494). -/
def SEQ_RAILS_pg : Fld := ⟨0x20004, 31, 16⟩
/-- SEQ_FAULT.kind (R494). -/
def SEQ_FAULT_kind : Fld := ⟨0x20008, 3, 0⟩
/-- SEQ_FAULT.rail (R494). -/
def SEQ_FAULT_rail : Fld := ⟨0x20008, 7, 4⟩
/-- SEQ_FAULT.step (R494). -/
def SEQ_FAULT_step : Fld := ⟨0x20008, 19, 8⟩
/-- SEQ_FAULT.count (R494). -/
def SEQ_FAULT_count : Fld := ⟨0x20008, 27, 20⟩
/-- SEQ_FAULT.valid (R494). -/
def SEQ_FAULT_valid : Fld := ⟨0x20008, 31, 31⟩
/-- SEQ_VIN.vin (R494). -/
def SEQ_VIN_vin : Fld := ⟨0x2000c, 11, 0⟩
/-- SEQ_VIN.lowest (R494). -/
def SEQ_VIN_lowest : Fld := ⟨0x2000c, 23, 12⟩
/-- SEQ_VIN.braced (R494). -/
def SEQ_VIN_braced : Fld := ⟨0x2000c, 24, 24⟩
/-- SEQ_VIN.valid (R494). -/
def SEQ_VIN_valid : Fld := ⟨0x2000c, 25, 25⟩
/-- SEQ_VIN.clear (R494). -/
def SEQ_VIN_clear : Fld := ⟨0x2000c, 31, 31⟩
/-- SEQ_SLEEP.t2_us (R494). -/
def SEQ_SLEEP_t2_us : Fld := ⟨0x20010, 7, 0⟩
/-- SEQ_SLEEP.t3_ms (R494). -/
def SEQ_SLEEP_t3_ms : Fld := ⟨0x20010, 15, 8⟩
/-- SEQ_SLEEP.p1_en (R494). -/
def SEQ_SLEEP_p1_en : Fld := ⟨0x20010, 16, 16⟩
/-- SEQ_SLEEP.p2_en (R494). -/
def SEQ_SLEEP_p2_en : Fld := ⟨0x20010, 17, 17⟩
/-- RST_CTRL.scope (R495). -/
def RST_CTRL_scope : Fld := ⟨0x30000, 2, 0⟩
/-- RST_CTRL.target (R495). -/
def RST_CTRL_target : Fld := ⟨0x30000, 5, 3⟩
/-- RST_CTRL.go (R495). -/
def RST_CTRL_go : Fld := ⟨0x30000, 6, 6⟩
/-- RST_STAT.last_cause (R495). -/
def RST_STAT_last_cause : Fld := ⟨0x30004, 4, 0⟩
/-- RST_STAT.last_scope (R495). -/
def RST_STAT_last_scope : Fld := ⟨0x30004, 7, 5⟩
/-- RST_STAT.trim_safe (R495). -/
def RST_STAT_trim_safe : Fld := ⟨0x30004, 8, 8⟩
/-- RST_STAT.interrupted_loads (R495). -/
def RST_STAT_interrupted_loads : Fld := ⟨0x30004, 10, 9⟩
/-- RST_STAT.clkpend (R495). -/
def RST_STAT_clkpend : Fld := ⟨0x30004, 28, 11⟩
/-- RST_STAT.gate_bypass (R495). -/
def RST_STAT_gate_bypass : Fld := ⟨0x30004, 29, 29⟩
/-- RST_COUNT.count (R495). -/
def RST_COUNT_count : Fld := ⟨0x30008, 31, 0⟩
/-- RST_HIST.cause (R495). -/
def RST_HIST_cause (i : Nat) : Fld := ⟨0x30040 + 0x4 * i, 4, 0⟩
/-- RST_HIST.scope (R495). -/
def RST_HIST_scope (i : Nat) : Fld := ⟨0x30040 + 0x4 * i, 7, 5⟩
/-- RST_HIST.detail (R495). -/
def RST_HIST_detail (i : Nat) : Fld := ⟨0x30040 + 0x4 * i, 12, 8⟩
/-- RST_HIST.cycle (R495). -/
def RST_HIST_cycle (i : Nat) : Fld := ⟨0x30040 + 0x4 * i, 31, 13⟩
/-- THM_DIE.temp (R509). -/
def THM_DIE_temp (i : Nat) : Fld := ⟨0x40000 + 0x4 * i, 11, 0⟩
/-- THM_DIE.level (R509). -/
def THM_DIE_level (i : Nat) : Fld := ⟨0x40000 + 0x4 * i, 13, 12⟩
/-- THM_DIE.peak (R509). -/
def THM_DIE_peak (i : Nat) : Fld := ⟨0x40000 + 0x4 * i, 27, 16⟩
/-- THM_ZONE.temp (R509). -/
def THM_ZONE_temp (i : Nat) : Fld := ⟨0x40040 + 0x4 * i, 11, 0⟩
/-- THM_ZONE.level (R509). -/
def THM_ZONE_level (i : Nat) : Fld := ⟨0x40040 + 0x4 * i, 13, 12⟩
/-- THM_ZONE.band (R509). -/
def THM_ZONE_band (i : Nat) : Fld := ⟨0x40040 + 0x4 * i, 16, 14⟩
/-- THM_ZONE.fault (R509). -/
def THM_ZONE_fault (i : Nat) : Fld := ⟨0x40040 + 0x4 * i, 17, 17⟩
/-- THM_ZONE.used (R509). -/
def THM_ZONE_used (i : Nat) : Fld := ⟨0x40040 + 0x4 * i, 18, 18⟩
/-- THM_STAT.die_warn (R510). -/
def THM_STAT_die_warn : Fld := ⟨0x400c0, 8, 0⟩
/-- THM_STAT.die_throttle (R510). -/
def THM_STAT_die_throttle : Fld := ⟨0x400c0, 17, 9⟩
/-- THM_STAT.last_thermal (R510). -/
def THM_STAT_last_thermal : Fld := ⟨0x400c0, 18, 18⟩
/-- THM_STAT.last_sensor (R510). -/
def THM_STAT_last_sensor : Fld := ⟨0x400c0, 24, 19⟩
/-- THM_STAT.recent (R510). -/
def THM_STAT_recent : Fld := ⟨0x400c0, 26, 25⟩
/-- THM_ZWARN.zones (R510). -/
def THM_ZWARN_zones : Fld := ⟨0x400c4, 31, 0⟩
/-- THM_ZTHR.zones (R510). -/
def THM_ZTHR_zones : Fld := ⟨0x400c8, 31, 0⟩
/-- PMC_CNT.count, hub block (R523). -/
def HUB_PMC_CNT_count (i : Nat) : Fld := ⟨0xb0000 + 0x4 * i, 31, 0⟩
/-- PMC_CNT.count, tile block (R523). -/
def TILE_PMC_CNT_count (t i : Nat) : Fld := ⟨0x150000 + 0x100000 * t + 0x4 * i, 31, 0⟩
/-- PMC_FILT.compartment, hub block (R523). -/
def HUB_PMC_FILT_compartment (i : Nat) : Fld := ⟨0xb0484 + 0x4 * i, 11, 0⟩
/-- PMC_FILT.enable, hub block (R523). -/
def HUB_PMC_FILT_enable (i : Nat) : Fld := ⟨0xb0484 + 0x4 * i, 12, 12⟩
/-- PMC_FILT.compartment, tile block (R523). -/
def TILE_PMC_FILT_compartment (t i : Nat) : Fld := ⟨0x150484 + 0x100000 * t + 0x4 * i, 11, 0⟩
/-- PMC_FILT.enable, tile block (R523). -/
def TILE_PMC_FILT_enable (t i : Nat) : Fld := ⟨0x150484 + 0x100000 * t + 0x4 * i, 12, 12⟩
/-- PMC_OVF.ovf, hub block (R523). -/
def HUB_PMC_OVF_ovf (i : Nat) : Fld := ⟨0xb0500 + 0x4 * i, 31, 0⟩
/-- PMC_OVF.ovf, tile block (R523). -/
def TILE_PMC_OVF_ovf (t i : Nat) : Fld := ⟨0x150500 + 0x100000 * t + 0x4 * i, 31, 0⟩
/-- PMC_HI.count, hub block (R523). -/
def HUB_PMC_HI_count : Fld := ⟨0xb0520, 31, 0⟩
/-- PMC_HI.count, tile block (R523). -/
def TILE_PMC_HI_count (t : Nat) : Fld := ⟨0x150520 + 0x100000 * t, 31, 0⟩

end F
end Sys2Proof.Machine
end

