-- ==== Sys2Proof/Machine/MediaTypes.lean ====
section
/-! DEFINITION. The plain data of a media package (02). -/
namespace Sys2Proof.Machine

/-- A command block as the package reads it (R63). -/
structure PkgCmd where
  op : Nat
  die : Nat
  tag : Nat
  grove : Nat
  line : Nat
  dense : Bool
  flag : Bool
  bucket : Nat
  band : Nat
  wave : Nat
  buf : Nat
  sheet : Nat
  args : Bytes
  data : Option Line
  deriving DecidableEq, Repr, Inhabited

/-- Whether a running dense program is suspended, and by what (R53, R54): asked for and not yet reached, or reached. -/
inductive Susp where
  | none
  | asked (byRead : Bool)
  | held (byRead : Bool)
  deriving DecidableEq, Repr, Inhabited

/-- A program that runs on a die (R52 to R56): its command, its suspension, the tags of SUSPEND commands that wait, the reads run in this suspension, the tags of ABORT and of RESUME commands that wait. -/
structure DieRun where
  cmd : PkgCmd
  susp : Susp
  suspTags : List Nat
  reads : Nat
  abortTags : List Nat
  resumeTags : List Nat
  deriving DecidableEq, Repr, Inhabited

/-- A die of a package (R39 to R51): its program, the array read in progress, its queue of four, its two sheet buffers, the lines whose content is defined (grove, mode, line), wear units per 256 cells (grove, chunk), reference entries loaded (bucket, band), the Glade second each sheet was programmed at (grove, sheet; R47), and the bad groves of its factory list (R40). -/
structure PkgDie where
  run : Option DieRun
  reading : Option PkgCmd
  queue : List PkgCmd
  bufs : Tbl (Nat × Nat) Line
  lines : Tbl (Nat × Bool × Nat) Line
  wear : Tbl (Nat × Nat) Nat
  refs : Tbl (Nat × Nat) (List Nat)
  born : Tbl (Nat × Nat) Nat
  bad : List Nat
  deriving DecidableEq, Repr, Inhabited

/-- A tag's state as the package holds it (R65, R69). -/
inductive TagState where
  | queued | running
  | done (status : Nat)
  deriving DecidableEq, Repr, Inhabited

/-- A media package (R39, R66, R69, R75). -/
structure Pkg where
  dies : List PkgDie
  tags : Tbl Nat TagState
  lastTag : Nat
  lastDie : Nat
  vmedLow : Bool
  cold : Bool
  deriving DecidableEq, Repr, Inhabited

/-- A die as it leaves the factory, and a package of four. -/
def PkgDie.fresh : PkgDie := ⟨none, none, [], [], [], [], [], [], []⟩
def Pkg.fresh : Pkg := ⟨[PkgDie.fresh, PkgDie.fresh, PkgDie.fresh, PkgDie.fresh], [], 0, 0, false, true⟩

end Sys2Proof.Machine
end

