-- ==== Sys2Proof/Machine/RomProgram.lean ====
section
/-! DEFINITION. The sequencer program in ROM (15, R470). -/
namespace Sys2Proof.Machine

/-- The ROM default program (R470): every rail auto and required, the VTILE of an absent tile unused. -/
def romProgram (tiles : Nat) : Prog :=
  let d (deps : List Nat) (on dis settle : Nat) : DepEntry := ⟨(deps.map (fun j => 2 ^ j)).sum, 1, true, on, dis, settle⟩
  { autoOn := true, downStart := 4
    deps := [default, d [] 20 10 10] ++
      (upto 8).map (fun t => if t < tiles then d [1, 10] 20 10 0 else default) ++
      [d [] 20 10 10, d [1] 20 20 10, d [1, 11] 20 10 0, d (11 :: (upto tiles).map (· + 2)) 20 10 0, d [13] 50 50 100, d [1] 20 20 0]
    steps := [⟨0x04, 2 * 50 + 1, 0⟩, ⟨0x07, 100, 1⟩, ⟨0x06, 0, 0⟩, ⟨0x0F, 0, 0⟩, ⟨0x02, 14, 0⟩, ⟨0x07, 20, 1⟩, ⟨0x0F, 0, 0⟩] }

end Sys2Proof.Machine
end

