-- ==== Sys2Proof/Machine/TileTypes.lean ====
section
/-! DEFINITION. The plain data of the tiles, of the media channels as the device drives them, of host requests, logical devices and queues (01, 02, 04 to 10). -/
namespace Sys2Proof.Machine

/-! ## Places and line-stripes (06, 07) -/

/-- A place: stripe group, die index, place number (R224). -/
structure Place where
  group : Nat
  die : Nat
  num : Nat
  deriving DecidableEq, Repr, Inhabited

/-- The place states of R225. -/
inductive PState where
  | system | mapped | lent | free | dead
  deriving DecidableEq, Repr, Inhabited

/-- A place record (R227): wear, retired furrows (16 × grove + furrow), state. -/
structure PlaceRec where
  wear : Nat
  furrows : List Nat
  state : PState
  deriving DecidableEq, Repr, Inhabited

/-- A line-stripe: one line of one grove on a die index of the 16 channels of a group (R196, R202). -/
structure Stripe where
  group : Nat
  die : Nat
  grove : Nat
  line : Nat
  dense : Bool
  deriving DecidableEq, Repr, Inhabited

/-- A stem map entry (R230), and what the trailer of its place holds (R238, R251): the furrows its patch table covers, and the leaves written as zero lines, whose bits its leaf bitmap has clear. -/
structure StemEnt where
  place : Place
  valid : Bool
  ageUnknown : Bool
  poisoned : Bool
  prog : Nat
  live : Nat
  copySeq : Nat
  patched : List Nat
  blank : List Nat
  deriving DecidableEq, Repr, Inhabited

/-- A leaf map entry (R232). -/
structure LeafEnt where
  offset : Nat
  grove : Nat
  place : Place
  valid : Bool
  zero : Bool
  poisoned : Bool
  gen : Nat
  deriving DecidableEq, Repr, Inhabited

/-- A map line or counter line: stem map line (4 entries), leaf map line (8 entries), tree node (R230, R232, R335). -/
inductive MapKey where
  | stem (n : Nat)
  | leaf (n : Nat)
  | node (comp level idx : Nat)
  deriving DecidableEq, Repr, Inhabited

/-! ## The tile's memories -/

/-- A host entry of the write catch (R190, R195, R329): line index, compartment, media line, version, sent, eligible, and the master whose write it holds (R393). -/
structure CatchEnt where
  line : Nat
  comp : Nat
  media : Line
  ver : Nat
  sent : Bool
  eligible : Bool
  master : Nat
  deriving DecidableEq, Repr, Inhabited

/-- A way of the tile cache, or a victim (R302, R308): line index, key, generation, locked, clear, plaintext; whether a victim has left for the medium (R308). -/
structure CacheLine where
  line : Nat
  key : Nat
  gen : Nat
  locked : Bool
  clear : Bool
  data : HostLine
  left : Bool
  deriving DecidableEq, Repr, Inhabited

/-- A counter tree node in the counter cache (R334 to R336): its eight counters, and whether it is dirty. -/
structure Node where
  comp : Nat
  level : Nat
  idx : Nat
  vals : List Nat
  dirty : Bool
  deriving DecidableEq, Repr, Inhabited

/-- A map line or node being fetched (R162, R235, R336, R339): which copy is read (0 or 1), and whether it decoded once it is there. -/
structure Fetch where
  key : MapKey
  copy : Nat
  raw : Option Bool
  master : Nat
  deriving DecidableEq, Repr, Inhabited

/-- A frond of the understorey log (R196, R233). -/
structure Frond where
  place : Place
  grove : Nat
  deriving DecidableEq, Repr, Inhabited

/-- A line-stripe of the log that is being filled or programmed (R198): its number in the log, the data lines by position in the stripe, members still to complete, whether it is programmed, whether one failed, and the master and compartments it is charged to. -/
structure LogStripe where
  num : Nat
  lines : List (Nat × Line)
  waiting : List Nat
  sent : Bool
  failed : Bool
  master : Nat
  comps : List Nat
  deriving DecidableEq, Repr, Inhabited

/-- A leaf taken by destage and not yet switched (R197, R199): leaf index, generation, first log position, lines taken with their versions, whether the re-append keeps no catch line. -/
structure Destage where
  leaf : Nat
  comp : Nat
  gen : Nat
  pos : Nat
  taken : List (Nat × Nat)
  deriving DecidableEq, Repr, Inhabited

/-- A structure line of the hub (R225, R257, R321): of the place table, the deadwood list, the key shelf or the slot generation table. -/
inductive HubKey where
  | places (n : Nat)
  | deadwood (n : Nat)
  | shelf (n : Nat)
  | generations (n : Nat)
  deriving DecidableEq, Repr, Inhabited

/-- Lookups of a cache: the millisecond they fall in, their number, the hits among them, and the rate in the last complete millisecond before it (R262, R352). -/
structure Meter where
  ms : Nat
  looks : Nat
  hits : Nat
  last : Nat
  deriving DecidableEq, Repr, Inhabited

/-- Why a stem copy runs (R203, R208, R246, R254, R240): `unaged` is the refresh of a stem of unknown age that is not due (R209). -/
inductive CopyWhy where
  | migration | refresh | unaged | wear | retire | empty
  deriving DecidableEq, Repr, Inhabited

/-- Where a copy takes a leaf from (R203). -/
inductive LeafSrc where
  | und (e : LeafEnt)
  | stem
  | zero
  deriving DecidableEq, Repr, Inhabited

/-- A stem copy (R203 to R206): slot, reason, destination, source entry, leaf sources, program time once a sheet program has started (R206), members verified per started sheet-stripe, sheets under program, sheets whose program has ended OK and that wait for their read-back, and whether its source is to become Dead (R254). -/
structure Copy where
  slot : Nat
  comp : Nat
  stem : Nat
  why : CopyWhy
  dest : Place
  src : StemEnt
  leaves : List LeafSrc
  prog : Option Nat
  marks : List Nat
  running : List (Nat × Nat)
  ended : List (Nat × Nat)
  killSource : Bool
  deriving DecidableEq, Repr, Inhabited

/-- The entries of a dirty map line as a litter holds them. -/
inductive MapSnap where
  | stems (l : List (Nat × StemEnt))
  | leaves (l : List (Nat × LeafEnt))
  | node (v : Option (List Nat × Nat))
  deriving DecidableEq, Repr, Inhabited

/-- A litter half (R213, R214): its flush sequence, power-cycle count and operating seconds, the data lines in order (compartment, poisoned, media line), map lines, whether it is sealed, and whether it is released; the time from Commit to the seal in units of 8 µs (R223). -/
structure LitterHalf where
  seq : Nat
  pwrcyc : Nat
  opsec : Nat
  hosts : List CatchEnt
  maps : List (MapKey × MapSnap)
  sealed_ : Bool
  released : Bool
  written : Bool
  time : Nat
  deriving DecidableEq, Repr, Inhabited

/-- A range operation (R312 to R316). -/
structure RangeOp where
  op : Nat
  force : Bool
  comp : Nat
  first : Nat
  count : Nat
  badLine : Bool
  leaves : List Nat
  deriving DecidableEq, Repr, Inhabited

/-- What the checker is doing (R297 to R301). -/
inductive ChkOp where
  | none | opening | writing | reading
  deriving DecidableEq, Repr, Inhabited

/-- The checker (R297 to R301): scratch place, operation, members still to program, a program failed, line read. -/
structure Checker where
  place : Option Place
  op : ChkOp
  waiting : Nat
  failed : Bool
  deriving DecidableEq, Repr, Inhabited

/-- The read-around and media read counts of the running 10 µs window (R173). -/
structure Window where
  reads : Nat
  arounds : Nat
  deriving DecidableEq, Repr, Inhabited

/-- Regulation on a tile (12): slots used in the window by master, those of tier 5 among them, by channel and by class, effective guarantees and capacity, sums of the span (due, received, waited) and its windows gone, whose turn it is, and the masters' shares and the classes the window runs under (R398). -/
structure Qos where
  used : Tbl Nat Nat
  extra : Tbl Nat Nat
  chanUsed : Tbl Nat Nat
  classUsed : Tbl Nat Nat
  eff : List Nat
  cap : Nat
  due : Tbl Nat Nat
  got : Tbl Nat Nat
  waited : List Nat
  windows : Nat
  turn : Nat
  shares : List Share
  classes : List Share
  deriving DecidableEq, Repr, Inhabited

/-- A tile. -/
structure Tile where
  /-- held in reset (R25, R33) -/
  held : Bool
  /-- sleep depth T0 to T3, depth being entered, waking (R20, R489, R490) -/
  depth : Nat
  entering : Option Nat
  waking : Bool
  /-- host entries, oldest first, dirty map lines, oldest first, and those that leave for the medium because the catch holds 4,096 (R190, R215) -/
  catchQ : List CatchEnt
  mapQ : List MapKey
  mapOut : List MapKey
  /-- tile cache and victim buffer, least recently used first (R302, R308) -/
  cache : List CacheLine
  victims : List CacheLine
  /-- lines installed by prefetch and not yet asked for (17, event 53) -/
  prefetched : List Nat
  /-- leaf map lines in the leaf map cache, least recently used first (R234) -/
  lmc : List Nat
  /-- stem slots fetched while the map is not resident (R163); stem map lines a running census rebuilds (R235) -/
  stemHeld : List Nat
  census : List Nat
  /-- hit rates: 0 leaf map cache, 1 key cache, 2 twigs of the counter cache (R262, R352) -/
  meters : Tbl Nat Meter
  /-- key cache: key index and generation, least recently used first (R322); unwraps asked for -/
  keys : List (Nat × Nat)
  unwraps : List Nat
  /-- counter cache, least recently used first; boles; unverifiable nodes; leases by compartment (R332 to R340) -/
  nodes : List Node
  boles : Tbl Nat (List Nat)
  bolesChanged : List Nat
  badNodes : List (Nat × Nat × Nat)
  leases : Tbl Nat (Nat × Nat)
  fetches : List Fetch
  /-- tree nodes as last written through the map entries: counters and version (R335); and as their copies on the medium were last written -/
  store : Tbl (Nat × Nat × Nat) (List Nat × Nat)
  kept : Tbl (Nat × Nat × Nat) (List Nat × Nat)
  /-- presence filter: every bit set, or the bits set (R236, R237) -/
  filterAll : Bool
  filter : List Nat
  /-- compartment directory, stem map, leaf map (R229, R230, R232) -/
  dir : Tbl Nat (Nat × Nat)
  stems : Tbl Nat StemEnt
  leaves : Tbl Nat LeafEnt
  /-- the understorey log: fronds from the tail on, number of the tail frond, tail and head positions (R196, R233) -/
  fronds : List Frond
  tailFrond : Nat
  tail : Nat
  head : Nat
  logStripes : List LogStripe
  destages : List Destage
  /-- leaves to destage ahead of others (R254, R281, R312) -/
  urgent : List Nat
  copies : List Copy
  refreshDue : List Nat
  /-- stems to copy for retirement, wear levelling or an all-discarded stem (R240, R246, R254) -/
  copyQueue : List (Nat × CopyWhy)
  /-- free places dealt to the tile (R244) -/
  batch : List Place
  /-- age-unknown slots whose sweep has recorded a bucket (R182) -/
  swept : List Nat
  /-- next wear levelling slot, and the lowest-wear slot found (R246) -/
  levelAt : Nat
  levelBest : Option Nat
  /-- scrub position: line-stripes done in the pass, the persisted position, line-stripes of the pass (R284 to R287) -/
  scrubAt : Nat
  scrubSaved : Nat
  range : Option RangeOp
  checker : Checker
  /-- re-key boundaries by re-key slot: lines passed, and as persisted (R346, R348) -/
  bounds : Tbl Nat Nat
  boundsSaved : Tbl Nat Nat
  litter : List LitterHalf
  flushSeq : Nat
  /-- the litter has been replayed since the last reset that lost the catch (R217, R474) -/
  replayed : Bool
  /-- line-stripes written while a tile was out: out tile, line-stripe (R30) -/
  rebuild : List (Nat × Stripe)
  rebuildTotal : Nat
  window : Window
  qos : Qos
  /-- scheduler slots used since the last cycle that was counted (17, R516) -/
  slots : Nat
  /-- the tile's copy of the fine time less the hub's count (R406) -/
  fineOff : Int
  deriving DecidableEq, Repr

/-! ## Channels as the device drives them (02) -/

/-- What a command on a channel is for. -/
inductive For where
  /-- a read of a media read operation: its number, the stripe member -/
  | read (op member : Nat)
  /-- a member of a line-stripe of tile t's log -/
  | log (t num member : Nat)
  /-- a line of a sheet buffer, and a member sheet, of a stem copy -/
  | load (t slot stripe member : Nat)
  | sheet (t slot stripe member : Nat)
  /-- a structure line, a rebuilt member, a checker line -/
  | structure
  | rebuilt
  | checker (t : Nat)
  /-- suspension, abort, references, polls -/
  | control
  deriving DecidableEq, Repr, Inhabited

/-- A command waiting for issue, or outstanding (12, R393, R394): block, purpose, master, compartment it is attributed to, whether R393 charges it as a host port's read, whether it is tier 2 work, and the wasted-slot event it counts, if any (17, R516). -/
structure MCmd where
  cmd : PkgCmd
  what : For
  master : Nat
  comps : List Nat
  read : Bool
  urgent : Bool
  wasted : Option Nat
  deriving DecidableEq, Repr, Inhabited

/-- An outstanding command (R71 to R73): its tag, how often it was reissued, whether a STATUS query for it is out, how many queries in a row reported it queued or running, and whether the 40 µs wait of its last sending has ended. -/
structure Sent where
  m : MCmd
  tag : Nat
  reissues : Nat
  asked : Bool
  polls : Nat
  /-- not reissued again (R72) -/
  stuck : Bool
  waited : Bool
  deriving DecidableEq, Repr, Inhabited

/-- A channel (02): waiting and outstanding commands, tags that stay in use (R73), last vectors, dies made busy since, suspensions of the running program by die, reads run in a suspension, dies alive and dies retired, unanswered sendings in a row by die, whether other dies answered since the run began, Recoveries failed in a row and within the second, VMED was lost and the references are to be loaded, and the channel was found Down and recorded (R74). -/
structure Chan where
  waiting : List MCmd
  sent : List Sent
  nextTag : Nat
  lockedTags : List Nat
  ready : Nat
  susp : Nat
  running : Tbl Nat MCmd
  suspended : Tbl Nat Nat
  suspReads : Tbl Nat Nat
  present : Nat
  alive : Nat
  retired : Nat
  silent : Tbl Nat Nat
  others : List Nat
  recFails : Nat
  recRecent : List Nat
  vmedLost : Bool
  downNoted : Bool
  deriving DecidableEq, Repr, Inhabited

/-! ## Media read operations (05) -/

/-- Who waits for a media read. -/
inductive OpFor where
  | req (id : Nat)
  | prefetch (line comp master : Nat)
  | map (t : Nat) (k : MapKey) (copy : Nat)
  deriving DecidableEq, Repr, Inhabited

def OpFor.isPrefetch : OpFor → Bool
  | .prefetch _ _ _ => true
  | _ => false
def OpFor.isMap : OpFor → Bool
  | .map _ _ _ => true
  | _ => false

/-- How the line is being read (R168, R169, R177, R182). -/
inductive Phase where
  | direct
  | around
  | recover
  | reread (up : Bool)
  | sweep (k : Nat)
  deriving DecidableEq, Repr, Inhabited

/-- A media read (R159 steps 5 to 7): serving tile, home tile, target, path, gathered members (none for a missing or uncorrectable one), bucket and band named, formats accepted, master, compartment, the best sweep try so far (bits, bucket, line), PMC path, and whether an error was met. -/
structure Op where
  id : Nat
  tile : Nat
  home : Nat
  who : OpFor
  stripe : Stripe
  member : Nat
  phase : Phase
  got : List (Nat × Option Line)
  bucket : Nat
  band : Nat
  formats : List Nat
  master : Nat
  comps : List Nat
  path : Nat
  errored : Bool
  tagBad : Bool
  best : Option (Nat × Nat × Line)
  slot : Nat
  gen : Nat
  deriving DecidableEq, Repr, Inhabited

/-! ## Host requests (04, 05, 06) -/

inductive ReqKind where
  | read | write | partialWrite
  deriving DecidableEq, Repr, Inhabited

/-- A response ready to leave. -/
inductive Resp where
  | data (d : HostLine)
  | poison
  | cmp
  | error
  deriving DecidableEq, Repr, Inhabited

/-- What a request at its tile waits for (R160, R162, R322, R336). -/
inductive Wait where
  | key (k : Nat)
  | map (k : MapKey)
  | op (id : Nat)
  | line
  deriving DecidableEq, Repr, Inhabited

/-- Where a request is: held at the hub (R22, R25, R114, R194), at its tile, or answered and paced (R184). -/
inductive Stage where
  | held
  | active
  | paced (r : Resp)
  deriving DecidableEq, Repr, Inhabited

/-- A host request as the hub's copy holds it (R23): path is the trace code of R411; mapped and woke are the flags of a map fetch and of wake time, looked that its lookups have been counted. -/
structure Req where
  id : Nat
  port : Nat
  ld : Nat
  tag : Nat
  kind : ReqKind
  data : HostLine
  enables : Nat
  line : Nat
  comp : Nat
  tile : Nat
  epoch : Nat
  stage : Stage
  waits : List Wait
  path : Nat
  late : Bool
  fine : Nat
  trace : Option (Nat × Nat × Nat)
  mapped : Bool
  woke : Bool
  looked : Bool
  deriving DecidableEq, Repr, Inhabited

/-- A record of a CXL event log (R139): handle, kind, DPA, whether redacted, compartment, the data of a vendor or link record, and the timestamp. -/
inductive CxlKind where
  | media | module | unmapped | key | visible | link
  deriving DecidableEq, Repr, Inhabited

structure CxlRec where
  handle : Nat
  kind : CxlKind
  dpa : Option Nat
  comp : Option Nat
  type : Nat
  time : Nat
  deriving DecidableEq, Repr, Inhabited

/-- One of the four event logs of a logical device (R139). -/
structure CxlLog where
  recs : List CxlRec
  next : Nat
  overflow : Bool
  dropped : Nat
  vector : Option Nat
  firstOver : Nat
  lastOver : Nat
  deriving DecidableEq, Repr, Inhabited

/-- A logical device (R127 to R141): logs Informational, Warning, Failure, Fatal; timestamp and the fine time it was set at; shutdown state; spare threshold; label area by offset; background command; scan results; unmapped responses counted since the last record, and the second of that record; configuration values written. -/
structure Ld where
  logs : List CxlLog
  timestamp : Nat
  tsFine : Nat
  dirty : Bool
  spareAlert : Nat
  lsa : Tbl Nat Byte
  bg : Option Nat
  scan : List Nat
  unmappedAt : Option Nat
  unmappedMore : Nat
  config : Tbl Nat Nat
  msixPending : List Nat
  deriving DecidableEq, Repr, Inhabited

/-- A link of a host port: whether CXL is up, in L1, its IDE streams: stream number and whether it is Secure (R125, R134, R491). -/
structure HLink where
  up : Bool
  cxl : Bool
  l1 : Bool
  ide : Tbl Nat Bool
  deriving DecidableEq, Repr, Inhabited

/-- A keyed-access queue descriptor in the device (R146, R151, R153): number, bytes, SQ index, whether it passed its checks and runs, lines done, first failing line, failing lines, status once it has ended. -/
structure Desc where
  num : Nat
  op : Nat
  flags : Nat
  cid : Nat
  dkey : Nat
  skey : Nat
  dst : Nat
  src : Nat
  len : Nat
  pattern : Nat
  head : Nat
  status : Option Nat
  done : Nat
  firstBad : Option Nat
  bad : Nat
  deriving DecidableEq, Repr, Inhabited

/-- A queue pair (R145 to R154). -/
structure Queue where
  port : Nat
  ld : Nat
  depth : Nat
  irq : Bool
  vector : Nat
  sq : Nat
  cq : Nat
  tail : Nat
  head : Nat
  cqHead : Nat
  cqTail : Nat
  phase : Bool
  fetching : Bool
  descs : List Desc
  next : Nat
  error : Option Nat
  deleting : Bool
  ended : List Nat
  lastBad : Nat
  deriving DecidableEq, Repr, Inhabited

/-! ## Keys, re-keys, retirement, error records (07, 08, 10) -/

/-- A key slot (R319 to R321): state 0 Empty, 1 Active, 2 Destroyed; generation; binding (none: every LD); creation stamp; wrapped key in the shelf. -/
structure Slot where
  state : Nat
  gen : Nat
  bound : Option (Nat × Nat)
  opsec : Nat
  pwrcyc : Nat
  key : BitVec 256
  deriving DecidableEq, Repr, Inhabited

/-- A re-key overlay run (R345). -/
structure OverRun where
  comp : Nat
  start : Nat
  count : Nat
  key : Nat
  deriving DecidableEq, Repr, Inhabited

/-- A running re-key (R346 to R350): compartment, range in 2 MiB units, old and new key, the mailbox that started it. -/
structure Rekey where
  slot : Nat
  comp : Nat
  start : Nat
  count : Nat
  old : Nat
  new : Nat
  iface : Nat
  ld : Nat
  deriving DecidableEq, Repr, Inhabited

/-- A sealed taproot set (R343): generation, power-cycle count, operating seconds, records by compartment (bole versions, bound, flags), re-key records. -/
structure SealSet where
  gen : Nat
  pwrcyc : Nat
  opsec : Nat
  roots : Tbl Nat (List Nat)
  bounds : Tbl Nat Nat
  flags : Tbl Nat Nat
  rekeys : Bytes
  deriving DecidableEq, Repr, Inhabited

/-- A running retirement (R253 to R256): kind, cause, places made Dead so far, host stems and leaves to move at its start, mailbox, channel and die. -/
structure Retiring where
  kind : Nat
  cause : Nat
  places : List Place
  stems : List (Nat × Nat)
  leaves : List (Nat × Nat)
  total : Nat
  chan : Nat
  die : Nat
  iface : Nat
  ld : Nat
  byHost : Bool
  entry : Nat
  first : Option Nat
  dead : Nat
  deriving DecidableEq, Repr, Inhabited

/-- A deadwood entry (R257). -/
structure Deadwood where
  kind : Nat
  cause : Nat
  grove : Nat
  furrow : Nat
  unit : Nat
  opsec : Nat
  pwrcyc : Nat
  deriving DecidableEq, Repr, Inhabited

/-- A media error record (R289). -/
structure MErr where
  num : Nat
  type : Nat
  det : Nat
  flags : Nat
  line : Option Nat
  comp : Option Nat
  chan : Option Nat
  die : Nat
  member : Nat
  grove : Nat
  granules : Nat
  most : Nat
  bits : Nat
  opsec : Nat
  pwrcyc : Nat
  fine : Nat
  occ : Nat
  deriving DecidableEq, Repr, Inhabited

/-- Counts of the health report that no register holds (R258). -/
structure Health where
  corrected : Nat
  scrubRewritten : Nat
  reconstructed : Nat
  uncorrectable : Nat
  denseFail : Nat
  readbackFail : Nat
  fastFail : Nat
  recoveries : Nat
  dirtyShutdowns : Nat
  arounds : Tbl Nat Nat
  spareBlocks : Tbl Nat Nat
  yields : Tbl Nat Nat
  deriving DecidableEq, Repr, Inhabited

/-- Peak and minimum sample of a sensor, with the operating seconds and the power-cycle count of the peak (16, R508). -/
structure TempHist where
  peak : Int
  low : Int
  opsec : Nat
  cycle : Nat
  deriving DecidableEq, Repr, Inhabited

/-! ## Stand images and the live apply (03) -/

/-- An image slot's content and the slot record's entry (R83, R108; log 21). -/
structure ImgSlot where
  bytes : Bytes
  signer : Nat
  keyId : Nat
  key : Bytes
  deriving DecidableEq, Repr, Inhabited

/-- A live apply (R111 to R118): whether it is a return, its image, whether the comparison runs, the changed compartments and those a placement-bearing change concerns, switch orders given, forced holds with the fine time each began, compartments switched (latest last), whether the commit or a roll-back runs, and the longest hold of the roll-back. -/
structure Apply where
  isReturn : Bool
  img : Img
  comparing : Bool
  changed : List Nat
  placement : List Nat
  ordered : List Nat
  forced : List (Nat × Nat)
  switched : List Nat
  committing : Bool
  rolling : Bool
  longest : Nat
  deriving DecidableEq, Repr, Inhabited

/-- A slot record (R83, R108): its generation number, whether it is complete and its check holds, the slots by role, the apply_at_resume mark and the epoch floor. The fall-back flag and the return floor are those of its Active image. -/
structure SlotRec where
  gen : Nat
  whole : Bool
  active : Option ImgSlot
  prev : Option ImgSlot
  staged : Option ImgSlot
  mark : Bool
  floor : Nat
  deriving DecidableEq, Repr, Inhabited

/-- The stand image store (R83 to R109): the slot record in force with its generation, the record that is being written beside it, the stage transfer (interface, LD, bytes), the check that runs (interface, LD; 1 after a load, 0 a verify) and the apply. The fall-back flag and the return floor are those of the Active image (R108, R109, R119). -/
structure ImgStore where
  gen : Nat
  active : Option ImgSlot
  prev : Option ImgSlot
  staged : Option ImgSlot
  mark : Bool
  floor : Nat
  next : Option SlotRec
  xfer : Option (Nat × Nat × Bytes)
  checking : Option (Nat × Nat)
  checkFor : Nat
  apply : Option Apply
  deriving DecidableEq, Repr, Inhabited

end Sys2Proof.Machine
end

