-- ==== Sys2Proof/Machine/State.lean ====
section
/-! DEFINITION. The state of the device and of its media packages, its stops, and the state after reset. -/
namespace Sys2Proof.Machine

/-- Reasons a command stops with a fault: none; every command of the table has an effect the spec gives. The constructor stands for a state no meaning reaches; a stop there would be safe. -/
inductive Fault where
  | unreachable
  deriving DecidableEq, Repr

/-- Reasons a command is refused. -/
inductive Refusal where
  /-- Raised by exec for a command that has no meaning yet; safe. -/
  | notModelled (mnemonic : String)
  deriving DecidableEq, Repr

/-- The state of the block. Each field names the rules that give it. -/
structure State where
  /-- member and serial (R1, R2) -/
  dev : Dev
  /-- security fuses (R366 to R375, R437) -/
  fuses : Fuses
  /-- the keys regenerated from them, and their certificate chains (R376, R386) -/
  vault : Vault
  /-- the management registers that differ from their cold reset value, by address (R6, R527, R528) -/
  regs : List (Nat × Word)
  /-- the Glade domain (R402, R404, R426) -/
  glade : Glade
  /-- fine time, and the operating second at each noted second boundary (R405, R417) -/
  fine : Nat
  opNotes : List (Nat × Nat)
  /-- next sequence number of each source (R408) -/
  seqNo : Tbl Nat Nat
  power : Power
  clocks : Clocks
  resets : List ResetReq
  /-- the active stand image, parsed (R86 to R102), and the image store (R83) -/
  active : Option Img
  img : ImgStore
  /-- the epoch of the switch that created a compartment (R376) -/
  compBorn : Tbl Nat Nat
  rights : Rights
  evf : List FifoItem
  evfHand : List FifoItem
  log : RingLog
  trace : Trace
  ps : ParamStore
  fw : Firmware
  irq : Irq
  sb : Sideband
  usb4 : Bool
  tap : Tap
  /-- the newest samples of each sensor, at most three, newest first (R496, R498) -/
  thm : Tbl Nat (List Int)
  /-- peaks of the temperature history by sensor (R508); its seconds are glade.history -/
  hist : Tbl Nat TempHist
  /-- media packages by global channel (02) -/
  pkgs : Tbl Nat Pkg
  /-- the device's side of the channels (02) -/
  chans : Tbl Nat Chan
  /-- the tiles (01, 05 to 10) -/
  tiles : List Tile
  /-- hub copies of requests in the order they arrived (R22, R23) -/
  reqs : List Req
  nextReq : Nat
  /-- media reads in progress (R159, R169) -/
  ops : List Op
  nextOp : Nat
  /-- switch reservations: holder tile, media read (R16) -/
  reservations : List (Nat × Nat)
  packageFault : Bool
  /-- host links by (port, link), logical devices by (port, LD), queue pairs (04) -/
  links : Tbl (Nat × Nat) HLink
  lds : Tbl (Nat × Nat) Ld
  queues : Tbl Nat Queue
  /-- key slots (R319 to R321), counter allocators and taproots by compartment (R332, R334), sealed sets: the two halves of the root bay and the seedbank's (R343, R344) -/
  slots : Tbl Nat Slot
  allocs : Tbl Nat Nat
  roots : Tbl Nat (List Nat)
  rerooted : List Nat
  sealBay : List SealSet
  sealBook : List SealSet
  sealing : Option SealSet
  rootsAccepted : Bool
  overlay : List OverRun
  rekeys : List Rekey
  /-- the place table, spare base, deadwood list, retirement, dies that wait for one (R225 to R257) -/
  places : Tbl Place PlaceRec
  spareBase : Nat
  readOnly : Bool
  retiredChans : List Nat
  deadwood : List Deadwood
  retiring : Option Retiring
  retireQueue : List (Nat × Nat)
  /-- transfers a word of which arrived with a double-bit error; true once the repeat has failed too, or none is due (R283) -/
  lostWords : List (Transfer × Bool)
  /-- structure lines of the hub that have changed and are to be written (R225), and how many sealed ones have been (R376) -/
  hubQ : List HubKey
  hubSeq : Nat
  /-- media error records, newest first, and the poison list: line, injected (R289 to R294) -/
  errs : List MErr
  errNext : Nat
  poison : List (Nat × Bool)
  poisonOver : Option Nat
  health : Health
  /-- the medium is formatted anew at the next cold reset (R372) -/
  reformat : Bool
  /-- what the device and the packages have sent, newest first -/
  out : List Output
  /-- free values drawn so far (the model's own field, log 10) -/
  freeCtr : Nat
  /-- commands waiting, first in first out (the model's own field) -/
  pending : List Instr
  deriving DecidableEq, Repr

/-! ## The state after reset (log 1): a part of eight tiles, Unowned, in the phase On after the cold reset of its first power-up, before any image is checked. -/

/-- The window, regulation and checker of a tile at rest. -/
def Qos.fresh : Qos := ⟨[], [], [], [], [], 0, [], [], [], 0, 0, [], []⟩
def Checker.fresh : Checker := ⟨none, .none, 0, false⟩

/-- A litter half that holds nothing: as a released one (R213, R217). -/
def LitterHalf.fresh : LitterHalf := ⟨0, 0, 0, [], [], true, true, false, 0⟩

/-- A tile with empty memories, running; every bit of its presence filter set (R237). -/
def Tile.fresh : Tile :=
  { held := false, depth := 0, entering := none, waking := false, catchQ := [], mapQ := [], mapOut := [], cache := [], victims := []
    prefetched := [], lmc := [], stemHeld := [], census := [], meters := [], keys := [], unwraps := [], nodes := [], boles := [], bolesChanged := []
    badNodes := [], leases := [], fetches := [], store := [], kept := [], filterAll := true, filter := [], dir := [], stems := []
    leaves := [], fronds := [], tailFrond := 0, tail := 0, head := 0, logStripes := [], destages := [], urgent := []
    copies := [], refreshDue := [], copyQueue := [], batch := [], swept := [], levelAt := 0, levelBest := none, scrubAt := 0
    scrubSaved := 0, range := none, checker := Checker.fresh, bounds := [], boundsSaved := []
    litter := [LitterHalf.fresh, LitterHalf.fresh], flushSeq := 0, replayed := false, rebuild := [], rebuildTotal := 0, window := ⟨0, 0⟩
    qos := Qos.fresh, slots := 0, fineOff := 0 }

/-- The pins of a part on a board in use: RST#, MRST#, PERST#, NVWP#, POSN_IN and SEQSYNC high, HPBIF low (18, R524; log 1). -/
def Pins.atRest : Pins := ⟨true, true, [true, true, true, true], true, true, [false, false, false, false], true⟩

/-- A rail that is on, and one that is off. -/
def Rail.up : Rail := ⟨true, true, true, false⟩
def Rail.down : Rail := ⟨false, false, false, true⟩

/-- The supplies after a power-up of the ROM default program: rails 0 to 15 (R460, R470). -/
def Power.atReset : Power :=
  { rails := List.replicate 16 Rail.up, program := romProgram 8, wait := .ready, safe := 0, order := [], flushing := false
    flushed := false, committed := false, commitFine := 0, braceFine := 0, braceLow := 0, released := true, minOff := true
    after := .valid, pins := Pins.atRest, pressed := false, pstate := 0, vin := 12000, vinValid := true }

def Clocks.atReset : Clocks := ⟨[], 0, false, false, false, false, false, false⟩

/-- The Glade domain at its first start, in the first power cycle (log 5). -/
def Glade.atReset : Glade :=
  { elapsed := 0, opsec := 0, pwrcyc := 1, floorCopy := none, committed := none, pendingDigest := none, leases := [], bands := []
    history := [], rates := [], buffer := [], bufDrops := 0, bufGap := 0, program := none, shutdowns := [], fallback := none, lost := false }

/-- The spare base of a device of eight tiles without factory-dead places (R242). -/
def spareBaseAtReset : Nat := 62660480
/-- The record of the first format of the device (R242, R428): its spare base, and no factory-dead place (log 1). -/
def firstFormat (heart : Bool) (number : Nat) : LogRec :=
  { code := 0x0006, src := 0, redacted := false, rounded := false, heart := heart, fromGlade := false, number := number, seq := 0, opsec := 0, pwrcyc := 1, fine := 0, suppressed := 0
    data := fit 28 (le 8 spareBaseAtReset ++ le 8 0) }
/-- The ring log holds the record of the first format, and its heartwood copy (R420, R421, R428). -/
def RingLog.atReset : RingLog := ⟨[.held (firstFormat true 2)], [[.held (firstFormat false 1)]], 0, 280, false, [], none, 3, 0, false, 0⟩

def ImgStore.atReset : ImgStore := ⟨0, none, none, none, false, 0, none, none, none, 0, none⟩

def Health.atReset : Health := ⟨0, 0, 0, 0, 0, 0, 0, 0, 0, [], [], []⟩

/-- The machine right after reset (log 1). -/
def State.reset : State :=
  { dev := ⟨.m8T1024, 0⟩
    fuses := ⟨3, 0, [], List.replicate 15 0, List.replicate 32 0, [], some Config.uds, Config.identitySeed⟩
    vault := Vault.regenerate ⟨none, [], [], Config.certChain 0, Config.certChain 1⟩ (some Config.uds) Config.identitySeed 0
    regs := [(0x400, 0x10#32), (0x410, 0x20#32), (0x420, 0x30#32), (0x430, 0x40#32), (0x440, 0x50#32), (0x450, 0x60#32), (0x460, 0x70#32), (0x20000, 0x4C002#32), (0x2000C, 0x4B0000#32), (0x30004, 0x41#32)]
    glade := Glade.atReset, fine := 0, opNotes := [], seqNo := [], power := Power.atReset, clocks := Clocks.atReset, resets := []
    active := none, img := ImgStore.atReset, compBorn := []
    rights := ⟨[], (upto 8).map (fun i => (i, (Config.drbg i).setWidth 128)), none, false, false, ⟨1, 0, 0⟩⟩
    evf := [], evfHand := [], log := RingLog.atReset, trace := ⟨[], []⟩
    ps := ⟨[⟨0, 0, 0, [⟨0x0001, 1, 0, false, le 4 4096 ++ le 4 4096 ++ le 4 1⟩, ⟨0x0003, 1, 0, false, le 8 spareBaseAtReset⟩]⟩], (upto 127).map (fun i => (i + 1, 0)), [], [], none, zeros 2048, none, none⟩
    fw := ⟨[none, none], none, none, none, 0, [], [], false, []⟩
    irq := ⟨[], [], [], []⟩
    sb := ⟨256, 256, false, [], 0, 0, 0⟩
    usb4 := false, tap := ⟨1, []⟩, thm := [], hist := [], pkgs := [], chans := []
    tiles := List.replicate 8 Tile.fresh
    reqs := [], nextReq := 0, ops := [], nextOp := 0, reservations := [], packageFault := false
    links := [], lds := [], queues := [], slots := [], allocs := [], roots := [], rerooted := [], sealBay := [], sealBook := [], sealing := none
    rootsAccepted := false, overlay := [], rekeys := [], places := [], spareBase := spareBaseAtReset, readOnly := false, retiredChans := [], deadwood := []
    retiring := none, retireQueue := [], lostWords := [], hubQ := [], hubSeq := 0, errs := [], errNext := 1, poison := [], poisonOver := none, health := Health.atReset
    reformat := false, out := [], freeCtr := 8, pending := [] }

end Sys2Proof.Machine
end

