-- ==== Sys2Proof/Machine/Regs.lean ====
section
/-! DEFINITION. The register file: where a register lies, what it reads as after reset, reading and writing a field, and what a reset does to the fields (00, R5 to R9; 18, R527 to R529). -/
namespace Sys2Proof.Machine

/-! ## The member (R1, R2) -/

/-- Tiles of a member. -/
def Member.tiles : Member → Nat
  | .m1T32 => 1 | .m2T128 => 2 | .m4T512 => 4 | .m8T1024 => 8
/-- Channels per tile. -/
def Member.cpt : Member → Nat
  | .m1T32 => 32 | .m2T128 => 64 | .m4T512 => 128 | .m8T1024 => 128
/-- Host ports. -/
def Member.ports : Member → Nat
  | .m1T32 => 1 | .m2T128 => 2 | .m4T512 => 4 | .m8T1024 => 4
/-- The member code of R454. -/
def Member.code : Member → Nat
  | .m1T32 => 0x0101 | .m2T128 => 0x0202 | .m4T512 => 0x0404 | .m8T1024 => 0x0804

/-- Tiles, channels per tile, channels and ports of the part. -/
def State.tileCount (s : State) : Nat := s.dev.member.tiles
def State.cpt (s : State) : Nat := s.dev.member.cpt
def State.chanCount (s : State) : Nat := s.tileCount * s.cpt
def State.portCount (s : State) : Nat := s.dev.member.ports
/-- The tile numbers of the part. -/
def State.tileList (s : State) : List Nat := upto s.tileCount
/-- The tile that drives a global channel, and the channel's number on it: channel c of tile n is 128 × n + c on every member (02). -/
def tileOfChan (c : Nat) : Nat := c / 128
def localChan (c : Nat) : Nat := c % 128
def globalChan (t c : Nat) : Nat := 128 * t + c
/-- A global channel the member has. -/
def State.chanPresent (s : State) (c : Nat) : Bool := decide (tileOfChan c < s.tileCount ∧ localChan c < s.cpt)

/-! ## Register rows and reset values -/

/-- The number a reset value column holds; Image, Fuse, Glade and Kept fields count as 0 (log 4). -/
def RVal.cold : RVal → Nat
  | .num n => n
  | _ => 0

/-- A row holds the register at an offset. -/
def RegRow.has (r : RegRow) (off : Nat) : Bool :=
  decide (r.base ≤ off) && decide (off < r.base + r.count * r.stride) && (off - r.base) % r.stride == 0

/-- The tile whose window holds an address, if any (R528). -/
def tileOfAddr (addr : Nat) : Option Nat :=
  if 0x100000 ≤ addr ∧ addr < 0x900000 then some (addr / 0x100000 - 1) else none

/-- The row of a register address, or none for a reserved address (R9). -/
def rowAt (addr : Nat) : Option RegRow :=
  match tileOfAddr addr with
  | some _ => tileRows.find? (·.has (addr % 0x100000))
  | none => if addr < 0x100000 then hubRows.find? (·.has addr) else none

/-- The fields of a register. -/
def fieldsAt (addr : Nat) : List FieldDesc := ((rowAt addr).map (·.fields)).getD []

/-- A word with bits hi to lo replaced. -/
def setBits (w : Word) (hi lo v : Nat) : Word :=
  BitVec.ofNat 32 (w.toNat - (bits w.toNat hi lo) * 2 ^ lo + (v % 2 ^ (hi - lo + 1)) * 2 ^ lo)

/-- The word a register holds after a cold reset. -/
def coldWord (fs : List FieldDesc) : Word := each fs 0 (fun w f => setBits w f.hi f.lo f.cold.cold)

/-- The cold reset value of an address; 0 where no register lies. -/
def coldValue (addr : Nat) : Word := coldWord (fieldsAt addr)

/-- The listed value of an address in a sorted register map. -/
def regLook : List (Nat × Word) → Nat → Option Word
  | [], _ => none
  | (a, w) :: t, q => if a = q then some w else regLook t q

/-- A register map with an address removed. -/
def regDrop (l : List (Nat × Word)) (q : Nat) : List (Nat × Word) := l.filter (fun p => decide (p.1 ≠ q))

/-- A sorted register map with an address set. -/
def regPut : List (Nat × Word) → Nat → Word → List (Nat × Word)
  | [], q, v => [(q, v)]
  | (a, w) :: t, q, v => if q < a then (q, v) :: (a, w) :: t else if a = q then (a, v) :: t else (a, w) :: regPut t q v

/-- The word a register holds. -/
def State.reg (s : State) (addr : Nat) : Word := (regLook s.regs addr).getD (coldValue addr)

/-- The state with a register set; a value equal to the cold reset value is not listed, so equal register files are equal lists. -/
def State.setReg (s : State) (addr : Nat) (w : Word) : State :=
  { s with regs := if w = coldValue addr then regDrop s.regs addr else regPut s.regs addr w }

/-- A field of a register. -/
def State.rf (s : State) (f : Fld) : Nat := bits (s.reg f.addr).toNat f.hi f.lo

/-- A one-bit field as a Boolean. -/
def State.rb (s : State) (f : Fld) : Bool := s.rf f != 0

/-- The state with a field set by the hardware. -/
def State.wf (s : State) (f : Fld) (v : Nat) : State := s.setReg f.addr (setBits (s.reg f.addr) f.hi f.lo v)

/-- A field counted up, saturating (for example R36 isolations). -/
def State.incSat (s : State) (f : Fld) (k : Nat := 1) : State :=
  s.wf f (satAdd (s.rf f) k (2 ^ (f.hi - f.lo + 1) - 1))

/-- The width of a field as its largest value. -/
def Fld.max (f : Fld) : Nat := 2 ^ (f.hi - f.lo + 1) - 1

/-! ## Resets of register fields (R493, Register fields) -/

/-- The word of a register after a reset with a column: a number is taken; Kept, Image, Fuse and Glade keep the field (an Image field is loaded again by the image, log 4). -/
def resetWord (col : FieldDesc → RVal) (fs : List FieldDesc) (w : Word) : Word :=
  each fs w (fun w f => match col f with
    | .num n => setBits w f.hi f.lo n
    | _ => w)

/-- Every listed register of a set of addresses taken through a reset column. -/
def State.resetRegs (s : State) (col : FieldDesc → RVal) (sel : Nat → Bool) : State :=
  each s.regs s (fun s p => if sel p.1 then s.setReg p.1 (resetWord col (fieldsAt p.1) (s.reg p.1)) else s)

/-- The cold reset of the register fields: numbers are taken; Image fields return to 0 until an image is active; Fuse, Glade and Kept fields stay. -/
def coldColumn (f : FieldDesc) : RVal :=
  match f.cold with
  | .image => .num 0
  | c => c

/-- The warm reset column. -/
def warmColumn (f : FieldDesc) : RVal := f.warm

end Sys2Proof.Machine
end

