-- ==== Sys2Proof/Machine/Operands.lean ====
section
/-! DEFINITION. What the operands of a command stand for: interfaces, lifecycle, the rights an interface holds and their scope (11, R353 to R375), and the compartments of the active image. -/
namespace Sys2Proof.Machine

/-! ## Lifecycle (R366, R368, R374) -/

/-- A fuse triple reads as burned when at least two of its three cells are (R374). -/
def burned (cells : Nat) : Bool := decide (2 ≤ cells)

/-- The banks counted as burned, released ones included (R368). -/
def State.bankCount (s : State) : Nat := (s.fuses.banks.filter (fun b => burned b.cells)).length

/-- The highest burned bank. -/
def State.topBank (s : State) : Option Bank := (s.fuses.banks.filter (fun b => burned b.cells)).getLast?

/-- The storage generation (R368). -/
def State.storageGen (s : State) : Nat := (s.fuses.storageGen.filter burned).length

/-- The firmware security floor (R437). -/
def State.fwFloor (s : State) : Nat := (s.fuses.floor.filter burned).length

/-- The lifecycle state: 0 Manufacture, 1 Unowned, 2 Owned, 3 Decommissioned (R366, R368). -/
def State.lifecycle (s : State) : Nat :=
  if burned s.fuses.decom then 3
  else match s.topBank with
    | some b => if burned b.released then (if burned s.fuses.unowned then 1 else 0) else 2
    | none => if burned s.fuses.unowned then 1 else 0

/-- What the lifecycle record holds once it is brought up to the fuses (R374). -/
def State.fuseRecord (s : State) : LifeRec := ⟨s.lifecycle, s.bankCount, s.storageGen⟩
/-- Test mode is open: in Manufacture, and under a core-debug warrant in Unowned (R366). -/
def State.testMode (s : State) : Bool := s.lifecycle == 0 || (s.lifecycle == 1 && s.rights.testOpen)
/-- The key set record that the current bank names is missing (R374). -/
def State.keySetMissing (s : State) : Bool := s.lifecycle == 2 && s.rights.ownerSet.isNone

/-! ## Compartments of the active image (R94, R423) -/

/-- The attribute bits of a compartment (R94). -/
def Comp.isSealed (c : Comp) : Bool := c.attrs % 2 == 1
def Comp.levelTiming (c : Comp) : Bool := (c.attrs / 2) % 2 == 1
def Comp.awake (c : Comp) : Bool := (c.attrs / 4) % 2 == 1
/-- A compartment is visible on a port, and its logical device there (R94). -/
def Comp.onPort (c : Comp) (p : Nat) : Bool := (c.ports / 2 ^ p) % 2 == 1
def Comp.ldOn (c : Comp) (p : Nat) : Nat := (c.ld / 16 ^ p) % 16
/-- First and last-plus-one device address of a compartment (R94: 2 MiB units). -/
def Comp.lo (c : Comp) : Nat := c.base * 0x200000
def Comp.hi (c : Comp) : Nat := (c.base + c.size) * 0x200000

/-- The compartments of the active image; none while no image is active. -/
def State.comps (s : State) : List Comp := ((s.active).map (·.comps)).getD []
/-- A compartment by id. -/
def State.comp (s : State) (id : Nat) : Option Comp := s.comps.find? (fun c => c.id == id)
/-- The compartment that holds a device address. -/
def State.compAt (s : State) (dpa : Nat) : Option Comp := s.comps.find? (fun c => decide (c.lo ≤ dpa ∧ dpa < c.hi))
def State.sealedComp (s : State) (id : Nat) : Bool := ((s.comp id).map (·.isSealed)).getD false
def State.levelComp (s : State) (id : Nat) : Bool := ((s.comp id).map (·.levelTiming)).getD false
/-- The device address of a line index. -/
def lineDpa (line : Nat) : Nat := line * 64
/-- The compartments of a logical device (R128, R141). -/
def State.ldComps (s : State) (port ld : Nat) : List Comp := s.comps.filter (fun c => c.onPort port && c.ldOn port == ld)

/-! ## Rights (R355 to R357) -/

/-- The classes of interface in the ceiling table (R355). -/
inductive IfClass where
  | host | service | sideband | debug
  deriving DecidableEq, Repr

def ifClass (iface : Nat) : IfClass :=
  if iface < 4 then .host else if iface = 4 then .service else if iface = 5 then .sideband else .debug

/-- A ceiling entry: base, standing, warrant, never (R355). -/
inductive Ceil where
  | base | standing | warrant | never
  deriving DecidableEq, Repr

/-- The ceiling table of R355. -/
def ceiling (r : Right) (c : IfClass) : Ceil :=
  let pick (h v s d : Ceil) : Ceil := match c with | .host => h | .service => v | .sideband => s | .debug => d
  match r with
  | .mgmtRead => pick .standing .standing .standing .warrant
  | .mgmtWrite => pick .standing .standing .never .warrant
  | .healthRead => pick .base .base .base .warrant
  | .logRead => pick .standing .standing .standing .warrant
  | .logFreeze => pick .standing .standing .never .warrant
  | .counterRead => pick .standing .standing .never .warrant
  | .trace => pick .standing .standing .never .warrant
  | .queue => pick .standing .never .never .never
  | .keyAdmin => pick .standing .never .never .never
  | .retire => pick .standing .standing .never .never
  | .tileService => pick .standing .standing .never .warrant
  | .imageStage => pick .standing .standing .never .never
  | .imageApply => pick .standing .standing .never .never
  | .imageReturn => pick .standing .standing .never .never
  | .firmware => pick .standing .standing .never .never
  | .paramRead => pick .standing .standing .base .warrant
  | .paramWrite => pick .standing .standing .standing .warrant
  | .attest => pick .base .base .never .never
  | .address => pick .standing .standing .never .warrant
  | .plaintext => pick .never .never .never .warrant
  | .mediaRead => pick .never .never .never .warrant
  | .mediaWrite => pick .never .never .never .warrant
  | .test => pick .standing .standing .never .warrant
  | .reRoot => pick .warrant .warrant .never .never
  | .reset => pick .standing .standing .standing .warrant
  | .seedbank => pick .standing .standing .never .warrant
  | .coreDebug => pick .never .never .never .warrant
  | .decommission => pick .warrant .warrant .never .never
  | .ownerTransfer => pick .warrant .warrant .never .never

/-- The rights in the order of their bits. -/
def allRights : List Right :=
  [.mgmtRead, .mgmtWrite, .healthRead, .logRead, .logFreeze, .counterRead, .trace, .queue, .keyAdmin, .retire,
   .tileService, .imageStage, .imageApply, .imageReturn, .firmware, .paramRead, .paramWrite, .attest, .address,
   .plaintext, .mediaRead, .mediaWrite, .test, .reRoot, .reset, .seedbank, .coreDebug, .decommission, .ownerTransfer]

/-- Bit n of a rights word. -/
def hasBit (w n : Nat) : Bool := (w / 2 ^ n) % 2 == 1

/-- A right is in the fixed base standing of an interface. -/
def baseStanding (iface : Nat) (r : Right) : Bool := ceiling r (ifClass iface) == .base

/-- A standing of the active image grants the right to the interface (R101); none in Decommissioned (R373). -/
def State.standing (s : State) (iface : Nat) (r : Right) : Bool :=
  s.lifecycle != 3 && match s.active with
    | some i => i.standings.any (fun p => p.1 == iface && hasBit p.2 r.bit)
    | none => (r == .imageStage || r == .imageApply || r == .firmware) && decide (iface ≤ 4)

/-- A warrant counts now (R357, R365). -/
def State.warrantLive (s : State) (w : Warrant) : Bool :=
  decide (w.notBefore ≤ s.glade.opsec ∧ s.glade.opsec < w.notAfter ∧ w.pcFirst ≤ s.glade.pwrcyc ∧ s.glade.pwrcyc ≤ w.pcLast)

/-- The warrants an interface holds that count now. -/
def State.liveWarrants (s : State) (iface : Nat) : List Warrant :=
  if s.lifecycle == 3 then [] else (tgetD s.rights.held iface []).filter s.warrantLive

/-- The interface holds the right, whatever its scope (R357). -/
def State.holds (s : State) (iface : Nat) (r : Right) : Bool :=
  baseStanding iface r || s.standing iface r || (s.liveWarrants iface).any (fun w => hasBit w.rights r.bit)

/-- The effective rights word (R357). -/
def State.rightsWord (s : State) (iface : Nat) : Nat :=
  (allRights.map (fun r => if s.holds iface r then 2 ^ r.bit else 0)).sum

/-- A number lies in one of a warrant's ranges. -/
def inRanges (rs : List (Nat × Nat)) (n : Nat) : Bool := rs.any (fun p => decide (p.1 ≤ n ∧ n ≤ p.2))

/-- The interface holds the right with a scope that covers the compartment (R357). -/
def State.covers (s : State) (iface : Nat) (r : Right) (comp : Nat) : Bool :=
  ((baseStanding iface r || s.standing iface r) &&
    (decide (4 ≤ iface) || ((s.comp comp).map (fun c => c.onPort iface)).getD false)) ||
  (s.liveWarrants iface).any (fun w => hasBit w.rights r.bit && inRanges w.comps comp)

/-- The scope covers every compartment of the active image; while none is active every scope does (R357). -/
def State.coversAll (s : State) (iface : Nat) (r : Right) : Bool :=
  s.holds iface r && s.comps.all (fun c => s.covers iface r c.id)

/-- A warrant of the interface names the key index with the right (R357). -/
def State.warrantCoversKey (s : State) (iface : Nat) (r : Right) (key : Nat) : Bool :=
  (s.liveWarrants iface).any (fun w => hasBit w.rights r.bit && inRanges w.keys key)

end Sys2Proof.Machine
end

