-- ==== Sys2Proof/Machine/Flags.lean ====
section
/-! DEFINITION. What the device shows of what happens in it: outputs, free values, performance counters (17), interrupts (14, R443 to R447), events, the event FIFO and the ring log (13). -/
namespace Sys2Proof.Machine

/-- The state with an output sent. -/
def State.send (s : State) (o : Output) : State := { s with out := o :: s.out }

/-- The next free value (log 10), and the state that has drawn it. -/
def State.draw (s : State) : Nat × State := (Config.free s.freeCtr, { s with freeCtr := s.freeCtr + 1 })

/-- The end of a command with its code and payload. -/
def State.reply (s : State) (iface ld opcode : Nat) (code : Ret) (payload : Bytes) : State :=
  s.send (.reply iface ld opcode code payload)

/-! ## Performance counters (17, R511 to R519) -/

/-- The tile events that can be attributed to a compartment (R520, column A). -/
def tileAttributed (i : Nat) : Bool :=
  i == 1 || i == 2 || decide (5 ≤ i ∧ i ≤ 16) || i == 20 || decide (22 ≤ i ∧ i ≤ 24) || decide (31 ≤ i ∧ i ≤ 84) ||
  decide (96 ≤ i ∧ i ≤ 105) || decide (114 ≤ i ∧ i ≤ 119) || i == 150 || i == 151
/-- The hub events that can be attributed (R521, column A). -/
def hubAttributed (i : Nat) : Bool := decide (5 ≤ i ∧ i ≤ 24) || decide (29 ≤ i ∧ i ≤ 31) || i == 55 || i == 56

/-- The base address of a PMC_ block: a tile's, or the hub's (R527, R528). -/
def pmcBase : Option Nat → Nat
  | some t => 0x150000 + 0x100000 * t
  | none => 0xB0000
/-- Counters of a block (R511). -/
def pmcCount : Option Nat → Nat
  | some _ => 224
  | none => 96
/-- The last event index that counts something (R512, R520, R521). -/
def pmcLast : Option Nat → Nat
  | some _ => 151
  | none => 56

/-- The fields of the PMC_ registers, by block (R523). -/
def pmcCnt (b : Option Nat) (i : Nat) : Fld := ⟨pmcBase b + 4 * i, 31, 0⟩
def pmcSel (b : Option Nat) (i : Nat) : Fld := ⟨pmcBase b + 0x400 + 4 * (i / 8), 4 * (i % 8) + 2, 4 * (i % 8)⟩
def pmcChain (b : Option Nat) (i : Nat) : Fld := ⟨pmcBase b + 0x400 + 4 * (i / 8), 4 * (i % 8) + 3, 4 * (i % 8) + 3⟩
def pmcFiltComp (b : Option Nat) (k : Nat) : Fld := ⟨pmcBase b + 0x480 + 4 * k, 11, 0⟩
def pmcFiltEn (b : Option Nat) (k : Nat) : Fld := ⟨pmcBase b + 0x480 + 4 * k, 12, 12⟩
def pmcOvf (b : Option Nat) (i : Nat) : Fld := ⟨pmcBase b + 0x500 + 4 * (i / 32), i % 32, i % 32⟩
def pmcHi (b : Option Nat) : Fld := ⟨pmcBase b + 0x520, 31, 0⟩

/-- Counter i is the upper counter of a chained pair (R513). -/
def State.pmcChained (s : State) (b : Option Nat) (i : Nat) : Bool := i % 2 == 1 && s.rb (pmcChain b i)

/-- The filter a counter follows: its compartment, or none when it is unfiltered (R513, R518). -/
def State.pmcFilter (s : State) (b : Option Nat) (i : Nat) : Option Nat :=
  let k := s.rf (pmcSel b (if s.pmcChained b i then i - 1 else i))
  if k = 0 then none else if s.rb (pmcFiltEn b k) then some (s.rf (pmcFiltComp b k)) else none

/-- A counter raised by k; a wrap is counted by a chained counter above, or sets the overflow bit (R511, R513, R515). -/
def State.pmcRaise (s : State) (b : Option Nat) (i k : Nat) : State :=
  let v := s.rf (pmcCnt b i) + k
  let s := s.wf (pmcCnt b i) v
  if v < 2 ^ 32 then s
  else if i % 2 == 0 && s.pmcChained b (i + 1) then
    let u := s.rf (pmcCnt b (i + 1)) + 1
    let s := s.wf (pmcCnt b (i + 1)) u
    if u < 2 ^ 32 then s else s.wf (pmcOvf b (i + 1)) 1
  else s.wf (pmcOvf b i) 1

/-- An event occurs k times on a block, attributed to compartments or to none (R511, R513, R518). -/
def State.count (s : State) (b : Option Nat) (i : Nat) (comps : List Nat := []) (k : Nat := 1) : State :=
  if k = 0 ∨ pmcLast b < i ∨ s.pmcChained b i then s
  else match s.pmcFilter b i with
    | none => s.pmcRaise b i k
    | some c =>
      if (match b with | some _ => tileAttributed i | none => hubAttributed i) && comps.contains c then s.pmcRaise b i k else s

/-- An event on tile t, and on the hub. -/
def State.countTile (s : State) (t i : Nat) (comps : List Nat := []) (k : Nat := 1) : State := s.count (some t) i comps k
def State.countHub (s : State) (i : Nat) (comps : List Nat := []) (k : Nat := 1) : State := s.count none i comps k
/-- Bytes of the seedbank that an operation reads, counted in lines of 64, and one programming of it (R521; log 172). -/
def State.seedRead (s : State) (n : Nat) : State := s.countHub 52 [] ((n + 63) / 64)
def State.seedProgram (s : State) : State := s.countHub 53

/-! ## Interrupts (14, R443 to R447) -/

/-- The source names of R443 that other rules raise; the order within a group is the order of the table's list (log 12). -/
def irqVinWarn : Nat := 0
def irqVinCommit : Nat := 1
def irqPbtn : Nat := 2
def irqSeqFault : Nat := 3
def irqThermalWarn : Nat := 4
def irqThermalThrottle : Nat := 5
def irqThermalShutdown : Nat := 6
def irqClock : Nat := 7
def irqHelper (h : Nat) (fault : Bool) : Nat := 0x10 + 2 * h + b2n fault
def irqFifo : Nat := 0x20
def irqFifoHigh : Nat := 0x21
def irqMailbox (p : Nat) : Nat := 0x30 + p
def irqDoe (p : Nat) : Nat := 0x34 + p
def irqLink (p : Nat) : Nat := 0x38 + p
def irqFmApi (p : Nat) : Nat := 0x3C + p
def irqServiceRequest : Nat := 0x40
def irqServiceConnect : Nat := 0x41
def irqDebugRequest : Nat := 0x42
def irqSideband : Nat := 0x43
def irqTile (n k : Nat) : Nat := 0x80 + 16 * n + k
/-- The spare-state interrupt of R247: R443 lists no source of that name; tile 0's spare-exhausted source carries it (log 24). -/
def irqSpare : Nat := irqTile 0 11

/-- The sources a member has (R5, R443). -/
def State.irqPresent (s : State) (src : Nat) : Bool :=
  decide (src < 0x110) &&
  (if 0x80 ≤ src ∧ src < 0x100 then decide ((src - 0x80) / 16 < s.tileCount ∧ (src - 0x80) % 16 < 12)
   else if 0x30 ≤ src ∧ src < 0x40 then decide ((src - 0x30) % 4 < s.portCount) else true)

/-- A source may be claimed by a target: pending, not in service, enabled, with the target in its mask (R445). -/
def State.claimable (s : State) (t src : Nat) : Bool :=
  s.irq.waiting.any (fun p => p.1 == src) && s.rb (F.IRQ_SRC_enable src) && hasBit (s.rf (F.IRQ_SRC_targets src)) t

/-- The sources a target may claim. -/
def State.claimables (s : State) (t : Nat) : List Nat := (s.irq.waiting.map (·.1)).filter (s.claimable t)

/-- A target's line has not asserted for idle_us (R446). -/
def State.irqIdle (s : State) (t : Nat) : Bool :=
  match tget s.irq.asserted t with
  | some f => decide (f + 1000 * s.rf (F.IRQ_MOD_idle_us t) ≤ s.fine)
  | none => true
/-- Moderation lets the target's line assert at once (R446): a priority 3 source, enough sources, or no hold time. -/
def State.irqNow (s : State) (t : Nat) : Bool :=
  let l := s.claimables t
  l.any (fun src => s.rf (F.IRQ_SRC_priority src) == 3) || (!l.isEmpty &&
    (decide (s.rf (F.IRQ_MOD_mod_count t) ≤ l.length) || s.rf (F.IRQ_MOD_hold_us t) == 0 ||
     (s.rb (F.IRQ_MOD_bypass_en t) && s.irqIdle t && !s.irq.lines.contains t)))

/-- The processor restarts (R440): its helpers hold at their unit boundary (R18). Number 0 is the warden, 1 + n steward n. -/
def State.coreAway (s : State) (core : Nat) : Bool := (s.fw.act.map (fun a => a.core == core)).getD false
/-- A target's interrupt line asserts, once (R446); while the processor restarts its interrupts stay pending (R440). -/
def State.assertLine (s : State) (t : Nat) : State :=
  match s.claimables t with
  | [] => s
  | src :: _ => if s.irq.lines.contains t || s.coreAway t then s else
      ({ s with irq := { s.irq with lines := s.irq.lines ++ [t], asserted := tput s.irq.asserted t s.fine } }).send (.irqLine t src)

/-- The notifications of a source that became pending (R447). -/
def State.notifySource (s : State) (src : Nat) : State :=
  let n := s.rf (F.IRQ_SRC_notify src)
  let s := if hasBit n 0 && s.usb4 then s.send (.notify 0 src) else s
  if hasBit n 1 && s.sb.ibi && s.rb F.WDN_I3C_STAT_addr_valid then s.send (.notify 1 src) else s

/-- A sleeping tile begins to wake, once; an entry under way ends where it stands (R20, R489, R490). -/
def State.wakeTile (s : State) (t : Nat) : State :=
  match s.tiles[t]? with
  | some x => if x.depth = 0 ∨ x.waking then s else ({ s with tiles := lmod s.tiles t (fun x => { x with waking := true, entering := none }) } : State)
  | none => s
/-- What runs on a tile's own clock: on a sleeping tile the helper with work wakes it, and its step comes once the tile is at T0 (R490; log 171). -/
def State.onAwake (s : State) (t : Nat) (f : State → State) : State := if (s.tiles[t]?.map Tile.depth).getD 0 = 0 then f s else s.wakeTile t
/-- The clocks that a pending source needs start (R443, R490, R491): the hub leaves P1 or P2, the tile the source belongs to wakes, and so does each steward's it is meant for. -/
def State.startClocks (s : State) (src : Nat) : State :=
  let s : State := { s with power := { s.power with pstate := 0 } }
  let own := if 0x80 ≤ src ∧ src < 0x100 then [(src - 0x80) / 16] else []
  each ((upto 8).filter (fun t => own.contains t || hasBit (s.rf (F.IRQ_SRC_targets src)) (t + 1))) s State.wakeTile
/-- A source's latch captures an edge or a level (R443, R444): a pending edge source is marked lost; a new pending source notifies and may assert its targets' lines. -/
def State.irqEdge (s : State) (src : Nat) : State :=
  if !s.irqPresent src || !s.rb (F.IRQ_SRC_enable src) then s
  else if s.irq.waiting.any (fun p => p.1 == src) then
    (if s.rb (F.IRQ_SRC_level src) then s else s.wf (F.IRQ_SRC_lost src) 1)
  else if s.rb (F.IRQ_SRC_level src) && s.irq.service.any (fun p => p.2 == src) then s
  else
    let s := { s with irq := { s.irq with waiting := s.irq.waiting ++ [(src, s.fine)] } }
    let s := ((s.wf (F.IRQ_SRC_pending src) 1).startClocks src).notifySource src
    each (upto 9) s (fun s t => if hasBit (s.rf (F.IRQ_SRC_targets src)) t && s.irqNow t then s.assertLine t else s)

/-! ## Records of the ring log (13, R418 to R426) -/

/-- The area column of R428. -/
inductive Area where
  | heart | unlimited | limited
  deriving DecidableEq, Repr

/-- Codes whose records go to the heartwood too, and codes that are never limited (R428). -/
def heartCodes : List Nat := [0x0004, 0x0006, 0x0104, 0x0201, 0x0400, 0x0502, 0x0503, 0x0602, 0x0603, 0x0604, 0x0901]
def unlimitedCodes : List Nat := [0x0001, 0x0002, 0x0003, 0x0005, 0x0102, 0x0402, 0x0501, 0x0700, 0x0701, 0x0900]
def areaOf (code : Nat) : Area :=
  if heartCodes.contains code then .heart else if unlimitedCodes.contains code then .unlimited else .limited

/-- The log records not yet written, oldest first. -/
def State.logWaiting (s : State) : List LogRec := s.log.writing.toList ++ s.log.queue ++ s.glade.buffer

/-- An IMAGE record that commits an epoch no earlier IMAGE record committed (R428: H for the first commit of each epoch). The outcome byte takes the codes of STD_APPLY_STAT.outcome: 1 is a commit (log 17). -/
def State.firstCommit (s : State) (data : Bytes) : Bool :=
  getLe data 9 1 == 1 &&
  !(s.log.heart.any (fun x => match x with
      | .held r => r.code == 0x0700 && getLe r.data 4 4 == getLe data 4 4 && getLe r.data 9 1 == 1
      | .partialSlot => false)) &&
  !(s.logWaiting.any (fun r => r.code == 0x0700 && r.heart && getLe r.data 4 4 == getLe data 4 4))

/-- The heartwood has a slot for a copy beyond those that wait (R420). -/
def State.heartRoom (s : State) : Bool := decide (s.log.heart.length + (s.logWaiting.filter LogRec.heart).length < 4096)

/-- The limit of a code: the image's entry, or 16 per 60 s (R100, R422). -/
def State.rateOf (s : State) (code : Nat) : Nat :=
  match (s.active.map (·.rates)).getD [] |>.find? (fun r => r.code == code) with
  | some r => r.count
  | none => 16

/-- The event data as the log stores it for a sealed compartment (R380, R423): DPA bits [19:0], and line index bits [13:0], read 0, and the flags of a media error read redacted (R289). -/
def redactData (code : Nat) (data : Bytes) : Bytes :=
  if code == 0x0300 then data.take 7 ++ le 1 (getLe data 7 1 ||| 2) ++ slice data 8 5 ++ le 8 (getLe data 13 8 / 0x100000 * 0x100000) ++ data.drop 21
  else if code == 0x0504 then data.take 1 ++ le 5 (getLe data 1 5 / 0x4000 * 0x4000) ++ data.drop 6
  else data

/-- The operating second of a fine time: that of the last boundary at or before it (R417). -/
def State.opsecAt (s : State) (fine : Nat) : Nat :=
  match s.opNotes.find? (fun p => decide (p.1 ≤ fine)) with
  | some p => p.2
  | none => s.glade.opsec

/-- The sapwood has a slot for a record: room in the current sector, or an erased sector (R420). -/
def RingLog.room (l : RingLog) : Bool :=
  decide (0 < l.erased) || match l.sectors.getLast? with
    | some cur => decide (cur.length < 64)
    | none => false

/-- The slot a written record takes: a heartwood slot, or the current sapwood sector, which an erased one follows when it is full (R420). -/
def RingLog.place (l : RingLog) (x : LogSlot) (heart : Bool) : RingLog :=
  if heart then { l with heart := l.heart ++ [x] }
  else match l.sectors.getLast? with
    | some cur =>
      if cur.length < 64 then { l with sectors := l.sectors.dropLast ++ [cur ++ [x]] }
      else { l with sectors := l.sectors ++ [[x]], erased := l.erased - 1 }
    | none => { l with sectors := [[x]], erased := l.erased - 1 }

/-- Power is lost in a record's write: its slot is partial, and its number goes to the next record (R419, R421). -/
def State.cutRecord (s : State) : State :=
  match s.log.writing with
  | some r => { s with log := { s.log.place .partialSlot r.heart with writing := none } }
  | none => s
/-- The writer takes the next queued record when it is idle, has a slot and the log is not frozen (R420, R421, R424, R426); while the warden restarts it holds after the record it writes (R18, R440). -/
def State.logKick (s : State) : State :=
  if s.coreAway 0 || s.log.writing.isSome || s.log.frozen || s.power.committed then s
  else match s.log.queue with
    | [] => s
    | r :: t => if !r.heart && !s.log.room then s else { s with log := { s.log with queue := t, writing := some { r with number := s.log.next } } }

/-- A record on its way to the seedbank: into the Glade buffer while the log is frozen or after the Commit crossing, else into the queue of 512 (R424 to R426). -/
def State.logPush (s : State) (r : LogRec) : State :=
  if s.log.frozen || s.power.committed then
    if s.glade.buffer.length < 256 then { s with glade := { s.glade with buffer := s.glade.buffer ++ [r] } }
    else { s with glade := { s.glade with bufDrops := satAdd s.glade.bufDrops 1 65535, bufGap := s.glade.bufGap + 1 } }
  else if s.log.queue.length < 512 then ({ s with log := { s.log with queue := s.log.queue ++ [r] } }).logKick
  else { s with log := { s.log with dropped := s.log.dropped + 1 } }

/-- The record of an event (R417, R418, R423). -/
def State.logRecord (s : State) (e : Ev) (suppressed : Nat) : LogRec :=
  let sealedRec := e.comps.any s.sealedComp
  let level := e.comps.any s.levelComp
  { code := e.code, src := e.src, redacted := sealedRec, rounded := level, heart := false, fromGlade := false, number := 0
    seq := e.seq, opsec := s.opsecAt e.fine, pwrcyc := s.glade.pwrcyc, fine := if level then 0 else e.fine % 2 ^ 48
    suppressed := min suppressed 65535, data := fit 28 (if sealedRec then redactData e.code e.data else e.data) }

/-- An event passes the rate limit of its code and is recorded, or is counted as suppressed (R420, R422). -/
def State.record (s : State) (e : Ev) : State :=
  match areaOf e.code with
  | .limited =>
    let st := tgetD s.glade.rates e.code ⟨false, 0, 0⟩
    if st.running ∧ s.rateOf e.code ≤ st.count then
      ({ s with glade := { s.glade with rates := tput s.glade.rates e.code { st with suppressed := st.suppressed + 1 } } }).countHub 38
    else
      let st' : RateState := ⟨true, (if st.running then st.count else 0) + 1, 0⟩
      ({ s with glade := { s.glade with rates := tput s.glade.rates e.code st' } }).logPush (s.logRecord e st.suppressed)
  | .unlimited =>
    let r := s.logRecord e 0
    if e.code == 0x0700 && s.firstCommit e.data && s.heartRoom
    then (s.logPush r).logPush { r with heart := true } else s.logPush r
  | .heart =>
    let r := s.logRecord e 0
    if s.heartRoom then (s.logPush r).logPush { r with heart := true } else s.logPush r

/-! ## The event FIFO (R414 to R417) -/

/-- Continuation entries of an event's data (R414). -/
def contCount (data : Bytes) : Nat := if data.length ≤ 2 then 0 else if data.length ≤ 18 then 1 else 2

/-- The 16-byte entries of a FIFO item (R414). -/
def FifoItem.entries : FifoItem → List Bytes
  | .gap fine n => [le 2 0 ++ [0#8] ++ [0#8] ++ le 4 0 ++ le 6 fine ++ le 2 (min n 65535)]
  | .event e =>
    let d := fit 28 e.data
    let n := contCount e.data
    [le 2 e.code ++ le 1 e.src ++ le 1 n ++ le 4 e.seq ++ le 6 e.fine ++ d.take 2] ++
    (if 1 ≤ n then [slice d 2 16] else []) ++ (if 2 ≤ n then [slice d 18 10 ++ zeros 6] else [])

/-- Entries of an item the warden has not read. -/
def FifoItem.left : FifoItem → Nat
  | .gap _ _ => 1
  | .event e => contCount e.data + 1 - e.taken

/-- Entries held (R429 level). -/
def State.evfLevel (s : State) : Nat := (s.evf.map FifoItem.left).sum

/-- An event arrives at the FIFO: it is queued when its entries fit and one stays free, else dropped into a gap marker (R415). -/
def State.fifoPush (s : State) (e : Ev) : State :=
  let n := contCount e.data + 1
  let lvl := s.evfLevel
  let s' : State := if lvl + n < 1024 then ({ s with evf := s.evf ++ [FifoItem.event e] }).countHub 35 [] n
    else
      let s := (s.incSat F.WDN_EVF_STAT_drops).countHub 36
      match s.evf.getLast? with
      | some (.gap f k) => { s with evf := s.evf.dropLast ++ [FifoItem.gap f (min (k + 1) 65535)] }
      | _ => if lvl < 1024 then ({ s with evf := s.evf ++ [FifoItem.gap e.fine 1] }).countHub 35 else s
  let s' : State := s'.irqEdge irqFifo
  if 768 ≤ s'.evfLevel ∧ lvl < 768 then s'.irqEdge irqFifoHigh else s'

/-- The fine time a source stamps with: a tile's own copy, or the hub's (R405, R406). -/
def State.stamp (s : State) (src : Nat) : Nat :=
  if 0x20 ≤ src then ((s.fine : Int) + ((s.tiles[(src - 0x20) / 8]?).map Tile.fineOff).getD 0).toNat else s.fine
/-- A source raises an event: it is stamped and numbered (R408); the warden's own are recorded at once, others go through the FIFO (13, The event FIFO). -/
def State.emit (s : State) (src code : Nat) (data : Bytes) (comps : List Nat := []) : State :=
  let n := tgetD s.seqNo src 0
  let s := { s with seqNo := tput s.seqNo src ((n + 1) % 2 ^ 32) }
  let e : Ev := ⟨code, src, n, s.stamp src, data, comps, 0⟩
  if src = 0 then s.record e else s.fifoPush e

/-- The warden's event. -/
def State.raise (s : State) (code : Nat) (data : Bytes) (comps : List Nat := []) : State := s.emit 0 code data comps

/-- The rights-denied event of R7: the interface, the register address or the opcode, the right; counted on the hub (R521). -/
def State.deny (s : State) (iface what : Nat) (r : Right) : State :=
  (s.raise 0x0600 (le 1 iface ++ le 4 what ++ le 1 r.bit)).countHub 34

/-- EXTEST, HIGHZ or CLAMP is loaded: the device does not leave the warm reset in which it was loaded (R530). -/
def State.tapHolds (s : State) : Bool := decide (3 ≤ s.tap.instr ∧ s.tap.instr ≤ 5)
/-- The warden has left reset, and neither a reset pin nor the TAP holds it there: until then nothing answers a command or a register access (R477, R482, R530). -/
def State.wardenUp (s : State) : Bool := !s.clocks.held.contains 1 && s.power.pins.rst && s.power.pins.mrst && !s.tapHolds
/-- The link of a logical device: the x16 link or link a for LDs 0 to 7, link b for 8 to 15 in 2 × x8 mode (R127). -/
def State.linkOf (s : State) (port ld : Nat) : Nat := if s.rb (F.HPT_LINK_bif port) && decide (8 ≤ ld) then 1 else 0
/-- The byte of R544 for a port and a link. -/
def portLink (port link : Nat) : Bytes := le 1 (16 * port + link % 2)
/-- The IDE stream CXL.io requests arrive on: the selective stream, number 2, where it has keys, else the link stream, number 1 (log 156). -/
def HLink.ioStream (l : HLink) : Nat := if thas l.ide 2 then 2 else 1
/-- Requests of a host port would arrive on an Insecure CXL.io stream (R134); a register access uses link a (log 156). -/
def State.ioInsecure (s : State) (iface ld : Nat) : Bool :=
  decide (iface < 4) && (match tget s.links (iface, s.linkOf iface ld) with | some l => tget l.ide l.ioStream == some false | none => false)
/-- A request that arrives on an Insecure stream is discarded with a link security event (R134). -/
def State.discardIo (s : State) (iface ld : Nat) : State :=
  s.emit (0x10 + iface) 0x0800 (portLink iface (s.linkOf iface ld) ++ le 1 (((tget s.links (iface, s.linkOf iface ld)).map HLink.ioStream).getD 0))
/-- A command or a register access of an interface is heard: interfaces 4 and 7 are channels of the service port, which carries them while USB4 is connected (R354, R453). -/
def State.hears (s : State) (iface ld : Nat) : Bool := s.wardenUp && !s.ioInsecure iface ld && ((iface != 4 && iface != 7) || s.usb4)
/-- One that is not. -/
def State.unheard (s : State) (iface ld : Nat) : State := if s.wardenUp && s.ioInsecure iface ld then s.discardIo iface ld else s
/-- A command that needs a right: run with it, or refused with the rights-denied event (R7, R358). -/
def State.under (s : State) (iface what : Nat) (r : Right) (go refused : State → State) : State :=
  if !s.hears iface 0 then s.unheard iface 0
  else if s.holds iface r then go s else refused (s.deny iface what r)
/-- A write of a management register's field: under mgmt-write and, for an RWL field, its named right (R355). A field refused counts, with its event, only where the write would act (R7). -/
def State.regWrite (s : State) (iface what : Nat) (r : Right) (acts : Bool) (go : State → State) : State :=
  if !s.hears iface 0 then s.unheard iface 0
  else if s.holds iface r && s.holds iface .mgmtWrite then go s
  else if acts then s.deny iface what (if s.holds iface r then .mgmtWrite else r) else s

end Sys2Proof.Machine
end

