-- ==== Sys2Proof/Machine/Ops.lean ====
section
/-! DEFINITION. Operations many commands share: running a mailbox command under its right, the ring log's records as bytes, freezing and thawing the log, requesting a reset. -/
namespace Sys2Proof.Machine

/-- What a command answers: its return code, its payload and the state it leaves. -/
structure Answer where
  code : Ret
  payload : Bytes
  state : State

/-- An answer without payload. -/
def answer (code : Ret) (s : State) : Answer := ⟨code, [], s⟩

/-- A request heard at an interface: a drowsy device wakes, R521 counts mailbox commands, and R443 gives the request its interrupt source. -/
def State.heard (s : State) (iface : Nat) : State :=
  let s : State := { s with power := { s.power with pstate := if s.power.pstate = 1 then 0 else s.power.pstate } }
  if iface < 4 then (s.countHub 32).irqEdge (irqMailbox iface) else if iface = 6 then s.irqEdge irqDebugRequest else s.irqEdge irqServiceRequest
/-- The opcodes the service channel carries, and the debug channel (R453). -/
def serviceOpcodes : List Nat :=
  [0x0200, 0x0201, 0x0202, 0x0400, 0x0401, 0x4200, 0x4300, 0x4303, 0x4304, 0x4305, 0xC020, 0xC021, 0xC022, 0xC030, 0xC031, 0xC040, 0xC041, 0xC050, 0xC060,
   0xD000, 0xD001, 0xD010, 0xD011, 0xD030]
def debugOpcodes : List Nat := [0xC060, 0xD000, 0xD001, 0xD100, 0xD101, 0xD102, 0xD110, 0xD111, 0xD112, 0xD113]
/-- A channel carries an opcode: the mailboxes of a port every one of R141, and none of the message channels' own, whose numbers begin at 0xD000; the service and debug channels those of R453; the TAP the debug channel's. -/
def carries (iface opcode : Nat) : Bool :=
  if iface < 4 then decide (opcode < 0xD000) else if iface = 4 then serviceOpcodes.contains opcode else (iface == 6 || iface == 7) && debugOpcodes.contains opcode
/-- A command through a mailbox or message channel: Unsupported where the channel does not carry it (R453), refused with Invalid Security State where the interface lacks its right (04, R142), else run; its code and payload are sent. -/
def State.command (s : State) (iface ld opcode : Nat) (right : Option Right) (body : State → Answer) : State :=
  if !s.hears iface ld then s.unheard iface ld
  else
  let s := s.heard iface
  if !carries iface opcode then s.reply iface ld opcode .unsupported []
  else
  match right with
  | some r =>
    if s.holds iface r then let a := body s; a.state.reply iface ld opcode a.code a.payload
    else (s.deny iface opcode r).reply iface ld opcode .invalidSecurityState []
  | none => let a := body s; a.state.reply iface ld opcode a.code a.payload

/-- Bytes of a mailbox's payload (R141). -/
def mailboxSize : Nat := 1048576
/-- A command whose input a mailbox must hold (R141). -/
def State.fits (s : State) (iface size : Nat) (body : State → Answer) : Answer := if iface < 4 ∧ mailboxSize < size then answer .invalidLength s else body s

/-- The 64 bytes of a ring log record (R418). -/
def LogRec.bytes (r : LogRec) : Bytes :=
  let b := le 2 r.code ++ le 1 r.src ++
    le 1 (b2n r.redacted + 2 * b2n r.rounded + 4 * b2n r.heart + 8 * b2n r.fromGlade) ++
    le 4 r.number ++ le 4 r.seq ++ le 4 r.opsec ++ le 4 r.pwrcyc ++ le 6 r.fine ++ le 2 r.suppressed ++ fit 28 r.data
  b ++ le 4 (crc32 b) ++ [0xFF#8, 0xFF#8, 0xFF#8, 0x5A#8]

/-- The valid records of an area, in slot order (R419). -/
def slotsHeld (l : List LogSlot) : List LogRec := l.filterMap (fun x => match x with | .held r => some r | .partialSlot => none)
def State.heartRecs (s : State) : List LogRec := slotsHeld s.log.heart
def State.sapRecs (s : State) : List LogRec := slotsHeld s.log.sectors.flatten

/-- The numbering of a record that the writer puts at the front of its queue (R425, R426). -/
def State.gapRecord (s : State) (drops : Nat) : State × LogRec :=
  let n := tgetD s.seqNo 0x08 0
  ({ s with seqNo := tput s.seqNo 0x08 ((n + 1) % 2 ^ 32) }, s.logRecord ⟨0x0002, 0x08, n, s.fine, le 4 drops ++ le 1 1, [], 0⟩ 0)
/-- A record the ring log writer raises itself (LOG_GAP). -/
def State.writerRecord (s : State) (code : Nat) (data : Bytes) : State :=
  let n := tgetD s.seqNo 0x08 0
  ({ s with seqNo := tput s.seqNo 0x08 ((n + 1) % 2 ^ 32) }).record ⟨code, 0x08, n, s.fine, data, [], 0⟩

/-- A freeze begins (R426); a freeze while frozen has no effect. -/
def State.freezeLog (s : State) (iface : Nat) : State :=
  if s.log.frozen then s
  else (({ s with log := { s.log with frozen := true, freezer := iface } }).wf F.RLG_CTRL_freeze 1).raise 0x0003 (le 1 iface ++ le 1 0 ++ le 1 0)

/-- The Glade buffer goes to the writer, ahead of what is queued, and a LOG_GAP follows it where records were dropped (R425, R426). -/
def State.drainGlade (s : State) : State :=
  let recs := s.glade.buffer.map (fun r => { r with fromGlade := true })
  let drops := s.glade.bufGap
  let g : State × List LogRec := if drops = 0 then (s, []) else ((s.gapRecord drops).1, [(s.gapRecord drops).2])
  let s := g.1
  ({ s with glade := { s.glade with buffer := [], bufGap := 0 }, log := { s.log with queue := recs ++ g.2 ++ s.log.queue } } : State).logKick

/-- A thaw (R426). -/
def State.thawLog (s : State) (iface : Nat) (byLimit : Bool) : State :=
  if !s.log.frozen then s
  else
    let s := ({ s with log := { s.log with frozen := false } }).wf F.RLG_CTRL_freeze 0
    s.drainGlade.raise 0x0003 (le 1 iface ++ le 1 1 ++ le 1 (b2n byLimit))

/-- Trace stops and its buffer empties (R413). -/
def State.stopTrace (s : State) : State :=
  ({ s with trace := ⟨[], []⟩ }).wf F.RLG_TRC_CTRL_enable 0

/-- How wide a reset scope is: Glade, power-off, cold, warm, then tile and port (R479). -/
def scopeCovers (a b : ResetReq) : Bool :=
  decide (a.scope < b.scope) || (a.scope == b.scope && (decide (a.scope < 4) || a.detail == b.detail))

/-- A reset is requested: it merges into a wider or like request that waits, and takes the place of narrower ones (R480). -/
def State.requestReset (s : State) (r : ResetReq) : State :=
  if s.resets.any (fun q => scopeCovers q r) then s
  else { s with resets := s.resets.filter (fun q => !scopeCovers r q) ++ [r] }

/-- An entry of the reset history (R488, R495), and RST_STAT's last cause and scope. -/
def State.noteReset (s : State) (scope cause detail : Nat) : State :=
  let s := (s.wf F.RST_STAT_last_cause cause).wf F.RST_STAT_last_scope scope
  if 4 < scope then s
  else
    let s := s.incSat F.RST_COUNT_count
    let s := each ((upto 15).reverse) s (fun s i => s.setReg (F.RST_HIST_cause (i + 1)).addr (s.reg (F.RST_HIST_cause i).addr))
    (((s.wf (F.RST_HIST_cause 0) cause).wf (F.RST_HIST_scope 0) scope).wf (F.RST_HIST_detail 0) detail).wf (F.RST_HIST_cycle 0) s.glade.pwrcyc

/-- The RESET event as a scope begins (R480). -/
def State.resetEvent (s : State) (scope cause detail : Nat) : State := s.raise 0x0100 (le 1 scope ++ le 1 cause ++ le 1 detail)

end Sys2Proof.Machine
end

