-- ==== Sys2Proof/Machine/Log.lean ====
section
/-! DEFINITION. Time, events and the ring log (13): the Glade second, resynchronisation, trace control, FIFO entries, the ring log writer, freeze and read-out. -/
namespace Sys2Proof.Machine

/-- The warden's view of the FIFO: the next entry the oldest item holds, and the FIFO after it is taken (R416). -/
def State.fifoEntry (s : State) : Option (Bytes × State) :=
  match s.evf with
  | [] => none
  | .gap f n :: t => some ((FifoItem.gap f n).entries.headD [], { s with evf := t, evfHand := s.evfHand ++ [.gap f n] })
  | .event e :: t =>
    let entry := (FifoItem.event e).entries.getD e.taken []
    if contCount e.data ≤ e.taken then some (entry, { s with evf := t, evfHand := s.evfHand ++ [.event e] })
    else some (entry, { s with evf := .event { e with taken := e.taken + 1 } :: t })

/-- An entry latched into WDN_EVF_DATA0 to 3 (R416). -/
def State.latchEntry (s : State) (b : Bytes) : State :=
  each (upto 4) s (fun s i => s.wf (F.WDN_EVF_DATA_word i) (getLe b (4 * i) 4))

/-- EVF_DATA0_READ (R416): the oldest entry is taken and latched; on an empty FIFO underrun is set and the latch stays. -/
def execEvfData0Read (s : State) : Host.Outcome State Fault Refusal :=
  .next (match s.fifoEntry with
    | none => s.wf F.WDN_EVF_STAT_underrun 1
    | some (b, s') => s'.latchEntry b)

/-- The read paths a value takes out of the management space. -/
def State.readOut (s : State) (iface addr value : Nat) : State := s.send (.regValue iface addr value)

/-- FINE_LO_READ (R429): bits [31:0] are returned, and bits [63:32] latched. -/
def execFineLoRead (iface : Nat) (s : State) : Host.Outcome State Fault Refusal :=
  .next (s.under iface F.WDN_FINE_LO_fine.addr .mgmtRead
    (fun s => (s.wf F.WDN_FINE_HI_fine (s.fine / 2 ^ 32)).readOut iface F.WDN_FINE_LO_fine.addr (s.fine % 2 ^ 32))
    (fun s => s.readOut iface F.WDN_FINE_LO_fine.addr 0))

/-- The writer erases the next sector in rotation when fewer than 24 are erased (R420). -/
def RingLog.startErase (l : RingLog) : RingLog :=
  if l.erased < 24 ∧ 1 < l.sectors.length then { l with erasing := true } else l

/-- LOG_RECORD_WRITE_DONE (R419 to R421): the record stands in its slot, and the next is taken. -/
def execLogRecordWriteDone (s : State) : Host.Outcome State Fault Refusal :=
  .next (match s.log.writing with
    | none => s
    | some r =>
      let l := { s.log.place (.held r) r.heart with writing := none, next := (s.log.next + 1) % 2 ^ 32 }
      (({ s with log := l.startErase }).countHub 37 |>.countHub 53).logKick)

/-- LOG_SECTOR_ERASE_DONE (R420): the oldest sector is erased. -/
def execLogSectorEraseDone (s : State) : Host.Outcome State Fault Refusal :=
  .next (if s.log.erasing then
      ({ s with log := ({ s.log with sectors := s.log.sectors.tail, first := (s.log.first + 1) % 281, erased := s.log.erased + 1, erasing := false } : RingLog).startErase }).countHub 54
    else s)

/-- LOG_QUEUE_GAP_WRITE (R424): a LOG_GAP record carries the count of dropped records. -/
def execLogQueueGapWrite (s : State) : Host.Outcome State Fault Refusal :=
  .next (if 0 < s.log.dropped ∧ s.log.queue.length < 512 ∧ !s.log.frozen ∧ !s.power.committed then
      ({ s with log := { s.log with dropped := 0 } }).writerRecord 0x0002 (le 4 s.log.dropped ++ le 1 0)
    else s)

/-- RATE_WINDOW_END (R422). -/
def execRateWindowEnd (code : Nat) (s : State) : Host.Outcome State Fault Refusal :=
  .next (match tget s.glade.rates code with
    | some st => { s with glade := { s.glade with rates := tput s.glade.rates code { st with running := false, count := 0 } } }
    | none => s)

/-- LOG_FREEZE (R426): a write of RLG_CTRL.freeze = 1 under log-freeze. -/
def execLogFreeze (iface : Nat) (s : State) : Host.Outcome State Fault Refusal :=
  .next (if s.log.frozen then s else s.regWrite iface F.RLG_CTRL_freeze.addr .logFreeze true (·.freezeLog iface))

/-- LOG_THAW (R426): a write of freeze = 0 under log-freeze. -/
def execLogThaw (iface : Nat) (s : State) : Host.Outcome State Fault Refusal :=
  .next (if s.log.frozen then s.regWrite iface F.RLG_CTRL_freeze.addr .logFreeze true (·.thawLog iface false) else s)

/-- FREEZE_LIMIT_EXPIRE (R426). -/
def execFreezeLimitExpire (s : State) : Host.Outcome State Fault Refusal := .next (s.thawLog s.log.freezer true)

/-- The oldest number kept in an area; the next number where it holds none. -/
def oldestOf (recs : List LogRec) (next : Nat) : Nat := each recs next (fun m r => min m r.number)

/-- The answer of Read Ring Log (R427) to an 8-byte input, its payload after the right was checked. -/
def State.readRingLog (s : State) (iface opcode : Nat) (input : Bytes) (most : Nat) : Answer :=
  let count := getLe input 4 2
  let area := getLe input 6 1
  let flags := getLe input 7 1
  if input.length ≠ 8 ∨ count = 0 ∨ most < count ∨ 1 < area ∨ 1 < flags then answer .invalidInput s
  else if flags = 1 ∧ !s.holds iface .logFreeze then answer .invalidSecurityState (s.deny iface opcode .logFreeze)
  else
    let wasFrozen := s.log.frozen
    let s := if flags = 1 then s.freezeLog iface else s
    let recs := if area = 1 then s.heartRecs else s.sapRecs
    let first := max (getLe input 0 4) (oldestOf recs s.log.next)
    let sel := (recs.filter (fun r => decide (first ≤ r.number))).take count
    let head := le 4 sel.length ++ le 4 (oldestOf recs s.log.next) ++ le 4 s.log.next ++ le 2 s.glade.bufDrops ++
      le 2 (b2n s.log.frozen + 2 * b2n (decide (4096 ≤ s.log.heart.length)))
    let s := if flags = 1 ∧ !wasFrozen then s.thawLog iface false else s
    ⟨.success, head ++ (sel.map LogRec.bytes).flatten, s⟩

/-- READ_RING_LOG (R427). -/
def execReadRingLog (iface ld : Nat) (input : Bytes) (s : State) : Host.Outcome State Fault Refusal :=
  .next (s.command iface ld 0xC040 (some .logRead) (fun s => s.readRingLog iface 0xC040 input 16000))

/-! ## Request trace (R410 to R413, R431) -/

/-- TRACE_START (R410): a write of RLG_TRC_CTRL with enable = 1 under the trace right, scoped over the named compartment, or over every compartment when all = 1. -/
def execTraceStart (iface value : Nat) (s : State) : Host.Outcome State Fault Refusal :=
  .next (if !s.hears iface 0 then s.unheard iface 0
    else if s.rb F.RLG_TRC_CTRL_enable then s
    else
      let all := bits value 1 1
      let comp := bits value 13 2
      if s.holds iface .mgmtWrite && (if all = 1 then s.coversAll iface .trace else s.covers iface .trace comp) then
        let s := { s with trace := ⟨[], []⟩ }
        let s := ((s.wf F.RLG_TRC_CTRL_enable 1).wf F.RLG_TRC_CTRL_all all).wf F.RLG_TRC_CTRL_compartment comp
        let s := ((s.wf F.RLG_TRC_CTRL_ports (bits value 17 14)).wf F.RLG_TRC_CTRL_wrap (bits value 18 18)).wf F.RLG_TRC_CTRL_sample_log2 (bits value 22 19)
        (s.wf F.RLG_TRC_CTRL_owner iface).wf F.RLG_TRC_STAT_full 0
      else s.deny iface F.RLG_TRC_CTRL_enable.addr .trace)

/-- TRACE_STOP (R413): a write of enable = 0 under the trace right, scoped as in R410. -/
def execTraceStop (iface : Nat) (s : State) : Host.Outcome State Fault Refusal :=
  .next (if !s.hears iface 0 then s.unheard iface 0
    else if !s.rb F.RLG_TRC_CTRL_enable then s
    else if s.holds iface .mgmtWrite && (if s.rb F.RLG_TRC_CTRL_all then s.coversAll iface .trace else s.covers iface .trace (s.rf F.RLG_TRC_CTRL_compartment)) then s.stopTrace
    else s.deny iface F.RLG_TRC_CTRL_enable.addr .trace)

/-- The 32 bytes of a trace record as the owner reads it (R411, R412). -/
def State.traceBytes (s : State) (iface : Nat) (r : TraceRec) : Bytes :=
  let open_ := s.covers iface .address r.comp
  let red := s.sealedComp r.comp && !open_
  let lev := s.levelComp r.comp && !open_
  let flags := if lev then r.flags % 64 else r.flags
  le 4 r.seq ++ le 4 r.opsec ++ le 6 (if lev then 0 else r.fine % 2 ^ 48) ++ le 1 r.src ++
    le 1 (flags / 4 * 4 + b2n red + 2 * b2n lev) ++ le 5 (if red then r.line / 0x4000 * 0x4000 else r.line) ++
    le 1 r.home ++ le 1 (if lev then 15 else r.path) ++ le 1 0 ++ le 2 r.comp ++
    le 2 (if lev then s.rf (F.HPT_LT_delay (r.src - 0x10)) else min r.latency 65535) ++ le 4 r.epoch

/-- The owner takes the oldest record into RLG_TRC_DATA0 to 7; an empty buffer gives 0 in all eight (R431). -/
def State.takeTrace (s : State) (iface : Nat) : State :=
  let r := match s.trace.buf with
    | [] => (zeros 32, s)
    | r :: t => (s.traceBytes iface r, { s with trace := { s.trace with buf := t } })
  each (upto 8) r.2 (fun s i => s.wf (F.RLG_TRC_DATA_word i) (getLe r.1 (4 * i) 4))
/-- TRACE_DATA_READ (R431): the owner takes the oldest record; another interface reads 0 and takes nothing. -/
def execTraceDataRead (iface : Nat) (s : State) : Host.Outcome State Fault Refusal :=
  .next (s.under iface (F.RLG_TRC_DATA_word 0).addr .mgmtRead
    (fun s =>
      if s.rf F.RLG_TRC_CTRL_owner ≠ iface then s.readOut iface (F.RLG_TRC_DATA_word 0).addr 0
      else (s.takeTrace iface).readOut iface (F.RLG_TRC_DATA_word 0).addr ((s.takeTrace iface).rf (F.RLG_TRC_DATA_word 0)))
    (fun s => s.readOut iface (F.RLG_TRC_DATA_word 0).addr 0))

/-- A port's request is one trace records: the count of matching requests rises, and every 2^s-th is sampled; a sampled request takes the port's next sequence number and its stamp (R408, R410). -/
def State.traceSample (s : State) (port comp : Nat) : State × Option (Nat × Nat × Nat) :=
  if s.rb F.RLG_TRC_CTRL_enable && hasBit (s.rf F.RLG_TRC_CTRL_ports) port && (s.rb F.RLG_TRC_CTRL_all || s.rf F.RLG_TRC_CTRL_compartment == comp) then
    let n := tgetD s.trace.counts port 0
    let s := { s with trace := { s.trace with counts := tput s.trace.counts port (n + 1) } }
    if n % 2 ^ s.rf F.RLG_TRC_CTRL_sample_log2 = 0 then
      let q := tgetD s.seqNo (0x10 + port) 0
      ({ s with seqNo := tput s.seqNo (0x10 + port) ((q + 1) % 2 ^ 32) }, some (q, s.glade.opsec, s.fine))
    else (s, none)
  else (s, none)

/-- Records the trace buffer holds (R413). -/
def traceDepth : Nat := 16384

/-- A trace record enters the buffer, overwrites the oldest, or is dropped and counted (R413). -/
def State.traceStore (s : State) (r : TraceRec) : State :=
  if !s.rb F.RLG_TRC_CTRL_enable then s
  else if s.rb F.RLG_TRC_STAT_full then (s.incSat F.RLG_TRC_STAT_dropped).countHub 40
  else if s.trace.buf.length < traceDepth then
    let s := ({ s with trace := { s.trace with buf := s.trace.buf ++ [r] } }).countHub 39
    if traceDepth ≤ s.trace.buf.length ∧ !s.rb F.RLG_TRC_CTRL_wrap then s.wf F.RLG_TRC_STAT_full 1 else s
  else ({ s with trace := { s.trace with buf := s.trace.buf.tail ++ [r] } }).countHub 39

end Sys2Proof.Machine
end

