-- ==== Sys2Proof/Machine/Package.lean ====
section
/-! DEFINITION. The media package: the commands it takes from the link, its dies' array operations, its responses (02, R39 to R75). -/
namespace Sys2Proof.Machine

/-! ## Levels, drift and references (R43, R47 to R49, R180) -/

/-- The bits (3i+2, 3i+1, 3i) of levels 0 to 7 (R43). -/
def grayBits : List Nat := [0, 1, 3, 2, 6, 7, 5, 4]
/-- The level of three bits. -/
def levelOfBits (b : Nat) : Nat := (grayBits.findIdx? (· == b)).getD 0
/-- Level centres in hundredths of a decade (R43), drift coefficients in thousandths (R47), band multipliers in tenths (R48). -/
def levelCentre : List Nat := [370, 405, 440, 475, 510, 545, 580, 615]
def driftCoef : List Nat := [2, 6, 10, 14, 18, 22, 26, 30]
def bandFactor : List Nat := [7, 10, 14, 20, 28]
/-- The age bucket of an age in seconds (R48). -/
def bucketOf (age : Nat) : Nat := if age < 2 then 0 else min 31 (Nat.log2 age)
/-- The 8-bit code of the default reference between levels k and k + 1 for a bucket and a band: round((ref - 3.0) × 64) (R49). -/
def refCode (k bucket band : Nat) : Nat :=
  let c := levelCentre.getD k 0 + levelCentre.getD (k + 1) 0
  let v := driftCoef.getD k 0 + driftCoef.getD (k + 1) 0
  (64 * ((c - 600) * 20000000 + bandFactor.getD band 0 * v * (2 * bucket + 1) * 30103) + 2000000000) / 4000000000
def defaultRefs (bucket band : Nat) : List Nat := (upto 7).map (fun k => refCode k bucket band)
/-- The fraction of log₂ of x ÷ 2³⁰, x from 2³⁰ to below 2³¹, in n more bits. -/
def log2Frac : Nat → Nat → Nat
  | 0, _ => 0
  | n + 1, x =>
    let y := x * x / 1073741824
    if 2147483648 ≤ y then 2 ^ n + log2Frac n (y / 2) else log2Frac n y
/-- log₁₀ of an age in seconds, in millionths; 0 below 2 s, as log₁₀ 1 is 0 and ages below 1 s do not shift (R47). -/
def log10Micro (t : Nat) : Nat :=
  if t < 2 then 0 else (Nat.log2 t * 1048576 + log2Frac 20 (t * 1073741824 / 2 ^ Nat.log2 t)) * 301030 / 1048576
/-- Where a cell of a level sits at an age, in 10⁻¹⁰ decades (R47). -/
def cellAt (level age band : Nat) : Nat := levelCentre.getD level 0 * 100000000 + bandFactor.getD band 0 * driftCoef.getD level 0 * log10Micro age
/-- The level a read finds: the references, in 1/64 decade above 3.0, at or below the cell (R49). -/
def readLevel (refs : List Nat) (age band level : Nat) : Nat :=
  (refs.filter (fun r => decide (30000000000 + r * 156250000 ≤ cellAt level age band))).length
/-- A line whose cells read as other levels: level k as the k-th of a list. -/
def remapLevels (m : List Nat) (l : Line) : Line :=
  each (upto 256) (0 : Line) (fun acc i => acc ||| (BitVec.ofNat 768 (grayBits.getD (m.getD (levelOfBits ((l >>> (3 * i)).toNat % 8)) 0) 0) <<< (3 * i)))
/-- The references a die uses for a bucket and a band: a loaded entry, else the default; it holds none for a band above 4 (R49; log 143). -/
def PkgDie.codes (x : PkgDie) (bucket band : Nat) : Option (List Nat) :=
  if 4 < band then none else some ((tget x.refs (bucket, band)).getD (defaultRefs bucket band))
/-- What a read of a line finds (R41, R43, R47, R49): the line last programmed in the mode, a dense one by its cells' levels at their age under the bucket and band the read names; none where the content is undefined. -/
def PkgDie.readLine (x : PkgDie) (grove : Nat) (dense : Bool) (line bucket band age heat : Nat) : Option Line :=
  match tget x.lines (grove, dense, line) with
  | none => none
  | some l =>
    if !dense then some l
    else match x.codes bucket band with
      | none => none
      | some refs =>
        let m := (upto 8).map (readLevel refs age heat)
        some (if m = upto 8 then l else remapLevels m l)
/-- The media zone of a channel (R81, R91). -/
def State.zoneOf (s : State) (c : Nat) : Nat := ((s.active.map (·.chans)).getD []).getD c 0 % 32
/-- The hottest band a zone has been in since a Glade second (R180); its present band where no record is late enough. -/
def State.hottestSince (s : State) (z since : Nat) : Nat :=
  match ((upto 5).reverse).find? (fun b => decide (since ≤ tgetD s.glade.bands (z, b) 0) && thas s.glade.bands (z, b)) with
  | some b => b
  | none => s.rf (F.THM_ZONE_band z)
/-- Age in seconds of a sheet's cells, and the band that rules their drift: the hottest their zone has been in (R48; log 142). -/
def State.cellAge (s : State) (x : PkgDie) (grove line : Nat) : Nat := s.glade.elapsed - tgetD x.born (grove, line / 16) 0
def State.cellHeat (s : State) (c : Nat) (x : PkgDie) (grove line : Nat) : Nat := s.hottestSince (s.zoneOf c) (tgetD x.born (grove, line / 16) 0)

/-! ## Blocks and headers (R63 to R65) -/

/-- The CRC-16 of a block's bytes 0 to 13 as it stands in bytes 14 and 15 (R63). -/
def crc16Bytes (b : Bytes) : Bytes := le 1 (crc16 b / 256) ++ le 1 (crc16 b % 256)

/-- A block of 16 bytes whose CRC-16 is right (R70). -/
def blockGood (b : Bytes) : Bool := b.length == 16 && b.drop 14 == crc16Bytes (b.take 14)

/-- The fields of a command block (R63). -/
def readBlock (b : Bytes) (data : Option Line) : PkgCmd :=
  { op := getLe b 0 1, die := getLe b 1 1 / 64, tag := getLe b 1 1 % 64, grove := getLe b 2 3, line := getLe b 5 1 % 64
    dense := hasBit (getLe b 5 1) 6, flag := hasBit (getLe b 5 1) 7, bucket := getLe b 6 1 % 32, band := getLe b 6 1 / 32
    wave := getLe b 7 1 % 8, buf := bits (getLe b 7 1) 3 3, sheet := bits (getLe b 7 1) 5 4, args := slice b 2 12, data := data }

/-- A command block (R63), for the device's side. -/
def makeBlock (c : PkgCmd) : Bytes :=
  let b := le 1 c.op ++ le 1 (c.die * 64 + c.tag) ++ le 3 c.grove ++ le 1 (c.line + 64 * b2n c.dense + 128 * b2n c.flag) ++
    le 1 (c.bucket + 32 * c.band) ++ le 1 (c.wave + 8 * c.buf + 16 * c.sheet) ++ fit 6 c.args
  b ++ crc16Bytes b

/-- The package of a channel. -/
def State.pkg (s : State) (c : Nat) : Pkg := tgetD s.pkgs c Pkg.fresh
def State.setPkg (s : State) (c : Nat) (p : Pkg) : State := { s with pkgs := tput s.pkgs c p }
def Pkg.die (p : Pkg) (d : Nat) : PkgDie := p.dies.getD d PkgDie.fresh
def Pkg.setDie (p : Pkg) (d : Nat) (x : PkgDie) : Pkg := { p with dies := p.dies.set d x }
def Pkg.setTag (p : Pkg) (t : Nat) (x : TagState) : Pkg := { p with tags := tput p.tags t x }

/-- A program is suspended. -/
def DieRun.isHeld (r : DieRun) : Bool := match r.susp with | .held _ => true | _ => false
def PkgDie.suspended (x : PkgDie) : Bool := match x.run with | some r => r.isHeld | none => false

/-- The ready and suspended vectors (R65). -/
def PkgDie.ready (x : PkgDie) : Bool := x.run.isNone && x.reading.isNone && x.queue.isEmpty
def Pkg.vectors (p : Pkg) : Nat :=
  ((upto 4).map (fun d => 2 ^ d * b2n (p.die d).ready + 2 ^ (4 + d) * b2n (p.die d).suspended)).sum

/-- A response header (R65). -/
def respHeader (ty die tag status vectors resA : Nat) (resB : Bytes) : Bytes :=
  let b := le 1 ty ++ le 1 (die * 64 + tag) ++ le 1 status ++ le 1 vectors ++ le 2 resA ++ fit 8 resB
  b ++ crc16Bytes b

/-- Status codes of R65. -/
def stOk : Nat := 0x00
def stProgFail : Nat := 0x02
def stAborted : Nat := 0x03
def stRefusedBusy : Nat := 0x04
def stRefusedState : Nat := 0x05
def stBadAddr : Nat := 0x06
def stLineCrc : Nat := 0x07
def stBadOpcode : Nat := 0x08
def stVmedLow : Nat := 0x09
def stSheetBusy : Nat := 0x0B
def stNoEffect : Nat := 0x0C

/-- The response type of an opcode (R64). -/
def respType (op : Nat) : Nat :=
  if op = 0x01 then 0x81 else if op = 0x30 then 0x83 else if op = 0x31 then 0x85 else if op = 0x3F then 0x86 else 0x82

/-- The package sends a response. -/
def State.pkgSend (s : State) (c ty die tag status resA : Nat) (resB : Bytes) (data : Bytes) : State :=
  s.send (.response c (respHeader ty die tag status (s.pkg c).vectors resA resB) data)

/-- A command ends: its tag's final status is kept (R69) and its response goes. A tag whose record a link reset discarded gets none (R62). -/
def State.pkgDone (s : State) (c : Nat) (cmd : PkgCmd) (status resA : Nat) (data : Bytes) : State :=
  if thas (s.pkg c).tags cmd.tag then
    (s.setPkg c ((s.pkg c).setTag cmd.tag (.done status))).pkgSend c (respType cmd.op) cmd.die cmd.tag status resA [] data
  else s

/-- A command answered on receipt, its tag not in use. -/
def State.pkgAnswer (s : State) (c : Nat) (cmd : PkgCmd) (status : Nat) (resB data : Bytes) : State :=
  (s.setPkg c ((s.pkg c).setTag cmd.tag (.done status))).pkgSend c (respType cmd.op) cmd.die cmd.tag status 0 resB data

/-! ## Lines, cells and wear (R41, R44, R46) -/

/-- Groves a die has (R40). -/
def grovesPerDie : Nat := 11184810

/-- Fast line l and the dense lines of a sheet, in chunks of 256 cells: dense line n is chunk n (R41). -/
def fastChunks (l : Nat) : List Nat := [3 * l, 3 * l + 1, 3 * l + 2]
def sheetChunks (sheet : Nat) : List Nat := (upto 16).map (fun i => 16 * sheet + i)

/-- The chunks of cells a line of a mode occupies. -/
def lineChunks (dense : Bool) (l : Nat) : List Nat := if dense then [l] else fastChunks l

/-- The lines whose cells a program has reached no longer hold their content (R41, R46). -/
def dropLines (t : Tbl (Nat × Bool × Nat) Line) (grove : Nat) (chunks : List Nat) : Tbl (Nat × Bool × Nat) Line :=
  t.filter (fun p => !(p.1.1 == grove && (lineChunks p.1.2.1 p.1.2.2).any chunks.contains))

/-- Wear of a program: units on each chunk of cells (R44). -/
def addWear (t : Tbl (Nat × Nat) Nat) (grove : Nat) (chunks : List Nat) (units : Nat) : Tbl (Nat × Nat) Nat :=
  each chunks t (fun t k => tput t (grove, k) (tgetD t (grove, k) 0 + units))

/-- The cells a program command writes. -/
def PkgCmd.chunks (c : PkgCmd) : List Nat := if c.op = 0x10 then fastChunks c.line else sheetChunks c.sheet

/-- A program ended, whole or not (R44, R46, R52): its cells hold the new lines, or undefined values; a sheet's age counts from then on (R47). -/
def PkgDie.programmed (x : PkgDie) (c : PkgCmd) (whole : Bool) (now : Nat) : PkgDie :=
  let lines := dropLines x.lines c.grove c.chunks
  let lines := if !whole then lines
    else if c.op = 0x10 then (match c.data with | some l => tput lines (c.grove, false, c.line) l | none => lines)
    else each (upto 16) lines (fun t i => match tget x.bufs (c.buf, i) with
      | some l => tput t (c.grove, true, 16 * c.sheet + i) l
      | none => t)
  { x with lines := lines, wear := addWear x.wear c.grove c.chunks (if c.op = 0x10 then 1 else 10), run := none
           born := if c.op = 0x21 then tput x.born (c.grove, c.sheet) now else x.born }

/-- A line is busy under a program (R56). -/
def busyUnder (run : PkgCmd) (grove : Nat) (chunks : List Nat) : Bool := run.grove == grove && chunks.any run.chunks.contains

/-- The chunks a READ, PROG_FAST or PROG_DENSE addresses. -/
def PkgCmd.target (c : PkgCmd) : List Nat :=
  if c.op = 0x21 then sheetChunks c.sheet else if c.op = 0x10 then fastChunks c.line else lineChunks c.dense c.line

/-- An address outside the die (R65 BAD_ADDR). A PROG_FAST whose mode bit says dense names no line of its own mode: the spec names no status for it, and the model answers BAD_ADDR (log 143). -/
def PkgCmd.badAddr (c : PkgCmd) : Bool :=
  if c.op = 0x01 then decide (grovesPerDie ≤ c.grove ∨ (if c.dense then 48 else 16) ≤ c.line)
  else if c.op = 0x10 then decide (grovesPerDie ≤ c.grove ∨ 16 ≤ c.line) || c.dense
  else if c.op = 0x20 then decide (16 ≤ c.line)
  else if c.op = 0x21 then decide (grovesPerDie ≤ c.grove ∨ c.sheet = 3 ∨ 4 < c.wave)
  else false

/-- The line CRC of written data fails (R67). -/
def lineCrcBad (c : PkgCmd) : Bool :=
  !c.flag && (match c.data with
    | some l => lineCrcField l != BitVec.ofNat 32 (crc32 ((lineBytes l).take 92))
    | none => false)

/-! ## The die's queue (R50, R53 to R57) -/

/-- A sheet buffer is in use by the program (R50). -/
def PkgDie.bufInUse (x : PkgDie) (b : Nat) : Bool := match x.run with | some r => r.cmd.op == 0x21 && r.cmd.buf == b | none => false

/-- A command of the queue that is no array operation: the status it ends with, and the die after it. A REF_LOAD for a band from 5 to 7, which the die holds no entry for, is answered OK and changes none: the spec names no status for it (log 143). -/
def PkgDie.simple (x : PkgDie) (c : PkgCmd) : Nat × PkgDie :=
  if c.op = 0x20 then
    (if x.bufInUse c.buf then (stRefusedState, x)
     else (stOk, match c.data with | some l => { x with bufs := tput x.bufs (c.buf, c.line) l } | none => x))
  else if c.op = 0x32 then (stOk, if 4 < c.band then x else { x with refs := tput x.refs (c.bucket, c.band) ((slice c.args 5 7).map (·.toNat)) })
  else (stOk, { x with refs := [] })

/-- The next READ a suspension lets run (R54): with s = 1 in one a READ began, at most four; any in one SUSPEND began; none once a RESUME waits. -/
def PkgDie.nextRead (x : PkgDie) : Option PkgCmd :=
  match x.run with
  | some r => if !r.resumeTags.isEmpty then none else match r.susp with
    | .held true => if r.reads < 4 then x.queue.find? (fun c => c.op == 0x01 && c.flag) else none
    | .held false => x.queue.find? (fun c => c.op == 0x01)
    | _ => none
  | none => none

/-- An array read starts. -/
def State.pkgRead (s : State) (c d : Nat) (x : PkgDie) (cmd : PkgCmd) : State :=
  let x := { x with reading := some cmd, queue := x.queue.erase cmd
                    run := x.run.map (fun r => { r with reads := r.reads + 1 }) }
  s.setPkg c (((s.pkg c).setDie d x).setTag cmd.tag .running)

/-- A queued READ whose line has become busy is refused when its turn comes (R56). -/
def State.pkgBusyRead (s : State) (c d : Nat) (q : PkgCmd) : State :=
  let x := (s.pkg c).die d
  (s.setPkg c ((s.pkg c).setDie d { x with queue := x.queue.erase q })).pkgDone c q stSheetBusy 0 []
/-- A suspended program restarts, and the RESUME commands that waited for it complete (R53, R64). -/
def State.resumeNow (s : State) (c d : Nat) (r : DieRun) : State :=
  let x := (s.pkg c).die d
  let s := s.setPkg c ((s.pkg c).setDie d { x with run := some { r with susp := .none, reads := 0, resumeTags := [] } })
  each r.resumeTags s (fun s t => s.pkgDone c { r.cmd with op := 0x23, tag := t } stOk 0 [])
/-- The die takes what it can from its queue: simple commands at once, an array operation when it runs none, a READ in a suspension, whose end a waiting RESUME needs; a READ with s = 1 behind a dense program asks it to suspend (R53, R54, R57). -/
def State.pkgNext (s : State) (c d : Nat) : Nat → State
  | 0 => s
  | n + 1 =>
    let x := (s.pkg c).die d
    match x.run with
    | some r =>
      if r.isHeld then
        (if x.reading.isSome then s
         else if !r.resumeTags.isEmpty then (s.resumeNow c d r).pkgNext c d n
         else match x.nextRead with
           | some q => if busyUnder r.cmd q.grove q.target then (s.pkgBusyRead c d q).pkgNext c d n else s.pkgRead c d x q
           | none => s)
      else match x.queue with
        | [] => s
        | q :: t =>
          if q.op = 0x20 ∨ q.op = 0x32 ∨ q.op = 0x33 then
            let (st, x') := x.simple q
            ((s.setPkg c ((s.pkg c).setDie d { x' with queue := t })).pkgDone c q st 0 []).pkgNext c d n
          else if r.cmd.op = 0x21 ∧ r.susp = .none then
            (match x.queue.find? (fun q => q.op == 0x01 && q.flag) with
              | some q => if busyUnder r.cmd q.grove q.target then (s.pkgBusyRead c d q).pkgNext c d n
                else s.setPkg c ((s.pkg c).setDie d { x with run := some { r with susp := .asked true } })
              | none => s)
          else s
    | none =>
      if x.reading.isSome then s
      else match x.queue with
        | [] => s
        | q :: t =>
          if q.op = 0x01 then s.pkgRead c d x q
          else if q.op = 0x10 ∨ q.op = 0x21 then
            (s.setPkg c (((s.pkg c).setDie d { x with queue := t, run := some ⟨q, .none, [], 0, [], []⟩ }).setTag q.tag .running)).pkgNext c d n
          else
            let (st, x') := x.simple q
            ((s.setPkg c ((s.pkg c).setDie d { x' with queue := t })).pkgDone c q st 0 []).pkgNext c d n

/-- The die goes on; its queue holds at most four commands. -/
def State.pkgGo (s : State) (c d : Nat) : State := s.pkgNext c d 10

/-- A tag is in use (R66). -/
def Pkg.tagUsed (p : Pkg) (t : Nat) : Bool :=
  match tget p.tags t with
  | some .queued => true
  | some .running => true
  | _ => false

/-- The status that refuses a queued command, none where it is taken (R50, R52, R56, R66, R67, R75); the spec gives no order among the refusals (log 20). -/
def Pkg.refusal (p : Pkg) (c : PkgCmd) : Option Nat :=
  let x := p.die c.die
  if p.tagUsed c.tag then some stRefusedBusy
  else if c.badAddr then some stBadAddr
  else if p.vmedLow && (c.op == 0x01 || c.op == 0x10 || c.op == 0x21) then some stVmedLow
  else if lineCrcBad c then some stLineCrc
  else if (c.op = 0x10 ∨ c.op = 0x21) ∧ x.suspended then some stRefusedState
  else if c.op = 0x20 ∧ x.bufInUse c.buf then some stRefusedState
  else if (c.op == 0x01 || c.op == 0x10 || c.op == 0x21) && (match x.run with | some r => busyUnder r.cmd c.grove c.target | none => false) then some stSheetBusy
  else if 4 ≤ x.queue.length then some stRefusedBusy
  else none

/-- ERR_NOTICE: blocks discarded, the last good tag and die (R70). -/
def State.errNotice (s : State) (c discarded : Nat) : State :=
  s.pkgSend c 0x8F 0 0 0 discarded (le 1 (s.pkg c).lastTag ++ le 1 (s.pkg c).lastDie) []

/-- The opcodes a package knows (R64). -/
def pkgOpcodes : List Nat := [0x01, 0x10, 0x20, 0x21, 0x22, 0x23, 0x24, 0x30, 0x31, 0x32, 0x33, 0x3F]

/-- A command block reaches the package of a channel: a bad one is discarded with its data blocks (R70), an unknown opcode is answered BAD_OPCODE (R64), a tag in use keeping its record (R66), a good block of the opcode is handed on. -/
def State.pkgReceive (s : State) (c : Nat) (block : Bytes) (op dataBlocks : Nat) (data : Option Line) (go : PkgCmd → State → State) : State :=
  if !blockGood block then s.errNotice c (1 + dataBlocks)
  else
    let cmd := readBlock block data
    let s := s.setPkg c { s.pkg c with lastTag := cmd.tag, lastDie := cmd.die }
    if !pkgOpcodes.contains cmd.op then (if (s.pkg c).tagUsed cmd.tag then s.pkgSend c 0x82 cmd.die cmd.tag stBadOpcode 0 [] [] else s.pkgAnswer c cmd stBadOpcode [] []) else if cmd.op = op then go cmd s else s

/-- A command that takes a queue place (R57, R66). -/
def State.pkgQueue (s : State) (c : Nat) (cmd : PkgCmd) : State :=
  match (s.pkg c).refusal cmd with
  | some st =>
    if (s.pkg c).tagUsed cmd.tag then s.pkgSend c (respType cmd.op) cmd.die cmd.tag st 0 [] []
    else s.pkgAnswer c cmd st [] []
  | none =>
    let p := s.pkg c
    let x := p.die cmd.die
    ((s.setPkg c ((p.setDie cmd.die { x with queue := x.queue ++ [cmd] }).setTag cmd.tag .queued))).pkgGo c cmd.die

/-- READ (R54 to R56). -/
def execRead (chan : Nat) (block : Bytes) (s : State) : Host.Outcome State Fault Refusal :=
  .next (s.pkgReceive chan block 0x01 0 none (fun cmd s => s.pkgQueue chan cmd))
/-- PROG_FAST (R64, R67). -/
def execProgFast (chan : Nat) (block : Bytes) (data : Line) (s : State) : Host.Outcome State Fault Refusal :=
  .next (s.pkgReceive chan block 0x10 6 (some data) (fun cmd s => s.pkgQueue chan cmd))
/-- SHEET_LOAD (R50, R67). -/
def execSheetLoad (chan : Nat) (block : Bytes) (data : Line) (s : State) : Host.Outcome State Fault Refusal :=
  .next (s.pkgReceive chan block 0x20 6 (some data) (fun cmd s => s.pkgQueue chan cmd))
/-- PROG_DENSE (R50, R51). -/
def execProgDense (chan : Nat) (block : Bytes) (s : State) : Host.Outcome State Fault Refusal :=
  .next (s.pkgReceive chan block 0x21 0 none (fun cmd s => s.pkgQueue chan cmd))
/-- REF_LOAD (R49). -/
def execRefLoad (chan : Nat) (block : Bytes) (s : State) : Host.Outcome State Fault Refusal :=
  .next (s.pkgReceive chan block 0x32 0 none (fun cmd s => s.pkgQueue chan cmd))
/-- REF_DEFAULT (R49). -/
def execRefDefault (chan : Nat) (block : Bytes) (s : State) : Host.Outcome State Fault Refusal :=
  .next (s.pkgReceive chan block 0x33 0 none (fun cmd s => s.pkgQueue chan cmd))

/-- A command that bypasses the queue (R57, R66): refused where its tag is in use. -/
def State.pkgBypass (s : State) (c : Nat) (cmd : PkgCmd) (go : State → State) : State :=
  if (s.pkg c).tagUsed cmd.tag then s.pkgSend c (respType cmd.op) cmd.die cmd.tag stRefusedBusy 0 [] [] else go s

/-- The run of a die changed. -/
def State.setRun (s : State) (c d : Nat) (r : Option DieRun) : State :=
  s.setPkg c ((s.pkg c).setDie d { (s.pkg c).die d with run := r })

/-- A command that completes later takes its tag. -/
def State.tagRuns (s : State) (c : Nat) (cmd : PkgCmd) : State := s.setPkg c ((s.pkg c).setTag cmd.tag .running)
/-- SUSPEND (R53): completes once the die is suspended; NO_EFFECT where no dense program runs or SUSPEND holds it already. In a suspension that a READ began the die is suspended: SUSPEND completes at once, and holds it from then on (log 144). -/
def execSuspend (chan : Nat) (block : Bytes) (s : State) : Host.Outcome State Fault Refusal :=
  .next (s.pkgReceive chan block 0x22 0 none (fun cmd s => s.pkgBypass chan cmd (fun s =>
    match ((s.pkg chan).die cmd.die).run with
    | some r =>
      if r.cmd.op ≠ 0x21 then s.pkgAnswer chan cmd stNoEffect [] []
      else match r.susp with
        | .held false => s.pkgAnswer chan cmd stNoEffect [] []
        | .held true => ((s.setRun chan cmd.die (some { r with susp := .held false })).pkgAnswer chan cmd stOk [] []).pkgGo chan cmd.die
        | _ => (s.setRun chan cmd.die (some { r with susp := .asked false, suspTags := r.suspTags ++ [cmd.tag] })).tagRuns chan cmd
    | none => s.pkgAnswer chan cmd stNoEffect [] [])))

/-- DENSE_SUSPEND_REACHED (R53, R54): the die is suspended; a waiting SUSPEND completes, and permitted READ commands start. -/
def execDenseSuspendReached (chan die : Nat) (s : State) : Host.Outcome State Fault Refusal :=
  .next (match ((s.pkg chan).die die).run with
    | some r => match r.susp with
      | .asked byRead =>
        let s := s.setRun chan die (some { r with susp := .held byRead, suspTags := [], reads := 0 })
        (each r.suspTags s (fun s t => s.pkgDone chan { r.cmd with op := 0x22, tag := t } stOk 0 [])).pkgGo chan die
      | _ => s
    | none => s)

/-- RESUME (R53, R57): the program restarts, once an array read that runs in the suspension has ended, and the command completes with it. -/
def execResume (chan : Nat) (block : Bytes) (s : State) : Host.Outcome State Fault Refusal :=
  .next (s.pkgReceive chan block 0x23 0 none (fun cmd s => s.pkgBypass chan cmd (fun s =>
    match ((s.pkg chan).die cmd.die).run with
    | some r => if r.isHeld then ((s.setRun chan cmd.die (some { r with resumeTags := r.resumeTags ++ [cmd.tag] })).tagRuns chan cmd).pkgGo chan cmd.die else s.pkgAnswer chan cmd stNoEffect [] []
    | none => s.pkgAnswer chan cmd stNoEffect [] [])))

/-- DENSE_AUTO_RESUME (R54): the reads of a READ-begun suspension have ended, or four have run. -/
def execDenseAutoResume (chan die : Nat) (s : State) : Host.Outcome State Fault Refusal :=
  .next (
    let x := (s.pkg chan).die die
    match x.run with
    | some r => if r.susp = .held true ∧ x.reading.isNone ∧ x.nextRead.isNone then (s.resumeNow chan die r).pkgGo chan die else s
    | none => s)

/-- An aborted program ends (R46, R56): its cells are undefined, its completion reports ABORTED, and ABORT's own follows. -/
def State.abortRun (s : State) (c d : Nat) (r : DieRun) : State :=
  let p := s.pkg c
  let s := s.setPkg c (p.setDie d ((p.die d).programmed r.cmd false s.glade.elapsed))
  let s := s.pkgDone c r.cmd stAborted 0 []
  let s := each r.suspTags s (fun s t => s.pkgDone c { r.cmd with op := 0x22, tag := t } stNoEffect 0 [])
  let s := each r.resumeTags s (fun s t => s.pkgDone c { r.cmd with op := 0x23, tag := t } stNoEffect 0 [])
  (each r.abortTags s (fun s t => s.pkgDone c { r.cmd with op := 0x24, tag := t } stOk 0 [])).pkgGo c d

/-- ABORT (R56): a suspended dense program ends on receipt; a running one ends a little later, and every ABORT that waits completes with it. -/
def execAbort (chan : Nat) (block : Bytes) (s : State) : Host.Outcome State Fault Refusal :=
  .next (s.pkgReceive chan block 0x24 0 none (fun cmd s => s.pkgBypass chan cmd (fun s =>
    match ((s.pkg chan).die cmd.die).run with
    | some r =>
      let r := { r with abortTags := r.abortTags ++ [cmd.tag] }
      let s := s.tagRuns chan cmd
      if r.isHeld then s.abortRun chan cmd.die r else s.setRun chan cmd.die (some r)
    | none => s.pkgAnswer chan cmd stNoEffect [] [])))

/-- PROGRAM_ABORT_DONE (R56). -/
def execProgramAbortDone (chan die : Nat) (s : State) : Host.Outcome State Fault Refusal :=
  .next (match ((s.pkg chan).die die).run with
    | some r => if r.abortTags.isEmpty then s else s.abortRun chan die r
    | none => s)

/-- The tag state bytes of STATUS_DATA (R65). -/
def Pkg.tagBytes (p : Pkg) (t : Nat) : Bytes :=
  match tget p.tags t with
  | none => [0#8, 0#8]
  | some .queued => [1#8, 0#8]
  | some .running => [2#8, 0#8]
  | some (.done st) => [3#8] ++ le 1 st

/-- STATUS (R69): answered at once with the vectors and the named tag's state. -/
def execStatus (chan : Nat) (block : Bytes) (s : State) : Host.Outcome State Fault Refusal :=
  .next (s.pkgReceive chan block 0x30 0 none (fun cmd s => s.pkgBypass chan cmd (fun s =>
    let t := getLe cmd.args 6 1
    s.pkgAnswer chan cmd stOk (if t = 0xFF then [] else (s.pkg chan).tagBytes t) [])))

/-- IDENTIFY (R64, R65). -/
def execIdentify (chan : Nat) (block : Bytes) (s : State) : Host.Outcome State Fault Refusal :=
  .next (s.pkgReceive chan block 0x31 0 none (fun cmd s => s.pkgBypass chan cmd (fun s =>
    s.pkgAnswer chan cmd stOk [] (le 1 0x4A ++ le 1 (Config.packageRevision chan) ++ le 1 4 ++ le 3 grovesPerDie ++
      le 2 ((s.pkg chan).die cmd.die).bad.length ++ le 6 (Config.packageSerial chan) ++ le 2 (Config.packageTrim chan)))))

/-- ECHO (R64, R65). -/
def execEcho (chan : Nat) (block : Bytes) (s : State) : Host.Outcome State Fault Refusal :=
  .next (s.pkgReceive chan block 0x3F 0 none (fun cmd s => s.pkgBypass chan cmd (fun s =>
    s.pkgAnswer chan cmd stOk [] (cmd.args ++ zeros 4))))

/-! ## Array operations end -/

/-- ARRAY_READ_DONE (R41, R47, R49, R64): the line last programmed in the mode, a dense one as its cells' levels stand at their age under the references of the bucket and band named, or a free value where its content is undefined (log 11). -/
def execArrayReadDone (chan die : Nat) (s : State) : Host.Outcome State Fault Refusal :=
  .next (
    let x := (s.pkg chan).die die
    match x.reading with
    | none => s
    | some cmd =>
      let s := s.setPkg chan ((s.pkg chan).setDie die { x with reading := none })
      let (l, s) := match x.readLine cmd.grove cmd.dense cmd.line cmd.bucket cmd.band (s.cellAge x cmd.grove cmd.line) (s.cellHeat chan x cmd.grove cmd.line) with
        | some l => (l, s)
        | none => let (v, s) := s.draw; (BitVec.ofNat 768 v, s)
      (s.pkgDone chan cmd stOk 0 (lineBytes l)).pkgGo chan die)

/-- The step limits of waveforms W0 to W4 (R51). -/
def waveSteps : List Nat := [100, 104, 109, 114, 120]
/-- An end a program can come to: a dense one takes no more steps than its waveform's limit, and fails only at the limit (R51, R52); no more cells are unverified than it programs (R41). -/
def PkgCmd.mayEnd (c : PkgCmd) (steps unverified : Nat) : Bool :=
  if c.op = 0x21 then decide (steps ≤ waveSteps.getD c.wave 0 ∧ unverified ≤ 4096 ∧ (unverified = 0 ∨ steps = waveSteps.getD c.wave 0)) else decide (unverified ≤ 768)
/-- A program ends on its own (R44, R52): OK with the steps used, or PROG_FAIL with the unverified cells. -/
def State.programEnd (s : State) (c d op steps unverified : Nat) : State :=
  match ((s.pkg c).die d).run with
  | some r =>
    if r.cmd.op ≠ op ∨ r.isHeld ∨ !r.abortTags.isEmpty ∨ !r.cmd.mayEnd steps unverified then s
    else
      let p := s.pkg c
      let s := s.setPkg c (p.setDie d ((p.die d).programmed r.cmd (unverified == 0) s.glade.elapsed))
      let s := each r.suspTags s (fun s t => s.pkgDone c { r.cmd with op := 0x22, tag := t } stNoEffect 0 [])
      (s.pkgDone c r.cmd (if unverified = 0 then stOk else stProgFail) (if unverified = 0 then steps else unverified) []).pkgGo c d
  | none => s

/-- FAST_PROGRAM_DONE (R64). -/
def execFastProgramDone (chan die steps unverified : Nat) (s : State) : Host.Outcome State Fault Refusal :=
  .next (s.programEnd chan die 0x10 steps unverified)
/-- DENSE_PROGRAM_DONE (R52). -/
def execDenseProgramDone (chan die steps unverified : Nat) (s : State) : Host.Outcome State Fault Refusal :=
  .next (s.programEnd chan die 0x21 steps unverified)

/-- BAD_BLOCK_RECEIVE (R70). -/
def execBadBlockReceive (chan discarded : Nat) (s : State) : Host.Outcome State Fault Refusal :=
  .next (s.errNotice chan discarded)

/-- A die whose program loses VMED (R46, R75): the cells it was programming are undefined. -/
def PkgDie.powerFail (now : Nat) (x : PkgDie) : PkgDie :=
  match x.run with
  | some r => x.programmed r.cmd false now
  | none => x

/-- VMED_LOW_DETECT (R46, R75): programs in progress leave their cells undefined, and new array commands are refused from then on. -/
def execVmedLowDetect (chan : Nat) (s : State) : Host.Outcome State Fault Refusal :=
  .next (
    let p := s.pkg chan
    s.setPkg chan { p with vmedLow := true, dies := p.dies.map (PkgDie.powerFail s.glade.elapsed) })

/-- No tag: an array operation whose tag record a link reset discarded. -/
def noTag : Nat := 64
/-- The link logic resets (R62): queued commands and the tag table are discarded; running array operations go on, without a tag to answer under. -/
def PkgDie.linkReset (x : PkgDie) : PkgDie :=
  { x with queue := [], reading := x.reading.map (fun c => { c with tag := noTag })
           run := x.run.map (fun r => { r with cmd := { r.cmd with tag := noTag }, suspTags := [], abortTags := [], resumeTags := [] }) }
def Pkg.linkReset (p : Pkg) : Pkg := { p with tags := [], dies := p.dies.map PkgDie.linkReset }

/-- PACKAGE_TS0_RECEIVE (R62). -/
def execPackageTs0Receive (chan : Nat) (s : State) : Host.Outcome State Fault Refusal := .next (s.setPkg chan (s.pkg chan).linkReset)
/-- UNANNOUNCED_IDLE_TIMEOUT (R62). -/
def execUnannouncedIdleTimeout (chan : Nat) (s : State) : Host.Outcome State Fault Refusal := .next (s.setPkg chan (s.pkg chan).linkReset)

/-- VMED goes off at a package (R46, R49, R50): programs fail, queues, buffers, tags and loaded references are lost, and the next training reports the cold flag. -/
def Pkg.powerOff (p : Pkg) (now : Nat) : Pkg :=
  { p with tags := [], vmedLow := false, cold := true
           dies := p.dies.map (fun x => { (x.powerFail now) with reading := none, queue := [], bufs := [], refs := [] }) }

end Sys2Proof.Machine
end

