-- ==== Sys2Proof/Machine/Maps.lean ====
section
/-! DEFINITION. Tiles and what stands in for them, host stems and their maps, places, wear, the spare count and the understorey's share (01, 07; 06, R200, R201). -/
namespace Sys2Proof.Machine

/-! ## Tiles -/

def State.tile (s : State) (t : Nat) : Tile := s.tiles.getD t Tile.fresh
def State.modTile (s : State) (t : Nat) (f : Tile → Tile) : State := { s with tiles := lmod s.tiles t f }
/-- The state of a tile: 0 In service to 6 Failed; 5 on a member that lacks it (R36). -/
def State.tileState (s : State) (t : Nat) : Nat := if t < s.tileCount then s.rf (F.WDN_TILE_STAT_state t) else 5
def State.tileInService (s : State) (t : Nat) : Bool := s.tileState t == 0
/-- WDN_TILE_CTRLn or WDN_TILE_STATn as a read shows it: an absent tile's state reads 5 (R35, R36). -/
def State.wdnTile (s : State) (addr : Nat) : Nat :=
  if (addr - 0x400) / 16 < s.tileCount then (s.reg addr).toNat else if addr % 16 = 4 then 5 else 0
def State.allInService (s : State) : Bool := s.tileList.all s.tileInService
/-- The resume has come so far that the logical devices are configured and the first host access may be served: image checked, taproots accepted, litters replayed (R217, R485, R492). -/
def State.ldsReady (s : State) : Bool :=
  s.clocks.imageChecked && s.clocks.taprootsAccepted && s.tileList.all (fun t => (s.tile t).replayed)
/-- Tiles out of service. -/
def State.tilesOut (s : State) : List Nat := s.tileList.filter (fun t => !s.tileInService t)
/-- Every request is answered with an error: a second tile failed while one was out, until a warm reset (R31); or a tile of a member other than the 8T1024 is out, until it returns (R32). -/
def State.faulted (s : State) : Bool := s.packageFault || (s.dev.member != .m8T1024 && !s.tilesOut.isEmpty)
/-- The nurse of a tile, none where its number names no tile of the part: the default (n + 1) mod 8 of a member that lacks that tile, R24. -/
def State.nurseOf (s : State) (t : Nat) : Option Nat :=
  let n := s.rf (F.WDN_TILE_CTRL_nurse t)
  if n < s.tileCount ∧ n ≠ t then some n else none
/-- The nurse and auto_restore fields as an image loads them (R35, R90); without one, or where it gives no nurse, the defaults (R24). -/
def State.loadRoles (s : State) (i : Option Img) : State :=
  each s.tileList s (fun s t =>
    let r := (i.map (fun i => i.roles.getD t default)).getD ⟨0, 0xFF, 0, 0⟩
    (s.wf (F.WDN_TILE_CTRL_nurse t) (if r.nurse = 0xFF then (t + 1) % 8 else r.nurse)).wf (F.WDN_TILE_CTRL_auto_restore t) (r.flags % 2))
/-- The tile that serves the leaves of home tile t: its nurse while t is out (R21, R25, R33). -/
def State.server (s : State) (t : Nat) : Nat := if s.tileInService t then t else (s.nurseOf t).getD t

/-! ## The image a compartment is served under (03, R116) -/

/-- The image that serves a compartment: that of the apply once the compartment has switched. -/
def State.imgOf (s : State) (id : Nat) : Option Img :=
  match s.img.apply with
  | some a => if a.switched.contains id then some a.img else s.active
  | none => s.active
/-- A compartment as it is served now. -/
def State.served (s : State) (id : Nat) : Option Comp := (s.imgOf id).bind (fun i => i.comps.find? (fun c => c.id == id))
/-- Every compartment served now: those of the active image that have not switched, those of the applied image that have. -/
def State.servedComps (s : State) : List Comp :=
  match s.img.apply with
  | some a => s.comps.filter (fun c => !a.switched.contains c.id) ++ a.img.comps.filter (fun c => a.switched.contains c.id)
  | none => s.comps
/-- The compartment that holds a device address now. -/
def State.servedAt (s : State) (dpa : Nat) : Option Comp := s.servedComps.find? (fun c => decide (c.lo ≤ dpa ∧ dpa < c.hi))
/-- The epoch a compartment is served under (R116). -/
def State.epochOf (s : State) (id : Nat) : Nat := ((s.imgOf id).map (·.epoch)).getD 0
def State.patternOf (s : State) (c : Comp) : Pattern := ((s.imgOf c.id).map (fun i => i.patterns.getD c.interleave default)).getD default

/-! ## Home tile, rank, host stem (R21, R93, R228) -/

/-- Times a tile is named in a list. -/
def times (l : List Nat) (t : Nat) : Nat := (l.filter (· == t)).length

/-- Home tile and rank of the leaf at an offset of a compartment (R228). -/
def Pattern.rank (p : Pattern) (a : Nat) : Nat × Nat :=
  let g := 2 ^ p.granule
  let u := a / g
  let l := p.tiles.length
  let pos := u % l
  let t := p.tiles.getD pos 0
  (t, (u / l * times p.tiles t + times (p.tiles.take pos) t) * (g / 4096) + a % g / 4096)

/-- The position in the pattern of the n-th entry that names a tile. -/
def nthPos (l : List Nat) (t n : Nat) : Nat := (((upto l.length).filter (fun i => l.getD i 0 == t))).getD n 0

/-- The offset of the leaf of a rank on a tile: the inverse of R228. -/
def Pattern.offset (p : Pattern) (t r : Nat) : Nat :=
  let g := 2 ^ p.granule
  let q := g / 4096
  let m := max 1 (times p.tiles t)
  let o := r / q
  (o / m * p.tiles.length + nthPos p.tiles t (o % m)) * g + r % q * 4096

/-- Leaves of a compartment homed on a tile. -/
def Pattern.leafCount (p : Pattern) (size t : Nat) : Nat :=
  let g := 2 ^ p.granule
  let u := size / g
  let l := max 1 p.tiles.length
  (u / l * times p.tiles t + times (p.tiles.take (u % l)) t) * (g / 4096)

/-- A leaf as its home tile knows it: compartment, home tile, host stem, leaf in the stem, rank. -/
structure LeafRef where
  comp : Nat
  tile : Nat
  rank : Nat
  deriving DecidableEq, Repr, Inhabited
def LeafRef.stem (r : LeafRef) : Nat := r.rank / 256
def LeafRef.k (r : LeafRef) : Nat := r.rank % 256

/-- The leaf that holds a line index, and the line's number in it. -/
def State.leafOfLine (s : State) (line : Nat) : Option LeafRef :=
  (s.servedAt (lineDpa line)).map (fun c => let r := (s.patternOf c).rank (lineDpa line - c.lo); ⟨c.id, r.1, r.2⟩)
def State.homeOf (s : State) (line : Nat) : Nat := ((s.leafOfLine line).map (·.tile)).getD 0
/-- The first line index of a leaf. -/
def State.lineOfLeaf (s : State) (r : LeafRef) : Nat :=
  match s.served r.comp with
  | some c => (c.lo + (s.patternOf c).offset r.tile r.rank) / 64
  | none => 0

/-! ## Stem map and leaf map (R229 to R233) -/

/-- The slot of a host stem (R229). -/
def State.slotOf (s : State) (r : LeafRef) : Nat := (tgetD (s.tile r.tile).dir r.comp (0, 0)).1 + r.stem
/-- The leaf map index of a leaf (R232). -/
def State.leafIdx (s : State) (r : LeafRef) : Nat := s.slotOf r * 256 + r.k
def StemEnt.absent : StemEnt := ⟨⟨0, 0, 0⟩, false, false, false, 0, 0, 0, [], []⟩
def LeafEnt.absent : LeafEnt := ⟨0, 0, ⟨0, 0, 0⟩, false, false, false, 0⟩
def Tile.stem (x : Tile) (slot : Nat) : StemEnt := tgetD x.stems slot StemEnt.absent
def Tile.leaf (x : Tile) (idx : Nat) : LeafEnt := tgetD x.leaves idx LeafEnt.absent
def State.stemOf (s : State) (r : LeafRef) : StemEnt := (s.tile r.tile).stem (s.slotOf r)
def State.leafOf (s : State) (r : LeafRef) : LeafEnt := (s.tile r.tile).leaf (s.leafIdx r)
/-- The leaf is mapped (R239). -/
def State.leafMapped (s : State) (r : LeafRef) : Bool :=
  let e := s.leafOf r
  e.valid || e.poisoned || ((s.stemOf r).valid && !e.zero)
/-- The host stem of a slot is mapped (R239). -/
def Tile.slotMapped (x : Tile) (slot : Nat) : Bool :=
  (x.stem slot).valid || x.leaves.any (fun p => p.1 / 256 == slot && p.2.valid)
/-- The slots a tile's tables speak of. -/
def Tile.slotsKnown (x : Tile) : List Nat := (x.stems.map Prod.fst ++ x.leaves.map (fun (p : Nat × LeafEnt) => p.1 / 256)).eraseDups
/-- Mapped host stems of a tile, and of the device (R239). -/
def Tile.mappedStems (x : Tile) : Nat := (x.slotsKnown.filter (fun i => x.slotMapped i)).length
def State.mappedStems (s : State) : Nat := ((s.tileList.map (fun t => (s.tile t).mappedStems)) : List Nat).sum
/-- A compartment is empty: none of its host stems is mapped on any tile (R239). -/
def State.compEmpty (s : State) (id : Nat) : Bool :=
  s.tileList.all (fun t =>
    let x := s.tile t
    match tget x.dir id with
    | some (first, n) => x.slotsKnown.all (fun slot => !(decide (first ≤ slot ∧ slot < first + n) && x.slotMapped slot))
    | none => true)

/-- Dirty map lines a catch holds (R190, R215). -/
def mapSize : Nat := 4096
/-- The dirty map line is held in the catch's map entries, newest last (R234); with all of them in use the oldest leaves for the medium (R215). -/
def Tile.dirtyMap (x : Tile) (k : MapKey) : Tile :=
  let l := x.mapQ.filter (· != k) ++ [k]
  if l.length ≤ mapSize then { x with mapQ := l } else { x with mapQ := l.drop 1, mapOut := x.mapOut.filter (· != k) ++ l.take 1 }
/-- Entries of a cache of some number of sets, least recently used first, after one is used or put in: with more than 16 of its set the oldest of them leaves (R234). -/
def useWay {α : Type} [BEq α] (l : List α) (a : α) (set : α → Nat) : List α :=
  let l := l.filter (· != a) ++ [a]
  if l.length ≤ 16 then l
  else
    let mine := l.filter (fun b => set b == set a)
    if mine.length ≤ 16 then l else l.erase (mine.headD a)
/-- The leaf map cache, 16-way with 16,384 sets (R234; log 159). -/
def leafSet (n : Nat) : Nat := Config.cacheSet 0 n % 16384
/-- A leaf map line is used in, or enters, the leaf map cache. -/
def Tile.useLeaf (x : Tile) (n : Nat) : Tile := { x with lmc := useWay x.lmc n leafSet }
/-- The stem map entry of a slot is changed; its map line is dirty. -/
def State.setStem (s : State) (t slot : Nat) (e : StemEnt) : State :=
  s.modTile t (fun x => { (x.dirtyMap (.stem (slot / 4))) with stems := tput x.stems slot e })
/-- The leaf map entry of an index is changed; its line is dirty, in the leaf map cache, and the filter bit is set while the entry has anything (R234, R236). -/
def State.setLeaf (s : State) (t idx : Nat) (e : LeafEnt) : State :=
  s.modTile t (fun x => { ((x.dirtyMap (.leaf (idx / 8))).useLeaf (idx / 8)) with
    leaves := tput x.leaves idx e
    filter := if e.valid || e.zero || e.poisoned then (if x.filter.contains (idx / 64) then x.filter else x.filter ++ [idx / 64]) else x.filter })
/-- The filter bit of a group is cleared once none of its 64 entries is set (R236). -/
def State.trimFilter (s : State) (t idx : Nat) : State :=
  s.modTile t (fun x =>
    if x.leaves.any (fun p => p.1 / 64 == idx / 64 && (p.2.valid || p.2.zero || p.2.poisoned)) then x
    else { x with filter := x.filter.filter (· != idx / 64) })
/-- Leaf map indices the filter has bits for (R236). -/
def State.filterReach (s : State) : Nat := s.cpt * 49152 * 256
/-- The presence filter answers maybe (R161, R236, R237). -/
def State.maybe (s : State) (t idx : Nat) : Bool :=
  let x := s.tile t
  x.filterAll || decide (s.filterReach ≤ idx) || x.filter.contains (idx / 64)
/-- A generation one higher (R199, R232). -/
def LeafEnt.bump (e : LeafEnt) : LeafEnt := { e with gen := (e.gen + 1) % 4096 }

/-! ## Line-stripes and their members (R91, R196, R202) -/

/-- The global channel of a stripe member (R91). -/
def State.memberChan (s : State) (group m : Nat) : Nat := (((s.active.map (·.groups)).getD []).getD group []).getD m 0
/-- The line-stripe and member of data position q of a mapped place (R202). -/
def canopySpot (p : Place) (q : Nat) : Stripe × Nat :=
  let ss := q / 224
  (⟨p.group, p.die, 25 * p.num + ss / 3, 16 * (ss % 3) + q % 224 / 14, true⟩, q % 14)
/-- The line-stripe and member of data position r of a grove of a lent place (R196, R233); positions run on into the next grove. -/
def frondSpot (p : Place) (grove r : Nat) : Stripe × Nat :=
  (⟨p.group, p.die, 25 * p.num + grove + r / 224, r % 224 / 14, false⟩, r % 14)
/-- The data position of host position q in a place whose patch table covers the given furrows (R238). -/
def patchedPos (patched : List Nat) (q : Nat) : Nat :=
  let f := q / 42
  if patched.contains f then 16398 + 42 * (patched.filter (fun g => decide (g < f))).length + q % 42 else q
/-- Where line j of a leaf in the understorey lies (R196). -/
def leafSpot (e : LeafEnt) (j : Nat) : Stripe × Nat := frondSpot e.place e.grove (e.offset + j)
/-- The furrow that covers a line of a place (R251), as 16 × grove + furrow. -/
def Stripe.furrow (x : Stripe) (p : Place) : Nat := 16 * (x.grove - 25 * p.num) + (if x.dense then x.line / 3 else x.line)
/-- The place of a line-stripe. -/
def Stripe.place (x : Stripe) : Place := ⟨x.group, x.die, x.grove / 25⟩

/-! ## Places (R224 to R227, R241 to R249) -/

def State.groupCount (s : State) : Nat := s.chanCount / 16
/-- The device's side of a channel that has not trained yet: no die is reported present (R77), and its package has lost VMED. -/
def Chan.fresh : Chan := ⟨[], [], 0, [], 15, 0, [], [], [], 0, 15, 0, [], [], 0, [], true, false⟩
/-- The device's side of a channel. -/
def State.chan (s : State) (c : Nat) : Chan := tgetD s.chans c Chan.fresh
/-- A (group, die index) is Dead: one of its dies has been retired (R252, R254). -/
def State.pairDead (s : State) (group die : Nat) : Bool := (upto 16).any (fun m => hasBit (s.chan (s.memberChan group m)).retired die)
def State.deadPairs (s : State) : Nat := ((((upto s.groupCount).map (fun g => ((upto 4).filter (fun d => s.pairDead g d)).length)) : List Nat)).sum
/-- Places of a (group, die index) (R224). -/
def pairPlaces : Nat := 447392

/-- Places the device has, and host stems of the user capacity (R224, R241). -/
def State.placeCount (s : State) : Nat := 111848 * s.chanCount
def State.userStems (s : State) : Nat := 49152 * s.chanCount
/-- Places of a (group, die index) with a grove in the factory list of one of its dies: Dead from the first format (R226). -/
def State.factoryDead (s : State) (group die : Nat) : List Nat :=
  ((((upto 16).map (fun m => ((s.pkg (s.memberChan group m)).die die).bad)).flatten.map (· / 25)).eraseDups).filter (fun n => decide (n < pairPlaces))
/-- Factory-dead places of the package. -/
def State.factoryCount (s : State) : Nat := (((upto s.groupCount).map (fun g => ((upto 4).map (fun d => (s.factoryDead g d).length)))).flatten : List Nat).sum
def State.placeRec (s : State) (p : Place) : PlaceRec :=
  let r := tgetD s.places p ⟨0, [], if p.num < 4096 then .system else .free⟩
  if s.pairDead p.group p.die || (s.factoryDead p.group p.die).contains p.num then { r with state := .dead } else r
/-- A structure line of the hub has changed. -/
def State.hubDirty (s : State) (k : HubKey) : State := if s.hubQ.contains k then s else { s with hubQ := s.hubQ ++ [k] }
/-- The number of a place over the package, and the place of a number. -/
def Place.index (p : Place) : Nat := (p.group * 4 + p.die) * pairPlaces + p.num
def placeOf (i : Nat) : Place := ⟨i / pairPlaces / 4, i / pairPlaces % 4, i % pairPlaces⟩
def State.setPlace (s : State) (p : Place) (f : PlaceRec → PlaceRec) : State :=
  ({ s with places := tput s.places p (f (s.placeRec p)) } : State).hubDirty (.places (p.index / 16))
def State.placeTo (s : State) (p : Place) (st : PState) : State := s.setPlace p (fun r => { r with state := st })
/-- Wear added, saturating (R227). -/
def State.wearPlace (s : State) (p : Place) (k : Nat) : State := s.setPlace p (fun r => { r with wear := satAdd r.wear k 1048575 })
/-- Places of a (group, die index) that are Dead on their own: from the factory, or in the place table. -/
def State.deadIn (s : State) (group die : Nat) : Nat :=
  (s.factoryDead group die).length + (s.places.filter (fun p => p.2.state == .dead && p.1.group == group && p.1.die == die && !(s.factoryDead group die).contains p.1.num)).length
/-- Places that have become Dead since the first format: those of the place table, and the rest of each dead (group, die index). -/
def State.deadPlaces (s : State) : Nat :=
  (s.places.filter (fun p => p.2.state == .dead && !s.pairDead p.1.group p.1.die && !(s.factoryDead p.1.group p.1.die).contains p.1.num)).length +
  ((((upto s.groupCount).map (fun g => (((upto 4).filter (s.pairDead g)).map (fun d => pairPlaces - (s.factoryDead g d).length)))).flatten) : List Nat).sum
/-- The spare count: the base less the places that have become Dead since the first format (R241, R242). -/
def State.spare (s : State) : Nat := s.spareBase - s.deadPlaces
/-- Remaining spares in percent, and life used (R242, R259). -/
def State.spareLeft (s : State) : Nat := 100 * s.spare / max 1 s.spareBase
def State.meanWear (s : State) : Nat := (s.places.map (fun p => p.2.wear)).sum / max 1 s.placeCount
def State.lifeUsed (s : State) : Nat := min 100 (max (100 * s.meanWear / 500000) (100 - s.spareLeft))
/-- The spare state (R247): 0 normal, 1 low, 2 critical, 3 read-only. -/
def State.spareState (s : State) : Nat :=
  if s.readOnly then 3 else if s.spare ≤ s.spareBase / 50 then 2 else if s.spare ≤ s.spareBase / 10 then 1 else 0
/-- The refresh reserve (R241, R243). -/
def State.homeTiles (s : State) : List Nat :=
  match s.active with
  | some i => s.tileList.filter (fun t => (i.roles.getD t default).role == 0)
  | none => s.tileList
def State.reserve (s : State) : Nat := 16 * s.homeTiles.length
/-- Free places of the package (R243). -/
def State.freePlaces (s : State) : Nat :=
  s.placeCount - 4096 * (4 * s.groupCount - s.deadPairs) - pairPlaces * s.deadPairs -
    ((((upto s.groupCount).map (fun g => (((upto 4).filter (fun d => !s.pairDead g d)).map (fun d => ((s.factoryDead g d).filter (fun n => decide (4096 ≤ n))).length)))).flatten) : List Nat).sum -
    (s.places.filter (fun p => decide (4096 ≤ p.1.num) && p.2.state != .free && !s.pairDead p.1.group p.1.die && !(s.factoryDead p.1.group p.1.die).contains p.1.num)).length
/-- The states a change of the spare count passes through raise one SPARE_STATE event each (R247). -/
def State.spareEvents (s : State) (old : Nat) : State :=
  each ((upto 4).filter (fun k => decide (old < k ∧ k ≤ s.spareState))) s (fun s k =>
    (s.raise 0x0400 (le 1 (k - 1) ++ le 1 k ++ le 8 s.spare)).irqEdge irqSpare)
/-- The device is read-only from now on (R248, R250). -/
def State.setReadOnly (s : State) : State :=
  if s.readOnly then s else ({ s with readOnly := true } : State).spareEvents s.spareState
/-- An entry of the deadwood list (R257); a full list takes none. -/
def State.deadwoodAdd (s : State) (kind cause grove furrow unit : Nat) : State :=
  if s.deadwood.length < 1048576 then
    ({ s with deadwood := s.deadwood ++ [⟨kind, cause, grove, furrow, unit, s.glade.opsec, s.glade.pwrcyc⟩] } : State).hubDirty (.deadwood (s.deadwood.length / 4))
  else s
def Place.unit (p : Place) : Nat := p.num % 2 ^ 19 + p.group % 64 * 2 ^ 19 + p.die % 4 * 2 ^ 25
/-- A place becomes Dead (R225, R241, R247); where a device-initiated retirement would take the count below 0 the device enters read-only (R248). That of a place that failed to program is recorded in the ring log too, with kind 2 as in the deadwood list (R252, R257; log 160). -/
def State.markDead (s : State) (p : Place) (cause : Nat) : State :=
  if (s.placeRec p).state == .dead then s
  else
    let old := s.spareState
    let none_ := decide (s.spare = 0)
    let s := (s.placeTo p .dead).deadwoodAdd 2 cause 0 0 p.unit
    let s := if cause = 1 then s.raise 0x0402 (le 1 2 ++ le 1 1 ++ le 4 1 ++ le 1 0) else s
    let s := s.spareEvents old
    if none_ then s.setReadOnly else s
/-- A retired furrow of a place (R251); the tenth, or one that covers a trailer position, makes the place Dead. -/
def State.addFurrow (s : State) (p : Place) (f : Nat) : State :=
  if (s.placeRec p).furrows.contains f then s
  else (s.setPlace p (fun r => { r with furrows := r.furrows ++ [f] })).deadwoodAdd 1 0 (f / 16) (f % 16) p.unit
/-- The furrows of a place make it Dead: ten of them, or one over the trailer. Furrow f covers data positions 42 f to 42 f + 41, and the trailer begins at 16,384 (R238, R251). -/
def trailerFurrow (f : Nat) : Bool := decide (390 ≤ f)
def PlaceRec.worn (r : PlaceRec) : Bool := decide (10 ≤ r.furrows.length) || r.furrows.any trailerFurrow

def State.setChan (s : State) (c : Nat) (x : Chan) : State := { s with chans := tput s.chans c x }
def State.modChan (s : State) (c : Nat) (f : Chan → Chan) : State := s.setChan c (f (s.chan c))
def State.lstate (s : State) (c : Nat) : Nat := s.rf (F.MSC_LNK_STAT_lstate (tileOfChan c) (localChan c))
/-- A die answers: its channel's link is Active, in Recovery or Idle, and the die is present and alive (R73, R77). -/
def State.dieAlive (s : State) (c d : Nat) : Bool := (s.lstate c == 6 || s.lstate c == 7 || s.lstate c == 8) && hasBit (s.chan c).present d && hasBit (s.chan c).alive d && !hasBit (s.chan c).retired d
/-- A member is present: its tile is In service, its die alive (R28, R30, R73, R76). -/
def State.memberPresent (s : State) (group die m : Nat) : Bool :=
  let c := s.memberChan group m
  s.tileInService (tileOfChan c) && s.dieAlive c die
/-- A member of a line-stripe that was written without it, and has not been rebuilt since (R30, R37). -/
def State.memberStale (s : State) (x : Stripe) (m : Nat) : Bool := s.tiles.any (fun y => y.rebuild.contains (tileOfChan (s.memberChan x.group m), x))
/-- A member of a line-stripe can be read: it is present, and the line-stripe is not on the rebuild list of its tile. -/
def State.memberThere (s : State) (x : Stripe) (m : Nat) : Bool := s.memberPresent x.group x.die m && !s.memberStale x m
/-- A die retirement runs for a (group, die index): nothing there is dealt or lent any more (R254). -/
def State.pairRetiring (s : State) (group die : Nat) : Bool :=
  match s.retiring with
  | some r => decide (4 ≤ r.kind) && (r.kind == 5 || r.die == die) && (upto 16).any (fun m => s.memberChan group m == r.chan)
  | none => false
/-- Every die of a (group, die index) is alive (R198, R244); those of a tile that is out count by what it last reported (R30). -/
def State.pairAlive (s : State) (group die : Nat) : Bool :=
  !s.pairRetiring group die && !s.pairDead group die && (upto 16).all (fun m =>
    let c := s.memberChan group m
    if s.tileInService (tileOfChan c) then s.dieAlive c die else hasBit (s.chan c).alive die)
/-- The (group, die index) pairs new places may come from. -/
def State.livePairs (s : State) : List (Nat × Nat) :=
  ((upto s.groupCount).map (fun g => (upto 4).map (fun d => (g, d)))).flatten.filter (fun p => s.pairAlive p.1 p.2)
/-- The i-th place after the system places, over the live pairs. -/
def placeAt (pairs : List (Nat × Nat)) (i : Nat) : Place :=
  let p := pairs.getD (i % max 1 pairs.length) (0, 0)
  ⟨p.1, p.2, 4096 + i / max 1 pairs.length⟩
/-- Places dealt to tiles. -/
def State.dealt (s : State) : List Place := (s.tiles.map (·.batch)).flatten
/-- Free places to deal, lowest wear first (R244): places never used have wear 0; equal wear goes by place number (log 23). -/
def State.dealable (s : State) (n : Nat) : List Place :=
  let pairs := s.livePairs
  if pairs.isEmpty then []
  else
    let dealt := s.dealt
    let fresh := ((upto (s.places.length + dealt.length + s.factoryCount + n)).map (placeAt pairs)).filter (fun p => !thas s.places p && !dealt.contains p && !(s.factoryDead p.group p.die).contains p.num)
    let used := (s.places.filter (fun p => p.2.state == .free && decide (4096 ≤ p.1.num) && !dealt.contains p.1 && pairs.contains (p.1.group, p.1.die))).map (fun p => (p.1, p.2.wear))
    let worn := used.foldl (fun (acc : List (Place × Nat)) x => acc.takeWhile (fun y => decide (y.2 ≤ x.2)) ++ [x] ++ acc.dropWhile (fun y => decide (y.2 ≤ x.2))) []
    (((worn.filter (fun p => p.2 == 0)).map (·.1)) ++ fresh.filter (fun p => decide (p.num < 447392)) ++ (worn.filter (fun p => p.2 != 0)).map (·.1)).take n
/-- The warden deals a batch of 64 to a tile that then keeps no more than 256 free places; those on a (group, die index) that has a die not alive go back to it (R244; log 23). -/
def State.deal (s : State) (t : Nat) : State :=
  let s := s.modTile t (fun x => { x with batch := x.batch.filter (fun p => s.pairAlive p.group p.die) })
  if (s.tile t).batch.length ≤ 192 then (let l := s.dealable 64; s.modTile t (fun x => { x with batch := x.batch ++ l })) else s
/-- The element of a list with the least or greatest key; the first of equals. -/
def pickBy {α : Type} (better : Nat → Nat → Bool) (key : α → Nat) : List α → Option α
  | [] => none
  | a :: l => some (l.foldl (fun b x => if better (key x) (key b) then x else b) a)
/-- Throttle of a zone and of a tile (R500). -/
def State.zoneThrottled (s : State) (z : Nat) : Bool := hasBit (s.rf F.THM_ZTHR_zones) z
def State.tileThrottled (s : State) (t : Nat) : Bool := hasBit (s.rf F.THM_STAT_die_throttle) (1 + t)
/-- A place lies on a channel of a throttled zone. -/
def State.hotPlace (s : State) (p : Place) : Bool := (upto 16).any (fun m => s.zoneThrottled (s.zoneOf (s.memberChan p.group m)))
/-- A place of a tile's batch by wear (R245): the lowest for a copy, the highest for lending; worn places only when there is no other. A copy's destination has no channel in a throttled zone while the batch holds another (R500). A place a read still looks at is not reused (R164). -/
def State.choose (s : State) (t : Nat) (lowest : Bool) : Option Place :=
  let b := (s.tile t).batch.filter (fun p => s.pairAlive p.group p.die && !s.ops.any (fun o => o.stripe.place == p))
  let cool := b.filter (fun p => !s.hotPlace p)
  let b := if lowest && !cool.isEmpty then cool else b
  let sound := b.filter (fun p => decide ((s.placeRec p).wear < 500000))
  pickBy (fun x y => if lowest then decide (x < y) else decide (y < x)) (fun p => (s.placeRec p).wear) (if sound.isEmpty then b else sound)
/-- A free place is taken from a tile's batch; none while only the refresh reserve is left, but for a refresh (R243, R245). -/
def State.takePlace (s : State) (t : Nat) (lowest refresh : Bool) : State × Option Place :=
  if !refresh && decide (s.freePlaces ≤ s.reserve) then (s, none)
  else
    let s := s.deal t
    match s.choose t lowest with
    | some p => (s.modTile t (fun x => { x with batch := x.batch.filter (· != p) }), some p)
    | none => (s, none)
/-- A place returned by a copy or by lending: Free, and the warden's again (R203, R244). -/
def State.releasePlace (s : State) (p : Place) : State := if (s.placeRec p).state == .dead then s else s.placeTo p .free

/-! ## The understorey's size and use (R200, R201) -/

/-- The understorey of a media channel at the present fill, in bytes: the lesser of 3.8 GiB and 160 MiB + 8 GiB × (1 - f). -/
def State.undPerChan (s : State) : Nat := min 4080218931 (167772160 + 8589934592 * (s.userStems - s.mappedStems) / max 1 s.userStems)
/-- A tile's share in log positions of 64 bytes of host data. -/
def State.undShare (s : State) : Nat := s.undPerChan * s.chanCount / max 1 s.homeTiles.length / 64
/-- Live and dead leaves between tail and head, in log positions. -/
def Tile.undUsed (x : Tile) : Nat := x.head - x.tail
def State.undPct (s : State) (t : Nat) : Nat := min 100 ((s.tile t).undUsed * 100 / max 1 s.undShare)
/-- Destage pauses at 100 % (R201). -/
def State.destagePaused (s : State) (t : Nat) : Bool := decide (100 ≤ s.undPct t)
/-- The migrator runs: from mig_start on, until use is below it by more than 10 % (R201); read-only stops it (R247). The register holds whether it ran before. -/
def State.migrating (s : State) (t : Nat) : Bool :=
  let start := s.rf (F.MSC_WR_CFG_mig_start t)
  !s.readOnly && (decide (start ≤ s.undPct t) || (s.rb (F.MSC_WR_STAT_migrating t) && decide (start ≤ s.undPct t + 10)))
/-- Whether the migrators run follows every change of the log and of the fill, which all tiles' shares follow (R200, R201). -/
def State.undRefresh (s : State) (t : Nat) : State := s.wf (F.MSC_WR_STAT_migrating t) (b2n (s.migrating t))
def State.undRefreshAll (s : State) : State := each s.tileList s (fun s t => s.undRefresh t)
/-- A lookup counts in a cache's hit rate; the rate shown is that of the last complete millisecond (R262, R352). -/
def Meter.roll (m : Meter) (now : Nat) : Meter :=
  if m.ms = now then m else ⟨now, 0, 0, if m.ms + 1 = now then 1000 * m.hits / max 1 m.looks else 0⟩
def State.metered (s : State) (t k : Nat) : Meter := (tgetD (s.tile t).meters k ⟨0, 0, 0, 0⟩).roll (s.fine / 1000000)
def State.meter (s : State) (t k : Nat) (hit : Bool) : State :=
  let m := s.metered t k
  s.modTile t (fun x => { x with meters := tput x.meters k { m with looks := m.looks + 1, hits := m.hits + b2n hit } })

end Sys2Proof.Machine
end

