-- ==== Sys2Proof/Machine/MediaErr.lean ====
section
/-! DEFINITION. Logical devices and their event logs (04, R127, R139), media error records and the poison list (08, R289 to R294). -/
namespace Sys2Proof.Machine

/-! ## Logical devices -/

def CxlLog.fresh : CxlLog := ⟨[], 1, false, 0, none, 0, 0⟩
def Ld.fresh : Ld := ⟨List.replicate 4 CxlLog.fresh, 0, 0, false, 0, [], none, [], none, 0, [], []⟩
def State.ld (s : State) (port ld : Nat) : Ld := tgetD s.lds (port, ld) Ld.fresh
def State.modLd (s : State) (port ld : Nat) (f : Ld → Ld) : State := { s with lds := tput s.lds (port, ld) (f (s.ld port ld)) }
/-- The ports of the part. -/
def State.ports (s : State) : List Nat := upto s.portCount
/-- The logical devices that see a compartment (R127, R290). -/
def State.ldsOf (s : State) (comp : Nat) : List (Nat × Nat) :=
  match s.served comp with
  | some c => (s.ports.filter c.onPort).map (fun p => (p, c.ldOn p))
  | none => []
/-- Every logical device (R127). -/
def State.allLds (s : State) : List (Nat × Nat) :=
  ((s.servedComps.map (fun c => (s.ports.filter c.onPort).map (fun p => (p, c.ldOn p)))).flatten).eraseDups
/-- The compartments visible to a logical device (R127). -/
def State.visibleTo (s : State) (port ld : Nat) : List Comp := s.servedComps.filter (fun c => c.onPort port && c.ldOn port == ld)
def State.visible (s : State) (port ld comp : Nat) : Bool := (s.visibleTo port ld).any (fun c => c.id == comp)
/-- The byte of R544 for a port and a logical device. -/
def portLd (port ld : Nat) : Bytes := le 1 (16 * port + ld % 16)

/-! ## Component registers and vectors (R129, R132; log 156) -/

/-- Where BAR0 stands in the address space of configuration requests, and the registers of it that the spec's text reaches: the HDM decoder structure, the pending bits, the mailbox capabilities, the MSI-X table. -/
def bar0 : Nat := 0x10000
def hdmAt : Nat := bar0 + 0x1200
def pbaAt : Nat := bar0 + 0x7F00
def mailboxAt : Nat := bar0 + 0x6000
def msixAt (vector : Nat) : Nat := bar0 + 0x8000 + 16 * vector + 12
/-- A word of a logical device's registers as last written. -/
def Ld.cfg (d : Ld) (off : Nat) : Nat := tgetD d.config off 0
/-- A vector is masked in the MSI-X table, as each is after a reset. -/
def Ld.masked (d : Ld) (vector : Nat) : Bool := tgetD d.config (msixAt vector) 1 % 2 == 1
/-- An interrupt through a vector: signalled, or pending while the vector is masked. -/
def State.msix (s : State) (port ld vector : Nat) : State :=
  if (s.ld port ld).masked vector then s.modLd port ld (fun d => { d with msixPending := d.msixPending.filter (· != vector) ++ [vector] })
  else s.send (.msix port ld vector)
/-- An HDM decoder of a logical device (R129): its range of host addresses, its skip, ways and granule, and whether it is committed. -/
structure Hdm where
  base : Nat
  size : Nat
  skip : Nat
  ways : Nat
  granule : Nat
  committed : Bool
  deriving DecidableEq, Repr
/-- Interleave ways by their code; 0 for a code that stands for none. -/
def hdmWays (code : Nat) : Nat := [1, 2, 4, 8, 16, 0, 0, 0, 3, 6, 12].getD code 0
/-- Two words of a decoder, in units of 256 MiB. -/
def hdmWord (lo hi : Nat) : Nat := (lo / 0x10000000 + hi * 16) * 0x10000000
def hdmReg (n reg : Nat) : Nat := hdmAt + 0x10 + 0x20 * n + reg
/-- Decoder n as its registers give it. -/
def Ld.hdm (d : Ld) (n : Nat) : Hdm :=
  let r (k : Nat) : Nat := d.cfg (hdmReg n k)
  let c := r 0x10
  ⟨hdmWord (r 0) (r 4), hdmWord (r 8) (r 12), hdmWord (r 0x14) (r 0x18), hdmWays (bits c 7 4), 256 * 2 ^ bits c 3 0, hasBit c 10⟩
/-- Where a host address falls in a decoder's share of the device. -/
def Hdm.offset (h : Hdm) (hpa : Nat) : Nat := (hpa - h.base) / (h.granule * h.ways) * h.granule + (hpa - h.base) % h.granule
/-- The device address a host address decodes to: that of the first committed decoder whose range holds it, above what the decoders before it map and skip. -/
def Ld.decode (d : Ld) (hpa : Nat) : Option Nat :=
  if !hasBit (d.cfg (hdmAt + 4)) 1 then none
  else (each (upto 32) ((0, none) : Nat × Option Nat) (fun p n =>
    let h := d.hdm n
    if !h.committed then p
    else
      let b := p.1 + h.skip
      (b + h.size / h.ways, if p.2.isNone && decide (h.base ≤ hpa ∧ hpa < h.base + h.size) then some (b + h.offset hpa) else p.2))).2
/-- A logical device's HDM decoding (R129). -/
def State.hdmDecode (s : State) (port ld hpa : Nat) : Option Nat := (s.ld port ld).decode hpa
/-- A decoder may be committed: known ways and granule, a range, and the decoders before it committed below it. -/
def Ld.mayCommit (d : Ld) (n control : Nat) : Bool :=
  let h := d.hdm n
  hdmWays (bits control 7 4) != 0 && decide (bits control 3 0 ≤ 6) && h.size != 0 && h.size % (256 * 2 ^ bits control 3 0 * hdmWays (bits control 7 4)) == 0 &&
  (n == 0 || ((d.hdm (n - 1)).committed && decide ((d.hdm (n - 1)).base + (d.hdm (n - 1)).size ≤ h.base)))
/-- A write of a decoder's register. A committed decoder takes none, but for a commit bit of 0 where it is not locked. -/
def Ld.writeHdm (d : Ld) (n reg value : Nat) : Ld :=
  let c := d.cfg (hdmReg n 0x10)
  let put (v : Nat) : Ld := { d with config := tput d.config (hdmReg n reg) v }
  if hasBit c 10 then (if !hasBit c 8 && reg == 0x10 && !hasBit value 9 then put (value / 4096 * 4096 + value % 1024) else d)
  else if reg ≠ 0x10 then put value
  else
    let v := value / 4096 * 4096 + value % 1024
    put (if !hasBit value 9 then v else if d.mayCommit n value then v + 2 ^ 10 else v + 2 ^ 11)
/-- A word written to a logical device's registers; pending interrupts of a vector that is unmasked are signalled. -/
def State.writeConfig (s : State) (port ld off value : Nat) : State :=
  if off = hdmAt ∨ off = mailboxAt ∨ (pbaAt ≤ off ∧ off < pbaAt + 256) then s
  else if hdmReg 0 0 ≤ off ∧ off < hdmReg 32 0 then s.modLd port ld (fun d => d.writeHdm ((off - hdmReg 0 0) / 0x20) ((off - hdmReg 0 0) % 0x20) value)
  else
    let s := s.modLd port ld (fun d => { d with config := tput d.config off value })
    each ((s.ld port ld).msixPending.filter (fun v => off == msixAt v && !(s.ld port ld).masked v)) s (fun s v =>
      (s.modLd port ld (fun d => { d with msixPending := d.msixPending.filter (· != v) })).send (.msix port ld v))
/-- A word of a logical device's registers: what the spec gives it, or what was last written, or what CXL and PCIe have there (log 13). -/
def State.configWord (s : State) (port ld off : Nat) : Nat :=
  let d := s.ld port ld
  if off = hdmAt then 12 + 2 ^ 8 + 2 ^ 9 + 2 ^ 11 + 2 ^ 12
  else if off = mailboxAt then 20
  else if pbaAt ≤ off ∧ off < pbaAt + 256 then (((upto 32).filter (fun i => d.msixPending.contains (8 * (off - pbaAt) + i))).map (2 ^ ·)).sum
  else if (hdmReg 0 0 ≤ off ∧ off < hdmReg 32 0) ∨ off = hdmAt + 4 then d.cfg off
  else if msixAt 0 ≤ off ∧ off ≤ msixAt 2047 ∧ off % 16 = 12 then tgetD d.config off 1
  else tgetD d.config off (getLe (Config.standardPayload 0 (le 4 off) 0) 0 4)

/-! ## Event logs -/

/-- A device timestamp of a logical device for a fine stamp (R141, R294); 0 while none has been set. -/
def State.ldTime (s : State) (port ld fine : Nat) : Nat :=
  let d := s.ld port ld
  if d.timestamp = 0 then 0 else d.timestamp + fine - d.tsFine
/-- A record enters an event log of a logical device (R139): a full log drops and counts it; the log's interrupt vector is signalled. -/
def State.cxlPut (s : State) (port ld log : Nat) (kind : CxlKind) (dpa comp : Option Nat) (type : Nat) : State :=
  let l := (s.ld port ld).logs.getD log CxlLog.fresh
  if l.recs.length < 512 then
    let l' := { l with recs := l.recs ++ [⟨l.next, kind, dpa, comp, type, s.ldTime port ld s.fine⟩], next := l.next % 65535 + 1 }
    let s := s.modLd port ld (fun d => { d with logs := d.logs.set log l' })
    (match l.vector with | some v => s.msix port ld v | none => s)
  else s.modLd port ld (fun d => { d with logs := d.logs.set log { l with overflow := true, dropped := satAdd l.dropped 1 65535, firstOver := if l.overflow then l.firstOver else s.ldTime port ld s.fine, lastOver := s.ldTime port ld s.fine } })
/-- The ring log's CXL_EVENT record of a record that no other event stands for (13, R428); the identifier's first bytes are CXL's (log 13). -/
def State.cxlNote (s : State) (port ld log : Nat) (kind : CxlKind) (comps : List Nat) : State :=
  let k := match kind with | .media => 0 | .module => 1 | .unmapped => 2 | .key => 3 | .visible => 4 | .link => 5
  s.raise 0x0802 (portLd port ld ++ le 1 log ++ fit 8 (Config.standardPayload 0x0802 [] k)) comps
def State.cxlPutNoted (s : State) (port ld log : Nat) (kind : CxlKind) (dpa comp : Option Nat) : State :=
  (s.cxlPut port ld log kind dpa comp 0).cxlNote port ld log kind comp.toList

/-! ## The poison list (R294) -/

def State.poisoned (s : State) (line : Nat) : Bool := s.poison.any (fun p => p.1 == line)
def State.poisonAdd (s : State) (line : Nat) (injected : Bool) : State :=
  if s.poisoned line then s
  else if s.poison.length < 65536 then { s with poison := s.poison ++ [(line, injected)] } else { s with poisonOver := some s.fine }
def State.poisonDel (s : State) (line : Nat) : State := { s with poison := s.poison.filter (fun p => p.1 != line) }

/-! ## Media error records (R289 to R291, R543) -/

/-- What is known of an error when its record is raised. -/
structure Report where
  type : Nat
  det : Nat
  line : Option Nat
  comp : Option Nat
  chan : Option Nat
  die : Nat
  member : Nat
  grove : Nat
  granules : Nat
  most : Nat
  bits : Nat
  poison : Bool
  recovered : Bool
  tile : Nat
  /-- a stem copy's, not a destage's (R543) -/
  copying : Bool := false
  /-- met in a fabric word (R543) -/
  fabric : Bool := false
  deriving DecidableEq, Repr, Inhabited

/-- A record of a line, without a place. -/
def Report.ofLine (type det tile line : Nat) (comp : Option Nat) (poison recovered : Bool) : Report :=
  ⟨type, det, some line, comp, none, 0xFF, 0xFF, 0, 0, 0, 0, poison, recovered, tile, false, false⟩

/-- Where in its grove a line lies, as the record holds it (R289). -/
def Stripe.word (x : Stripe) : Nat := x.grove % 2 ^ 24 + x.line % 64 * 2 ^ 24 + b2n x.dense * 2 ^ 30

/-- A record of the internal check outside any request (R289, detector 16): of a tile's array, or of the hub's where the tile is 8. -/
def Report.internal (tile : Nat) (fabric : Bool) : Report := ⟨6, 16, none, none, none, 0xFF, 0xFF, 0, 0, 0, 0, false, false, tile, false, fabric⟩

/-- The source of a MEDIA_ERROR record (R543). -/
def Report.source (r : Report) : Nat :=
  let unit (k : Nat) := 0x20 + 8 * r.tile + k
  if r.fabric then 0x09
  else if decide (r.det ≤ 4) then unit (if r.type == 4 || r.type == 5 then 7 else 1)
  else if r.det == 5 then unit 2 else if r.det == 6 then unit (if r.copying then 3 else 1) else if r.det == 7 then unit 4 else if r.det == 8 then unit 5
  else if r.det == 9 then unit 3 else if r.det == 10 then 0 else if decide (r.det ≤ 13) then unit 0
  else if r.det == 14 then unit 1 else if r.det == 15 then 0x09 else if decide (8 ≤ r.tile) then 0 else unit 0

/-- The CXL event record beside a type (R290): the log, and whether it is a Memory Module record. -/
def cxlOfType (type : Nat) : Option (Nat × CxlKind) :=
  if type = 2 then some (0, .media) else if type = 7 ∨ type = 10 then some (1, .media) else if type = 8 then some (1, .module)
  else if type = 1 then none else some (2, .media)

/-- Two reports concern the same line or unit (R291). -/
def MErr.same (e : MErr) (r : Report) : Bool :=
  e.type == r.type && e.det == r.det && e.line == r.line && e.chan == r.chan && e.die == r.die && e.grove == r.grove

/-- The MEDIA_ERROR event data (13, R428). -/
def MErr.event (e : MErr) : Bytes :=
  le 4 e.num ++ le 2 e.type ++ le 1 e.det ++ le 1 e.flags ++ le 2 (e.comp.getD 0xFFFF) ++ le 2 (e.chan.getD 0xFFFF) ++ le 1 e.die ++
    le 8 ((e.line.map lineDpa).getD 0xFFFFFFFFFFFFFFFF)

/-- The CXL event records a media error record raises (R290); the checker's raise none (R299). -/
def State.cxlOfReport (s : State) (r : Report) : State :=
  if r.det == 12 then s
  else match cxlOfType r.type with
    | none => s
    | some (log, kind) =>
      each (match r.comp with | some c => s.ldsOf c | none => s.allLds) s (fun s p =>
        s.cxlPut p.1 p.2 log kind (r.line.map lineDpa) r.comp r.type)

/-- MEDIA_ERROR_RECORD (R291): a record is raised, or counted in one of the last second; it goes to the ring log, and CXL records follow at once (log 25). -/
def State.report (s : State) (r : Report) : State :=
  let fresh := s.errs.find? (fun e => e.same r && e.pwrcyc == s.glade.pwrcyc && decide (e.fine ≤ s.fine ∧ s.fine ≤ e.fine + 1000000000))
  let s := if r.poison then (match r.line with | some l => s.poisonAdd l false | none => s) else s
  match fresh with
  | some e => { s with errs := s.errs.map (fun x => if x.num == e.num then { x with occ := satAdd x.occ 1 0xFFFFFFFF } else x) }
  | none =>
    let e : MErr := ⟨s.errNext, r.type, r.det, b2n r.line.isSome + 4 * b2n r.poison + 8 * b2n r.recovered, r.line, r.comp, r.chan, r.die,
      r.member, r.grove, r.granules, r.most, r.bits, s.glade.opsec, s.glade.pwrcyc, s.fine, 1⟩
    let s := { s with errs := (e :: s.errs).take 65536, errNext := s.errNext + 1 }
    let s := s.emit r.source 0x0300 e.event r.comp.toList
    let s := if r.tile < 8 then s.irqEdge (irqTile r.tile 9) else s
    s.cxlOfReport r

/-- A record's 64 bytes as a reader sees it (R289, R292, R380, R381): redacted for a sealed compartment, and its stamps rounded for a level-timed one, without the address right. -/
def State.errBytes (s : State) (iface : Nat) (e : MErr) : Bytes :=
  let sealed_ := (e.comp.map s.sealedComp).getD false && !(e.comp.map (s.covers iface .address)).getD false
  let level := (e.comp.map s.levelComp).getD false && !(e.comp.map (s.covers iface .address)).getD false
  let dpa := match e.line with
    | some l => if sealed_ then lineDpa l / 0x100000 * 0x100000 else lineDpa l
    | none => 0xFFFFFFFFFFFFFFFF
  le 4 e.num ++ le 2 e.type ++ le 1 e.det ++ le 1 (e.flags + 2 * b2n sealed_) ++ le 8 dpa ++ le 2 (e.comp.getD 0xFFFF) ++
    le 2 (e.chan.getD 0xFFFF) ++ le 1 e.die ++ le 1 e.member ++ zeros 2 ++ le 4 (if sealed_ then 0 else e.grove) ++ le 1 e.granules ++
    le 1 e.most ++ le 2 e.bits ++ le 4 e.opsec ++ le 4 e.pwrcyc ++ le 6 (if level then 0 else e.fine) ++ zeros 2 ++ le 4 e.occ ++ zeros 12

/-- Before the Cmp of an error completion the Failure log holds a record of the line, also where its error was raised within the last second and the record read and cleared since (R135, R291). -/
def State.failureHeld (s : State) (port ld line comp : Nat) : State :=
  let l := (s.ld port ld).logs.getD 2 CxlLog.fresh
  if l.recs.any (fun r => r.kind == .media && r.dpa == some (lineDpa line)) || decide (512 ≤ l.recs.length) then s
  else s.cxlPut port ld 2 .media (some (lineDpa line)) (some comp) 3
/-- An error completion's record: the Failure or Warning log and HPT_WFAILp (R135, R138, R144). Causes 1 to 8. -/
def State.noteWriteFail (s : State) (port ld line cause : Nat) (comp : Option Nat) : State :=
  let s := s.incSat (F.HPT_WFAIL_count port)
  let s := s.countHub (21 + port) comp.toList
  if s.rb (F.HPT_WFAIL_valid port) then s
  else
    let dpa := if (comp.map s.sealedComp).getD false then lineDpa line / 0x100000 * 0x100000 else lineDpa line
    let s := ((s.wf (F.HPT_WFAIL_ld port) ld).wf (F.HPT_WFAIL_cause port) cause).wf (F.HPT_WFAIL_valid port) 1
    (s.wf (F.HPT_WFAIL_DPAL_dpa port) (dpa % 2 ^ 32)).wf (F.HPT_WFAIL_DPAH_dpa port) (dpa / 2 ^ 32)

/-- The unmapped-address response's record: a vendor event in the Warning log, one per LD per second, the rest counted (R136); the ring log's UNMAPPED (13, R428). -/
def State.noteUnmapped (s : State) (port ld line : Nat) : State :=
  let s := s.countHub (25 + port)
  match (s.ld port ld).unmappedAt with
  | some f =>
    if s.fine < f + 1000000000 then s.modLd port ld (fun d => { d with unmappedMore := d.unmappedMore + 1 })
    else ((s.modLd port ld (fun d => { d with unmappedAt := some s.fine, unmappedMore := 0 })).cxlPut port ld 1 .unmapped (some (lineDpa line)) none 0).emit (0x10 + port) 0x0801 (portLd port ld ++ le 8 (lineDpa line))
  | none => ((s.modLd port ld (fun d => { d with unmappedAt := some s.fine })).cxlPut port ld 1 .unmapped (some (lineDpa line)) none 0).emit (0x10 + port) 0x0801 (portLd port ld ++ le 8 (lineDpa line))

end Sys2Proof.Machine
end

