-- ==== Sys2Proof/Machine/Cipher.lean ====
section
/-! DEFINITION. Key slots and indices, keystream and tag, counters and counter trees (10, R319 to R340, R345, R346). -/
namespace Sys2Proof.Machine

/-! ## Key slots and effective keys -/

def Slot.empty : Slot := ⟨0, 0, none, 0, 0, 0⟩
def State.slot (s : State) (k : Nat) : Slot := tgetD s.slots k Slot.empty
/-- A slot changes: its entry of the key shelf, and of the slot generation table (R321). -/
def State.setSlot (s : State) (k : Nat) (x : Slot) : State := (({ s with slots := tput s.slots k x } : State).hubDirty (.shelf k)).hubDirty (.generations (k / 16))
/-- A slot is bound to a logical device (R320). -/
def Slot.boundTo (x : Slot) (port ld : Nat) : Bool := match x.bound with | none => true | some b => b.1 == port && b.2 == ld
/-- The key index of a slice by the key-slice table (R96), and as the overlay amends it (R345). -/
def Comp.sliceKey (c : Comp) (slice : Nat) : Nat :=
  match c.runs.find? (fun r => decide (r.start ≤ slice ∧ slice < r.start + r.count)) with
  | some r => r.key
  | none => c.defaultKey
def State.effKey (s : State) (c : Comp) (slice : Nat) : Nat :=
  if (s.img.apply.map (fun a => a.switched.contains c.id)).getD false then c.sliceKey slice
  else match s.overlay.find? (fun r => r.comp == c.id && decide (r.start ≤ slice ∧ slice < r.start + r.count)) with
  | some r => r.key
  | none => c.sliceKey slice
/-- The key indices a stand image or the overlay names (R325). -/
def State.namedKey (s : State) (k : Nat) : Bool :=
  s.overlay.any (fun r => r.key == k) ||
  (s.comps ++ s.servedComps).any (fun c => c.cipher == 1 && (c.defaultKey == k || c.runs.any (fun r => r.key == k)))

/-! ## Re-key ranges (R346) -/

/-- The running re-key whose range holds a line of a compartment. -/
def State.rekeyOf (s : State) (c : Comp) (line : Nat) : Option Rekey :=
  let slice := (lineDpa line - c.lo) / 0x200000
  s.rekeys.find? (fun r => r.comp == c.id && decide (r.start ≤ slice ∧ slice < r.start + r.count))
/-- First rank of a re-key's range on a tile, and its lines there, ordered by rank and line. -/
def State.rekeyFirst (s : State) (r : Rekey) (t : Nat) : Nat :=
  match s.served r.comp with | some c => (s.patternOf c).leafCount (r.start * 0x200000) t | none => 0
def State.rekeyLines (s : State) (r : Rekey) (t : Nat) : Nat :=
  match s.served r.comp with
  | some c => ((s.patternOf c).leafCount ((r.start + r.count) * 0x200000) t - s.rekeyFirst r t) * 64
  | none => 0
/-- A line of the range lies below its tile's boundary. -/
def State.belowBound (s : State) (r : Rekey) (ref : LeafRef) (line : Nat) : Bool :=
  decide ((ref.rank - s.rekeyFirst r ref.tile) * 64 + line % 64 < tgetD (s.tile ref.tile).bounds r.slot 0)
/-- The key index a host access to a line takes, and the other one of a running re-key (R323, R346). -/
def State.lineKey (s : State) (c : Comp) (line : Nat) : Nat × Option Nat :=
  match s.rekeyOf c line, s.leafOfLine line with
  | some r, some ref => if s.belowBound r ref line then (r.new, some r.old) else (r.old, some r.new)
  | _, _ => (s.effKey c ((lineDpa line - c.lo) / 0x200000), none)

/-! ## Keystream and tag (R326, R327) -/

/-- The counter block (R326): line index, major, minor, granule and domain. -/
def counterBlock (line major minor granule domain : Nat) : BitVec 128 :=
  BitVec.ofNat 128 (line % 2 ^ 40 + (major % 2 ^ 56) * 2 ^ 40 + (minor % 2 ^ 16) * 2 ^ 96 + (granule % 4 + 16 * domain) * 2 ^ 112)
/-- The hash key block: byte 14 alone is set. -/
def hashBlock : BitVec 128 := BitVec.ofNat 128 (0x20 * 2 ^ 112)
/-- The keystream of a line, granule 0 lowest. -/
def keystream (key : BitVec 256) (line major minor : Nat) : HostLine :=
  Config.aes256 key (counterBlock line major minor 3 0) ++ Config.aes256 key (counterBlock line major minor 2 0) ++
  Config.aes256 key (counterBlock line major minor 1 0) ++ Config.aes256 key (counterBlock line major minor 0 0)
/-- The tag of a line's ciphertext (R327). -/
def lineTagOf (key : BitVec 256) (line major minor gen fmt : Nat) (ct : HostLine) : BitVec 64 :=
  let h := Config.aes256 key hashBlock
  let x5 := BitVec.ofNat 128 ((counterBlock line major minor 0 0).toNat % 2 ^ 112 + (gen % 4096 + fmt % 8 * 4096) * 2 ^ 112)
  let sum := tagHash h (ct.extractLsb' 0 128) (ct.extractLsb' 128 128) (ct.extractLsb' 256 128) (ct.extractLsb' 384 128) x5
  (sum ^^^ Config.aes256 key (counterBlock line major minor 0 1)).extractLsb' 0 64
/-- The format of a compartment's lines (R265). -/
def Comp.format (c : Comp) : Nat := if c.cipher == 0 then 0 else if c.integrity == 0 then 1 else 2
/-- A host line ciphered and tagged as its compartment has it (R265, R326, R327). -/
def cipherLine (c : Comp) (key : BitVec 256) (gen line major minor : Nat) (data : HostLine) : Line :=
  if c.cipher == 0 then composeLine data 0 (mkMeta 0 false 0 0)
  else
    let ct := data ^^^ keystream key line major minor
    composeLine ct (if c.integrity == 0 then 0 else lineTagOf key line major minor gen 2 ct) (mkMeta minor false c.format gen)
/-- What deciphering a checked line gives: its data, or a failed tag. -/
def decipherLine (c : Comp) (key : BitVec 256) (line major : Nat) (l : Line) : Option HostLine :=
  if c.cipher == 0 then some (lineData l)
  else
    let w := lineMeta l
    if c.integrity != 0 && lineTag l != lineTagOf key line major (metaMinor w) (metaGen w) (metaFormat w) (lineData l) then none
    else some (lineData l ^^^ keystream key line major (metaMinor w))

/-! ## Counter allocators (R332) -/

/-- A tile is granted a lease of 64 counter values (R332, LEASE_GRANT): the Glade lease table takes its upper end first. -/
def State.newLease (s : State) (t comp : Nat) : State × Nat :=
  let n := tgetD s.allocs comp 1
  let s := { s with allocs := tput s.allocs comp (n + 64), glade := { s.glade with leases := tput s.glade.leases comp (n + 63) } }
  ((s.modTile t (fun x => { x with leases := tput x.leases comp (n + 1, n + 64) })).countHub 55 [comp], n)
/-- The next counter value of a compartment for a tile, of its lease or of a new one (R332). -/
def State.takeCounter (s : State) (t comp : Nat) : State × Nat :=
  match tget (s.tile t).leases comp with
  | some (n, e) => if n < e then (s.modTile t (fun x => { x with leases := tput x.leases comp (n + 1, e) }), n) else s.newLease t comp
  | none => s.newLease t comp

/-! ## Counter trees (R334 to R339) -/

/-- K of a subtree of n leaves: the smallest k with 8^(k+1) ≥ n (R334). -/
def treeDepth (n : Nat) : Nat := ((upto 14).find? (fun k => decide (n ≤ 8 ^ (k + 1)))).getD 13
def State.depthOf (s : State) (c : Comp) (t : Nat) : Nat := if c.integrity == 0 then 0 else treeDepth ((s.patternOf c).leafCount (c.size * 0x200000) t)
def zeroVals : List Nat := List.replicate 8 0
def Tile.node (x : Tile) (comp level idx : Nat) : Option (List Nat) :=
  (x.nodes.find? (fun n => n.comp == comp && n.level == level && n.idx == idx)).map (·.vals)
/-- The taproot's version of a tile's bole (R334). -/
def State.rootVersion (s : State) (comp t : Nat) : Nat := (tgetD s.roots comp zeroVals).getD t 0
/-- A node as it is known without a fetch: the bole, a node in the counter cache, or all zero where its version is 0 (R334). Integrity 0 keeps twigs alone (R337). -/
def State.nodeKnown (s : State) (c : Comp) (t : Nat) : Nat → Nat → Nat → Option (List Nat)
  | 0, _, _ => none
  | fuel + 1, level, idx =>
    let x := s.tile t
    if c.integrity == 0 then
      match x.node c.id level idx with
      | some v => some v
      | none => if thas x.store (c.id, level, idx) then none else some zeroVals
    else if s.depthOf c t ≤ level then some (tgetD x.boles c.id zeroVals)
    else match x.node c.id level idx with
      | some v => some v
      | none => match s.nodeKnown c t fuel (level + 1) (idx / 8) with
        | some p => if p.getD (idx % 8) 0 = 0 then some zeroVals else none
        | none => none
def State.nodeVals (s : State) (c : Comp) (t level idx : Nat) : Option (List Nat) := s.nodeKnown c t 16 level idx
/-- A node's version in its parent; none while the parent is not known. -/
def State.nodeVersion (s : State) (c : Comp) (t level idx : Nat) : Option Nat :=
  (s.nodeVals c t (level + 1) (idx / 8)).map (fun v => v.getD (idx % 8) 0)
/-- The nodes of a leaf's path that have to be fetched, from the top down (R336). -/
def State.missingNodes (s : State) (c : Comp) (t rank : Nat) : List MapKey :=
  if c.cipher == 0 then []
  else (((upto (s.depthOf c t + 1)).reverse).filter (fun l => (s.nodeVals c t l (rank / 8 ^ (l + 1))).isNone)).map
    (fun l => .node c.id l (rank / 8 ^ (l + 1)))
/-- A node of the leaf's path is unverifiable (R339, R340). -/
def State.badPath (s : State) (c : Comp) (t rank : Nat) : Bool :=
  c.cipher == 1 && (upto (s.depthOf c t + 1)).any (fun l => (s.tile t).badNodes.contains (c.id, l, rank / 8 ^ (l + 1)))
/-- The major counter of a leaf, when its twig is known (R334). -/
def State.major (s : State) (c : Comp) (t rank : Nat) : Option Nat := (s.nodeVals c t 0 (rank / 8)).map (fun v => v.getD (rank % 8) 0)

/-- A node is unverifiable: a SUBTREE record, once (R339, R340). -/
def State.markBad (s : State) (comp t level idx det line : Nat) : State :=
  if (s.tile t).badNodes.contains (comp, level, idx) then s
  else
    let s := s.modTile t (fun x => { x with badNodes := x.badNodes ++ [(comp, level, idx)] })
    let s := (s.incSat F.CIF_ROOT_STAT_unverifiable).incSat (F.CIF_ERR_subtree t)
    s.report { (default : Report) with type := 5, det := det, line := some line, comp := some comp, die := 0xFF, member := 0xFF, tile := t, poison := true }

/-- A node has a child in the cache (R336). -/
def Tile.hasChild (x : Tile) (n : Node) : Bool := n.level != 0 && x.nodes.any (fun m => m.comp == n.comp && m.level + 1 == n.level && m.idx / 8 == n.idx)

/-- A node's slot is set (R336 step 4): in the counter cache, or in the bole, whose change is noted (R343). -/
def State.setNode (s : State) (c : Comp) (t level idx slot v : Nat) : State :=
  let vals := ((s.nodeVals c t level idx).getD zeroVals).set slot v
  if c.integrity != 0 && decide (s.depthOf c t ≤ level) then
    s.modTile t (fun x => { x with boles := tput x.boles c.id vals, bolesChanged := if x.bolesChanged.contains c.id then x.bolesChanged else x.bolesChanged ++ [c.id] })
  else s.modTile t (fun x => { x with nodes := x.nodes.filter (fun n => !(n.comp == c.id && n.level == level && n.idx == idx)) ++ [⟨c.id, level, idx, vals, true⟩] })

/-- The set of the counter cache, 16-way with 4,096 sets, that a line falls into (R336; log 159). -/
def Node.set (n : Node) : Nat := Config.cacheSet 1 (n.idx + n.level * 2 ^ 40 + n.comp * 2 ^ 44) % 4096
/-- A line stands in a set that holds more than its 16 ways. -/
def Tile.overFull (x : Tile) (n : Node) : Bool := decide (16 < (x.nodes.filter (fun m => m.set == n.set)).length)
/-- COUNTER_EVICT (R336): in a set that holds more than 16 lines the least recently used one without a child in the cache leaves; a dirty one takes a new version, goes to the map entries, and sets its slot in the parent. -/
def State.evictNode (s : State) (t : Nat) : State :=
  let x := s.tile t
  if x.nodes.length ≤ 16 then s
  else match x.nodes.find? (fun n => !x.hasChild n && x.overFull n) with
    | none => s
    | some n =>
      let drop (s : State) := s.modTile t (fun x => { x with nodes := x.nodes.filter (fun m => !(m.comp == n.comp && m.level == n.level && m.idx == n.idx)) })
      if !n.dirty then drop s
      else match s.served n.comp with
        | none => drop s
        | some c =>
          let (s, v) := if c.integrity == 0 then (s, 1) else s.takeCounter t c.id
          let s := (drop s).modTile t (fun x => { (x.dirtyMap (.node n.comp n.level n.idx)) with store := tput x.store (n.comp, n.level, n.idx) (n.vals, v) })
          if c.integrity == 0 then s else s.setNode c t (n.level + 1) (n.idx / 8) (n.idx % 8) v

/-- A line of the counter cache is used: it becomes the most recently used. -/
def Tile.useNode (x : Tile) (comp level idx : Nat) : Tile :=
  let it (n : Node) : Bool := n.comp == comp && n.level == level && n.idx == idx
  { x with nodes := x.nodes.filter (fun n => !it n) ++ x.nodes.filter it }
/-- A verified node enters the counter cache (R336). -/
def State.installNode (s : State) (comp t level idx : Nat) (vals : List Nat) : State :=
  (s.modTile t (fun x => { x with nodes := x.nodes.filter (fun n => !(n.comp == comp && n.level == level && n.idx == idx)) ++ [⟨comp, level, idx, vals, false⟩] })).evictNode t

/-- A stored copy verifies against its parent's version (R336, R339); twigs of integrity 0 carry no node tag (R337). -/
def State.nodeGood (s : State) (c : Comp) (t level idx : Nat) : Option (List Nat) :=
  match tget (s.tile t).store (c.id, level, idx) with
  | none => none
  | some (vals, v) => if c.integrity == 0 then some vals else if s.nodeVersion c t level idx = some v then some vals else none

/-- The major counter of a leaf is set in its twig (R331, R332). -/
def State.setMajor (s : State) (c : Comp) (t rank v : Nat) : State := (s.setNode c t 0 (rank / 8) (rank % 8) v).evictNode t
/-- A leaf takes a new major counter. -/
def State.newMajor (s : State) (c : Comp) (t rank : Nat) : State × Nat :=
  let (s, v) := s.takeCounter t c.id
  (s.setMajor c t rank v, v)

/-! ## The key cache (R322) -/

def Tile.keyGen (x : Tile) (k : Nat) : Option Nat := tget x.keys k
/-- A key enters, or is used in, a tile's key cache of 8,192 entries. -/
def Tile.touchKey (x : Tile) (k gen : Nat) : Tile :=
  let l := x.keys.filter (fun p => p.1 != k) ++ [(k, gen)]
  { x with keys := if 8192 < l.length then l.drop 1 else l }
/-- A slot leaves every key cache (R322). -/
def State.dropKey (s : State) (k : Nat) : State := { s with tiles := s.tiles.map (fun x => { x with keys := x.keys.filter (fun p => p.1 != k) }) }
/-- Every key cache empties (R371, R372). -/
def State.clearKeyCaches (s : State) : State := { s with tiles := s.tiles.map (fun x => { x with keys := [] }) }

end Sys2Proof.Machine
end

