-- ==== Sys2Proof/Machine/Lines.lean ====
section
/-! DEFINITION. The lines themselves: what the packages hold, reconstruction, the present copy of a line, the write catch and the tile cache (05, R160; 06, R190 to R195; 08, R266 to R282; 09, R302 to R309; 10, R329 to R331). -/
namespace Sys2Proof.Machine

/-! ## Reading the medium within one step of an engine (log 26) -/

/-- The content of a line of a die that answers, as an array read under the bucket and band of the sheet's cells gives it (R47, R179); what cells with undefined content hold is open (log 11). -/
def State.peek (s : State) (c : Nat) (x : Stripe) : Option Line :=
  if s.dieAlive c x.die then
    let p := (s.pkg c).die x.die
    let age := s.cellAge p x.grove x.line
    let heat := s.cellHeat c p x.grove x.line
    some ((p.readLine x.grove x.dense x.line (bucketOf age) heat age heat).getD (Config.openCells s.freeCtr c x.die x.grove x.line))
  else none
/-- A stripe member as it is stored; none where it is missing. -/
def State.member (s : State) (x : Stripe) (m : Nat) : Option Line :=
  if s.tileInService (tileOfChan (s.memberChan x.group m)) && !s.memberStale x m then s.peek (s.memberChan x.group m) x else none

/-- What reading a line finds. -/
inductive Found where
  /-- it decoded: the corrected line and its check -/
  | good (l : Line) (k : LineCheck)
  /-- it was recovered from its stripe or by a re-read -/
  | recovered (l : Line)
  | lost
  deriving DecidableEq, Repr

/-- A line of a stripe vector checked as it would be read (R274). -/
def acceptVector (v : List Nat) (formats : List Nat) : Option Line :=
  let l := lineOfVector v
  if (checkLine l formats).cls = .uncorrectable then none else some l

/-- The members of a line-stripe that are present and decode, but for one (R169). -/
def State.soundMembers (s : State) (x : Stripe) (but : Nat) : List (Nat × List Nat) :=
  (upto 16).filterMap (fun m => if m = but then none else
    match s.member x m with
    | some l => let k := checkLine l []; if k.cls = .uncorrectable then none else some (m, stripeVector k.fixed)
    | none => none)

/-- The member reconstructed from the others (R169, R274). -/
def State.rebuildMember (s : State) (x : Stripe) (m : Nat) (formats : List Nat) : Option Line :=
  match reconstruct (s.soundMembers x m) m with
  | some v => acceptVector v formats
  | none => none

/-- A member read by an engine: as stored, else reconstructed (R177 step 1). -/
def State.stripeRead (s : State) (x : Stripe) (m : Nat) (formats : List Nat) : Found :=
  let again := match s.rebuildMember x m formats with | some l => Found.recovered l | none => .lost
  match s.member x m with
  | some l => let k := checkLine l formats; if k.cls = .uncorrectable then again else .good k.fixed k
  | none => again

/-! ## Where the present copy of a line lies (R160, R233, R235) -/

inductive Where where
  | zeros
  | poisoned
  | spot (x : Stripe) (m : Nat) (canopy : Bool)
  deriving DecidableEq, Repr

/-- The place the maps give a line: zeros when its leaf is unmapped or discarded, the understorey when its leaf entry names it, else the canopy. -/
def State.whereIs (s : State) (r : LeafRef) (j : Nat) : Where :=
  let e := s.leafOf r
  if e.zero then .zeros
  else if e.poisoned then .poisoned
  else if e.valid then (let p := leafSpot e j; .spot p.1 p.2 false)
  else
    let st := s.stemOf r
    if !st.valid then .zeros
    else if (s.tile r.tile).census.contains (s.slotOf r / 4) then .poisoned
    else (let p := canopySpot st.place (patchedPos st.patched (64 * r.k + j)); .spot p.1 p.2 true)

/-! ## The write catch (R190 to R195, R280, R329) -/

def Tile.entry (x : Tile) (line : Nat) : Option CatchEnt := x.catchQ.find? (fun e => e.line == line)
def Tile.dirty (x : Tile) : Nat := x.catchQ.length
/-- The lines a full catch holds (R190). -/
def catchSize : Nat := 65536
/-- The admission limit (R194). -/
def State.admitLimit (s : State) (t : Nat) : Nat :=
  if s.rb (F.MSC_WR_STAT_braced t) then s.rf (F.MSC_WR_CFG_brace_limit t) * 4096 else catchSize
def State.admits (s : State) (t line : Nat) : Bool := ((s.tile t).entry line).isSome || decide ((s.tile t).dirty < s.admitLimit t)
/-- Every dirty line is eligible once the occupancy reaches destage_pct, or while the tile is braced (R195). -/
def State.refreshEligible (s : State) (t : Nat) : State :=
  if decide (s.rf (F.MSC_WR_CFG_destage_pct t) * catchSize ≤ 100 * (s.tile t).dirty) || s.rb (F.MSC_WR_STAT_braced t)
  then s.modTile t (fun x => { x with catchQ := x.catchQ.map (fun e => { e with eligible := true }) }) else s
/-- The dirty lines of a compartment whose write policy is 1 from a switch on are eligible (R195). -/
def State.policyEligible (s : State) (id : Nat) : State :=
  if (s.served id).any (fun c => c.policy == 1)
  then { s with tiles := s.tiles.map (fun x => { x with catchQ := x.catchQ.map (fun e => if e.comp == id then { e with eligible := true } else e) }) } else s
/-- A line's media line enters the catch (R193): a new entry, or the entry's new content with its version one higher. `sent` is set by litter replay and by a rewrite (R329). -/
def State.catchPut (s : State) (t line comp : Nat) (media : Line) (sent : Bool) (master : Nat) : State :=
  let now := ((s.served comp).map (fun c => c.policy == 1)).getD false
  let known := ((s.tile t).entry line).isSome
  let s := s.modTile t (fun x =>
    if known then { x with catchQ := x.catchQ.map (fun e => if e.line == line then { e with media := media, ver := e.ver + 1, sent := sent, eligible := e.eligible || now, master := master } else e) }
    else { x with catchQ := x.catchQ ++ [⟨line, comp, media, 1, sent, now, master⟩] })
  ((s.countTile t (if known then 65 else 64) [comp]).refreshEligible t)
/-- The line's entry leaves without write-back (R148). -/
def Tile.dropEntry (x : Tile) (line : Nat) : Tile := { x with catchQ := x.catchQ.filter (fun e => e.line != line) }

/-- An entry of a leaf is in the catch. -/
def State.leafInCatch (s : State) (t line : Nat) : Bool := (s.tile t).catchQ.any (fun e => e.line / 64 == line / 64)

/-! ## The present media line of a line (R160, R197, R266) -/

inductive Present where
  | zeros
  /-- a media line, with what its check found when it came from the medium -/
  | media (l : Line) (k : Option LineCheck) (recovered : Bool)
  | poisoned
  | lost
  deriving DecidableEq, Repr

/-- The present copy of line j of a leaf, from the catch of the serving tile or the medium. -/
def State.present (s : State) (t : Nat) (r : LeafRef) (line : Nat) (fmt : Nat) : Present :=
  match (s.tile t).entry line with
  | some e => if metaPoison (lineMeta e.media) then .poisoned else .media e.media none false
  | none => match s.whereIs r (line % 64) with
    | .zeros => .zeros
    | .poisoned => .poisoned
    | .spot x m _ => match s.stripeRead x m [fmt] with
      | .good l k => if k.poisoned then .poisoned else .media l (some k) false
      | .recovered l => if metaPoison (lineMeta l) then .poisoned else .media l none true
      | .lost => .lost

/-- The minor counter the line last carried; none when no copy could be read (R266). -/
def State.storedMinor (s : State) (t : Nat) (r : LeafRef) (line : Nat) : Option Nat :=
  match (s.tile t).entry line with
  | some e => some (metaMinor (lineMeta e.media))
  | none => match s.whereIs r (line % 64) with
    | .zeros => some 0
    | .poisoned => none
    | .spot x m _ => match s.stripeRead x m [] with
      | .good l _ => some (metaMinor (lineMeta l))
      | .recovered l => some (metaMinor (lineMeta l))
      | .lost => none

/-- A poisoned line of a compartment when no copy could be read (R266): the format of the compartment, the present generation of its key, and minor 0xFFFF for cipher 1. -/
def State.unreadPoison (s : State) (c : Comp) (line : Nat) : Line :=
  if c.cipher == 0 then poisonLine 0 0 0 else poisonLine 0xFFFF c.format (s.slot (s.lineKey c line).1).gen
/-- A poisoned line in place of one whose metadata is known (R266). -/
def poisonOf (l : Line) : Line := poisonLine (metaMinor (lineMeta l)) (metaFormat (lineMeta l)) (metaGen (lineMeta l))

/-- The media line an engine takes for a poisoned or lost line (R266, R282). -/
def State.poisonFor (s : State) (t : Nat) (c : Comp) (r : LeafRef) (line : Nat) : Line :=
  match (s.tile t).entry line with
  | some e => poisonOf e.media
  | none => match s.whereIs r (line % 64) with
    | .spot x m _ => match s.stripeRead x m [] with
      | .good l _ => poisonOf l
      | .recovered l => poisonOf l
      | .lost => s.unreadPoison c line
    | _ => s.unreadPoison c line

/-! ## The tile cache (R302 to R309) -/

/-- The set of a line (R302). -/
def cacheSet (line : Nat) : Nat := (line % 32768) ^^^ (line / 32768 % 32768)
def Tile.cached (x : Tile) (line : Nat) : Option CacheLine := x.cache.find? (fun l => l.line == line)
def Tile.victim (x : Tile) (line : Nat) : Option CacheLine := x.victims.find? (fun l => l.line == line)
/-- The entry is good for a request (R303): clear in a compartment without cipher, or under the request's key at the generation the tile's key cache holds. -/
def Tile.usable (x : Tile) (l : CacheLine) (c : Comp) (key : Nat) : Bool :=
  if l.clear then c.cipher == 0 else c.cipher == 1 && l.key == key && x.keyGen key == some l.gen
/-- What the cache or its victim buffer holds of a line for a request (R303, R304). -/
def Tile.cacheHit (x : Tile) (line : Nat) (c : Comp) (key : Nat) : Option CacheLine :=
  match x.cached line with
  | some l => if x.usable l c key then some l else none
  | none => match x.victim line with
    | some l => if x.usable l c key then some l else none
    | none => none
/-- The tag entry of a way (R302): tag, key, generation, valid, dirty, locked, clear, and even parity over the bits below it. -/
def CacheLine.tagEntry (l : CacheLine) (dirty : Bool) : Nat :=
  let e := l.line / 32768 % 2 ^ 25 + l.key % 2 ^ 20 * 2 ^ 25 + l.gen % 2 ^ 12 * 2 ^ 45 + 2 ^ 57 + b2n dirty * 2 ^ 58 + b2n l.locked * 2 ^ 59 + b2n l.clear * 2 ^ 60
  e + ((upto 61).map (fun i => e / 2 ^ i % 2) : List Nat).sum % 2 * 2 ^ 61
def Tile.dropCached (x : Tile) (line : Nat) : Tile := { x with cache := x.cache.filter (fun l => l.line != line) }
def Tile.uncache (x : Tile) (line : Nat) : Tile := { x with cache := x.cache.filter (fun l => l.line != line), victims := x.victims.filter (fun l => l.line != line) }
/-- A lookup that meets a way of the line which is not good for it, its key's generation being known, invalidates that way (R303). -/
def State.dropStale (s : State) (t : Nat) (c : Comp) (line : Nat) (k : Nat × Option Nat) : State :=
  let x := s.tile t
  match (x.cached line).or (x.victim line) with
  | some l =>
    if x.usable l c k.1 || (k.2.map (x.usable l c)).getD false || (c.cipher == 1 && (x.keyGen k.1).isNone) then s
    else s.modTile t (fun x => x.uncache line)
  | none => s
/-- A used line becomes the most recently used. -/
def Tile.touch (x : Tile) (line : Nat) : Tile :=
  match x.cached line with
  | some l => { x with cache := x.cache.filter (fun m => m.line != line) ++ [l] }
  | none => x
/-- A way for a line (R307): an invalid one; the least recently used clean unlocked one; the least recently used unlocked dirty one when the victim buffer has room. -/
def State.cacheAlloc (s : State) (t : Nat) (l : CacheLine) (comp : Nat) : State :=
  let x := s.tile t
  let ways := x.cache.filter (fun m => cacheSet m.line == cacheSet l.line)
  let put (s : State) := (s.modTile t (fun x => { x with cache := x.cache ++ [l] })).countTile t 54 [comp]
  if ways.length < 16 then put s
  else match ways.find? (fun m => !m.locked && (x.entry m.line).isNone) with
    | some v => put ((s.modTile t (fun x => x.dropCached v.line)).countTile t 55 [comp])
    | none => match ways.find? (fun m => !m.locked) with
      | some v => if x.victims.length < 64
          then put ((s.modTile t (fun x => { (x.dropCached v.line) with victims := x.victims ++ [{ v with left := x.destages.any (fun d => d.taken.any (fun p => p.1 == v.line)) }] })).countTile t 56 [comp])
          else s.countTile t 60 [comp]
      | none => s.countTile t 60 [comp]
/-- A read that missed allocates under its compartment's policy (R306). -/
def State.cacheFill (s : State) (t line : Nat) (c : Comp) (key gen : Nat) (d : HostLine) : State :=
  if c.policy == 2 || ((s.tile t).cached line).isSome then s
  else s.cacheAlloc t ⟨line, if c.cipher == 0 then 0 else key, if c.cipher == 0 then 0 else gen, false, c.cipher == 0, d, false⟩ c.id
/-- A write reaches the cache (R306, R309): a cached line takes the written plaintext; a victim that has not left merges it; else the line is allocated, dirty, but under no-allocate. -/
def State.cacheWrite (s : State) (t line : Nat) (c : Comp) (key gen : Nat) (d : HostLine) : State :=
  let k := if c.cipher == 0 then 0 else key
  let g := if c.cipher == 0 then 0 else gen
  let upd (l : CacheLine) : CacheLine := if l.line == line then { l with data := d, key := k, gen := g, clear := c.cipher == 0 } else l
  let x := s.tile t
  match x.cached line with
  | some _ => s.modTile t (fun x => ({ x with cache := x.cache.map upd } : Tile).touch line)
  | none => match x.victim line with
    | some v =>
      if !v.left then (s.modTile t (fun x => { x with victims := x.victims.map upd })).countTile t 58 [c.id]
      else (s.cacheAlloc t ⟨line, k, g, false, c.cipher == 0, d, false⟩ c.id).countTile t 59 [c.id]
    | none => if c.policy == 2 then s else s.cacheAlloc t ⟨line, k, g, false, c.cipher == 0, d, false⟩ c.id

/-! ## A line written (R191 step 5, R329 to R331) -/

/-- The leaf has a major counter in use (R331): a mapped line, or one in the catch. -/
def State.leafInUse (s : State) (t : Nat) (r : LeafRef) (line : Nat) : Bool := s.leafMapped r || s.leafInCatch t line

/-- The detector of what a master's write meets, and the master an engine's read is charged to by its detector (R289, R393). -/
def detOfMaster (master : Nat) : Nat := [15, 15, 15, 15, 3, 6, 5, 7, 8, 4].getD master 6
def masterOfDet (det : Nat) : Nat := [10, 10, 10, 4, 9, 6, 5, 7, 8, 5].getD det 10

/-- The keys a line of a leaf under renewal may be under: those of its slice, and the one of the write (log 30). -/
def State.renewKeys (s : State) (c : Comp) (line key : Nat) : List Nat := ((s.lineKey c line).1 :: (s.lineKey c line).2.toList) ++ [key]
/-- The other lines of a leaf renewed (R330 steps 2 to 4): each taken from its first source, checked and deciphered under the key its generation names, and ciphered under that key and the new major counter with minor counter 0. -/
def State.renewOthers (s : State) (t : Nat) (c : Comp) (r : LeafRef) (line key oldMajor newMajor master : Nat) : State :=
  each ((upto 64).map (fun j => line / 64 * 64 + j)) s (fun s l =>
    if l = line then s
    else
      let put (s : State) (k : Nat) (d : HostLine) : State := s.catchPut t l c.id (cipherLine c (s.slot k).key (s.slot k).gen l newMajor 0 d) false master
      let bad (s : State) : State := s.catchPut t l c.id (s.poisonFor t c r l) false master
      match s.present t r l c.format with
      | .zeros => put s (s.lineKey c l).1 0
      | .media m _ _ =>
        (match (s.renewKeys c l key).find? (fun k => (s.slot k).state == 1 && (s.slot k).gen == metaGen (lineMeta m)) with
          | some k => (match decipherLine c (s.slot k).key l oldMajor m with
            | some d => put s k d
            | none => (bad s |>.incSat (F.CIF_ERR_tag_fail t)).countTile t 104 [c.id] |>.report (.ofLine 4 (detOfMaster master) t l (some c.id) true false))
          | none => bad s)
      | .lost => (bad s).report (.ofLine 3 (detOfMaster master) t l (some c.id) true false)
      | .poisoned => bad s)

/-- LEAF_RENEWAL (R330). -/
def State.renewLeaf (s : State) (t : Nat) (c : Comp) (r : LeafRef) (line key : Nat) (data : HostLine) (master : Nat) : State :=
  let old := (s.major c r.tile r.rank).getD 0
  let (s, v) := s.newMajor c r.tile r.rank
  let s := (s.countTile t 68 [c.id]).renewOthers t c r line key old v master
  s.catchPut t line c.id (cipherLine c (s.slot key).key (s.slot key).gen line v 0 data) false master

/-- A line's new plaintext is ciphered, tagged and entered into the catch (R191 steps 5 and 6): its counters advance under R329, its leaf takes a major counter under R331 or is renewed under R330. The write clears the line's poison (R294). -/
def State.writeLine (s : State) (t : Nat) (c : Comp) (r : LeafRef) (line key : Nat) (data : HostLine) (master : Nat) : State :=
  let s := s.poisonDel line
  if c.cipher == 0 then s.catchPut t line c.id (cipherLine c 0 0 line 0 0 data) false master
  else
    let k := (s.slot key).key
    let g := (s.slot key).gen
    if !s.leafInUse t r line then
      let (s, v) := s.newMajor c r.tile r.rank
      (s.catchPut t line c.id (cipherLine c k g line v 1 data) false master).countTile t 67 [c.id]
    else
      let v := (s.major c r.tile r.rank).getD 0
      match (s.tile t).entry line with
      | some e =>
        let m := metaMinor (lineMeta e.media)
        if e.sent then
          (if 0xFFFF ≤ m then s.renewLeaf t c r line key data master
           else (s.catchPut t line c.id (cipherLine c k g line v (m + 1) data) false master).countTile t 67 [c.id])
        else s.catchPut t line c.id (cipherLine c k g line v m data) false master
      | none =>
        match s.storedMinor t r line with
        | some m => if 0xFFFF ≤ m then s.renewLeaf t c r line key data master
            else (s.catchPut t line c.id (cipherLine c k g line v (m + 1) data) false master).countTile t 67 [c.id]
        | none => s.renewLeaf t c r line key data master


/-- LINE_REWRITE (R280): a corrected or recovered line enters the catch unchanged, with its sent flag set (R329). -/
def State.rewriteLine (s : State) (t : Nat) (r : LeafRef) (line gen : Nat) (l : Line) (recovered : Bool) (master : Nat) : State :=
  if !s.rb (F.MSC_SCR_CFG_rewrite_en t) || s.readOnly || ((s.tile t).entry line).isSome || (s.leafOf r).gen != gen then s
  else if !recovered && decide (s.rf (F.MSC_WR_CFG_destage_pct t) * catchSize ≤ 100 * (s.tile t).dirty) then s.countTile t 103 [r.comp]
  else (s.catchPut t line r.comp l true master).countTile t 102 [r.comp]

/-- The granule corrections a check counts (R279; 17, events 96 to 101). -/
def State.countCheck (s : State) (t : Nat) (k : LineCheck) (comps : List Nat) : State :=
  let s := each k.corr s (fun s n => if 1 ≤ n ∧ n ≤ 4 then (s.countTile t (95 + n) comps) else if n = 7 then s.countTile t 100 comps else s)
  let s := { s with health := { s.health with corrected := s.health.corrected + (k.corr.filter (fun n => decide (1 ≤ n ∧ n ≤ 4))).length } }
  if !k.crcOk && k.corr.all (fun n => decide (n ≤ 4)) then s.countTile t 101 comps else s

/-- Granules and bits a check corrected, as a record gives them (R289). -/
def LineCheck.granules (k : LineCheck) : Nat := (k.corr.filter (· != 0)).length
def LineCheck.bits (k : LineCheck) : Nat := (k.corr.filter (fun n => decide (n ≤ 4))).sum
def LineCheck.worst (k : LineCheck) : Nat := if k.corr.any (· == 7) then 0xFF else k.most

/-- The report of a member of a line-stripe. -/
def State.spotReport (s : State) (type det : Nat) (x : Stripe) (m : Nat) (line comp : Option Nat) (k : Option LineCheck) (poison recovered : Bool) (tile : Nat) : Report :=
  { type := type, det := det, line := line, comp := comp, chan := some (s.memberChan x.group m), die := x.die, member := m, grove := x.word
    granules := (k.map LineCheck.granules).getD 0, most := (k.map LineCheck.worst).getD 0xFF, bits := (k.map LineCheck.bits).getD 0
    poison := poison, recovered := recovered, tile := tile }

end Sys2Proof.Machine
end

