-- ==== Sys2Proof/Machine/Sched.lean ====
section
/-! DEFINITION. The media scheduler: what waits on a channel, the die state the device holds, the path of a read (05, R165 to R171), regulation's serving order and issue (12). -/
namespace Sys2Proof.Machine

/-! ## The device's view of a die (R65, 05 Choosing the path) -/

/-- An opcode that occupies a die's array. -/
def arrayOp (op : Nat) : Bool := op == 0x01 || op == 0x10 || op == 0x21
def Chan.outOn (x : Chan) (d : Nat) : List MCmd := (x.sent.map (·.m)).filter (fun m => m.cmd.die == d && arrayOp m.cmd.op)
/-- The program the device holds a die to be running. -/
def Chan.program (x : Chan) (d : Nat) : Option MCmd := (x.outOn d).find? (fun m => m.cmd.op == 0x10 || m.cmd.op == 0x21)
/-- Commands on a die that take a queue place, answered or not yet (R57, R66). -/
def queueOp (op : Nat) : Bool := arrayOp op || op == 0x20 || op == 0x32 || op == 0x33
def Chan.queuedOn (x : Chan) (d : Nat) : Nat := (x.sent.filter (fun e => e.m.cmd.die == d && queueOp e.m.cmd.op)).length
/-- READs whose frame is still to come, and commands answered by a header at once that are outstanding: those that have been asked after or reissued no longer count (R166). -/
def Sent.due (e : Sent) : Bool := !e.stuck && !e.asked && e.reissues == 0
def Chan.readsDue (x : Chan) : Nat := (x.sent.filter (fun e => e.m.cmd.op == 0x01 && e.due)).length
def shortOp (op : Nat) : Bool := !arrayOp op && op != 0x30
def Chan.shortsDue (x : Chan) : Nat := (x.sent.filter (fun e => shortOp e.m.cmd.op && e.due)).length
/-- The upstream lane has room for the answer of a command (R166): a READ finds at most one other READ_DATA frame and one header before it. The model, which has no lane time, holds READs to two outstanding on a channel (log 146). -/
def Chan.laneFree (x : Chan) (op : Nat) : Bool :=
  if op == 0x01 then decide (x.readsDue ≤ 1 ∧ x.shortsDue ≤ 1) else !shortOp op || x.readsDue == 0 || x.shortsDue == 0
def Chan.readsOn (x : Chan) (d : Nat) : Nat := ((x.outOn d).filter (fun m => m.cmd.op == 0x01)).length
/-- A die counts as ready: so said the last response, and nothing issued since then occupies it. -/
def Chan.dieReady (x : Chan) (d : Nat) : Bool := hasBit x.ready d && (x.outOn d).isEmpty

/-- A command waits for issue on a channel. -/
def State.submit (s : State) (c : Nat) (m : MCmd) : State := s.modChan c (fun x => { x with waiting := x.waiting ++ [m] })
def blankCmd : PkgCmd := ⟨0, 0, 0, 0, 0, false, false, 0, 0, 0, 0, 0, [], none⟩
def readCmd (x : Stripe) (s_ : Bool) (bucket band : Nat) : PkgCmd :=
  { blankCmd with op := 0x01, die := x.die, grove := x.grove, line := x.line, dense := x.dense, flag := s_, bucket := if x.dense then bucket else 0, band := if x.dense then band else 0 }
def fastCmd (x : Stripe) (l : Line) (skip : Bool) : PkgCmd :=
  { blankCmd with op := 0x10, die := x.die, grove := x.grove, line := x.line, flag := skip, data := some l }
def abortCmd (d : Nat) : PkgCmd := { blankCmd with op := 0x24, die := d }
/-- STATUS for a tag of a die, or 0xFF for the vectors alone. -/
def statusCmd (d tag : Nat) : PkgCmd := { blankCmd with op := 0x30, die := d, args := le 1 tag }

/-! ## Age and band (R48, R179 to R182) -/

/-- The age of a stem in seconds (R230). -/
def State.ageOf (s : State) (e : StemEnt) : Nat := (s.glade.elapsed + 2 ^ 30 - 2 * e.prog % 2 ^ 30) % 2 ^ 30
def State.bandOf (s : State) (c : Nat) (e : StemEnt) : Nat := s.hottestSince (s.zoneOf c) (s.glade.elapsed - s.ageOf e)
/-- The band a read of a member names: the hottest of that member's own zone since the sheet was programmed (R81, R179), the zone's present band in the sweep of a flagged sheet (R182). -/
def State.readBand (s : State) (o : Op) (c : Nat) : Nat :=
  let e := (s.tile o.home).stem o.slot
  if e.ageUnknown && !(s.tile o.home).swept.contains o.slot then s.rf (F.THM_ZONE_band (s.zoneOf c)) else s.bandOf c e

/-! ## The path of a read (R168 to R171) -/

/-- Every member of a line-stripe but one can be read, on tiles in T0 or T1 (R171). -/
def State.aroundOk (s : State) (x : Stripe) (but : Nat) : Bool :=
  s.allInService && (upto 16).all (fun m => m == but ||
    (s.memberThere x m && decide ((s.tile (tileOfChan (s.memberChan x.group m))).depth ≤ 1)))

inductive Path where
  | direct | abort | suspended | around
  deriving DecidableEq, Repr

/-- A suspension is allowed (R168). -/
def State.suspOk (s : State) (t c d : Nat) : Bool :=
  let x := s.chan c
  (match x.program d with | some m => m.cmd.op == 0x21 | none => false) && decide (tgetD x.suspReads d 0 < 4) &&
    decide (tgetD x.suspended d 0 < s.rf (F.MSC_RD_CFG_susp_limit t))

/-- The branches of R168. A READ of a line under program that may not read around waits for the program's end at issue, and is then direct. -/
def State.choosePath (s : State) (t c : Nat) (x : Stripe) (raOk : Bool) : Path :=
  let ch := s.chan c
  let around (p : Path) := if raOk then Path.around else p
  if ch.dieReady x.die then .direct
  else match ch.program x.die with
    | some m =>
      if m.cmd.op == 0x10 then .abort
      else if busyUnder m.cmd x.grove (lineChunks x.dense x.line) then around .direct
      else if 0 < ch.readsOn x.die then around .direct
      else if s.suspOk t c x.die then .suspended
      else around .suspended
    | none => if 0 < ch.readsOn x.die then around .direct else .direct

/-- A member read is submitted by its path (R168), those of a gather with s = 1 (R169): an aborted fast program is reissued when its ABORTED completion arrives (R167). -/
def State.submitRead (s : State) (op : Op) (m : Nat) (path : Path) (bucket : Nat) (wasted : Option Nat) : State :=
  let c := s.memberChan op.stripe.group m
  let cmd := readCmd op.stripe (path == .suspended || m != op.member) bucket (s.readBand op c)
  let mc : MCmd := ⟨cmd, .read op.id m, op.master, op.comps, decide (op.master < 4), false, wasted⟩
  let s := if path == .abort then s.submit c ⟨abortCmd op.stripe.die, .control, op.master, op.comps, decide (op.master < 4), false, some 19⟩ else s
  s.submit c mc

/-! ## Regulation (R390 to R398) -/

/-- Slots of a channel per window (R391). -/
def State.chanSlots (s : State) (c : Nat) : Nat :=
  let t := tileOfChan c
  if !s.tileInService t || !(s.lstate c == 6 || s.lstate c == 8) || (upto 4).all (fun d => !s.dieAlive c d) then 0
  else if s.zoneThrottled (s.zoneOf c) || s.tileThrottled t then 6 else 12
/-- C of R391. -/
def State.tileCap (s : State) (t : Nat) : Nat := (((upto s.cpt).map (fun c => s.chanSlots (globalChan t c)))).sum
def State.shares (s : State) : List Share := (s.active.map (·.masters)).getD []
def State.classes (s : State) : List Share := (s.active.map Img.classes).getD []
/-- The share of a master in the window a tile runs (R398). -/
def State.share (s : State) (t m : Nat) : Share := (s.tile t).qos.shares.getD m default
/-- The effective guarantees at a capacity (R397). -/
def effective (shares : List Share) (cap : Nat) : List Nat :=
  let a := 8 * cap / 10
  let g := (shares.map (·.guarantee)).sum
  let rt := ((shares.filter (·.realTime)).map (·.guarantee)).sum
  if g ≤ a then shares.map (·.guarantee)
  else if rt ≤ a then shares.map (fun x => if x.realTime then x.guarantee else x.guarantee * (a - rt) / (g - rt))
  else shares.map (fun x => if x.realTime then x.guarantee * a / rt else 0)

/-- A command moves a media line, so its issue is charged a slot (R390). -/
def MCmd.slot (m : MCmd) : Bool := m.cmd.op == 0x01 || m.cmd.op == 0x10 || m.cmd.op == 0x20
/-- A command of a dense program. -/
def MCmd.dense (m : MCmd) : Bool := m.cmd.op == 0x20 || m.cmd.op == 0x21
/-- The stem copy a command belongs to: its home tile and slot. -/
def For.copyKey : For → Option (Nat × Nat)
  | .load t slot _ _ => some (t, slot)
  | .sheet t slot _ _ => some (t, slot)
  | _ => none
/-- A master has work waiting on a tile. -/
def State.masterWaits (s : State) (t m : Nat) : Bool :=
  (upto s.cpt).any (fun c => ((s.chan (globalChan t c)).waiting).any (fun x => x.master == m))
/-- A host or queue request waits on a tile (R209). -/
def State.hostWaits (s : State) (t : Nat) : Bool :=
  s.reqs.any (fun q => s.server q.tile == t) || s.ops.any (fun o => o.tile == t && decide (o.master < 5)) || s.masterWaits t 4
/-- Tags in use on a channel. -/
def Chan.usedTags (x : Chan) : List Nat := x.sent.map (·.tag) ++ x.lockedTags
def Chan.freeTag (x : Chan) : Option Nat := (((upto 64).map (fun i => (x.nextTag + i) % 64))).find? (fun t => !x.usedTags.contains t)

/-- A sheet of a copy after its first (R500). -/
def State.laterSheet (s : State) (m : MCmd) : Bool :=
  let later (t slot ss k : Nat) : Bool := decide (0 < ss) || (((s.tile t).copies.find? (fun c => c.slot == slot)).map (fun c => (upto k).any (fun i => s.memberPresent c.dest.group c.dest.die i))).getD false
  match m.what with
  | .load t slot ss k => later t slot ss k
  | .sheet t slot ss k => later t slot ss k
  | _ => false
/-- A dense program of a copy is withheld, by the state of the copy's home tile: by a brace; but for a due refresh, by a yield, by a throttled tile die, and by a throttled zone of the channel, where a copy whose first sheet has started completes; that of a stem of unknown age, while a host or queue request waits on the tile (R173, R174, R209, R211, R500). -/
def State.withheld (s : State) (c : Nat) (m : MCmd) : Bool :=
  match m.what.copyKey with
  | none => false
  | some (h, slot) => m.dense &&
    (s.rb (F.MSC_WR_STAT_braced h) ||
     (!m.urgent && (s.rb (F.MSC_RD_STAT_yielding h) || s.tileThrottled h || (s.zoneThrottled (s.zoneOf c) && !s.laterSheet m))) ||
     ((s.tile h).copies.any (fun k => k.slot == slot && k.why == .unaged) && s.hostWaits h))
/-- The sheet a load or a dense program belongs to. -/
def For.sheetKey : For → Option (Nat × Nat × Nat × Nat)
  | .load t slot ss m => some (t, slot, ss, m)
  | .sheet t slot ss m => some (t, slot, ss, m)
  | _ => none
/-- The loads of a dense program's sheet are not all answered: the program waits for them (R50; log 138). -/
def Chan.unloaded (x : Chan) (m : MCmd) : Bool :=
  (x.waiting ++ x.sent.map Sent.m).any (fun w => w.cmd.op == 0x20 && w.what.sheetKey == m.what.sheetKey)
/-- The sheet buffer a load names belongs to another sheet: one whose loads have begun and whose program has not ended (R50; log 138). -/
def Chan.bufferTaken (x : Chan) (m : MCmd) : Bool :=
  let other (w : MCmd) : Bool := (w.cmd.op == 0x20 || w.cmd.op == 0x21) && w.cmd.die == m.cmd.die && w.cmd.buf == m.cmd.buf && w.what.sheetKey != m.what.sheetKey
  let begun (w : MCmd) : Bool := decide ((x.waiting.filter (fun v => v.cmd.op == 0x20 && v.what.sheetKey == w.what.sheetKey)).length < 16)
  x.sent.any (fun e => other e.m) || x.waiting.any (fun w => other w && w.cmd.op == 0x21 && begun w)
/-- The die and lane states allow a command (R66, R166, R168, R395; R50 to R54): a command that takes a queue place keeps its die within one running and four queued; a READ of a line under program waits for its end; reads, suspension and aborts pass a program as the package lets them. Reads of tier 1 are not held to the window's slots (R394, R500). -/
def State.canIssue (s : State) (c : Nat) (m : MCmd) : Bool :=
  let x := s.chan c
  let t := tileOfChan c
  s.lstate c == 6 && x.freeTag.isSome && !(m.read && s.lifecycle == 3) &&
  (!arrayOp m.cmd.op || (hasBit x.present m.cmd.die && hasBit x.alive m.cmd.die && !hasBit x.retired m.cmd.die)) &&
  (!queueOp m.cmd.op || decide (x.queuedOn m.cmd.die < 5)) && x.laneFree m.cmd.op &&
  !(m.cmd.op == 0x01 && (match x.program m.cmd.die with | some p => busyUnder p.cmd m.cmd.grove m.cmd.target | none => false)) &&
  !((m.cmd.op == 0x20 || m.cmd.op == 0x21) && s.rb F.RST_STAT_trim_safe) &&
  !s.withheld c m && !(m.cmd.op == 0x21 && x.unloaded m) && !(m.cmd.op == 0x20 && x.bufferTaken m) &&
  (!m.slot || s.power.flushing || (m.read && decide (0 < s.chanSlots c)) || decide (tgetD (s.tile t).qos.chanUsed c 0 < s.chanSlots c))

/-- A destage of a braced tile (R211, R394). -/
def State.bracedLog (s : State) (m : MCmd) : Bool := match m.what with | .log h _ _ => s.rb (F.MSC_WR_STAT_braced h) | _ => false
/-- The tier of a command for a master's use of its window (R394). -/
def State.tierOf (s : State) (t : Nat) (m : MCmd) : Nat :=
  if m.read then 1
  else if m.urgent || s.bracedLog m then 2
  else
    let q := (s.tile t).qos
    if tgetD q.used m.master 0 < q.eff.getD m.master 0 then (if (s.share t m.master).realTime then 3 else 4) else 5

/-- Whose turn it is within tiers 3 and 4, and by weight in tier 5 (R394, R395): a lower value goes first. -/
def State.turnKey (s : State) (t tier : Nat) (m : MCmd) : Nat :=
  let q := (s.tile t).qos
  if tier = 3 ∨ tier = 4 then (m.master + 11 - q.turn % 11) % 11
  else if tier = 5 then (tgetD q.extra m.master 0 + 1) * 1000000 / max 1 (s.share t m.master).weight
  else 0
/-- The class of a command of a host port or the queue engine: its number, and its entry (R94, R396). -/
def State.classOf (s : State) (t : Nat) (m : MCmd) : Option (Nat × Share) :=
  if 4 < m.master then none
  else match m.comps with
    | c :: _ => (s.served c).map (fun k => (k.bwClass, (s.tile t).qos.classes.getD k.bwClass default))
    | [] => none
/-- Real-time classes go first within a master's work that can wait, then the class with the least use of the window for its weight (R396; log 44). -/
def State.classKey (s : State) (t : Nat) (m : MCmd) : Nat :=
  match s.classOf t m with
  | some (k, e) => if e.realTime then 0 else 1 + tgetD (s.tile t).qos.classUsed (16 * m.master + k) 0 * 1000 / max 1 e.weight
  | none => 1
/-- The command MEDIA_ISSUE takes: the first by tier, turn and class, in order of arrival (R394 to R396). -/
def State.pickWaiting (s : State) (c : Nat) : Option MCmd :=
  let t := tileOfChan c
  let ok := (s.chan c).waiting.filter (s.canIssue c)
  pickBy (fun a b => decide (a < b)) (fun m => let tier := s.tierOf t m; (tier * 1000000000000 + s.turnKey t tier m) * 1000000 + (if tier = 1 then 0 else s.classKey t m)) ok

/-- A slot is charged to its master in the window (R390, R393), and counted as retired or wasted (17, R516, R520). -/
def State.charge (s : State) (c : Nat) (m : MCmd) : State :=
  let t := tileOfChan c
  let tier := s.tierOf t m
  let s := match m.wasted with
    | some k => (s.countTile t 2 m.comps).countTile t k m.comps
    | none => (s.countTile t 1 m.comps).countTile t (5 + m.master) m.comps
  let s := s.modTile t (fun x => { x with slots := x.slots + 1 })
  let s := if m.slot then (s.countTile t (120 + m.master)).modTile t (fun x => { x with qos := { x.qos with
      used := tmod x.qos.used m.master 0 (· + 1), chanUsed := tmod x.qos.chanUsed c 0 (· + 1)
      extra := if tier = 5 then tmod x.qos.extra m.master 0 (· + 1) else x.qos.extra, turn := if tier = 3 ∨ tier = 4 then m.master + 1 else x.qos.turn } }) else s
  let s := match s.classOf t m with
    | some (k, _) => if m.slot && !m.read then s.modTile t (fun x => { x with qos := { x.qos with classUsed := tmod x.qos.classUsed (16 * m.master + k) 0 (· + 1) } }) else s
    | none => s
  if m.cmd.op == 0x21 then s.countTile t 85 else if m.cmd.op == 0x10 then s.countTile t 91 else s

/-- An engine's step has read a line of a member, with the rest of its stripe where it had to be rebuilt: the slots are charged on the tiles whose channels carry them (R390, R393; log 26), and what the checks of a whole stripe corrected is counted (R279). -/
def State.chargeRead (s : State) (x : Stripe) (m : Nat) (whole : Bool) (master : Nat) (comps : List Nat) : State :=
  each ((if whole then upto 16 else [m]).filter (s.memberThere x)) s (fun s k =>
    let s := s.charge (s.memberChan x.group k) ⟨readCmd x false 0 0, .control, master, comps, false, false, none⟩
    match s.member x k, whole with
    | some l, true => s.countCheck (tileOfChan (s.memberChan x.group k)) (checkLine l []) comps
    | _, _ => s)
/-- The die state a command leaves as the device holds it: a suspending read counts a suspension (R54, R168). -/
def Chan.noteIssue (x : Chan) (m : MCmd) : Chan :=
  let d := m.cmd.die
  if m.cmd.op == 0x01 && m.cmd.flag then
    match x.program d with
    | some p => if p.cmd.op == 0x21 then { x with
        suspended := if tgetD x.suspReads d 0 = 0 then tmod x.suspended d 0 (· + 1) else x.suspended
        suspReads := tmod x.suspReads d 0 (· + 1) } else x
    | none => x
  else if m.cmd.op == 0x21 then { x with suspended := tput x.suspended d 0, suspReads := tput x.suspReads d 0 }
  else x

/-- The program time of a copy is the Glade second at which its first sheet program starts (R206); the model takes its issue (log 49). -/
def State.noteProg (s : State) (m : MCmd) : State :=
  match m.what with
  | .sheet t slot _ _ => s.modTile t (fun x => { x with copies := x.copies.map (fun k => if k.slot == slot && k.prog.isNone then { k with prog := some s.glade.elapsed } else k) })
  | _ => s
/-- A command goes out under a free tag; PROG_DENSE names the waveform of the zone's present band (R51). -/
def State.issue (s : State) (c : Nat) (m : MCmd) : State :=
  match (s.chan c).freeTag with
  | none => s
  | some tag =>
    let wave := if m.cmd.op == 0x21 then (((s.active.map Img.waveforms).getD []).getD (s.rf (F.THM_ZONE_band (s.zoneOf c))) 0) else m.cmd.wave
    let cmd := { m.cmd with tag := tag, wave := wave }
    let s := (s.charge c m).noteProg m
    let s := if ((s.chan c).noteIssue m).suspended != (s.chan c).suspended && m.cmd.op == 0x01 then s.countTile (tileOfChan c) 88 else s
    let s := s.modChan c (fun x => { (x.noteIssue m) with sent := x.sent ++ [⟨{ m with cmd := cmd }, tag, 0, false, 0, false, false⟩], nextTag := (tag + 1) % 64 })
    s.send (.command c (makeBlock cmd) cmd.data)

/-- The new effective guarantees of a tile, and its QOS registers (R391, R397, R398, R400). -/
def State.requote (s : State) (t : Nat) : State :=
  let cap := s.tileCap t
  let eff := effective s.shares cap
  let g := (s.shares.map (·.guarantee)).sum
  let rt := ((s.shares.filter (·.realTime)).map (·.guarantee)).sum
  let a := 8 * cap / 10
  let s := s.modTile t (fun x => { x with qos := { x.qos with eff := eff, cap := cap, shares := s.shares, classes := s.classes } })
  let s := (((s.wf (F.QOS_CAP_cap t) cap).wf (F.QOS_CAP_avail t) a).wf (F.QOS_CAP_scaled t) (b2n (decide (a < g)))).wf (F.QOS_CAP_rt_cut t) (b2n (decide (a < rt)))
  each (upto 11) s (fun s m => s.wf (F.QOS_GRANT_effective t m) (eff.getD m 0))

/-- An image's guarantees, weights and classes from the first window on, after a reset or at a resume (R392, R400). -/
def State.loadShares (s : State) (t : Nat) : State :=
  let s := s.modTile t (fun x => { x with qos := { x.qos with eff := s.shares.map (·.guarantee), shares := s.shares, classes := s.classes } })
  each (upto 11) s (fun s m => s.wf (F.QOS_GRANT_effective t m) (s.share t m).guarantee)

/-- QOS_WINDOW_END (R390, R391, R395, R397, R400): the window's counts are shown and start anew; guarantees not used lapse; the new capacity applies. While a tile yields, the migrator is not counted as short (R398). -/
def execQosWindowEnd (tile : Nat) (s : State) : Host.Outcome State Fault Refusal :=
  let yielding := s.rb (F.MSC_RD_STAT_yielding tile)
  let q := (s.tile tile).qos
  let waits := (upto 11).filter (fun m => s.masterWaits tile m && !(yielding && m == 5))
  let s := each (upto 11) s (fun s m => s.wf (F.QOS_GRANT_used tile m) (min 65535 (tgetD q.used m 0)))
  let s := each waits s (fun s m => s.countTile tile (131 + m))
  let s := s.modTile tile (fun x => { x with qos := { x.qos with
    used := [], extra := [], chanUsed := [], classUsed := [], windows := x.qos.windows + 1
    due := each (upto 11) x.qos.due (fun d m => tmod d m 0 (· + (if yielding && m == 5 then 0 else q.eff.getD m 0)))
    got := each (upto 11) x.qos.got (fun d m => tmod d m 0 (· + tgetD q.used m 0))
    waited := (x.qos.waited ++ waits).eraseDups } })
  let s := s.requote tile
  .next (if s.rb (F.QOS_CAP_scaled tile) then s.countTile tile 142 else s)

/-- SHORTFALL_SPAN_END (R399, R401): once the span's windows have gone, a master that waited and received less than was due sets its bit, raises the event, and the interrupt where its mask bit is 1. -/
def execShortfallSpanEnd (tile : Nat) (s : State) : Host.Outcome State Fault Refusal :=
  let q := (s.tile tile).qos
  if q.windows < s.rf (F.QOS_SF_CFG_span tile) then .next s
  else
  let short := q.waited.filter (fun m => decide (tgetD q.got m 0 < tgetD q.due m 0))
  let s := each short s (fun s m =>
    let s := s.wf (F.QOS_SHORT_short tile) (s.rf (F.QOS_SHORT_short tile) ||| 2 ^ m)
    let s := s.emit (0x20 + 8 * tile + 1) 0x0A00 (le 1 tile ++ le 1 m ++ le 4 (tgetD q.due m 0) ++ le 4 (tgetD q.got m 0))
    if hasBit (s.rf (F.QOS_SF_CFG_irq_mask tile)) m then s.irqEdge (irqTile tile 7) else s)
  .next (s.modTile tile (fun x => { x with qos := { x.qos with due := [], got := [], waited := [], windows := 0 } }))

end Sys2Proof.Machine
end

