-- ==== Sys2Proof/Machine/Struct.lean ====
section
/-! DEFINITION. Structure lines of the medium: what a map line, a counter node and a trailer line hold, where they lie, and writing them (07, R225 to R238; 10, R335). -/
namespace Sys2Proof.Machine

/-- 64 bytes as a host line. -/
def hostOf (b : Bytes) : HostLine := BitVec.ofNat 512 (ofLe (fit 64 b))
/-- A structure line in plaintext: format 3 (R265). -/
def structLine (b : Bytes) : Line := composeLine (hostOf b) 0 (mkMeta 0 false 3 0)

/-- A stem map entry (R230) and a leaf map entry (R232) as the medium holds them. -/
def StemEnt.bytes (e : StemEnt) : Bytes :=
  le 8 (e.place.num % 2 ^ 19 + e.place.group % 64 * 2 ^ 19 + e.place.die % 4 * 2 ^ 25 + b2n e.valid * 2 ^ 27 + b2n e.ageUnknown * 2 ^ 28 +
    b2n e.poisoned * 2 ^ 29 + e.prog % 2 ^ 29 * 2 ^ 32) ++ le 4 e.live ++ le 4 e.copySeq
def LeafEnt.bytes (e : LeafEnt) : Bytes :=
  le 8 (e.offset % 256 + e.grove % 32 * 2 ^ 8 + e.place.num % 2 ^ 19 * 2 ^ 13 + e.place.die % 4 * 2 ^ 32 + e.place.group % 64 * 2 ^ 34 +
    b2n e.valid * 2 ^ 40 + b2n e.zero * 2 ^ 41 + b2n e.poisoned * 2 ^ 42 + e.gen % 4096 * 2 ^ 43)

/-- The entries of a stem map line and a leaf map line as they are read from the medium. The furrows a place's patch table covers and its leaf bitmap stand in its trailer (R238). -/
def StemEnt.ofBytes (b : Bytes) (patched blank : List Nat) : StemEnt :=
  let x := getLe b 0 8
  let y := getLe b 8 8
  ⟨⟨x / 2 ^ 19 % 64, x / 2 ^ 25 % 4, x % 2 ^ 19⟩, hasBit x 27, hasBit x 28, hasBit x 29, x / 2 ^ 32 % 2 ^ 29, y % 2 ^ 9, y / 2 ^ 32 % 2 ^ 32, patched, blank⟩
def LeafEnt.ofBytes (b : Bytes) : LeafEnt :=
  let x := getLe b 0 8
  ⟨x % 2 ^ 8, x / 2 ^ 8 % 32, ⟨x / 2 ^ 34 % 64, x / 2 ^ 32 % 4, x / 2 ^ 13 % 2 ^ 19⟩, hasBit x 40, hasBit x 41, hasBit x 42, x / 2 ^ 43 % 4096⟩
/-- The record of a place in the place table (R227). -/
def PState.code : PState → Nat
  | .system => 0 | .mapped => 1 | .lent => 2 | .free => 3 | .dead => 4
def PlaceRec.bytes (r : PlaceRec) : Bytes := le 4 (r.wear % 2 ^ 20 + r.furrows.length % 16 * 2 ^ 20 + r.state.code * 2 ^ 24)
/-- A deadwood entry (R257). -/
def Deadwood.bytes (d : Deadwood) : Bytes := le 1 d.kind ++ le 1 d.cause ++ le 1 d.grove ++ le 1 d.furrow ++ le 4 d.unit ++ le 4 d.opsec ++ le 4 d.pwrcyc
/-- A 256-bit key wrapped with AES-KW (R321; NIST SP 800-38F): 40 bytes. -/
def aesKw (kek key : BitVec 256) : Bytes :=
  let r0 : List Nat := (upto 4).map (fun i => key.toNat / 2 ^ (192 - 64 * i) % 2 ^ 64)
  let r := each (upto 24) (0xA6A6A6A6A6A6A6A6, r0) (fun (x : Nat × List Nat) j =>
    let b := (Config.aes256 kek (BitVec.ofNat 128 (x.1 * 2 ^ 64 + x.2.getD (j % 4) 0))).toNat
    (b / 2 ^ 64 ^^^ (j + 1), x.2.set (j % 4) (b % 2 ^ 64)))
  ((r.1 :: r.2).map (fun n => (le 8 n).reverse)).flatten

/-- The storage root, and what is derived from it: the tree key of a compartment, the shelf key and the seal key (R376). -/
def State.storageRoot (s : State) : BitVec 256 := s.vault.root.getD Config.clearedRoot
def State.treeKey (s : State) (comp : Nat) : BitVec 256 := Config.kdf s.storageRoot (ascii "TREE") [comp, tgetD s.compBorn comp 0]
def State.shelfKey (s : State) : BitVec 256 := Config.kdf s.storageRoot (ascii "SHELF") []
def State.sealKey (s : State) : BitVec 256 := Config.kdf s.storageRoot (ascii "SEAL") []

/-- A node's 56 counter bytes, and its 64 bytes with the tag of R335; integrity 0 has no tag (R337). -/
def nodeCounters (vals : List Nat) : Bytes := (vals.map (le 7)).flatten
def State.nodeBytes (s : State) (c : Comp) (t level idx : Nat) (vals : List Nat) (version : Nat) : Bytes :=
  let b := nodeCounters vals
  if c.integrity == 0 then b ++ zeros 8
  else
    let key := s.treeKey c.id
    let blk (o n : Nat) : BitVec 128 := BitVec.ofNat 128 (getLe b o n)
    let x5 (hi : Nat) : BitVec 128 := BitVec.ofNat 128 (ofLe (le 2 c.id ++ le 1 (t % 128 + hi) ++ le 1 level ++ le 5 idx ++ le 7 version))
    let sum := tagHash (Config.aes256 key 0) (blk 0 16) (blk 16 16) (blk 32 16) (blk 48 8) (x5 0)
    b ++ le 8 (sum ^^^ Config.aes256 key (x5 128)).toNat

/-- The kind and number of a structure line. -/
def MapKey.number : MapKey → Nat × Nat
  | .stem n => (0, n)
  | .leaf n => (1, n)
  | .node c l i => (2, i + l * 2 ^ 40 + c * 2 ^ 44)
def HubKey.number : HubKey → Nat × Nat
  | .places n => (3, n)
  | .deadwood n => (3, n + 2 ^ 32)
  | .shelf n => (3, n + 2 * 2 ^ 32)
  | .generations n => (3, n + 3 * 2 ^ 32)
/-- The data positions of a stripe group that lie on a tile's own channels (R225); for the hub's lines, 8, all of them. -/
def State.ownMembers (s : State) (t g : Nat) : List Nat := (upto 14).filter (fun m => t == 8 || tileOfChan (s.memberChan g m) == t)
/-- One of some numbers. -/
def oneOf (l : List Nat) (n : Nat) : Nat := l.getD (n % max 1 l.length) 0
/-- A try at a system place in one of some stripe groups: a fast line of one of the places 0 to 4,095, in a data position on the tile (R225; log 22). -/
def State.systemTry (s : State) (groups : List Nat) (t : Nat) (k : Nat × Nat) (copy n : Nat) : Stripe × Nat :=
  let h := Config.systemPlace t k.1 k.2 copy n
  let g := oneOf groups (h 0)
  (⟨g, h 1 % 4, h 2 % 102400, h 3 % 16, false⟩, oneOf (s.ownMembers t g) (h 4))
/-- The first try at a place that is not Dead. -/
def State.systemSpot (s : State) (groups : List Nat) (t : Nat) (k : Nat × Nat) (copy : Nat) : Stripe × Nat :=
  s.systemTry groups t k copy (((upto 64).find? (fun n => (s.placeRec (s.systemTry groups t k copy n).1.place).state != .dead)).getD 0)
/-- Where a copy of a structure line lies: copies 0 and 1 in different stripe groups, on channels of the tile itself, or where a retirement has rebuilt them (R225, R542; log 22). -/
def State.copySpot (s : State) (t : Nat) (k : Nat × Nat) (copy : Nat) : Stripe × Nat :=
  let own := (upto s.groupCount).filter (fun g => !(s.ownMembers t g).isEmpty)
  let first := s.systemSpot own t k 0
  if copy = 0 then first else s.systemSpot (own.filter (· != first.1.group)) t k copy
def State.structSpot (s : State) (t : Nat) (k : MapKey) (copy : Nat) : Stripe × Nat := s.copySpot t k.number copy
/-- The formats a structure line is read under (R270). -/
def MapKey.format : MapKey → Nat
  | .node _ _ _ => 4
  | _ => 3

/-- A line in sealed form: ciphered and tagged under the seal key, with the structure line's number as line index and its write sequence as counters (R376). -/
def State.sealedLine (s : State) (number seq : Nat) (b : Bytes) : Line :=
  let key := s.sealKey
  let ct := hostOf b ^^^ keystream key number seq 0
  composeLine ct (lineTagOf key number seq 0 0 4 ct) (mkMeta 0 false 4 0)
/-- The media line of a structure line as the tile's tables have it; a node is sealed, its version standing for its write sequence (R376; log 8). -/
def State.structContent (s : State) (t : Nat) (k : MapKey) : Line :=
  let x := s.tile t
  match k with
  | .stem n => structLine (((upto 4).map (fun i => (x.stem (4 * n + i)).bytes)).flatten)
  | .leaf n => structLine (((upto 8).map (fun i => (x.leaf (8 * n + i)).bytes)).flatten)
  | .node comp l i =>
    let e := tgetD x.store (comp, l, i) (zeroVals, 0)
    s.sealedLine k.number.2 e.2 (match s.served comp with | some c => s.nodeBytes c t l i e.1 e.2 | none => nodeCounters e.1)
/-- An entry of the key shelf (R321): the wrapped key, zeros once the slot is not Active; state, generation, binding and creation stamp (log 161). -/
def State.shelfEntry (s : State) (n : Nat) : Bytes :=
  let x := s.slot n
  fit 64 ((if x.state = 1 then aesKw s.shelfKey x.key else zeros 40) ++ le 1 x.state ++ le 3 x.gen ++
    (match x.bound with | some b => le 4 b.1 ++ le 4 b.2 | none => le 4 0xFFFFFFFF ++ le 4 0xFFFFFFFF) ++ le 4 x.opsec ++ le 4 x.pwrcyc)
/-- The media line of a structure line of the hub (R225, R227, R257, R321). -/
def State.hubContent (s : State) (k : HubKey) : Line :=
  match k with
  | .places n => structLine (((upto 16).map (fun i => (s.placeRec (placeOf (16 * n + i))).bytes)).flatten)
  | .deadwood n => structLine ((((s.deadwood.drop (4 * n)).take 4).map Deadwood.bytes).flatten)
  | .shelf n => s.sealedLine k.number.2 s.hubSeq (s.shelfEntry n)
  | .generations n => structLine (((upto 16).map (fun i => let x := s.slot (16 * n + i); le 4 (x.gen % 2 ^ 31 + b2n (decide (0 < x.state)) * 2 ^ 31))).flatten)

/-- A program of one member of a fast line-stripe; an absent member is not written (R30, R198). -/
def State.programAt (s : State) (x : Stripe) (m : Nat) (l : Line) (what : For) (master : Nat) (comps : List Nat) : State :=
  if s.memberPresent x.group x.die m then s.submit (s.memberChan x.group m) ⟨fastCmd x l false, what, master, comps, false, false, none⟩ else s
/-- A parity member's line: its vector positions, with its own check bytes and CRC (R273). -/
def parityLine (v : List Nat) : Line := recodeLine (lineOfVector v)
/-- The parity members of a line-stripe in which some data members take new lines. -/
def State.newParity (s : State) (x : Stripe) (new : List (Nat × Line)) : Line × Line :=
  let d (m : Nat) : Nat × List Nat := (m, match tget new m with
    | some l => stripeVector l
    | none => match s.stripeRead x m [] with
      | .good l _ => stripeVector l
      | .recovered l => stripeVector l
      | .lost => stripeVector fillerLine)
  let p := parityOf ((upto 14).map d)
  (parityLine p.1, parityLine p.2)
/-- A copy of a structure line is written, with the parity of its line-stripe (R225). -/
def State.copyWrite (s : State) (p : Stripe × Nat) (l : Line) : State :=
  let pq := s.newParity p.1 [(p.2, l)]
  ((s.programAt p.1 p.2 l .structure 10 []).programAt p.1 14 pq.1 .structure 10 []).programAt p.1 15 pq.2 .structure 10 []
def State.structCopy (s : State) (t : Nat) (k : MapKey) (copy : Nat) : State :=
  let s := s.copyWrite (s.structSpot t k copy) (s.structContent t k)
  match k with
  | .node c l i => s.modTile t (fun x => match tget x.store (c, l, i) with | some e => { x with kept := tput x.kept (c, l, i) e } | none => x)
  | _ => s
/-- A copy of a structure line of the hub is written. -/
def State.hubCopy (s : State) (k : HubKey) (copy : Nat) : State := s.copyWrite (s.copySpot 8 k.number copy) (s.hubContent k)
/-- Both copies of a structure line are written. -/
def State.structWrite (s : State) (t : Nat) (k : MapKey) : State := (s.structCopy t k 0).structCopy t k 1
/-- A tile that holds 4,096 dirty map lines writes map lines back before it switches further maps (R215): its oldest, and those that have left its catch for the medium. -/
def State.mapRoom (s : State) (t : Nat) : State :=
  let out := (s.tile t).mapOut
  let s := each out (s.modTile t (fun x => { x with mapOut := [] })) (fun s k => s.structWrite t k)
  match (s.tile t).mapQ with
  | k :: l => if mapSize ≤ (s.tile t).mapQ.length then (s.modTile t (fun x => { x with mapQ := l })).structWrite t k else s
  | [] => s
/-- The structure lines that are to be written go to the channels: map lines that have left the catches, and lines of the hub (R215, R225). -/
def State.writeStructures (s : State) : State :=
  let s := each s.tileList s (fun s t => each (s.tile t).mapOut (s.modTile t (fun x => { x with mapOut := [] })) (fun s k => s.structWrite t k))
  if s.hubQ.isEmpty || s.active.isNone then s
  else each s.hubQ ({ s with hubQ := [], hubSeq := s.hubSeq + 1 } : State) (fun s k => (s.hubCopy k 0).hubCopy k 1)

/-! ## Structure lines read (R162, R235, R336, R339) -/

/-- A member's cells have been programmed. -/
def State.cellWritten (s : State) (x : Stripe) (m : Nat) : Bool := thas ((s.pkg (s.memberChan x.group m)).die x.die).lines (x.grove, x.dense, x.line)
/-- A structure line that is not to be read from the medium: it stands in the catch or on its way from there, or has never been written (R215; log 164). -/
def State.mapNear (s : State) (t : Nat) (k : MapKey) : Bool :=
  let p := s.structSpot t k 0
  (s.tile t).mapQ.contains k || (s.tile t).mapOut.contains k || !s.cellWritten p.1 p.2
/-- An engine reads a structure line: whether a copy of it is sound, a bad first copy being rewritten from the other (R235, R339). -/
def State.lineSound (s : State) (t : Nat) (k : MapKey) (master : Nat) : State × Bool :=
  if s.mapNear t k then (s, true)
  else
    let good (n : Nat) : Bool := (let p := s.structSpot t k n; match s.stripeRead p.1 p.2 [k.format] with | .good _ _ => true | _ => false)
    let charge (s : State) (n : Nat) : State := (let p := s.structSpot t k n; s.chargeRead p.1 p.2 false master [])
    let s := charge s 0
    if good 0 then (s, true) else if good 1 then ((charge s 1).structCopy t k 0, true) else (charge s 1, false)
/-- Every missing node of a leaf's path is brought in and verified from the top down, within one step of an engine; a node neither copy of which is sound and verifies makes the path unverifiable (R336, R339). -/
def State.loadPath (s : State) (c : Comp) (t rank det line : Nat) : State :=
  each (s.missingNodes c t rank) s (fun s k => match k with
    | .node comp l i =>
      if s.badPath c t rank then s
      else
        let r := s.lineSound t k (masterOfDet det)
        match r.2, r.1.nodeGood c t l i with
        | true, some vals => r.1.installNode comp t l i vals
        | _, _ => r.1.markBad comp t l i det line
    | _ => s)

/-! ## A map line goes back to its copies on the medium (R218) -/

/-- The 64 bytes of a format 3 line as it is stored; none where neither copy gives it. -/
def State.structRead (s : State) (t : Nat) (k : MapKey) : Option Bytes :=
  let copy (n : Nat) : Option Bytes := (let p := s.structSpot t k n; match s.stripeRead p.1 p.2 [3] with
    | .good l _ => some (le 64 (lineData l).toNat)
    | .recovered l => some (le 64 (lineData l).toNat)
    | .lost => none)
  match copy 0 with | some b => some b | none => copy 1
/-- The leaf bitmap and the patch table of a place's trailer (R238): leaves written as zero lines, furrows covered. -/
def State.trailerOf (s : State) (p : Place) : List Nat × List Nat :=
  let line (q : Nat) : Bytes := (let x := canopySpot p q; match s.stripeRead x.1 x.2 [3] with
    | .good l _ => le 64 (lineData l).toNat
    | .recovered l => le 64 (lineData l).toNat
    | .lost => [])
  let h := line 16384
  let slots := ((upto 13).map (fun i => let b := line (16385 + i); (upto 32).map (fun j => getLe b (2 * j) 2))).flatten
  (if h.isEmpty then [] else (upto 256).filter (fun k => !hasBit (getLe h 0 32) k), ((slots.filter (fun e => decide (e < 16384))).map (· / 42)).eraseDups)
/-- A dirty map line that a skipped group of the litter held: its entries are those of its earlier copies, or none where it had never been written. A node keeps its earlier version, which its parent no longer names (R339). -/
def State.mapBack (s : State) (t : Nat) (k : MapKey) : State :=
  match k with
  | .stem n =>
    let b := (s.structRead t k).getD []
    s.modTile t (fun x => { x with stems := each (upto 4) x.stems (fun l i =>
      let e := StemEnt.ofBytes (slice b (16 * i) 16) [] []
      if e.valid then (let u := s.trailerOf e.place; tput l (4 * n + i) { e with blank := u.1, patched := u.2 }) else tdel l (4 * n + i)) })
  | .leaf n =>
    let b := (s.structRead t k).getD []
    s.modTile t (fun x => { x with leaves := each (upto 8) x.leaves (fun l i =>
      let e := LeafEnt.ofBytes (slice b (8 * i) 8)
      if e == LeafEnt.absent then tdel l (8 * n + i) else tput l (8 * n + i) e) })
  | .node c l i => s.modTile t (fun x => { x with store := match tget x.kept (c, l, i) with | some e => tput x.store (c, l, i) e | none => tdel x.store (c, l, i) })

/-- The entries of a map line as the tile's tables have them, and their taking over from a litter (R217). -/
def State.snapOf (s : State) (t : Nat) (k : MapKey) : MapSnap :=
  let x := s.tile t
  match k with
  | .stem n => .stems ((upto 4).map (fun i => (4 * n + i, x.stem (4 * n + i))))
  | .leaf n => .leaves ((upto 8).map (fun i => (8 * n + i, x.leaf (8 * n + i))))
  | .node c l i => .node (tget x.store (c, l, i))
def State.takeSnap (s : State) (t : Nat) (k : MapKey) (v : MapSnap) : State :=
  s.modTile t (fun x => match k, v with
    | _, .stems l => { x with stems := each l x.stems (fun y p => if p.2 == StemEnt.absent then tdel y p.1 else tput y p.1 p.2) }
    | _, .leaves l => { x with leaves := each l x.leaves (fun y p => if p.2 == LeafEnt.absent then tdel y p.1 else tput y p.1 p.2) }
    | .node c l i, .node (some e) => { x with store := tput x.store (c, l, i) e }
    | .node c l i, .node none => { x with store := tdel x.store (c, l, i) }
    | _, _ => x)

/-! ## Issue -/

/-- MEDIA_ISSUE (R394): the first waiting command by tier is taken, charged and sent; the structure lines to be written are among those that wait. -/
def execMediaIssue (chan : Nat) (s : State) : Host.Outcome State Fault Refusal :=
  let s := s.writeStructures
  .next (match s.pickWaiting chan with
    | none => s
    | some m => (s.modChan chan (fun x => { x with waiting := x.waiting.erase m })).issue chan m)

end Sys2Proof.Machine
end

