-- ==== Sys2Proof/Machine/Requests.lean ====
section
/-! DEFINITION. Host requests: where they wait, their answers, their errors (01, R22, R23; 04, R135 to R137; 05, R157, R160, R184, R185). -/
namespace Sys2Proof.Machine

def State.req (s : State) (id : Nat) : Option Req := s.reqs.find? (fun q => q.id == id)
def State.modReq (s : State) (id : Nat) (f : Req → Req) : State := { s with reqs := s.reqs.map (fun q => if q.id == id then f q else q) }
def State.dropReq (s : State) (id : Nat) : State := { s with reqs := s.reqs.filter (fun q => q.id != id) }
/-- A request is at its tile. -/
def Req.atTile (q : Req) : Bool := q.stage == .active
/-- The tile that serves a request (R21). -/
def State.serverOf (s : State) (q : Req) : Nat := s.server q.tile

/-! ## Answers -/

/-- The event a host read's path counts (17, events 31 to 40 and 151). -/
def pathEvent (p : Nat) : Option Nat := if p < 10 then some (31 + p) else if p = 12 then some 151 else none
/-- The read latency of a port's longest read, and the reads over the bound (R188). -/
def State.noteLatency (s : State) (port lat : Nat) : State :=
  let s := s.wf (F.HPT_RDLAT_max_ns port) (max (s.rf (F.HPT_RDLAT_max_ns port)) (min lat 65535))
  if 1600 < lat then s.incSat (F.HPT_RDLAT_over port) else s
/-- The flags byte of a trace record (R411). -/
def Req.traceFlags (q : Req) (x : Resp) : Nat :=
  4 * b2n (q.kind != .read) + 8 * b2n (q.kind == .partialWrite) + 16 * b2n (x == .poison) + 32 * b2n (x == .error) + 64 * b2n q.mapped + 128 * b2n q.woke
/-- The response leaves the port (R23): the hub's copy goes. -/
def State.deliver (s : State) (q : Req) (x : Resp) : State :=
  let lat := s.fine - q.fine
  let s := match x with
    | .data d => s.send (.hostData q.port q.ld q.tag d false)
    | .poison => ((s.countHub (17 + q.port) [q.comp]).countTile (s.serverOf q) 105 [q.comp]).send (.hostData q.port q.ld q.tag 0 true)
    | .cmp => s.send (.hostCmp q.port q.ld q.tag false)
    | .error => s.send (.hostCmp q.port q.ld q.tag true)
  let s := if q.kind == .read then s.noteLatency q.port lat else s
  let s := match q.trace with
    | some (n, op, f) => s.traceStore ⟨n, op, f, 0x10 + q.port, q.traceFlags x, q.line, q.tile, q.path, q.comp, lat, q.epoch⟩
    | none => s
  s.dropReq q.id
/-- The next request that waits for a line may go on (R160). -/
def State.freeLine (s : State) (line : Nat) : State :=
  match s.reqs.find? (fun q => q.line == line && q.atTile && q.waits == [.line]) with
  | some q => s.modReq q.id (fun r => { r with waits := [] })
  | none => s
/-- A compartment is level-timed (R94). -/
def State.levelTimed (s : State) (comp : Nat) : Bool := ((s.served comp).map Comp.levelTiming).getD false
/-- A request is answered: at once, or paced in a level-timed compartment (R137, R184). -/
def State.respond (s : State) (q : Req) (path : Nat) (x : Resp) : State :=
  let q := { q with path := path }
  let s := match q.kind, pathEvent path with
    | .read, some e => s.countTile (s.serverOf q) e [q.comp]
    | _, _ => s
  if s.levelTimed q.comp && x != .cmp then (s.modReq q.id (fun r => { r with stage := .paced x, waits := [], path := path })).freeLine q.line
  else (s.deliver q x).freeLine q.line

/-- LEVEL_TIMING_RELEASE (R184, R185): a ready response leaves at D, or at the next whole multiple and is counted late; one that is not ready misses D. -/
def execLevelTimingRelease (req : Nat) (late : Bool) (s : State) : Host.Outcome State Fault Refusal :=
  .next (match s.req req with
    | none => s
    | some q => match q.stage with
      | .paced x => (if q.late || late then s.incSat (F.HPT_LT_late q.port) else s).deliver q x
      | _ => if s.levelTimed q.comp then s.modReq req (fun r => { r with late := true }) else s)

/-! ## Refusals of the table of device errors (R136) -/

/-- Causes of a refused request, by the cause codes of HPT_WFAILp. -/
def State.refuse (s : State) (q : Req) (cause : Nat) : State :=
  let s := if cause = 6 then s.cxlPutNoted q.port q.ld 1 .key (some (lineDpa q.line)) (some q.comp)
    else if cause = 7 then s.cxlPutNoted q.port q.ld 2 .media (some (lineDpa q.line)) (some q.comp)
    else if cause = 8 then s.cxlPutNoted q.port q.ld 3 .module none (some q.comp)
    else if cause = 3 ∧ q.kind != .read then s.cxlPut q.port q.ld 2 .media (some (lineDpa q.line)) (some q.comp) 5
    else s
  if q.kind == .read then s.respond q 11 .poison
  else (s.noteWriteFail q.port q.ld q.line cause (some q.comp)).respond q 11 .error

/-! ## Where a request is held (R20, R22, R25, R114, R194) -/

/-- Requests at a tile. -/
def State.inFlight (s : State) (t : Nat) : Nat := (s.reqs.filter (fun q => q.atTile && s.serverOf q == t)).length
/-- A compartment's new requests are held for a forced switch (R114). -/
def State.compHeld (s : State) (comp : Nat) : Bool := (s.img.apply.map (fun a => a.forced.any (fun p => p.1 == comp))).getD false
/-- A tile that is being isolated, or sleeps, takes no request (R20, R25). -/
def State.tileTakes (s : State) (home : Nat) : Bool := s.tileState home != 1 && (s.tile (s.server home)).depth == 0 && !(s.tile (s.server home)).waking
/-- The admission of a write (R194); in read-only it goes on to its error (R249). -/
def State.admitsReq (s : State) (q : Req) : Bool := q.kind == .read || s.readOnly || s.admits (s.serverOf q) q.line
/-- A request may go to its tile now. -/
def State.mayGo (s : State) (q : Req) : Bool :=
  !s.compHeld q.comp && s.tileTakes q.tile && decide (s.inFlight (s.serverOf q) < 4096) && s.admitsReq q
/-- An earlier request for the same tile is held: the hub does not reorder them (R22). Requests homed on a tile that is being isolated hold none of its nurse's (R26). -/
def State.heldBefore (s : State) (q : Req) : Bool :=
  s.reqs.any (fun p => decide (p.id < q.id) && p.stage == .held && (p.tile == q.tile || (s.serverOf p == s.serverOf q && s.tileState p.tile != 1)) && !s.compHeld p.comp)
/-- The first held request of a serving tile that no forced hold keeps, and no isolation of its home tile (R25, R26). -/
def State.firstHeld (s : State) (t : Nat) : Option Req := s.reqs.find? (fun q => q.stage == .held && s.serverOf q == t && s.tileState q.tile != 1 && !s.compHeld q.comp)
/-- An earlier request is being served on the line (R160). -/
def State.lineBusy (s : State) (q : Req) : Bool :=
  s.reqs.any (fun p => p.id != q.id && p.line == q.line && p.atTile && p.waits != [.line] && (decide (p.id < q.id) || !p.waits.isEmpty))

end Sys2Proof.Machine
end

