-- ==== Sys2Proof/Machine/MediaOps.lean ====
section
/-! DEFINITION. Media reads: choosing the path, read-around, recovery, re-reads, the age sweep, and what a line that arrives gives (05, R165 to R182). -/
namespace Sys2Proof.Machine

def State.op (s : State) (id : Nat) : Option Op := s.ops.find? (fun o => o.id == id)
def State.putOp (s : State) (o : Op) : State := { s with ops := s.ops.map (fun p => if p.id == o.id then o else p) }
/-- A media read ends; its gather reservation is released (R16); a reclaimed one, under holder 255, stays while transfers are addressed to it. -/
def State.dropOp (s : State) (id : Nat) : State := { s with ops := s.ops.filter (fun o => o.id != id), reservations := s.reservations.filter (fun r => r.2 != id || r.1 == 255) }

/-! ## Starting and gathering -/

/-- A tile that holds a member is woken (R542). -/
def State.wakeMembers (s : State) (x : Stripe) : State :=
  each (upto 16) s (fun s m =>
    s.wakeTile (tileOfChan (s.memberChan x.group m)))
/-- The other members of a line-stripe are read (R169): each by the path R168 gives with read-around excluded; a missing one is noted at once. The home tile holds the gather buffer (R16). -/
def State.gather (s : State) (o : Op) : State :=
  let s : State := { s with reservations := s.reservations.filter (fun (r : Nat × Nat) => r.2 != o.id) ++ [(o.tile, o.id)] }
  let s := (s.countTile o.tile 149).putOp { o with got := [] }
  each ((upto 16).filter (· != o.member)) s (fun s m =>
    if s.memberThere o.stripe m then
      let c := s.memberChan o.stripe.group m
      let s := (s.countTile o.tile 147).submitRead o m (s.choosePath o.tile c o.stripe false) o.bucket (some 16)
      if tileOfChan c != o.tile then s.countTile (tileOfChan c) 148 else s
    else match s.op o.id with
      | some p => s.putOp { p with got := p.got ++ [(m, none)] }
      | none => s)
/-- A media read is served by read-around: counted once in its tile's window, for host ports and the queue engine (R173), and in the health report (R258). -/
def State.countAround (s : State) (o : Op) : State :=
  let s : State := { s with health := { s.health with arounds := tmod s.health.arounds o.tile 0 (· + 1) } }
  if o.master < 5 then s.modTile o.tile (fun x => { x with window := ⟨x.window.reads, x.window.arounds + 1⟩ }) else s
/-- A media read of host ports or the queue engine counts in its tile's window (R173). -/
def State.windowCount (s : State) (o : Op) (around : Bool) : State :=
  let s := if o.master < 5 then s.modTile o.tile (fun x => { x with window := ⟨x.window.reads + 1, x.window.arounds⟩ }) else s
  if around then s.countAround o else s
/-- The trace path of a direct access (R411). -/
def directPath (x : Stripe) (p : Path) : Nat :=
  match p with
  | .abort => 6
  | .suspended => if x.dense then 5 else 12
  | .around => 7
  | .direct => if x.dense then 4 else 3
/-- A media read begins (R159 step 5): a flagged sheet without a recorded bucket is swept (R182); a missing target is reconstructed (R73), and so is every line homed on a tile that is out, by its nurse, which is no read-around (R28); else R168 chooses. -/
def State.startOp (s : State) (who : OpFor) (t home : Nat) (x : Stripe) (m slot gen : Nat) (formats : List Nat) (master : Nat) (comps : List Nat) (ra : Bool) : State × Nat :=
  let c := s.memberChan x.group m
  let e := (s.tile home).stem slot
  let sweep := x.dense && e.ageUnknown && !(s.tile home).swept.contains slot
  let o : Op := { id := s.nextOp, tile := t, home := home, who := who, stripe := x, member := m, phase := .direct, got := [], bucket := if sweep then 31 else bucketOf (s.ageOf e)
                  band := if sweep then s.rf (F.THM_ZONE_band (s.zoneOf c)) else s.bandOf c e, formats := formats, master := master, comps := comps
                  path := 0, errored := false, tagBad := false, best := none, slot := slot, gen := gen }
  let s := ({ s with nextOp := s.nextOp + 1, ops := s.ops ++ [o] } : State).wakeMembers x
  if !s.memberThere x m || s.server home != home then
    let o := { o with phase := .around, path := 7 }
    (((s.windowCount o (s.server home == home)).putOp o).gather o, o.id)
  else if sweep then
    let o := { o with phase := .sweep 31, path := 9 }
    (((s.windowCount o false).putOp o).submitRead o m (s.choosePath t c x false) 31 (some 23), o.id)
  else
    let p := s.choosePath t c x (ra && s.aroundOk x m)
    let o := { o with phase := if p == .around then .around else .direct, path := directPath x p }
    let s := (s.windowCount o (p == .around)).putOp o
    (if p == .around then s.gather o else s.submitRead o m p o.bucket none, o.id)

/-! ## Failures (R177) -/

/-- The target is read again with another bucket. -/
def State.reread (s : State) (o : Op) (up : Bool) (bucket : Nat) : State :=
  let o := { o with phase := .reread up, path := 8, errored := true }
  (s.putOp o).submitRead o o.member (s.choosePath o.tile (s.memberChan o.stripe.group o.member) o.stripe false) bucket (some 22)
/-- Step 2 of R177: one bucket above, then one below; a fast line has no bucket. True when nothing is left to try. -/
def State.rereadStart (s : State) (o : Op) : State × Bool :=
  if !o.stripe.dense || !s.memberThere o.stripe o.member then (s, true)
  else if o.bucket < 31 then (s.reread o true (o.bucket + 1), false)
  else if 0 < o.bucket then (s.reread o false (o.bucket - 1), false)
  else (s, true)
/-- The next attempt of a media read that failed. A read-around that fails for a busy die reads its target first; that try takes no second read-around. For a map line or node the tile reads the other copy instead (R162, R339); a prefetch is dropped (R310). -/
def State.opFail (s : State) (o : Op) : State × Bool :=
  if o.who.isMap || o.who.isPrefetch then (s, true)
  else match o.phase with
  | .direct | .sweep _ =>
    if s.aroundOk o.stripe o.member && !(o.got.any (fun g => g.1 == 16)) then
      let o := { o with phase := .recover, path := 8, errored := true }
      (((s.countAround o).putOp o).gather o, false)
    else s.rereadStart o
  | .around =>
    if s.memberThere o.stripe o.member then
      let o := { o with phase := .direct, path := 8, errored := true, got := [(16, none)] }
      ((s.putOp o).submitRead o o.member (s.choosePath o.tile (s.memberChan o.stripe.group o.member) o.stripe false) o.bucket (some 22), false)
    else (s, true)
  | .recover => s.rereadStart o
  | .reread true => if 0 < o.bucket && o.stripe.dense then (s.reread o false (o.bucket - 1), false) else (s, true)
  | .reread false => (s, true)

/-! ## A line arrives (R159 step 7, R169, R177, R182) -/

/-- What a media read has come to. -/
inductive OpEnd where
  /-- still in progress -/
  | going
  /-- a sound line, with its check when it was read as stored -/
  | line (o : Op) (l : Line) (k : Option LineCheck)
  /-- nothing left to try -/
  | lost (o : Op)
  deriving DecidableEq, Repr

/-- The read waits for its target's own response. -/
def Op.waitsTarget (o : Op) : Bool := match o.phase with | .around => false | .recover => false | _ => true
/-- A read whose target does not answer, or whose response was discarded, is read around at once (R176). -/
def State.aroundNow (s : State) (o : Op) : State :=
  let o := { o with phase := .recover, path := 8, errored := true }
  ((s.countAround o).putOp o).gather o
/-- A failed attempt goes on, or ends the read. -/
def State.opRetry (s : State) (o : Op) : State × OpEnd :=
  let r := s.opFail { o with errored := true }
  (r.1, if r.2 then .lost { o with errored := true } else .going)
/-- The members gathered so far reconstruct the target, or can no longer do so. -/
def State.opGather (s : State) (o : Op) : State × OpEnd :=
  let have_ := o.got.filterMap (fun g => match g.2 with | some l => some (g.1, stripeVector l) | none => none)
  if 14 ≤ have_.length then
    match (reconstruct (have_.take 14) o.member).bind (fun v => acceptVector v o.formats) with
    | some l => (s, .line o l none)
    | none => s.opRetry o
  else if 2 ≤ (o.got.filter (fun g => g.2.isNone)).length then s.opRetry o
  else (s, .going)
/-- The sweep takes a bucket (R182): the stem's program time is set from it; bucket 31 lies beyond what the entry can hold (R230), which then says the oldest age it can (log 145). -/
def State.sweepTake (s : State) (o : Op) (k : Nat) : State :=
  s.modTile o.home (fun x => { x with swept := x.swept ++ [o.slot], stems := tput x.stems o.slot { x.stem o.slot with prog := (s.glade.elapsed + 2 ^ 30 - min (2 ^ k) (2 ^ 30 - 2)) % 2 ^ 30 / 2 } })
/-- A try of the sweep (R182). -/
def State.opSweep (s : State) (o : Op) (k : Nat) (ck : LineCheck) : State × OpEnd :=
  let good := ck.cls != .uncorrectable
  let o := if good && (match o.best with | some b => decide (ck.bits < b.1) | none => true) then { o with best := some (ck.bits, k, ck.fixed) } else o
  if good && decide (ck.most ≤ 2) then (s.sweepTake o k, .line o ck.fixed (some ck))
  else if 3 < k then
    let o := { o with phase := .sweep (k - 4) }
    ((s.putOp o).submitRead o o.member (s.choosePath o.tile (s.memberChan o.stripe.group o.member) o.stripe false) (k - 4) (some 23), .going)
  else match o.best with
    | some b => (s.sweepTake o b.2.1, .line o b.2.2 (some (checkLine b.2.2 o.formats)))
    | none => s.opRetry o
/-- A member's line reaches the tile that decodes it, or its command ends without a line. -/
def State.opArrive (s : State) (o : Op) (m : Nat) (line : Option Line) : State × OpEnd :=
  let ck := line.map (fun l => checkLine l (if m == o.member then o.formats else []))
  let s := match ck with | some k => s.countCheck (tileOfChan (s.memberChan o.stripe.group m)) k o.comps | none => s
  let sound := ck.bind (fun k => if k.cls = .uncorrectable then none else some k.fixed)
  if m == o.member then
    match o.phase, ck with
    | .sweep k, some c => s.opSweep o k c
    | .direct, some c => if c.cls = .uncorrectable then s.opRetry o else (s, .line o c.fixed (some c))
    | .reread _, some c => if c.cls = .uncorrectable then s.opRetry o else (s, .line o c.fixed none)
    | .around, _ => (s, .going)
    | .recover, _ => (s, .going)
    | _, none => s.opRetry o
  else
    match o.phase with
    | .around | .recover =>
      let o := { o with got := o.got.filter (fun g => g.1 != m) ++ [(m, sound)] }
      (s.putOp o).opGather o
    | _ => (s, .going)

/-- A read-around that starts with two members missing has already failed. -/
def State.opKick (s : State) (id : Nat) : State × OpEnd :=
  match s.op id with
  | some o => match o.phase with
    | .around => s.opGather o
    | _ => (s, .going)
  | none => (s, .going)

end Sys2Proof.Machine
end

