-- ==== Sys2Proof/Machine/Read.lean ====
section
/-! DEFINITION. Host requests at their tile: lookups, map and counter fetches, reads, writes and partial writes (05, R159 to R164; 06, R191 to R194; 09, R303 to R310; 10, R323, R324, R328, R336, R339, R340, R342, R346). -/
namespace Sys2Proof.Machine

/-! ## Map lines and counter lines (R162, R235, R336, R339) -/

/-- A thing a request waited for is there. -/
def State.resolve (s : State) (w : Wait) : State := { s with reqs := s.reqs.map (fun q => { q with waits := q.waits.filter (· != w) }) }
def Tile.fetch (x : Tile) (k : MapKey) : Option Fetch := x.fetches.find? (fun f => f.key == k)
def Tile.putFetch (x : Tile) (f : Fetch) : Tile := { x with fetches := x.fetches.filter (fun g => g.key != f.key) ++ [f] }
def Tile.dropFetch (x : Tile) (k : MapKey) : Tile := { x with fetches := x.fetches.filter (fun g => g.key != k) }
/-- A copy of a map line or node is read from the system places of its tile (R225, R542). -/
def State.fetchCopy (s : State) (t : Nat) (k : MapKey) (copy master : Nat) : State :=
  let p := s.structSpot t k copy
  let (s, id) := s.startOp (.map t k copy) (s.server t) t p.1 p.2 0 0 [k.format] master [] false
  let r := s.opKick id
  match r.2 with
  | .going => r.1.modTile t (fun x => x.putFetch ⟨k, copy, none, master⟩)
  | _ => (r.1.dropOp id).modTile t (fun x => x.putFetch ⟨k, copy, some false, master⟩)
/-- A line that is not there is fetched once, whoever waits for it; one that stands in the catch is taken from there (R215). -/
def State.startFetch (s : State) (t : Nat) (k : MapKey) (master : Nat) : State :=
  if ((s.tile t).fetch k).isSome then s
  else if s.mapNear t k then s.modTile t (fun x => x.putFetch ⟨k, 0, some true, master⟩)
  else s.fetchCopy t k 0 master

/-- The nodes above a node are known, or one of them is unverifiable. -/
def State.nodeSettled (s : State) (comp t level idx : Nat) : Bool :=
  match s.served comp with
  | none => true
  | some c => c.integrity == 0 || (s.nodeVersion c t level idx).isSome || s.badPath c t (idx * 8 ^ (level + 1))
/-- A fetch can be settled: its read has ended, and for a node its parent is known. -/
def State.canSettle (s : State) (t : Nat) (f : Fetch) : Bool :=
  f.raw.isSome && match f.key with
    | .node comp l i => f.raw == some false || s.nodeSettled comp t l i
    | _ => true
/-- A copy that decoded is good: a node must also verify against its parent (R339). -/
def State.copyGood (s : State) (t : Nat) (f : Fetch) : Bool :=
  f.raw == some true && match f.key with
    | .node comp l i => (match s.served comp with | some c => (s.nodeGood c t l i).isSome | none => false)
    | _ => true
/-- A fetched line is put where the tile looks for it. -/
def State.installLine (s : State) (t : Nat) (k : MapKey) : State :=
  match k with
  | .leaf n => s.modTile t (fun x => x.useLeaf n)
  | .stem n => s.modTile t (fun x => { x with stemHeld := x.stemHeld.filter (· != n) ++ [n] })
  | .node comp l i => match s.served comp with
    | some c => match s.nodeGood c t l i with
      | some v => s.installNode comp t l i v
      | none => s
    | none => s
/-- A census begins, or goes on with one more line (R235): reads of the stems concerned return poison until it ends. -/
def State.startCensus (s : State) (t n : Nat) : State :=
  let s := s.modTile t (fun x => { x with census := x.census.filter (· != n) ++ [n] })
  let s := if s.rb (F.TRN_MAP_STAT_census t) then s else s.emit (0x20 + 8 * t) 0x0403 (le 1 t ++ le 4 0)
  s.wf (F.TRN_MAP_STAT_census t) 1
/-- Both copies of a line are bad (R235, R339). -/
def State.lineLost (s : State) (t : Nat) (k : MapKey) : State :=
  let rec_ (s : State) := s.report { (default : Report) with type := 9, det := 1, die := 0xFF, member := 0xFF, tile := t }
  match k with
  | .leaf n => (rec_ (each (upto 8) s (fun s i => (s.mapRoom t).setLeaf t (8 * n + i) { LeafEnt.absent with poisoned := true, gen := ((s.tile t).leaf (8 * n + i)).bump.gen }))).installLine t k
  | .stem n => (rec_ (s.startCensus t n)).installLine t k
  | .node comp l i => match s.served comp with
    | some c => s.markBad comp t l i 1 (s.lineOfLeaf ⟨c.id, t, i * 8 ^ (l + 1)⟩)
    | none => s
/-- A fetch whose read has ended is settled: a good copy is installed, and the other is rewritten from it when it was bad; a bad first copy makes the tile read the other. -/
def State.settleOne (s : State) (t : Nat) (f : Fetch) : State :=
  if s.copyGood t f then
    let s := ((s.installLine t f.key).modTile t (fun x => x.dropFetch f.key)).resolve (.map f.key)
    if f.copy = 1 then s.structCopy t f.key 0 else s
  else if f.copy = 0 then s.fetchCopy t f.key 1 f.master
  else ((s.lineLost t f.key).modTile t (fun x => x.dropFetch f.key)).resolve (.map f.key)
/-- Every fetch of a tile that can be settled is. -/
def State.settleFetches (s : State) (t : Nat) : Nat → State
  | 0 => s
  | n + 1 => match (s.tile t).fetches.find? (s.canSettle t) with
    | some f => (s.settleOne t f).settleFetches t n
    | none => s
def State.settleTile (s : State) (t : Nat) : State := s.settleFetches t (3 * (s.tile t).fetches.length + 3)
/-- The read of a copy has ended. -/
def State.fetched (s : State) (t : Nat) (k : MapKey) (copy : Nat) (good : Bool) : State :=
  match (s.tile t).fetch k with
  | some f => if f.copy = copy then (s.modTile t (fun x => x.putFetch { f with raw := some good })).settleTile t else s
  | none => s

/-! ## What a request needs (R159 step 4, R160 to R163, R322, R336) -/

/-- The key slot of a request is Active (R324). -/
def State.keyLive (s : State) (c : Comp) (line : Nat) : Bool := c.cipher == 0 || (s.slot (s.lineKey c line).1).state == 1
def State.keyWaits (s : State) (t : Nat) (c : Comp) (line : Nat) : List Wait :=
  if c.cipher == 0 then []
  else
    let k := (s.lineKey c line).1
    if (s.tile t).keyGen k == some (s.slot k).gen then [] else [.key k]
def State.nodeWaits (s : State) (c : Comp) (r : LeafRef) : List Wait := (s.missingNodes c r.tile r.rank).map .map
/-- The stem map cache answers for a slot: the map is resident, and the entry is not being fetched again (R278), or the entry was fetched (R163, R231). -/
def State.stemKnown (s : State) (home slot : Nat) : Bool :=
  (s.rb (F.TRN_MAP_STAT_stem_resident home) && decide (slot < s.cpt * 49152) && ((s.tile home).fetch (.stem (slot / 4))).isNone) || (s.tile home).stemHeld.contains (slot / 4)

/-- Where a request finds its line (R160), or what it has to fetch first. -/
inductive Source where
  | caught (e : CatchEnt)
  | cached (l : CacheLine)
  | zeros
  | poisoned
  | spot (x : Stripe) (m : Nat)
  | need (w : List Wait)
  deriving DecidableEq, Repr

def Where.source : Where → Source
  | .zeros => .zeros
  | .poisoned => .poisoned
  | .spot x m _ => .spot x m
/-- The cache entry a request may use, under its key or, in a running re-key, the other one (R303, R346). -/
def State.cacheLook (s : State) (t : Nat) (c : Comp) (line : Nat) : Option CacheLine :=
  let k := s.lineKey c line
  match (s.tile t).cacheHit line c k.1, k.2 with
  | some l, _ => some l
  | none, some o => (s.tile t).cacheHit line c o
  | none, none => none
def State.source (s : State) (t : Nat) (c : Comp) (r : LeafRef) (line : Nat) : Source :=
  let x := s.tile t
  match x.entry line with
  | some e => .caught e
  | none => match s.cacheLook t c line with
    | some l => .cached l
    | none =>
      let idx := s.leafIdx r
      let slot := s.slotOf r
      if s.maybe r.tile idx && !(s.tile r.tile).lmc.contains (idx / 8) then .need [.map (.leaf (idx / 8))]
      else
        let e := s.leafOf r
        if e.zero || e.poisoned || e.valid || s.stemKnown r.tile slot then (s.whereIs r (line % 64)).source
        else .need [.map (.stem (slot / 4))]

/-- The lookups of step 4 count once (17, events 41 to 50). -/
def State.countLookups (s : State) (q : Req) (t : Nat) (c : Comp) (r : LeafRef) (src : Source) : State :=
  if q.looked then s
  else
    let cs := [c.id]
    let idx := s.leafIdx r
    let s := s.modReq q.id (fun p => { p with looked := true })
    let s := if c.cipher == 0 then s else
      let key := (s.keyWaits t c q.line).isEmpty
      let twig := (s.nodeVals c r.tile 0 (r.rank / 8)).isSome
      let s := (((s.countTile t (if key then 47 else 48) cs).countTile t (if twig then 49 else 50) cs).meter t 1 key).meter t 2 twig
      let s := if twig then s.modTile r.tile (fun x => x.useNode c.id 0 (r.rank / 8)) else s
      if key then (let k := (s.lineKey c q.line).1; s.modTile t (fun x => x.touchKey k (s.slot k).gen)) else s
    match src with
    | .caught _ => s
    | .cached _ => s
    | _ =>
      if s.maybe r.tile idx then
        let hit := (s.tile r.tile).lmc.contains (idx / 8)
        let s := ((s.countTile t 42 cs).countTile t (if hit then 44 else 45) cs).meter t 0 hit
        let s := if hit then s.modTile r.tile (fun x => x.useLeaf (idx / 8)) else s
        let e := s.leafOf r
        if !e.valid && !e.zero && !e.poisoned then s.countTile t 43 cs else s
      else s.countTile t 41 cs
/-- A request waits for things it has asked for. -/
def State.await (s : State) (q : Req) (t home : Nat) (ws : List Wait) : State :=
  let maps := ws.any (fun w => match w with | .map (.leaf _) => true | .map (.stem _) => true | _ => false)
  let s := s.modReq q.id (fun p => { p with waits := ws, mapped := p.mapped || maps })
  (each ws s (fun s w => match w with
    | .key k => if (s.tile t).unwraps.contains k then s
      else (let p := s.copySpot 8 (HubKey.shelf k).number 0; (s.chargeRead p.1 p.2 false q.port [q.comp]).modTile t (fun x => { x with unwraps := x.unwraps ++ [k] }))
    | .map k => ((match k with | .stem _ => s.countTile t 46 [q.comp] | _ => s).startFetch home k q.port)
    | _ => s)).settleTile home

/-! ## Opening a line (R159 step 8, R324, R326, R327, R346) -/

inductive Opened where
  | data (d : HostLine) (regen : Bool)
  | stale
  | badTag
  deriving DecidableEq, Repr

/-- A checked line deciphered for a host access: under the key its generation names, of the two a running re-key allows. -/
def State.openAt (s : State) (c : Comp) (r : LeafRef) (line : Nat) (l : Line) (k : Nat × Option Nat) : Opened :=
  if c.cipher == 0 then .data (lineData l) false
  else
    let g := metaGen (lineMeta l)
    let major := (s.major c r.tile r.rank).getD 0
    let use (key : Nat) (regen : Bool) : Opened :=
      match decipherLine c (s.slot key).key line major l with
      | some d => .data d regen
      | none => .badTag
    if g == (s.slot k.1).gen then use k.1 false
    else match k.2 with
      | some o => if g == (s.slot o).gen && (s.slot o).state == 1 then use o true else .stale
      | none => .stale
/-- The same under the key a CXL.mem access takes (R323). -/
def State.openLine (s : State) (c : Comp) (r : LeafRef) (line : Nat) (l : Line) : Opened := s.openAt c r line l (s.lineKey c line)
/-- A keystream recomputed under the other slot counts (R346). -/
def State.countRegen (s : State) (t comp : Nat) (regen : Bool) : State :=
  if regen then (s.incSat (F.CIF_ERR_regen t)).countTile t 150 [comp] else s

/-! ## Writes (R191 to R194, R306, R309, R329 to R331) -/

/-- The bytes a partial write enables, merged over the stored ones (R192). -/
def byteMask (en : Nat) : HostLine := each (upto 64) 0 (fun m b => if hasBit en b then m ||| (0xFF#512 <<< (8 * b)) else m)
def mergeBytes (old new : HostLine) (en : Nat) : HostLine := (old &&& ~~~byteMask en) ||| (new &&& byteMask en)
/-- The write would renew its leaf (R330). -/
def State.renews (s : State) (t : Nat) (c : Comp) (r : LeafRef) (line : Nat) : Bool :=
  c.cipher == 1 && s.leafInUse t r line && (match (s.tile t).entry line with
    | some e => e.sent && decide (0xFFFF ≤ metaMinor (lineMeta e.media))
    | none => match s.storedMinor t r line with | some m => decide (0xFFFF ≤ m) | none => true)
/-- Lines of a leaf that have no entry. -/
def State.newEntries (s : State) (t line : Nat) : Nat := 64 - ((s.tile t).catchQ.filter (fun e => e.line / 64 == line / 64)).length
/-- A write is admitted: its line, or the 64 lines of a renewed leaf together (R194, R330). -/
def State.admitsWrite (s : State) (t : Nat) (c : Comp) (r : LeafRef) (line : Nat) : Bool :=
  if s.renews t c r line then decide ((s.tile t).dirty + s.newEntries t line ≤ s.admitLimit t) else s.admits t line
/-- The merged or whole line is entered into the catch and the cache, and Cmp returned. -/
def State.commitWrite (s : State) (q : Req) (t : Nat) (c : Comp) (r : LeafRef) (d : HostLine) : State :=
  if !s.admitsWrite t c r q.line then (s.countTile t 66 [c.id]).modReq q.id (fun p => { p with stage := .held, waits := [] })
  else
    let key := (s.lineKey c q.line).1
    let s := s.writeLine t c r q.line key d q.port
    let s := (s.cacheWrite t q.line c key (s.slot key).gen d).countTile t (if q.kind == .write then 62 else 63) [c.id]
    s.respond q 10 .cmp
/-- What refuses a write before its line is looked at: the cause (R136, R249, R324, R340). -/
def State.writeBar (s : State) (c : Comp) (r : LeafRef) (line : Nat) : Option Nat :=
  if s.readOnly then some 7 else if !s.keyLive c line then some 6 else if s.badPath c r.tile r.rank then some 3 else none

/-! ## Reads and partial writes (R159, R160, R192, R304, R306, R310) -/

/-- The leaf's next line is read ahead (R310): from a ready die, without suspension or read-around; dropped when the die is busy or the map entry is not cached. -/
def State.prefetchNext (s : State) (q : Req) (t : Nat) (c : Comp) (r : LeafRef) : State :=
  let n := q.line + 1
  let x := s.tile t
  if !s.rb (F.CCH_CFG_prefetch_en t) || s.tileThrottled t || q.line % 64 == 63 || c.policy == 2 || (x.cached n).isSome || (x.entry n).isSome then s
  else match s.source t c r n with
    | .spot sp m =>
      let ch := s.memberChan sp.group m
      let e := (s.tile r.tile).stem (s.slotOf r)
      if s.memberThere sp m && s.server r.tile == r.tile && (s.chan ch).dieReady sp.die && !(sp.dense && e.ageUnknown && !(s.tile r.tile).swept.contains (s.slotOf r)) then
        (s.countTile t 51 [c.id]).startOp (.prefetch n c.id q.port) t r.tile sp m (s.slotOf r) (s.leafOf r).gen [c.format] q.port [c.id] false |>.1
      else s.countTile t 52 [c.id]
    | .need _ => s.countTile t 52 [c.id]
    | _ => s
/-- A request has its line's plaintext: a read is answered, a partial write merged. -/
def State.haveData (s : State) (q : Req) (t : Nat) (c : Comp) (r : LeafRef) (path : Nat) (d : HostLine) : State :=
  if q.kind == .read then s.respond q path (.data d) else s.commitWrite q t c r (mergeBytes d q.data q.enables)
/-- A request whose line cannot be given: a read is poisoned, a partial write ends with an error completion. -/
def State.noData (s : State) (q : Req) (path cause : Nat) : State :=
  if q.kind == .read then s.respond q path .poison else (s.noteWriteFail q.port q.ld q.line cause (some q.comp)).respond q path .error
/-- The Failure log holds the record of a write's error (R135). -/
def State.failureFor (s : State) (q : Req) : State := if q.kind == .read then s else s.failureHeld q.port q.ld q.line q.comp
/-- The detector of a request (R289). -/
def Req.det (q : Req) : Nat := if q.kind == .read then 1 else 2
/-- A line whose tag does not verify and is not recovered (R328, R342): a TAG record; a partial write enters it as a poisoned line. -/
def State.tagLost (s : State) (q : Req) (t : Nat) (c : Comp) (r : LeafRef) (path : Nat) (rep : Report) : State :=
  let s := (s.incSat (F.CIF_ERR_tag_fail t)).countTile t 104 [c.id]
  let s := s.report { rep with type := 4, poison := true }
  if q.kind == .read then s.respond q path .poison
  else
    let s := (s.catchPut t q.line c.id (s.poisonFor t c r q.line) false q.port).countTile t 69 [c.id]
    (s.failureFor q).noData q path 2
/-- A line of the catch is opened (R304). -/
def State.fromCatch (s : State) (q : Req) (t : Nat) (c : Comp) (r : LeafRef) (e : CatchEnt) : State :=
  if metaPoison (lineMeta e.media) then s.noData q 0 1
  else match s.openLine c r q.line e.media with
    | .data d g => (s.countRegen t c.id g).haveData q t c r 0 d
    | .stale => s.refuse q 6
    | .badTag => s.tagLost q t c r 0 (.ofLine 4 q.det t q.line (some c.id) true false)
/-- A line of the tile cache or its victim buffer. -/
def State.fromCache (s : State) (q : Req) (t : Nat) (c : Comp) (r : LeafRef) (l : CacheLine) : State :=
  let ahead := (s.tile t).prefetched.contains q.line
  let s := if ((s.tile t).cached q.line).isNone then s.countTile t 57 [c.id] else s
  let s := if ahead then s.countTile t 53 [c.id] else s
  (s.modTile t (fun x => { (x.touch q.line) with prefetched := x.prefetched.filter (· != q.line) })).haveData q t c r 1 l.data

/-! ## A media read has ended for its waiter -/

/-- No try gave the line (R136, R177, R328). -/
def State.reqLost (s : State) (o : Op) (id : Nat) : State :=
  let s := s.dropOp o.id
  match s.req id with
  | none => s
  | some q => match s.served q.comp, s.leafOfLine q.line with
    | some c, some r =>
      let rep := s.spotReport 3 q.det o.stripe o.member (some q.line) (some c.id) none true false o.tile
      if o.tagBad then s.tagLost q o.tile c r 8 rep
      else ((s.report rep).failureFor q).noData q 8 1
    | _, _ => s.refuse q 5
/-- A sound line for a request (R159 steps 7 and 8, R280, R290, R306, R310, R328). -/
def State.reqLine (s : State) (o : Op) (id : Nat) (l : Line) (k : Option LineCheck) : State :=
  match s.req id with
  | none => s.dropOp o.id
  | some q => match s.served q.comp, s.leafOfLine q.line with
    | some c, some r =>
      let rep (type : Nat) (rec_ : Bool) := s.spotReport type q.det o.stripe o.member (some q.line) (some c.id) k false rec_ o.tile
      let many := match k with | some k => decide (2 ≤ k.most) && !o.errored | none => false
      let note (s : State) : State :=
        let s := if o.errored then s.report (rep 2 true) else if many then s.report (rep 1 false) else s
        if o.errored || many then s.rewriteLine o.tile r q.line o.gen l o.errored q.port else s
      if metaPoison (lineMeta l) then (note (s.dropOp o.id)).noData q o.path 1
      else match s.openLine c r q.line l with
        | .stale => (s.dropOp o.id).refuse q 6
        | .data d g =>
          let s := note ((s.dropOp o.id).countRegen o.tile c.id g)
          let key := (s.lineKey c q.line).1
          if q.kind == .read then
            let s := s.cacheFill o.tile q.line c key (s.slot key).gen d
            (if ((s.tile o.tile).cached q.line).isSome then s.prefetchNext q o.tile c r else s).haveData q o.tile c r o.path d
          else s.haveData q o.tile c r o.path d
        | .badTag =>
          let e := s.opRetry { o with tagBad := true }
          match e.2 with
          | .lost o => e.1.reqLost o id
          | _ => e.1
    | _, _ => (s.dropOp o.id).refuse q 5
/-- A prefetched line (R310): dropped when it is poisoned, recovered or fails its tag, or when the line has meanwhile come elsewhere. -/
def State.prefetchLine (s : State) (o : Op) (line comp : Nat) (l : Line) (k : Option LineCheck) : State :=
  let s := s.dropOp o.id
  let x := s.tile o.tile
  match s.served comp, s.leafOfLine line with
  | some c, some r =>
    let many := match k with | some k => decide (2 ≤ k.most) | none => false
    let s := if many then (s.report (s.spotReport 1 1 o.stripe o.member (some line) (some c.id) k false false o.tile)).rewriteLine o.tile r line o.gen l false o.master else s
    if metaPoison (lineMeta l) || (x.entry line).isSome || (x.cached line).isSome || !s.keyLive c line then s
    else match s.openLine c r line l with
      | .data d false =>
        let key := (s.lineKey c line).1
        (s.cacheFill o.tile line c key (s.slot key).gen d).modTile o.tile (fun x => { x with prefetched := x.prefetched.filter (· != line) ++ [line] })
      | _ => s
  | _, _ => s
/-- What a media read has come to reaches its waiter. -/
def State.opEnded (s : State) (e : OpEnd) : State :=
  match e with
  | .going => s
  | .line o l k => match o.who with
    | .req id => s.reqLine o id l k
    | .prefetch line comp _ => s.prefetchLine o line comp l k
    | .map t key copy =>
      let many := match k with | some k => decide (2 ≤ k.most) | none => false
      let s := if many then s.report (s.spotReport 1 1 o.stripe o.member none none k false false o.tile) else s
      let s := (s.dropOp o.id).fetched t key copy true
      if many && s.rb (F.MSC_SCR_CFG_rewrite_en t) && !s.readOnly then s.structCopy t key copy else s
  | .lost o => match o.who with
    | .req id => s.reqLost o id
    | .prefetch _ _ _ => s.dropOp o.id
    | .map t key copy => (s.dropOp o.id).fetched t key copy false

/-! ## Running a request -/

/-- A read, or a partial write's read, at its tile (R159, R160). -/
def State.runRead (s : State) (q : Req) (t : Nat) (c : Comp) (r : LeafRef) : State :=
  if !s.keyLive c q.line then s.refuse q 6
  else if s.badPath c r.tile r.rank then s.refuse q 3
  else
    let s := s.dropStale t c q.line (s.lineKey c q.line)
    let src := s.source t c r q.line
    let s := s.countLookups q t c r src
    let keys := s.keyWaits t c q.line
    let nodes := s.nodeWaits c r
    let locks := keys ++ nodes
    match src with
    | .need ws => s.await q t r.tile (ws ++ keys)
    | .zeros => if q.kind == .read then s.respond q 2 (.data 0) else if locks.isEmpty then s.haveData q t c r 2 0 else s.await q t r.tile locks
    | .poisoned => s.noData q 11 1
    | .cached l => if q.kind == .read || locks.isEmpty then s.fromCache q t c r l else s.await q t r.tile locks
    | .caught e => if locks.isEmpty then s.fromCatch q t c r e else s.await q t r.tile locks
    | .spot x m =>
      if !locks.isEmpty then s.await q t r.tile locks
      else
        let p := s.startOp (.req q.id) t r.tile x m (s.slotOf r) (s.leafOf r).gen [c.format] q.port [c.id] true
        let k := (p.1.modReq q.id (fun p' => { p' with waits := [.op p.2] })).opKick p.2
        k.1.opEnded k.2
/-- A full-line write at its tile (R191). -/
def State.runWrite (s : State) (q : Req) (t : Nat) (c : Comp) (r : LeafRef) : State :=
  let locks := s.keyWaits t c q.line ++ s.nodeWaits c r
  if locks.isEmpty then (s.countLookups q t c r (.zeros)).commitWrite q t c r q.data
  else s.await q t r.tile locks
/-- A request goes on at its tile as far as it can. -/
def State.runReq (s : State) (q : Req) : State :=
  if s.faulted then s.refuse q 8
  else if s.lineBusy q then s.modReq q.id (fun p => { p with waits := [.line] })
  else match s.served q.comp, s.leafOfLine q.line with
    | some c, some r =>
      let t := s.serverOf q
      if q.kind == .read then s.runRead q t c r
      else match s.writeBar c r q.line with
        | some cause => s.refuse q cause
        | none => if q.kind == .write then s.runWrite q t c r else s.runRead q t c r
    | _, _ => s.refuse q 5
/-- Every request that can go on does. -/
def State.settle (s : State) : Nat → State
  | 0 => s
  | n + 1 => match s.reqs.find? (fun q => q.atTile && q.waits.isEmpty) with
    | some q => (s.runReq q).settle n
    | none => s
def State.run (s : State) : State := s.settle (4 * s.reqs.length + 8)
/-- A held request is sent to its tile. -/
def State.release (s : State) (q : Req) : State := s.modReq q.id (fun p => { p with stage := .active, waits := [] })
/-- Held requests of a serving tile go on, in order, while the tile takes them. -/
def State.releaseAll (s : State) (t : Nat) : Nat → State
  | 0 => s
  | n + 1 => match s.firstHeld t with
    | some q => if s.mayGo q then ((s.release q).run).releaseAll t n else s
    | none => s
def State.releaseHeld (s : State) (t : Nat) : State := s.releaseAll t s.reqs.length

/-! ## SRAM words in error (08, R276 to R278; 09, R317; 10, R339; log 128) -/

/-- A tile corrects a single-bit error of an SRAM word, meets an uncorrectable word or a tag parity error: counted (R276, R277, R295). -/
def State.sramCorrected (s : State) (t : Nat) : State := (s.incSat (F.MSC_SRAM_ERR_corrected t)).countTile t 106
def State.sramBad (s : State) (t : Nat) : State := (s.incSat (F.MSC_SRAM_ERR_uncorrectable t)).countTile t 107
def State.sramParity (s : State) (t : Nat) : State := (s.incSat (F.MSC_SRAM_ERR_tag_parity t)).countTile t 108
/-- An error of a word whose entry is there: counted, and an uncorrectable one takes its effect. -/
def State.sramMet (s : State) (t : Nat) (u : Upset) (there : Bool) (bad : State → State) : State :=
  if !there then s else if u.double then bad (s.sramBad t) else s.sramCorrected t
/-- An error of a tag: counted, and the entry is invalid (R276). -/
def State.tagMet (s : State) (t : Nat) (there : Bool) (bad : State → State) : State := if there then bad (s.sramParity t) else s
/-- CACHE_LOCK_LOST (R317): a line in error leaves the cache and its victim buffer; a locked one loses its lock. -/
def State.dropBadLine (s : State) (t line comp : Nat) : State :=
  let locked := (((s.tile t).cached line).map CacheLine.locked).getD false
  let s := s.modTile t (fun x => x.uncache line)
  if locked then (s.incSat (F.CCH_STAT_lock_lost t)).emit (0x20 + 8 * t) 0x0504 (le 1 t ++ le 5 line) [comp] else s
/-- The detector of a record a request raises of itself (R289). -/
def Req.ownDet (q : Req) : Nat := match q.kind with | .read => 1 | .partialWrite => 2 | .write => 15
/-- The lookups of an access to a line, by a request or an engine, meet a word in error. -/
def State.meetUpset (s : State) (line det master t : Nat) (c : Comp) (r : LeafRef) (u : Upset) : State :=
  let x := s.tile t
  let h := r.tile
  let leaf := s.leafIdx r / 8
  let stem := s.slotOf r / 4
  let note (poison : Bool) (s : State) : State := s.report (.ofLine 6 det t line (some c.id) poison false)
  let mapLost (k : MapKey) (s : State) : State := s.lineLost h k
  let dropNode (l : Nat) (s : State) : State := s.modTile h (fun x => { x with nodes := x.nodes.filter (fun n => !(n.comp == c.id && n.level == l && n.idx == r.rank / 8 ^ (l + 1))) })
  let node (l : Nat) : Option Node := (s.tile h).nodes.find? (fun n => n.comp == c.id && n.level == l && n.idx == r.rank / 8 ^ (l + 1))
  match u.place with
  | .catchLine => s.sramMet t u (x.entry line).isSome (fun s =>
      note true (s.modTile t (fun x => { x with catchQ := x.catchQ.map (fun e => if e.line == line then { e with media := poisonOf e.media } else e) })))
  | .catchLeaf => s.sramMet t u ((s.tile h).mapQ.contains (.leaf leaf)) (mapLost (.leaf leaf))
  | .catchStem => s.sramMet t u ((s.tile h).mapQ.contains (.stem stem)) (mapLost (.stem stem))
  | .catchNode l => s.sramMet t u ((s.tile h).mapQ.contains (.node c.id l (r.rank / 8 ^ (l + 1)))) (mapLost (.node c.id l (r.rank / 8 ^ (l + 1))))
  | .cacheTag => s.tagMet t ((x.cached line).isSome || (x.victim line).isSome) (fun s => s.dropBadLine t line c.id)
  | .cacheData => s.sramMet t u ((x.cached line).isSome || (x.victim line).isSome) (fun s => s.dropBadLine t line c.id)
  | .leafTag => s.tagMet t ((s.tile h).lmc.contains leaf) (fun s => s.modTile h (fun x => { x with lmc := x.lmc.filter (· != leaf) }))
  | .leafData => s.sramMet t u ((s.tile h).lmc.contains leaf) (fun s => s.modTile h (fun x => { x with lmc := x.lmc.filter (· != leaf) }))
  | .stemData => s.sramMet t u (s.stemKnown h (s.slotOf r)) (fun s =>
      ((s.modTile h (fun x => { x with stemHeld := x.stemHeld.filter (· != stem) })).startFetch h (.stem stem) master).settleTile h)
  | .keyTag => s.tagMet t (x.keyGen (s.lineKey c line).1).isSome (fun s => s.modTile t (fun y => { y with keys := y.keys.filter (fun p => p.1 != (s.lineKey c line).1) }))
  | .keyData => s.sramMet t u (x.keyGen (s.lineKey c line).1).isSome (fun s => s.modTile t (fun y => { y with keys := y.keys.filter (fun p => p.1 != (s.lineKey c line).1) }))
  | .nodeTag l => s.tagMet t (node l).isSome (dropNode l)
  | .nodeData l => s.sramMet t u (node l).isSome (fun s =>
      if ((node l).map Node.dirty).getD false then (dropNode l s).markBad c.id h l (r.rank / 8 ^ (l + 1)) det line else dropNode l s)
  | .filter => s.sramMet t u true (fun s => note false (s.modTile h (fun x => { x with filter := x.filter.filter (fun b => b / 128 != s.leafIdx r / 64 / 128) ++ (upto 128).map (fun i => s.leafIdx r / 64 / 128 * 128 + i) })))
  | .bole => s.sramMet t u (c.cipher == 1 && c.integrity != 0) (fun s => s.markBad c.id h (s.depthOf c h) 0 det line)
  | .hubTable => if u.double then note false (s.countHub 45) else s.countHub 44
  | .taproot both =>
    if !(c.cipher == 1 && c.integrity != 0) then s
    else if !u.double then s.countHub 44
    else
      let s := s.countHub 45
      if both then each s.tileList s (fun s i => if (s.patternOf c).leafCount (c.size * 0x200000) i != 0 then s.markBad c.id i (s.depthOf c i) 0 det line else s) else s
/-- The words in error that a request's lookups meet, taken as it arrives. -/
def State.meetUpsets (s : State) (q : Req) (c : Comp) (us : List Upset) : State :=
  match s.leafOfLine q.line with
  | some r => each us s (fun s u => s.meetUpset q.line q.ownDet q.port (s.serverOf q) c r u)
  | none => s
/-- The words in error that an engine's lookups of a line meet. -/
def State.meetAt (s : State) (line det : Nat) (c : Comp) (r : LeafRef) (us : List Upset) : State :=
  each us s (fun s u => s.meetUpset line det (masterOfDet det) (s.server r.tile) c r u)
/-- A processor's access to its instruction or data memory meets a word in error (R277, R278): counted, and an uncorrectable one takes an access fault, with its INTERNAL record. Processor 0 is the warden, n + 1 the steward of tile n. -/
def State.coreWord (s : State) (core : Nat) (upset : Option Bool) : State :=
  match upset with
  | none => s
  | some double =>
    let s := if core = 0 then s.countHub (if double then 45 else 44) else if double then s.sramBad (core - 1) else s.sramCorrected (core - 1)
    if double then s.report (.internal (if core = 0 then 8 else core - 1) false) else s

/-! ## Arrival (R21 to R23, R32, R110, R114, R128, R134, R136) -/

/-- A port takes requests: its link is up with CXL, no flush has stopped the ports, and the resume has configured the logical devices (R125, R212, R217, R492). -/
def State.portOpen (s : State) (port ld : Nat) : Bool :=
  (match tget s.links (port, s.linkOf port ld) with | some l => l.up && l.cxl | none => false) && !s.power.flushing && !s.clocks.portsStopped && s.ldsReady && decide (port < s.portCount)
/-- The CXL.mem IDE stream of a link is Insecure; its stream has number 0 (log 13). -/
def State.insecure (s : State) (port ld : Nat) : Bool := match tget s.links (port, s.linkOf port ld) with | some l => tget l.ide 0 == some false | none => false
/-- A request takes its link out of L1 and the package out of P1 or P2 (R491). -/
def State.linkAwake (s : State) (port ld : Nat) : State :=
  let k := (port, s.linkOf port ld)
  { s with links := (match tget s.links k with | some l => if l.l1 then tput s.links k { l with l1 := false } else s.links | none => s.links)
           power := { s.power with pstate := 0 } }
/-- A request taken at its port (R22, R159, R191): numbered, sampled for the trace, and held at the hub; a sleeping tile begins to wake. -/
def State.takeReq (s : State) (kind : ReqKind) (port ld tag line : Nat) (data : HostLine) (enables : Nat) (c : Comp) : State × Req :=
  let home := s.homeOf line
  let (s, tr) := s.traceSample port c.id
  let asleep := (s.tile (s.server home)).depth != 0
  let q : Req := { id := s.nextReq, port := port, ld := ld, tag := tag, kind := kind, data := data, enables := enables, line := line, comp := c.id, tile := home
                   epoch := s.epochOf c.id, stage := .held, waits := [], path := 0, late := false, fine := s.fine, trace := tr, mapped := false
                   woke := asleep, looked := false }
  let s := { s with nextReq := s.nextReq + 1, reqs := s.reqs ++ [q] }
  (if asleep then (s.wakeTile (s.server home)).countTile (s.server home) 146 else s, q)
/-- A request taken goes to its tile at once, or is held, and counted as held (R22, R194). -/
def State.startReq (s : State) (q : Req) : State :=
  let t := s.server q.tile
  if s.faulted || (s.mayGo q && !s.heldBefore q) then (s.release q).run
  else if !s.admitsReq q then (s.countHub (13 + q.port) [q.comp]).countTile t 66 [q.comp]
  else if s.inFlight t < 4096 then s else s.countHub (13 + q.port) [q.comp]
/-- A CXL.mem request arrives; an address no HDM decoder decodes has the unmapped-address response (R129, R130; log 156). -/
def State.arrive (s : State) (kind : ReqKind) (port ld tag hpa : Nat) (data : HostLine) (enables : Nat) (upsets : List Upset) : State :=
  if !s.portOpen port ld then s
  else if s.insecure port ld then s.emit (0x10 + port) 0x0800 (portLink port (s.linkOf port ld) ++ le 1 0)
  else
    let at_ := s.hdmDecode port ld hpa
    let dpa := at_.getD hpa
    let line := dpa / 64
    let s := s.linkAwake port ld
    let c := if at_.isNone then none else (s.visibleTo port ld).find? (fun c => decide (c.lo ≤ dpa ∧ dpa < c.hi))
    let s := s.countHub ((if kind == .read then 5 else 9) + port) ((c.map Comp.id).toList)
    match c with
    | none =>
      let s := s.noteUnmapped port ld line
      if kind == .read then (s.countHub (17 + port)).send (.hostData port ld tag 0 true)
      else (s.noteWriteFail port ld line 5 none).send (.hostCmp port ld tag true)
    | some c =>
      let r := s.takeReq kind port ld tag line data enables c
      (r.1.meetUpsets r.2 c upsets).startReq r.2
/-- CXL_MEM_READ (R159). -/
def execCxlMemRead (port ld tag hpa : Nat) (upsets : List Upset) (s : State) : Host.Outcome State Fault Refusal := .next (s.arrive .read port ld tag hpa 0 0 upsets)
/-- CXL_MEM_WRITE (R191). -/
def execCxlMemWrite (port ld tag hpa : Nat) (data : HostLine) (upsets : List Upset) (s : State) : Host.Outcome State Fault Refusal := .next (s.arrive .write port ld tag hpa data 0 upsets)
/-- CXL_MEM_PARTIAL_WRITE (R192). -/
def execCxlMemPartialWrite (port ld tag hpa : Nat) (data : HostLine) (enables : Nat) (upsets : List Upset) (s : State) : Host.Outcome State Fault Refusal :=
  .next (s.arrive .partialWrite port ld tag hpa data enables upsets)
/-- MEM_SPEC_RD (R132): accepted and ignored. -/
def execMemSpecRd (_port _ld _tag _hpa : Nat) (s : State) : Host.Outcome State Fault Refusal := .next s

/-- HELD_REQUEST_RELEASE (R22): the next held request of the tile, when the tile has room for it. -/
def execHeldRequestRelease (tile : Nat) (s : State) : Host.Outcome State Fault Refusal :=
  .next (match s.firstHeld tile with
    | some q => if s.mayGo q then (s.release q).run else s
    | none => s)
/-- WRITE_ADMIT_RESUME (R194): held requests go on while the tile admits them. -/
def execWriteAdmitResume (tile : Nat) (s : State) : Host.Outcome State Fault Refusal := .next (s.releaseHeld tile)

/-- KEY_UNWRAP_DONE (R322): the slot's key enters the key cache, unless the slot is no longer Active; requests that waited for it go on. -/
def execKeyUnwrapDone (tile key : Nat) (s : State) : Host.Outcome State Fault Refusal :=
  .next (if !(s.tile tile).unwraps.contains key then s
    else
      let s := (s.modTile tile (fun x => { x with unwraps := x.unwraps.filter (· != key) })).countHub 41
      let s := if (s.slot key).state = 1 then s.modTile tile (fun x => x.touchKey key (s.slot key).gen) else s
      (s.resolve (.key key)).run)

/-- The media read a request waits for: its own, or that of a map line it needs. -/
def State.readOfReq (s : State) (id : Nat) : Option Op :=
  match s.ops.find? (fun o => o.who == .req id) with
  | some o => some o
  | none => (s.req id).bind (fun q => s.ops.find? (fun o => match o.who with | .map _ k _ => q.waits.contains (.map k) | _ => false))
/-- READ_PATIENCE_EXPIRE (R172, R176): a host-path read without a response from its die is served by read-around when that is allowed; for a read-around, the missing member responses are an error of the path. -/
def execReadPatienceExpire (req : Nat) (s : State) : Host.Outcome State Fault Refusal :=
  .next (match s.readOfReq req with
    | some o =>
      if o.waitsTarget then (if s.aroundOk o.stripe o.member then (s.countTile o.tile 113).aroundNow o else s)
      else (let e := s.opRetry o; (e.1.opEnded e.2).run)
    | none => s)

/-- YIELD_WINDOW_END (R173, R174, R187): the window's share decides whether the tile yields in the next one. -/
def execYieldWindowEnd (tile : Nat) (s : State) : Host.Outcome State Fault Refusal :=
  let w := (s.tile tile).window
  let share := if w.reads = 0 then 0 else 100 * w.arounds / w.reads
  let past := decide (s.rf (F.MSC_RD_CFG_yield_pct tile) * w.reads < 100 * w.arounds)
  let done := decide (100 * w.arounds ≤ s.rf (F.MSC_RD_CFG_resume_pct tile) * w.reads)
  let was := s.rb (F.MSC_RD_STAT_yielding tile)
  let now := if was then !done else past
  let s := (s.modTile tile (fun x => { x with window := ⟨0, 0⟩ })).wf (F.MSC_RD_STAT_last_share tile) share
  let s := if was then s.countTile tile 93 else s
  let s := if past then s.countTile tile 95 else s
  let s := s.wf (F.MSC_RD_STAT_yielding tile) (b2n now)
  let note (s : State) := (s.emit (0x20 + 8 * tile + 1) 0x0302 (le 1 tile ++ le 1 (b2n (!now)) ++ le 1 share)).irqEdge (irqTile tile 8)
  .next (if now && !was then note ((({ s with health := { s.health with yields := tmod s.health.yields tile 0 (· + 1) } } : State).incSat (F.MSC_RD_STAT_yields tile)).countTile tile 94) else if was && !now then note s else s)

end Sys2Proof.Machine
end

