-- ==== Sys2Proof/Machine/Destage.lean ====
section
/-! DEFINITION. The understorey: destage, the log, the leaf switch (06, R195 to R201; 07, R233, R251, R252). -/
namespace Sys2Proof.Machine

/-! ## Read-only (R248, R249) -/

/-- Writes held when the device enters read-only end with the error completion at once (R249). -/
def State.heldFail (s : State) (was : Bool) : State := if s.readOnly && !was then each s.tileList s (fun s t => s.releaseHeld t) else s
def State.enterReadOnly (s : State) : State := s.setReadOnly.heldFail s.readOnly
/-- A place becomes Dead, and where the device enters read-only by it the held writes end. -/
def State.killPlace (s : State) (p : Place) (cause : Nat) : State := (s.markDead p cause).heldFail s.readOnly

/-! ## Lines engines take from the medium (R197, R266, R282) -/

/-- A line an engine reads from its place: corrected; recovered, with a record; or composed as a poisoned line. Its slots are the master's (R393). -/
def State.mediumLine (s : State) (t : Nat) (c : Comp) (line : Nat) (x : Stripe) (m det master : Nat) : Line × State :=
  match s.stripeRead x m [c.format] with
  | .good l k =>
    let s := (s.chargeRead x m false master [c.id]).countCheck t k [c.id]
    (l, if 2 ≤ k.most then s.report (s.spotReport 1 det x m (some line) (some c.id) (some k) false false t) else s)
  | .recovered l =>
    let s := s.chargeRead x m true master [c.id]
    (l, ({ s with health := { s.health with reconstructed := s.health.reconstructed + 1 } } : State).report (s.spotReport 2 det x m (some line) (some c.id) none false true t))
  | .lost =>
    let s := s.chargeRead x m true master [c.id]
    (s.unreadPoison c line, ({ s with health := { s.health with uncorrectable := s.health.uncorrectable + 1 } } : State).report (s.spotReport 3 det x m (some line) (some c.id) none true false t))
/-- A zero line of a leaf: under its key and major counter with minor counter 0 (R197, R331). -/
def State.zeroLine (s : State) (c : Comp) (r : LeafRef) (line : Nat) : Line :=
  let k := (s.lineKey c line).1
  cipherLine c (s.slot k).key (s.slot k).gen line ((s.major c r.tile r.rank).getD 0) 0 0
/-- A line of a leaf as destage takes it (R197). -/
def State.destageLine (s : State) (t : Nat) (c : Comp) (r : LeafRef) (line master : Nat) : Line × State :=
  match (s.tile t).entry line with
  | some e => (e.media, s)
  | none => match s.whereIs r (line % 64) with
    | .zeros => (s.zeroLine c r line, s)
    | .poisoned => (s.unreadPoison c line, s)
    | .spot x m _ => s.mediumLine t c line x m 6 master

/-! ## The rebuild list (R30) -/

/-- Line-stripes written while a tile is out are listed by its nurse. -/
def State.noteRebuild (s : State) (x : Stripe) : State :=
  each (s.tileList.filter (fun n => !s.tileInService n && (upto 16).any (fun m => tileOfChan (s.memberChan x.group m) == n))) s (fun s n =>
    (s.modTile (s.server n) (fun y => if y.rebuild.contains (n, x) then y else { y with rebuild := y.rebuild ++ [(n, x)] })).wf (F.WDN_TILE_STAT_degraded_stripes n) 1)

/-! ## The log (R196, R198, R233, R251) -/

def Tile.frondAt (x : Tile) (pos : Nat) : Option Frond := if pos / 224 < x.tailFrond then none else x.fronds[pos / 224 - x.tailFrond]?
/-- The position after the last frond. -/
def Tile.logEnd (x : Tile) : Nat := (x.tailFrond + x.fronds.length) * 224
/-- A place is lent for 25 fronds: the highest wear of the batch (R245); one pass adds 1 to its wear (R227). -/
def State.lend (s : State) (t : Nat) : State × Bool :=
  let r := s.takePlace t false false
  match r.2 with
  | some p => (((r.1.placeTo p .lent).wearPlace p 1).modTile t (fun x => { x with fronds := x.fronds ++ [⟨p, 0⟩] }), true)
  | none => (r.1, false)
/-- The log grows by a frond: the next grove of its last place, or the first of a new one (R233). -/
def State.addFrond (s : State) (t : Nat) : State × Bool :=
  match (s.tile t).fronds.getLast? with
  | some f => if f.grove < 24 && (s.placeRec f.place).state == .lent && s.pairAlive f.place.group f.place.die then (s.modTile t (fun x => { x with fronds := x.fronds ++ [⟨f.place, f.grove + 1⟩] }), true) else s.lend t
  | none => s.lend t
/-- The first log position of a line-stripe of the span that lies in a retired furrow or a Dead place. -/
def State.badStripe (s : State) (t pos : Nat) : Option Nat :=
  ((upto 6).map (fun i => pos / 14 + i)).find? (fun n => decide (14 * n < pos + 64) && match (s.tile t).frondAt (14 * n) with
    | some f => (s.placeRec f.place).furrows.contains (16 * f.grove + n % 16) || (s.placeRec f.place).state == .dead
    | none => false)
/-- The next 64 consecutive positions in one frond, or in two consecutive groves of one place; none when no place can be lent. -/
def State.logSpot (s : State) (t : Nat) : Nat → Nat → State × Option Nat
  | 0, _ => (s, none)
  | n + 1, pos =>
    let x := s.tile t
    match x.frondAt pos, x.frondAt (pos + 63) with
    | none, _ => (let r := s.addFrond t; if r.2 then r.1.logSpot t n pos else (r.1, none))
    | some f, none =>
      if f.grove < 24 && (s.placeRec f.place).state == .lent && s.pairAlive f.place.group f.place.die then (let r := s.addFrond t; if r.2 then r.1.logSpot t n pos else (r.1, none))
      else s.logSpot t n x.logEnd
    | some f, some g =>
      if f.place != g.place then s.logSpot t n ((pos + 63) / 224 * 224)
      else match s.badStripe t pos with
        | some b => s.logSpot t n (14 * (b + 1))
        | none => (s, some pos)
/-- A line-stripe of the log is programmed on all its present members with PROG_FAST; missing positions are filler (R198). -/
def State.programStripe (s : State) (t : Nat) (ls : LogStripe) : State :=
  match (s.tile t).frondAt (14 * ls.num) with
  | none => s
  | some f =>
    let x := (frondSpot f.place f.grove (14 * ls.num % 224)).1
    let line (d : Nat) : Line := (tget ls.lines d).getD fillerLine
    let pq := parityOf ((upto 14).map (fun d => (d, stripeVector (line d))))
    let member (m : Nat) : Line := if m < 14 then line m else parityLine (if m = 14 then pq.1 else pq.2)
    let live := (upto 16).filter (fun m => s.memberPresent x.group x.die m)
    let s := s.modTile t (fun y => { y with logStripes := y.logStripes.filter (fun z => z.num != ls.num) ++ [{ ls with waiting := live, sent := true }] })
    let s := each live s (fun s m => s.submit (s.memberChan x.group m)
      ⟨fastCmd x (member m) false, .log t ls.num m, ls.master, ls.comps, false, false, none⟩)
    (s.noteRebuild x).countTile t (if ls.lines.isEmpty then 74 else 73) ls.comps
/-- A line takes a log position; a line-stripe whose 14 positions are filled is programmed. -/
def State.logPut (s : State) (t pos : Nat) (l : Line) (master : Nat) (comps : List Nat) : State :=
  let num := pos / 14
  let old : LogStripe := ((s.tile t).logStripes.find? (fun z => z.num == num)).getD ⟨num, [], [], false, false, master, comps⟩
  let ls : LogStripe := { old with lines := tput old.lines (pos % 14) l }
  if ls.lines.length = 14 then s.programStripe t ls
  else s.modTile t (fun y => { y with logStripes := y.logStripes.filter (fun z => z.num != num) ++ [ls] })
/-- The positions from the head to a later position hold no data: a line-stripe begun is closed with filler, and whole ones are programmed as filler (R198, R233). -/
def State.logSkip (s : State) (t pos master : Nat) : State :=
  let head := (s.tile t).head
  each ((upto 24).map (fun i => head / 14 + i)) s (fun s n =>
    if 14 * n < pos ∧ head < 14 * (n + 1) then
      match (s.tile t).logStripes.find? (fun z => z.num == n) with
      | some z => if z.sent then s else s.programStripe t z
      | none => if head ≤ 14 * n then s.programStripe t ⟨n, [], [], false, false, master, []⟩ else s
    else s)

/-- The live leaves that lie in a place: home tile, leaf map index, entry. -/
def State.liveIn (s : State) (p : Place) : List (Nat × Nat × LeafEnt) :=
  (s.tileList.map (fun h => ((s.tile h).leaves.filter (fun q => q.2.valid && q.2.place == p)).map (fun q => (h, q.1, q.2)))).flatten
/-- The log positions of a tile's live leaves and of leaves under destage. -/
def State.livePositions (s : State) (t : Nat) : List Nat :=
  let x := s.tile t
  let ents := (s.tileList.map (fun h => ((s.tile h).leaves.filter (fun q => q.2.valid)).map Prod.snd)).flatten
  ((upto x.fronds.length).map (fun i => match x.fronds[i]? with
    | some f => (ents.filter (fun e => e.place == f.place && e.grove == f.grove)).map (fun e => (x.tailFrond + i) * 224 + e.offset)
    | none => [])).flatten ++ x.destages.map Destage.pos
/-- The tail advances over dead leaves; a place whose fronds it has passed is released (R203). -/
def State.advanceTail (s : State) (t : Nat) : State :=
  let x := s.tile t
  let tail := (s.livePositions t).foldl min x.head
  let n := min (tail / 224 - x.tailFrond) x.fronds.length
  let gone := x.fronds.take n
  let kept := x.fronds.drop n
  let s := s.modTile t (fun x => { x with tail := max x.tail tail, tailFrond := x.tailFrond + n, fronds := kept })
  let done := ((gone.map Frond.place).eraseDups).filter (fun p => !(kept.any (fun f => f.place == p)))
  (each done s (fun s p => s.releasePlace p)).undRefreshAll

/-! ## Destage (R195, R197) -/

/-- The leaf of a leaf number (device address ÷ 4,096). -/
def State.leafNum (s : State) (n : Nat) : Option LeafRef := s.leafOfLine (64 * n)
/-- The next leaf: one ordered ahead, else that of the oldest eligible line; a leaf under destage waits for its switch. -/
def State.nextLeaf (s : State) (t : Nat) : Option Nat :=
  let x := s.tile t
  let busy (n : Nat) : Bool := x.destages.any (fun d => d.leaf == n)
  match x.urgent.find? (fun n => !busy n) with
  | some n => some n
  | none => (x.catchQ.find? (fun e => e.eligible && !busy (e.line / 64))).map (fun e => e.line / 64)
/-- The 64 lines of a leaf are appended at a log position. -/
def State.appendLeaf (s : State) (t n pos : Nat) (c : Comp) (r : LeafRef) (master : Nat) : State :=
  each (upto 64) s (fun s j =>
    let p := s.destageLine t c r (64 * n + j) master
    p.2.logPut t (pos + j) p.1 master [c.id])
/-- A leaf is taken (R197): its dirty lines with their versions, their sent flags set (R329), its victims on their way (R308). -/
def State.destageAt (s : State) (t n pos : Nat) (c : Comp) (r : LeafRef) : State :=
  let x := s.tile t
  let dirty := x.catchQ.filter (fun e => e.line / 64 == n)
  let master := ((dirty.head?).map CatchEnt.master).getD 10
  let s := (s.logSkip t pos master).modTile t (fun x => { x with head := pos + 64 })
  let s := s.appendLeaf t n pos c r master
  let s := s.modTile t (fun x => { x with
    catchQ := x.catchQ.map (fun e => if e.line / 64 == n then { e with sent := true } else e)
    victims := x.victims.map (fun v => if dirty.any (fun e => e.line == v.line) then { v with left := true } else v)
    urgent := x.urgent.filter (· != n)
    destages := x.destages ++ [⟨n, c.id, (s.leafOf r).gen, pos, dirty.map (fun e => (e.line, e.ver))⟩] })
  (((s.countTile t 70 [c.id]).countTile t 71 [c.id] dirty.length).countTile t 72 [c.id] (64 - dirty.length)).undRefresh t
/-- DESTAGE_LEAF (R197, R201): the next leaf goes to the log head; not while destage is paused, in read-only, or after the Commit crossing. -/
def execDestageLeaf (tile : Nat) (upsets : List (Nat × Upset)) (s : State) : Host.Outcome State Fault Refusal :=
  .next (s.onAwake tile fun s =>
    if s.readOnly || s.power.flushing || s.destagePaused tile || !s.tileInService tile then s
    else match s.nextLeaf tile with
      | none => s
      | some n => match s.leafNum n with
        | none => s.modTile tile (fun x => { x with catchQ := x.catchQ.filter (fun e => e.line / 64 != n), urgent := x.urgent.filter (· != n) })
        | some r => match s.served r.comp with
          | none => s
          | some c =>
            let s := each upsets (s.loadPath c r.tile r.rank 6 (64 * n)) (fun s u => s.meetAt (64 * n + u.1 % 64) 6 c r [u.2])
            let p := s.logSpot tile 40 (s.tile tile).head
            match p.2 with
            | some pos => p.1.destageAt tile n pos c r
            | none => p.1)

/-- LINGER_EXPIRE (R195): a dirty line becomes eligible. -/
def execLingerExpire (tile line : Nat) (s : State) : Host.Outcome State Fault Refusal :=
  .next ((s.modTile tile (fun x => { x with catchQ := x.catchQ.map (fun e => if e.line == line then { e with eligible := true } else e) })).wakeTile tile)

/-- LINE_STRIPE_FILL_TIMEOUT (R198): the line-stripe begun is programmed with filler, which the log skips. -/
def execLineStripeFillTimeout (tile : Nat) (s : State) : Host.Outcome State Fault Refusal :=
  let head := (s.tile tile).head
  .next (match (s.tile tile).logStripes.find? (fun z => !z.sent && z.num == head / 14) with
    | some z => ((s.programStripe tile z).modTile tile (fun x => { x with head := 14 * (head / 14 + 1) })).undRefresh tile
    | none => s)

/-! ## The leaf switch (R199) -/

/-- The log still holds a line-stripe of the leaf that has not completed. -/
def Tile.destageOpen (x : Tile) (d : Destage) : Bool := x.logStripes.any (fun z => decide (d.pos / 14 ≤ z.num ∧ z.num ≤ (d.pos + 63) / 14))
/-- The leaf map entry for a log position. -/
def Tile.entryAt (x : Tile) (d : Destage) (old : LeafEnt) : LeafEnt :=
  match x.frondAt d.pos with
  | some f => ⟨d.pos % 224, f.grove, f.place, true, false, false, (old.gen + 1) % 4096⟩
  | none => old
/-- LEAF_SWITCH (R199): the leaf map names the new position, unchanged catch entries are freed, victims leave, and the old place is released; a changed generation makes the copy dead. -/
def execLeafSwitch (tile leaf : Nat) (s : State) : Host.Outcome State Fault Refusal :=
  .next (match (s.tile tile).destages.find? (fun d => d.leaf == leaf) with
    | none => s
    | some d =>
      if (s.tile tile).destageOpen d then s
      else
        let fin (s : State) : State := s.modTile tile (fun x => { x with destages := x.destages.filter (fun y => y.leaf != leaf) })
        match s.leafNum leaf with
        | none => (fin s).advanceTail tile
        | some r =>
          let e := s.leafOf r
          if e.gen != d.gen then ((fin s).countTile tile 75 [d.comp]).advanceTail tile
          else
            let s := (s.mapRoom r.tile).setLeaf r.tile (s.leafIdx r) ((s.tile tile).entryAt d e)
            let s := s.modTile tile (fun x => { x with catchQ := x.catchQ.filter (fun y => !d.taken.contains (y.line, y.ver)) })
            let s := s.modTile tile (fun x => { x with victims := x.victims.filter (fun v => !(v.left && v.line / 64 == leaf)) })
            (fin s).advanceTail tile)

/-! ## Completions of the log's programs (R198, R252) -/

/-- A leaf number of a leaf map index. -/
def State.numOf (s : State) (home idx : Nat) : Option Nat :=
  match ((s.tile home).dir.find? (fun d => decide (d.2.1 ≤ idx / 256 ∧ idx / 256 < d.2.1 + d.2.2))) with
  | some d => some (s.lineOfLeaf ⟨d.1, home, (idx / 256 - d.2.1) * 256 + idx % 256⟩ / 64)
  | none => none
/-- Live leaves of a Lent place are to be appended again at the log head. -/
def State.reappend (s : State) (p : Place) : State :=
  each (s.liveIn p) s (fun s q => match s.numOf q.1 q.2.1 with
    | some n => s.modTile (s.server q.1) (fun x => if x.urgent.contains n then x else { x with urgent := x.urgent ++ [n] })
    | none => s)
/-- A member of a log line-stripe has been programmed. -/
def State.logDone (s : State) (t num m : Nat) : State :=
  s.modTile t (fun x =>
    let l := x.logStripes.map (fun (z : LogStripe) => if z.num == num && z.sent then { z with waiting := z.waiting.filter (· != m) } else z)
    { x with logStripes := l.filter (fun z => !(z.sent && z.num == num && z.waiting.isEmpty)) })
/-- PROG_FAST on a Lent place failed (R252): the place becomes Dead, the leaves of its line-stripes are destaged again from the catch, and its live leaves are appended again. -/
def State.logFailed (s : State) (t num : Nat) : State :=
  match (s.tile t).frondAt (14 * num) with
  | none => s
  | some f =>
    let x := s.tile t
    let bad (n : Nat) : Bool := match x.frondAt (14 * n) with | some g => g.place == f.place | none => false
    let lost := x.destages.filter (fun d => (upto 6).any (fun i => decide (14 * (d.pos / 14 + i) < d.pos + 64) && bad (d.pos / 14 + i)))
    let s := s.modTile t (fun x => { x with
      destages := x.destages.filter (fun d => !lost.contains d)
      urgent := x.urgent ++ ((lost.map Destage.leaf).filter (fun n => !x.urgent.contains n))
      logStripes := x.logStripes.filter (fun z => !bad z.num) })
    let s := { s with health := { s.health with fastFail := s.health.fastFail + 1 } }
    let s := s.report { (default : Report) with type := 7, det := 6, chan := some (s.memberChan f.place.group 0), die := f.place.die, member := 0xFF, tile := t }
    (s.killPlace f.place 1).reappend f.place

end Sys2Proof.Machine
end

