-- ==== Sys2Proof/Machine/StemCopy.lean ====
section
/-! DEFINITION. Stem copies: migration, refresh, wear levelling and what they switch; census, presence filter and stem map at resume (06, R202 to R209; 07, R235 to R248; 05, R163, R181). -/
namespace Sys2Proof.Machine

/-! ## Choosing a stem (R203, R208, R209, R240, R246) -/

/-- The compartment and host stem a slot belongs to (R229). -/
def Tile.slotOwner (x : Tile) (slot : Nat) : Option (Nat × Nat) :=
  (x.dir.find? (fun d => decide (d.2.1 ≤ slot ∧ slot < d.2.1 + d.2.2))).map (fun d => (d.1, slot - d.2.1))
def Tile.copyOf (x : Tile) (slot : Nat) : Option Copy := x.copies.find? (fun c => c.slot == slot)
/-- The log position an understorey entry names, on the tile whose log holds it. -/
def Tile.posOf (x : Tile) (e : LeafEnt) : Option Nat :=
  ((upto x.fronds.length).find? (fun i => x.fronds[i]? == some ⟨e.place, e.grove⟩)).map (fun i => (x.tailFrond + i) * 224 + e.offset)
/-- The slot with the oldest leaf at the log tail. -/
def State.oldestSlot (s : State) (t : Nat) (busy : Nat → Bool) : Option Nat :=
  let log := s.tile (s.server t)
  let l := ((s.tile t).leaves.filter (fun p => p.2.valid && !busy (p.1 / 256))).filterMap (fun p => (log.posOf p.2).map (fun n => (p.1 / 256, n)))
  (pickBy (fun a b => decide (a < b)) Prod.snd l).map Prod.fst
/-- A tile makes no levelling copy while it yields, while its understorey use is at or above mig_start, in spare-critical or read-only (R246, R247), while its die is throttled (R500), or on trim-safe defaults (R484). -/
def State.levelBarred (s : State) (t : Nat) : Bool :=
  s.rb (F.MSC_RD_STAT_yielding t) || decide (s.rf (F.MSC_WR_CFG_mig_start t) ≤ s.undPct t) || decide (2 ≤ s.spareState) || s.tileThrottled t || s.rb F.RST_STAT_trim_safe
/-- The next copy of a tile: due refreshes, oldest program time first; copies ordered by retirement, levelling and discards; age-unknown stems in ascending place order; then migration from the log tail. -/
def State.nextCopy (s : State) (t : Nat) : Option (Nat × CopyWhy) :=
  let x := s.tile t
  let busy (slot : Nat) : Bool := (x.copyOf slot).isSome
  let due := pickBy (fun a b => decide (b < a)) (fun slot => s.ageOf (x.stem slot)) (x.refreshDue.filter (fun k => !busy k))
  match due with
  | some slot => some (slot, .refresh)
  | none =>
    if s.rb (F.MSC_RD_STAT_yielding t) then none
    else match x.copyQueue.find? (fun p => !busy p.1 && !(p.2 == .wear && s.levelBarred t)) with
      | some p => some p
      | none =>
        let old := (x.stems.filter (fun p => p.2.valid && p.2.ageUnknown && !busy p.1)).map (fun p => (p.1, p.2.place.group * 2 ^ 21 + p.2.place.die * 2 ^ 19 + p.2.place.num))
        match (if s.hostWaits t then none else pickBy (fun a b => decide (a < b)) Prod.snd old) with
        | some p => some (p.1, .unaged)
        | none => if s.migrating t then (s.oldestSlot t busy).map (fun k => (k, .migration)) else none

/-- The source of leaf k of a stem (R203, R233): the understorey entry, a discarded one among them, but for a refresh; else the stem's place, but for a leaf it holds as zero lines; else zeros. -/
def Tile.leafSource (x : Tile) (slot k : Nat) (refresh : Bool) : LeafSrc :=
  let e := x.leaf (slot * 256 + k)
  if !refresh && (e.valid || e.zero || e.poisoned) then .und e
  else if (x.stem slot).valid && !(x.stem slot).blank.contains k then .stem
  else .zero
/-- The leaf is written from another source than zero lines (R238). -/
def LeafSrc.live : LeafSrc → Bool
  | .und e => !e.zero
  | .stem => true
  | .zero => false
/-- The leaves that the destination holds as zero lines. -/
def Copy.blank (c : Copy) : List Nat := (upto 256).filter (fun k => !(c.leaves.getD k .zero).live)
/-- The leaves that read from the new place rather than as zeros (R230): those written from a source, but for the ones whose entry a refresh leaves discarded. -/
def Tile.liveLeaves (x : Tile) (c : Copy) : Nat := ((upto 256).filter (fun k => (c.leaves.getD k .zero).live && (c.leaves.getD k .zero != .stem || !(x.leaf (c.slot * 256 + k)).zero))).length
def CopyWhy.counter : CopyWhy → Nat
  | .migration => 76 | .refresh => 77 | .unaged => 77 | .wear => 78 | .retire => 79 | .empty => 76
/-- The copy is a refresh (R208, R209). -/
def CopyWhy.refreshes : CopyWhy → Bool
  | .refresh => true
  | .unaged => true
  | _ => false
/-- The program time of a copy, once a sheet program has started (R206). -/
def State.progOf (s : State) (c : Copy) : Nat := c.prog.getD s.glade.elapsed

/-! ## The content of a copy (R202, R203, R238, R251) -/

/-- The host line at a position of a copy: as stored in its source, or a zero line (R197). -/
def State.copyHostLine (s : State) (t : Nat) (cp : Copy) (c : Comp) (q : Nat) : Line × State :=
  let r : LeafRef := ⟨cp.comp, t, cp.stem * 256 + q / 64⟩
  let line := s.lineOfLeaf r + q % 64
  let spot (x : Stripe) (m : Nat) : Line × State :=
    let cut := s.lostWords.contains (.engine 6 line, true)
    let s : State := { s with lostWords := s.lostWords.filter (fun p => p.1 != .engine 6 line) }
    if cut then (s.unreadPoison c line, s.report { (Report.ofLine 6 6 t line (some c.id) true false) with copying := true, fabric := true }) else
    let found := s.stripeRead x m [c.format]
    let s := s.chargeRead x m (match found with | .good _ _ => false | _ => true) 5 [c.id]
    match found with
    | .good l k => (l, (if 2 ≤ k.most then (s.report { (s.spotReport 1 6 x m (some line) (some c.id) (some k) false false t) with copying := true }).rewriteLine (s.server t) r line (s.leafOf r).gen l false 5 else s).countCheck t k [c.id])
    | .recovered l => (l, (({ s with health := { s.health with reconstructed := s.health.reconstructed + 1 } } : State).report { (s.spotReport 2 6 x m (some line) (some c.id) none false true t) with copying := true }).rewriteLine (s.server t) r line (s.leafOf r).gen l true 5)
    | .lost => (s.unreadPoison c line, ({ s with health := { s.health with uncorrectable := s.health.uncorrectable + 1 } } : State).report { (s.spotReport 3 6 x m (some line) (some c.id) none true false t) with copying := true })
  match cp.leaves.getD (q / 64) .zero with
  | .zero => (s.zeroLine c r line, s)
  | .stem => (let p := canopySpot cp.src.place (patchedPos cp.src.patched q); spot p.1 p.2)
  | .und e =>
    if e.zero then (s.zeroLine c r line, s)
    else if e.poisoned then (s.unreadPoison c line, s)
    else (let p := leafSpot e (q % 64); spot p.1 p.2)
/-- The retired furrows of a place in ascending order, those that cover host positions (R238). -/
def PlaceRec.patches (r : PlaceRec) : List Nat := (upto 400).filter (fun f => r.furrows.contains f && !trailerFurrow f)
/-- The host position a patch slot holds (R238). -/
def patchSlot (furrows : List Nat) (e : Nat) : Option Nat :=
  match furrows[e / 42]? with
  | some f => if f * 42 + e % 42 < 16384 then some (f * 42 + e % 42) else none
  | none => none
/-- The trailer header (R238). -/
def State.trailerHeader (s : State) (t : Nat) (cp : Copy) : Line :=
  let map := ((upto 256).map (fun k => if (cp.leaves.getD k .zero).live then 2 ^ k else 0)).sum
  let b := le 32 map ++ le 2 cp.comp ++ le 1 t ++ [0#8] ++ le 4 cp.stem ++ le 4 (cp.src.copySeq + 1) ++ le 4 (s.progOf cp) ++
    le 4 (s.placeRec cp.dest).furrows.length ++ zeros 8
  structLine (b ++ le 4 (crc32 b))
/-- The line at a data position of the destination. -/
def State.copyLine (s : State) (t : Nat) (cp : Copy) (c : Comp) (q : Nat) : Line × State :=
  let f := (s.placeRec cp.dest).patches
  if q < 16384 then (if f.contains (q / 42) then (fillerLine, s) else s.copyHostLine t cp c q)
  else if q = 16384 then (s.trailerHeader t cp, s)
  else if q < 16398 then
    (structLine (((upto 32).map (fun i => le 2 ((patchSlot f ((q - 16385) * 32 + i)).getD 0xFFFF))).flatten), s)
  else match patchSlot f (q - 16398) with
    | some p => s.copyHostLine t cp c p
    | none => (fillerLine, s)
/-- Line i of member m of a sheet-stripe: a data line, or a parity of the 14. -/
def State.copyMember (s : State) (t : Nat) (cp : Copy) (c : Comp) (ss i m : Nat) : Line × State :=
  if m < 14 then s.copyLine t cp c (224 * ss + 14 * i + m)
  else
    let r := each (upto 14) (([] : List (Nat × List Nat)), s) (fun (acc : List (Nat × List Nat) × State) d =>
      let l := acc.2.copyLine t cp c (224 * ss + 14 * i + d)
      (acc.1 ++ [(d, stripeVector l.1)], l.2))
    let pq := parityOf r.1
    (parityLine (if m = 14 then pq.1 else pq.2), r.2)

/-! ## Programming (R204) -/

def State.putCopy (s : State) (t : Nat) (cp : Copy) : State :=
  s.modTile t (fun x => { x with copies := x.copies.map (fun c => if c.slot == cp.slot then cp else c) })
def State.dropCopy (s : State) (t slot : Nat) : State := s.modTile t (fun x => { x with copies := x.copies.filter (fun c => c.slot != slot) })
/-- A line-stripe of a place's sheet-stripe. -/
def sheetStripe (p : Place) (ss i : Nat) : Stripe := ⟨p.group, p.die, 25 * p.num + ss / 3, 16 * (ss % 3) + i, true⟩
/-- The first member from m on that is present; 16 when none is. -/
def State.nextMember (s : State) (p : Place) (m : Nat) : Nat := ((upto 16).find? (fun i => decide (m ≤ i) && s.memberPresent p.group p.die i)).getD 16
/-- A member sheet is loaded and programmed; a due refresh is tier 2 work (R394), that of a stem of unknown age is not. -/
def State.startSheet (s : State) (t : Nat) (cp : Copy) (c : Comp) (ss m : Nat) : State :=
  let ch := s.memberChan cp.dest.group m
  let urgent := cp.why == .refresh
  let cmd : PkgCmd := { blankCmd with die := cp.dest.die, grove := 25 * cp.dest.num + ss / 3, dense := true, sheet := ss % 3, buf := ss % 2 }
  let s := each (upto 16) s (fun s i =>
    let l := s.copyMember t cp c ss i m
    l.2.submit ch ⟨{ cmd with op := 0x20, line := i, data := some l.1 }, .load t cp.slot ss m, 5, [c.id], false, urgent, none⟩)
  (s.submit ch ⟨{ cmd with op := 0x21 }, .sheet t cp.slot ss m, 5, [c.id], false, urgent, none⟩).putCopy t { cp with running := cp.running ++ [(ss, m)] }
/-- The next member of a sheet-stripe begins; members whose tile is out or whose die is dead are passed over, and the line-stripes noted for rebuilding (R30). -/
def State.sheetGo (s : State) (t : Nat) (cp : Copy) (c : Comp) (ss : Nat) : State :=
  let m := s.nextMember cp.dest (cp.marks.getD ss 0)
  let s := if m = cp.marks.getD ss 0 then s else each (upto 16) s (fun s i => s.noteRebuild (sheetStripe cp.dest ss i))
  let cp := { cp with marks := cp.marks.set ss m }
  if m < 16 then s.startSheet t cp c ss m else (s.putCopy t cp).countTile t 81 [c.id]
def Copy.busy (cp : Copy) (ss : Nat) : Bool := cp.running.any (fun p => p.1 == ss) || cp.ended.any (fun p => p.1 == ss)
/-- Sheet-stripes in progress: started and not finished. -/
def Copy.open_ (cp : Copy) : Nat := (cp.marks.filter (fun m => decide (m < 16))).length
/-- Everything of a copy that can begin does (R204): one member sheet of a sheet-stripe at a time, up to 16 sheet-stripes, each one member behind the one before. No sheet begins while the steward restarts (R18). -/
def State.copyAdvance (s : State) (t slot : Nat) : State :=
  if s.coreAway (t + 1) then s
  else each (upto 75) s (fun s ss =>
    match (s.tile t).copyOf slot with
    | none => s
    | some cp => match s.served cp.comp with
      | none => s
      | some c =>
        if ss < cp.marks.length then (if cp.marks.getD ss 16 < 16 && !cp.busy ss then s.sheetGo t cp c ss else s)
        else if ss = cp.marks.length ∧ cp.open_ < 16 ∧ (ss = 0 ∨ 1 ≤ cp.marks.getD (ss - 1) 0) then s.sheetGo t { cp with marks := cp.marks ++ [0] } c ss
        else s)

/-! ## Beginning, failing, abandoning (R205, R206, R240, R243, R248) -/

/-- Leaves without a major counter take new ones before their zero lines are composed (R331). -/
def State.copyMajors (s : State) (t : Nat) (cp : Copy) (c : Comp) : State :=
  if c.cipher == 0 then s
  else each (upto 256) s (fun s k =>
    let r : LeafRef := ⟨cp.comp, t, cp.stem * 256 + k⟩
    let line := s.lineOfLeaf r
    if cp.leaves.getD k .stem == .zero && !s.leafInUse (s.server t) r line then ((s.loadPath c t r.rank 6 line).newMajor c t r.rank).1 else s)
/-- A spare-blocked event of a tile, as the health report counts it (R258). -/
def State.bumpSpareBlocks (s : State) (t : Nat) : State := { s with health := { s.health with spareBlocks := tmod s.health.spareBlocks t 0 (· + 1) } }
/-- No spare stem is available to a copy: the warning (R205, R247), and read-only with the count at 0 and the log full (R248). -/
def State.spareOut (s : State) (t : Nat) : State :=
  let s := if s.rb (F.MSC_WR_STAT_spare_blocked t) then s
    else (((s.wf (F.MSC_WR_STAT_spare_blocked t) 1).emit (0x20 + 8 * t + 3) 0x0401 (le 1 t)).irqEdge (irqTile t 11)).bumpSpareBlocks t
  if s.spare = 0 && s.undPct t == 100 then s.enterReadOnly else s
/-- The leaves of a stem that have reached the tail of the log are appended again at its head (R205). -/
def State.reappendStem (s : State) (t slot : Nat) : State :=
  let log := s.tile (s.server t)
  each (((s.tile t).leaves.filter (fun p => p.1 / 256 == slot && p.2.valid && log.posOf p.2 == some log.tail)).map Prod.fst) s (fun s idx =>
    match s.numOf t idx with
    | some n => s.modTile (s.server t) (fun x => if x.urgent.contains n then x else { x with urgent := x.urgent ++ [n] })
    | none => s)
/-- Entries a copy took are dropped where they still name what was copied (R203 step 2, R240); a leaf in the catch that was copied as zeros reads as zeros. -/
def State.dropCopied (s : State) (t : Nat) (cp : Copy) : State :=
  each (upto 256) s (fun s k =>
    let idx := cp.slot * 256 + k
    let e := (s.tile t).leaf idx
    let r : LeafRef := ⟨cp.comp, t, cp.stem * 256 + k⟩
    match cp.leaves.getD k .stem with
    | .und f => if { e with gen := f.gen } == f then ((s.mapRoom t).setLeaf t idx { LeafEnt.absent with gen := e.bump.gen }).trimFilter t idx else s
    | .stem => s
    | .zero =>
      if !e.valid && !e.zero && !e.poisoned && s.leafInCatch (s.server t) (s.lineOfLeaf r) then (s.mapRoom t).setLeaf t idx { e.bump with zero := true }
      else s)
/-- The source place of a copy is free again, or Dead where a retirement wants it so (R203 step 3, R254): for a stem that was retired by command with cause 0, else for its furrows with cause 4 (R257). The running retirement counts it. -/
def State.freeSource (s : State) (cp : Copy) : State :=
  if !cp.src.valid then s
  else if !cp.killSource then s.releasePlace cp.src.place
  else
    let mine := s.retiring.any (fun (r : Retiring) => decide (r.kind ≤ 3) && r.places.contains cp.src.place) && (s.placeRec cp.src.place).state != .dead
    let s := s.killPlace cp.src.place (if (s.placeRec cp.src.place).worn then 4 else 0)
    if mine then { s with retiring := s.retiring.map (fun (r : Retiring) => { r with dead := r.dead + 1 }) } else s
/-- The age-unknown register of a tile (R181). -/
def State.ageFlag (s : State) (t : Nat) : State :=
  s.wf (F.MSC_RD_STAT_age_unknown t) (b2n ((s.tile t).stems.any (fun p => p.2.valid && p.2.ageUnknown)))
/-- A copy that would leave no live leaf only drops the stem's place (R240). -/
def State.emptyStem (s : State) (t : Nat) (cp : Copy) : State :=
  let s := (s.mapRoom t).setStem t cp.slot { cp.src with valid := false, ageUnknown := false, poisoned := false, live := 0, copySeq := cp.src.copySeq + 1, patched := [], blank := [] }
  (((s.dropCopied t cp).freeSource cp).countTile t 80 [cp.comp]).ageFlag t |>.advanceTail (s.server t)
/-- A copy begins (R203): its sources are taken, its destination chosen and Mapped. With no place for it the stem is passed over, and its leaves at the log tail are appended again (R205). -/
def State.beginCopy (s : State) (t slot : Nat) (why : CopyWhy) : State :=
  let x := s.tile t
  let s := s.modTile t (fun x => { x with refreshDue := x.refreshDue.filter (· != slot), copyQueue := x.copyQueue.filter (fun p => p.1 != slot), swept := x.swept })
  match x.slotOwner slot with
  | none => s
  | some o =>
    let refresh := why.refreshes
    let cp : Copy := ⟨slot, o.1, o.2, why, default, x.stem slot, (upto 256).map (fun k => x.leafSource slot k refresh), none, [], [], [],
      s.retiring.any (fun (r : Retiring) => r.kind == 3 && why == .retire) || (why == .retire && (s.placeRec (x.stem slot).place).worn)⟩
    if x.liveLeaves cp = 0 then s.emptyStem t cp
    else
      let r := s.takePlace t (why != .wear) refresh
      match r.2 with
      | none =>
        let s := r.1.spareOut t
        if why == .migration then s.reappendStem t slot
        else if why == .unaged then s
        else if refresh then s.modTile t (fun x => { x with refreshDue := x.refreshDue ++ [slot] })
        else s.modTile t (fun x => { x with copyQueue := x.copyQueue ++ [(slot, why)] })
      | some p =>
        let s := ((r.1.placeTo p .mapped).wearPlace p 10).wf (F.MSC_WR_STAT_spare_blocked t) 0
        let cp := { cp with dest := p }
        let s := match s.served o.1 with | some c => s.copyMajors t cp c | none => s
        (s.modTile t (fun x => { x with copies := x.copies ++ [cp] })).copyAdvance t slot

/-- STEM_COPY_START (R203): copies in progress that stood still go on (R18), and the next copy of the tile begins; none during a brace (R211), after the Commit crossing, or on trim-safe defaults (R484). -/
def execStemCopyStart (tile : Nat) (s : State) : Host.Outcome State Fault Refusal :=
  .next (s.onAwake tile fun s =>
    if s.power.flushing || s.rb (F.MSC_WR_STAT_braced tile) || s.rb F.RST_STAT_trim_safe || !s.tileInService tile then s
    else
      let s := each ((s.tile tile).copies.map Copy.slot) s (fun s slot => s.copyAdvance tile slot)
      match s.nextCopy tile with
      | some p => s.beginCopy tile p.1 p.2
      | none => s)

/-- What a copy's commands are for. -/
def For.ofCopy (t slot : Nat) : For → Bool
  | .load a b _ _ => a == t && b == slot
  | .sheet a b _ _ => a == t && b == slot
  | _ => false
/-- A copy stops: commands of it that wait are withdrawn, and a program of it that runs is aborted. -/
def State.stopCopy (s : State) (t : Nat) (cp : Copy) : State :=
  let s := each (upto 16) s (fun s m =>
    let ch := s.memberChan cp.dest.group m
    let s := s.modChan ch (fun x => { x with waiting := x.waiting.filter (fun w => !For.ofCopy t cp.slot w.what) })
    if (s.chan ch).sent.any (fun w => w.m.cmd.op == 0x21 && For.ofCopy t cp.slot w.m.what && w.m.cmd.die == cp.dest.die)
    then s.submit ch ⟨abortCmd cp.dest.die, .control, 5, [], false, false, some 19⟩ else s)
  s.dropCopy t cp.slot
/-- A program or read-back of a copy failed (R205, R252): the destination becomes Dead and the copy restarts on a new one. -/
def State.copyFail (s : State) (t : Nat) (cp : Copy) (readBack : Bool) (ss m : Nat) : State :=
  let s := s.stopCopy t cp
  let s := if readBack then { s with health := { s.health with readbackFail := s.health.readbackFail + 1 } } else { s with health := { s.health with denseFail := s.health.denseFail + 1 } }
  let x := sheetStripe cp.dest ss 0
  let s := s.report { (s.spotReport 7 (if readBack then 9 else 6) x m none (some cp.comp) none false false t) with copying := true }
  let s := if readBack then s.countTile t 82 [cp.comp] else s
  ((s.killPlace cp.dest 1).countTile t 84 [cp.comp]).beginCopy t cp.slot cp.why
/-- A member sheet's program has ended (R204, R205): with OK it waits for its read-back. A completion for an earlier destination is no longer the copy's. -/
def State.sheetDone (s : State) (t slot ss m : Nat) (cmd : PkgCmd) (ok : Bool) : State :=
  match (s.tile t).copyOf slot with
  | none => s
  | some cp =>
    if cmd.grove / 25 != cp.dest.num || cmd.die != cp.dest.die || !cp.running.contains (ss, m) then s
    else if ok then s.putCopy t { cp with running := cp.running.filter (· != (ss, m)), ended := cp.ended ++ [(ss, m)] }
    else s.copyFail t cp false ss m

/-- SHEET_READBACK (R205): the 16 lines of a member sheet pass their CRC with no granule over 2 corrected bits, and the next member begins; else the copy restarts. -/
def execSheetReadback (tile stem : Nat) (s : State) : Host.Outcome State Fault Refusal :=
  .next (match (s.tile tile).copyOf stem with
    | none => s
    | some cp => match cp.ended with
      | [] => s
      | (ss, m) :: rest =>
        let sound (i : Nat) : Bool := match s.member (sheetStripe cp.dest ss i) m with
          | some l => (let k := checkLine l []; k.crcOk && decide (k.most ≤ 2))
          | none => false
        if (upto 16).all sound then
          let cp := { cp with ended := rest, marks := cp.marks.set ss (m + 1) }
          let s := if m + 1 = 16 then s.countTile tile 81 [cp.comp] else s
          (s.putCopy tile cp).copyAdvance tile stem
        else s.copyFail tile cp true ss m)

/-- A copy has verified: its 75 sheet-stripes are programmed and read back (R205). -/
def Copy.verified (cp : Copy) : Bool := cp.marks.length == 75 && cp.marks.all (fun m => decide (16 ≤ m))
/-- STEM_SWITCH (R203): the stem map names the destination, the entries copied are dropped, the source returns. -/
def execStemSwitch (tile stem : Nat) (s : State) : Host.Outcome State Fault Refusal :=
  .next (match (s.tile tile).copyOf stem with
    | none => s
    | some cp =>
      if !cp.verified then s
      else
        let old := (s.tile tile).stem stem
        let s := (s.mapRoom tile).setStem tile stem ⟨cp.dest, true, false, false, s.progOf cp / 2 % 2 ^ 29, (s.tile tile).liveLeaves cp, old.copySeq + 1, (s.placeRec cp.dest).patches, cp.blank⟩
        let s := ((s.dropCopied tile cp).freeSource cp).dropCopy tile stem
        let s := (s.modTile tile (fun x => { x with swept := x.swept.filter (· != stem) })).ageFlag tile
        (s.countTile tile cp.why.counter [cp.comp]).advanceTail (s.server tile))

/-- STEM_COPY_ABANDON (R206): a copy not verified within 2 s of its program time is abandoned; it starts again later. -/
def execStemCopyAbandon (tile stem : Nat) (s : State) : Host.Outcome State Fault Refusal :=
  .next (match (s.tile tile).copyOf stem with
    | none => s
    | some cp =>
      if cp.verified || cp.prog.isNone || decide (s.glade.elapsed < s.progOf cp + 2) then s
      else
        let s := ((s.stopCopy tile cp).releasePlace cp.dest).countTile tile 83 [cp.comp]
        match cp.why with
        | .refresh => s.modTile tile (fun x => { x with refreshDue := x.refreshDue ++ [stem] })
        | .migration => s
        | .unaged => s
        | w => s.modTile tile (fun x => { x with copyQueue := x.copyQueue ++ [(stem, w)] }))

/-! ## Refresh and wear levelling (R208, R246) -/

/-- The refresh limit of a stem: the image's bucket for the hottest band since its program time (R98, R208). -/
def State.refreshLimit (s : State) (e : StemEnt) : Nat :=
  let b := ((upto 16).map (fun m => s.bandOf (s.memberChan e.place.group m) e)).foldl max 0
  ((s.active.map Img.refresh).getD []).getD b 31
/-- REFRESH_DUE (R208): a stem whose bucket has reached its limit less 1 is queued for a refresh. -/
def execRefreshDue (tile stem : Nat) (s : State) : Host.Outcome State Fault Refusal :=
  let e := (s.tile tile).stem stem
  .next (if e.valid && decide (s.refreshLimit e ≤ bucketOf (s.ageOf e) + 1) && !(s.tile tile).refreshDue.contains stem && ((s.tile tile).copyOf stem).isNone
    then (s.modTile tile (fun x => { x with refreshDue := x.refreshDue ++ [stem] })).wakeTile tile else s)

/-- The slot with the lower wear of the best kept and those scanned. -/
def State.leastWorn (s : State) (t : Nat) (best : Option Nat) (slots : List Nat) : Option Nat :=
  let x := s.tile t
  pickBy (fun a b => decide (a < b)) (fun k => (s.placeRec (x.stem k).place).wear) ((best.toList ++ slots).filter (fun k => (x.stem k).valid))
/-- WEAR_LEVEL_TICK (R246): 4,096 slots are scanned; the lowest wear, when gap × 100 units below the mean, is levelled. -/
def execWearLevelTick (tile : Nat) (s : State) : Host.Outcome State Fault Refusal :=
  .next (if !s.rb (F.TRN_WEAR_CFG_level_en tile) || !s.tileInService tile then s
    else
      let x := s.tile tile
      let slots := (upto 4096).map (fun i => (x.levelAt + i) % 50331648)
      let best := s.leastWorn tile x.levelBest slots
      let s := s.modTile tile (fun x => { x with levelAt := (x.levelAt + 4096) % 50331648, levelBest := best })
      match best with
      | some k =>
        if !s.levelBarred tile && decide ((s.placeRec (x.stem k).place).wear + s.rf (F.TRN_WEAR_CFG_gap tile) * 100 < s.meanWear) && (x.copyOf k).isNone then
          s.modTile tile (fun x => { x with levelBest := none, copyQueue := x.copyQueue ++ [(k, .wear)] })
        else s
      | none => s)

/-! ## Census, filter and stem map at resume (R163, R235, R237) -/

/-- The 64 bytes of a place's trailer header; none where it cannot be read or fails its check (R238). -/
def State.headerOf (s : State) (p : Place) : Option Bytes :=
  let x := canopySpot p 16384
  match (match s.stripeRead x.1 x.2 [3] with
    | .good l _ => some (le 64 (lineData l).toNat)
    | .recovered l => some (le 64 (lineData l).toNat)
    | .lost => none) with
  | some b => if getLe b 60 4 = crc32 (b.take 60) then some b else none
  | none => none
/-- The Mapped place whose trailer header names a host stem of a tile, with the highest copy sequence (R235). -/
def State.stemPlace (s : State) (t comp stem : Nat) : Option (Place × Bytes) :=
  let named := ((s.places.filter (fun p => p.2.state == .mapped)).filterMap (fun p => (s.headerOf p.1).map (fun b => (p.1, b)))).filter (fun p =>
    getLe p.2 32 2 == comp && getLe p.2 34 1 == t && getLe p.2 36 4 == stem)
  pickBy (fun a b => decide (b < a)) (fun p => getLe p.2 40 4) named
/-- A lost entry rebuilt from the trailers, marked poisoned; none where no trailer names its host stem (R235). -/
def State.rebuildEntry (s : State) (t slot : Nat) : State :=
  match ((s.tile t).slotOwner slot).bind (fun o => s.stemPlace t o.1 o.2) with
  | some (p, b) =>
    let u := s.trailerOf p
    (s.mapRoom t).setStem t slot ⟨p, true, false, true, getLe b 44 4 / 2 % 2 ^ 29, 256 - u.1.length, getLe b 40 4, u.2, u.1⟩
  | none => if ((s.tile t).stem slot).valid then (s.mapRoom t).setStem t slot { StemEnt.absent with copySeq := ((s.tile t).stem slot).copySeq } else s
/-- CENSUS_END (R235): the entries of the lost lines are rebuilt from the trailers of the Mapped places, marked poisoned, and are in use. -/
def execCensusEnd (tile : Nat) (s : State) : Host.Outcome State Fault Refusal :=
  .next (if s.rb (F.TRN_MAP_STAT_census tile) then
      let slots := ((s.tile tile).census.map (fun n => (upto 4).map (fun i => 4 * n + i))).flatten
      let s := (each slots s (fun s slot => s.rebuildEntry tile slot)).modTile tile (fun x => { x with census := [] })
      ((s.wf (F.TRN_MAP_STAT_census tile) 0).emit (0x20 + 8 * tile) 0x0403 (le 1 tile ++ le 4 (slots.filter (fun k => ((s.tile tile).stem k).valid)).length)).undRefreshAll
    else s)
/-- FILTER_REBUILD_DONE (R237): the filter is that of the leaf map. -/
def execFilterRebuildDone (tile : Nat) (s : State) : Host.Outcome State Fault Refusal :=
  .next ((s.modTile tile (fun x => { x with
    filterAll := false
    filter := ((x.leaves.filter (fun p => p.2.valid || p.2.zero || p.2.poisoned)).map (fun (p : Nat × LeafEnt) => p.1 / 64)).eraseDups })).wf (F.TRN_MAP_STAT_filter_ready tile) 1)
/-- STEM_MAP_RESIDENT (R163, R231): every stem homed on the tile has its entry in the cache; a tile with slots beyond the cache has no resident map. -/
def execStemMapResident (tile : Nat) (s : State) : Host.Outcome State Fault Refusal :=
  .next (if (s.tile tile).dir.any (fun d => decide (s.cpt * 49152 < d.2.1 + d.2.2)) then s else s.wf (F.TRN_MAP_STAT_stem_resident tile) 1)

end Sys2Proof.Machine
end

