-- ==== Sys2Proof/Machine/Retire.lean ====
section
/-! DEFINITION. Retirement of lines, leaves, stems, dies and channels, by command and on the device's own (07, R251 to R257; 02, R73). -/
namespace Sys2Proof.Machine

/-! ## What a retirement covers (R253, R254) -/

/-- The pairs (group, die index) a channel's die belongs to; for a channel, all four. -/
def State.pairsOf (s : State) (chan : Nat) (die : Option Nat) : List (Nat × Nat) :=
  (((upto s.groupCount).filter (fun g => (upto 16).any (fun m => s.memberChan g m == chan))).map (fun g =>
    (match die with | some d => [d] | none => upto 4).map (fun d => (g, d)))).flatten
/-- Mapped host stems whose place a condition picks: tile and slot. -/
def State.stemsAt (s : State) (f : Place → Bool) : List (Nat × Nat) :=
  (s.tileList.map (fun t => ((s.tile t).stems.filter (fun p => p.2.valid && f p.2.place)).map (fun p => (t, p.1)))).flatten
/-- Live leaves whose Lent place a condition picks: home tile and leaf map index. -/
def State.leavesAt (s : State) (f : Place → Bool) : List (Nat × Nat) :=
  (s.tileList.map (fun t => ((s.tile t).leaves.filter (fun p => p.2.valid && f p.2.place)).map (fun p => (t, p.1)))).flatten
/-- The line-stripe that holds line j of a leaf, and its place: that of the copy on the medium (R254). -/
def State.mediumSpot (s : State) (r : LeafRef) (j : Nat) : Option (Stripe × Bool) :=
  match s.whereIs r j with
  | .spot x _ canopy => some (x, canopy)
  | _ => none

/-- What a Retire command would do: furrows to retire by place, places it would make Dead at once or at its end, stems to copy, leaves to append, pairs. -/
structure Effect where
  furrows : List (Place × Nat)
  places : List Place
  stems : List (Nat × Nat)
  leaves : List (Nat × Nat)
  pairs : List (Nat × Nat)
  already : Bool
  /-- a line of the leaf that is in the write catch, and is destaged first -/
  first : Option Nat
  deriving DecidableEq, Repr, Inhabited

/-- The furrows that hold the given lines of a leaf, and what moves for them. -/
def State.mediumEffect (s : State) (r : LeafRef) (js : List Nat) : Effect :=
  let spots := js.filterMap (s.mediumSpot r)
  let furrows := (spots.map (fun (p : Stripe × Bool) => (p.1.place, p.1.furrow p.1.place))).eraseDups
  let new := furrows.filter (fun p => !(s.placeRec p.1).furrows.contains p.2)
  let places := ((new.map Prod.fst).eraseDups).filter (fun p =>
    let rec_ := s.placeRec p
    ({ rec_ with furrows := rec_.furrows ++ ((new.filter (fun q => q.1 == p)).map Prod.snd) } : PlaceRec).worn)
  let canopy := spots.any Prod.snd
  { furrows := new, places := places, stems := if canopy && !new.isEmpty then [(r.tile, s.slotOf r)] else []
    leaves := if spots.any (fun p => !p.2) && !new.isEmpty then [(r.tile, s.leafIdx r)] else []
    pairs := [], already := !furrows.isEmpty && new.isEmpty, first := none }
/-- One of the lines is in the write catch. -/
def State.caughtLine (s : State) (r : LeafRef) (js : List Nat) : Bool := js.any (fun j => ((s.tile (s.server r.tile)).entry (s.lineOfLeaf r + j)).isSome)
/-- The same, where a leaf with a line in the write catch is destaged first (R254). -/
def State.linesEffect (s : State) (r : LeafRef) (js : List Nat) : Effect :=
  if s.caughtLine r js then ⟨[], [], [], [(r.tile, s.leafIdx r)], [], false, some (s.lineOfLeaf r + js.headD 0)⟩ else s.mediumEffect r js
def State.stemEffect (s : State) (r : LeafRef) : Effect :=
  let e := s.stemOf r
  if e.valid then ⟨[], [e.place], [(r.tile, s.slotOf r)], [], [], (s.placeRec e.place).state == .dead, none⟩ else ⟨[], [], [], [], [], false, none⟩
def State.pairEffect (s : State) (chan : Nat) (die : Option Nat) : Effect :=
  let pairs := s.pairsOf chan die
  let here (p : Place) : Bool := pairs.contains (p.group, p.die)
  ⟨[], [], s.stemsAt here, s.leavesAt here, pairs.filter (fun p => !s.pairDead p.1 p.2),
    match die with | some d => hasBit (s.chan chan).retired d | none => s.retiredChans.contains chan, none⟩
/-- Places an effect makes Dead. -/
def State.deadOf (s : State) (e : Effect) : Nat :=
  e.places.length + ((e.pairs.map (fun q => pairPlaces - s.deadIn q.1 q.2)) : List Nat).sum

/-! ## Running (R254, R256) -/

/-- A leaf is to be appended again at the log head. -/
def State.appendAgain (s : State) (t idx : Nat) : State :=
  match s.numOf t idx with
  | some n => s.modTile (s.server t) (fun x => if x.urgent.contains n then x else { x with urgent := x.urgent ++ [n] })
  | none => s

/-! ## Whose line a member holds -/

/-- The structure lines of a tile that hold anything: its stem and leaf map lines and its nodes. -/
def State.structKeys (s : State) (t : Nat) : List MapKey :=
  let x := s.tile t
  (((x.stems.map (fun (p : Nat × StemEnt) => p.1 / 4)).eraseDups).map MapKey.stem) ++ (((x.leaves.map (fun (p : Nat × LeafEnt) => p.1 / 8)).eraseDups).map MapKey.leaf) ++
    x.store.map (fun p => MapKey.node p.1.1 p.1.2.1 p.1.2.2)

/-- The host line whose current copy a data member of a line-stripe holds, and its leaf. -/
def State.ownerOf (s : State) (x : Stripe) (m : Nat) : Option (LeafRef × Nat) :=
  let p := x.place
  let current (t slot k j : Nat) : Option (LeafRef × Nat) :=
    match (s.tile t).slotOwner slot with
    | some o =>
      let r : LeafRef := ⟨o.1, t, o.2 * 256 + k⟩
      (match s.whereIs r j with
        | .spot y n _ => if y == x && n == m then some (r, s.lineOfLeaf r + j) else none
        | _ => none)
    | none => none
  if 14 ≤ m then none
  else if x.dense then
    match (s.stemsAt (· == p)).head? with
    | none => none
    | some (t, slot) =>
      let q := ((x.grove - 25 * p.num) * 3 + x.line / 16) * 224 + x.line % 16 * 14 + m
      let q := if q < 16398 then q else (patchSlot ((s.tile t).stem slot).patched (q - 16398)).getD 16384
      if q < 16384 then current t slot (q / 64) (q % 64) else none
  else
    let pos := (x.grove - 25 * p.num) * 224 + x.line * 14 + m
    match (s.liveIn p).find? (fun l => decide (l.2.2.grove * 224 + l.2.2.offset ≤ pos ∧ pos < l.2.2.grove * 224 + l.2.2.offset + 64)) with
    | some (t, idx, e) => current t (idx / 256) (idx % 256) (pos - (e.grove * 224 + e.offset))
    | none => none

/-- The structure line a member holds, and which copy (R225). -/
def State.structAt (s : State) (x : Stripe) (m : Nat) : Option (Nat × MapKey × Nat) :=
  ((s.tileList.map (fun t => ((s.structKeys t).map (fun k => [(t, k, 0), (t, k, 1)])).flatten)).flatten).find? (fun p => s.structSpot p.1 p.2.1 p.2.2 == (x, m))

/-- A member whose line was corrected or recovered is rewritten (R280, R281): a host line through the catch; another by its place: the stem is copied, the frond's leaves are appended again, or the structure line is written from the tables. -/
def State.renewMember (s : State) (t : Nat) (x : Stripe) (m : Nat) (l : Line) (recovered : Bool) : State :=
  if !s.rb (F.MSC_SCR_CFG_rewrite_en t) || s.readOnly then s
  else match s.ownerOf x m with
    | some (r, line) =>
      let had := ((s.tile (s.server r.tile)).entry line).isSome
      let s := s.rewriteLine (s.server r.tile) r line (s.leafOf r).gen l recovered 6
      if had || ((s.tile (s.server r.tile)).entry line).isNone then s
      else (({ s with health := { s.health with scrubRewritten := s.health.scrubRewritten + 1 } } : State).countTile t 115 [r.comp])
    | none =>
      let p := x.place
      match (s.placeRec p).state with
      | .mapped => (match (s.stemsAt (· == p)).head? with
        | some (h, slot) => if ((s.tile h).copyOf slot).isSome then s else s.modTile h (fun y => { y with copyQueue := y.copyQueue.filter (fun q => q.1 != slot) ++ [(slot, .migration)] })
        | none => s)
      | .lent => each ((s.liveIn p).filter (fun l => l.2.2.grove + 25 * p.num == x.grove)) s (fun s l => s.appendAgain l.1 l.2.1)
      | .system => (match s.structAt x m with
        | some (h, k, copy) => s.structCopy h k copy
        | none => if 14 ≤ m then (let pq := s.newParity x []; s.programAt x m (if m = 14 then pq.1 else pq.2) .structure 6 []) else s)
      | _ => s
/-- A sound member that a read-around read with 2 or more bits corrected in a granule (R280, R281, R290). -/
def State.renewRead (s : State) (o : Op) (m : Nat) (line : Option Line) : State :=
  match line, o.phase == .around || o.phase == .recover with
  | some l, true =>
    let k := checkLine l []
    if m == o.member || k.cls == .uncorrectable || decide (k.most < 2) then s
    else
      let w := s.ownerOf o.stripe m
      let det := match o.master with | 4 => 3 | 9 => 4 | _ => 1
      (s.report (s.spotReport 1 det o.stripe m (w.map Prod.snd) (w.map (fun (p : LeafRef × Nat) => p.1.comp)) (some k) false false (tileOfChan (s.memberChan o.stripe.group m)))).renewMember o.home o.stripe m k.fixed false
  | _, _ => s

/-! ## Copies and dies -/

/-- A copy whose destination lies on a pair that is being retired starts again elsewhere. -/
def State.moveCopies (s : State) (pairs : List (Nat × Nat)) : State :=
  each s.tileList s (fun s t => each ((s.tile t).copies.filter (fun c => pairs.contains (c.dest.group, c.dest.die))) s (fun s cp =>
    ((s.stopCopy t cp).releasePlace cp.dest).beginCopy t cp.slot cp.why))
/-- The RETIRE event. -/
def State.retireEvent (s : State) (r : Retiring) (dead status : Nat) : State := s.raise 0x0402 (le 1 r.kind ++ le 1 r.cause ++ le 4 dead ++ le 1 status)
/-- The map generation of a leaf changes, so that a destage of it under way does not switch (R199). -/
def State.bumpLeaf (s : State) (t idx : Nat) : State := (s.mapRoom t).setLeaf t idx ((s.tile t).leaf idx).bump
/-- Leaves of a host stem that are under destage. -/
def State.destagedLeaves (s : State) (t slot : Nat) : List Nat :=
  ((upto 256).map (fun k => slot * 256 + k)).filter (fun idx => (s.numOf t idx).any (fun n => (s.tile (s.server t)).destages.any (fun d => d.leaf == n)))
/-- What an effect retires at once and moves; every leaf concerned takes a new map generation (R199). -/
def State.retireMoves (s : State) (r : Retiring) (e : Effect) : State :=
  let s := each e.furrows s (fun s p => s.addFurrow p.1 p.2)
  let s := each e.leaves s (fun s p => s.bumpLeaf p.1 p.2)
  let s := each e.stems s (fun s p => each (s.destagedLeaves p.1 p.2) s (fun s idx => s.bumpLeaf p.1 idx))
  let s := s.moveCopies e.pairs
  let s := each e.stems s (fun s p =>
    match (s.tile p.1).copyOf p.2 with
    | some cp => s.putCopy p.1 { cp with killSource := cp.killSource || r.kind == 3 || (s.placeRec cp.src.place).worn }
    | none => s.modTile p.1 (fun x => { x with copyQueue := x.copyQueue ++ [(p.2, .retire)] }))
  each e.leaves s (fun s p => s.appendAgain p.1 p.2)
/-- Leaves a running retirement has still to append that wait, or are under destage, on a tile. -/
def State.retireWaits (s : State) (t : Nat) : List (Nat × Nat) :=
  match s.retiring with
  | some r => r.leaves.filter (fun p => (s.numOf p.1 p.2).any (fun n => (s.tile t).urgent.contains n || (s.tile t).destages.any (fun d => d.leaf == n)))
  | none => []
/-- A retirement begins. -/
def State.startRetire (s : State) (r : Retiring) (e : Effect) : State :=
  (({ s with retiring := some r } : State).retireEvent r 0 0).retireMoves r e
/-- The leaf of a line that was in the write catch has been destaged: the furrows of its new copy are retired, unless the line is in the catch again (R254). -/
def State.retireDestaged (s : State) (r : Retiring) (line : Nat) : State :=
  match s.leafOfLine line with
  | none => { s with retiring := some { r with first := none, leaves := [] } }
  | some ref =>
    let js := if r.kind = 1 then [line % 64] else upto 64
    if s.caughtLine ref js then s.appendAgain ref.tile (s.leafIdx ref)
    else
      let e := s.mediumEffect ref js
      let r : Retiring := { r with first := none, places := e.places, stems := e.stems, leaves := e.leaves, total := r.total + e.stems.length + e.leaves.length }
      ({ s with retiring := some r } : State).retireMoves r e

/-- The structure lines of the hub that hold anything. -/
def State.hubKeys (s : State) : List HubKey :=
  (((s.places.map (fun p => p.1.index / 16)).eraseDups).map HubKey.places) ++ (upto ((s.deadwood.length + 3) / 4)).map HubKey.deadwood ++
    (s.slots.map (fun p => HubKey.shelf p.1)) ++ ((s.slots.map (fun p => p.1 / 16)).eraseDups).map HubKey.generations
/-- A pair becomes Dead with everything on it, and the structure copies it held are written elsewhere (R225, R254). -/
def State.killDie (s : State) (chan die : Nat) : State :=
  let old := s.spareState
  let was := s.readOnly
  let pairs := s.pairsOf chan (some die)
  let lost := (s.tileList.map (fun t => ((s.structKeys t).map (fun k => [(t, k, 0), (t, k, 1)])).flatten)).flatten.filter (fun p =>
    let x := (s.structSpot p.1 p.2.1 p.2.2).1
    pairs.contains (x.group, x.die))
  let lostHub := ((s.hubKeys.map (fun k => [(k, 0), (k, 1)])).flatten).filter (fun p => let x := (s.copySpot 8 p.1.number p.2).1; pairs.contains (x.group, x.die))
  let need := ((pairs.filter (fun p => !s.pairDead p.1 p.2)).map (fun q => pairPlaces - s.deadIn q.1 q.2) : List Nat).sum
  let short := decide (s.spare < need)
  let s := s.modChan chan (fun x => { x with retired := x.retired ||| 2 ^ die, alive := x.alive &&& (15 - 2 ^ die) })
  let s := s.wf (F.MSC_LNK_STAT_dies_alive (tileOfChan chan) (localChan chan)) ((s.chan chan).alive &&& (15 - (s.chan chan).retired))
  let s := each lost s (fun s p => s.structCopy p.1 p.2.1 p.2.2)
  let s := each lostHub s (fun s p => s.hubCopy p.1 p.2)
  let s := s.spareEvents old
  (if short then s.setReadOnly else s).heldFail was

/-- Everything a retirement moves has moved. -/
def State.retireDone (s : State) (r : Retiring) : Bool :=
  let here (p : Place) : Bool := if 4 ≤ r.kind then s.pairRetiring p.group p.die else r.places.contains p
  (s.stemsAt here).isEmpty && (s.leavesAt here).isEmpty &&
  r.stems.all (fun p => ((s.tile p.1).copyOf p.2).isNone && !(s.tile p.1).copyQueue.contains (p.2, .retire)) &&
  r.leaves.all (fun p => match s.numOf p.1 p.2 with
    | some n => !(s.tile (s.server p.1)).urgent.contains n && !((s.tile (s.server p.1)).destages.any (fun d => d.leaf == n))
    | none => true)
/-- The 32-byte output of Retire (R253). -/
def retireOutput (status kind dead moved spare entry : Nat) : Bytes :=
  le 1 status ++ le 1 kind ++ le 2 0 ++ le 4 dead ++ le 8 moved ++ le 8 spare ++ le 4 entry ++ le 4 0
/-- The deadwood entries of a die or channel retirement (R257). -/
def State.unitEntry (s : State) (r : Retiring) : State :=
  if r.kind = 4 then s.deadwoodAdd 3 r.cause 0 0 (r.chan % 1024 + r.die % 4 * 1024)
  else if r.kind = 5 then s.deadwoodAdd 4 r.cause 0 0 (r.chan % 1024) else s
/-- The next retirement that waits begins: a die no longer responding, once every tile is In service; the die and its places become Dead, and then their data moves (R252, R255). -/
def State.retireNext (s : State) : State :=
  if s.retiring.isSome || !s.allInService || s.active.isNone then s
  else match s.retireQueue with
    | [] => s
    | (chan, die) :: rest =>
      let s := { s with retireQueue := rest }
      let e := s.pairEffect chan (some die)
      let r : Retiring := { (default : Retiring) with kind := 4, cause := 2, stems := e.stems, leaves := e.leaves, total := e.stems.length + e.leaves.length, chan := chan, die := die, entry := s.deadwood.length }
      let before := s.deadPlaces
      let s := (s.unitEntry r).killDie chan die
      s.startRetire { r with dead := s.deadPlaces - before } e
/-- A background command of a logical device ends; none ends that a reset has taken. -/
def State.endBackground (s : State) (iface ld opcode : Nat) (code : Ret) (payload : Bytes) : State :=
  if (s.ld iface ld).bg ≠ some opcode then s
  else (s.modLd iface ld (fun d => { d with bg := none })).send (.bgEnd iface ld opcode code payload)
/-- A channel once retired has its link disabled (R254). -/
def State.linkOff (s : State) (chan : Nat) : State :=
  let t := tileOfChan chan
  ((s.wf (F.MSC_LNK_CTRL_disable t (localChan chan)) 1).wf (F.MSC_LNK_STAT_lstate t (localChan chan)) 9).send (.eios chan)

/-- RETIRE_DONE (R254, R256): once all is moved the units become Dead and the end is reported; a leaf that had a line in the catch has then only been destaged, and its furrows follow. -/
def execRetireDone (s : State) : Host.Outcome State Fault Refusal :=
  .next (match s.retiring with
    | none => s
    | some r =>
      if !s.retireDone r || s.active.isNone then s
      else match r.first with
      | some line => s.retireDestaged r line
      | none =>
        let before := s.deadPlaces
        let s := if r.cause = 2 then s else s.unitEntry r
        let s := if r.cause = 2 then s
          else if r.kind = 4 then s.killDie r.chan r.die
          else if r.kind = 5 then ({ (each (upto 4) s (fun s d => s.killDie r.chan d)) with retiredChans := (s.retiredChans ++ [r.chan]).eraseDups } : State).linkOff r.chan
          else each r.places s (fun s p => s.killPlace p (if r.kind == 3 then 0 else 4))
        let dead := if r.cause = 2 then r.dead else r.dead + (s.deadPlaces - before)
        let s := ({ s with retiring := none } : State).retireEvent r dead 0
        let s := if r.byHost then s.endBackground r.iface r.ld 0xC020 .success (retireOutput 0 r.kind dead r.total s.spare r.entry) else s
        s.retireNext)

/-- A die is to be retired on the device's own (R252). -/
def State.retireDie (s : State) (chan die : Nat) : State :=
  if hasBit (s.chan chan).retired die || s.retireQueue.contains (chan, die) || s.retiring.any (fun (r : Retiring) => r.kind == 4 && r.chan == chan && r.die == die) then s
  else ({ s with retireQueue := s.retireQueue ++ [(chan, die)] } : State).retireNext

/-! ## The Retire command (R253, R255) -/

/-- The interface may name a line: it lies in a compartment visible to its logical device, and its right covers it (R253, R357). -/
def State.mayRetire (s : State) (iface ld : Nat) (c : Comp) : Bool := (decide (4 ≤ iface) || s.visible iface ld c.id) && s.covers iface .retire c.id
/-- The input is well formed (R253). -/
def State.retireInput (s : State) (b : Bytes) : Bool :=
  let kind := getLe b 0 1
  let dpa := getLe b 8 8
  let chan := getLe b 16 2
  let die := getLe b 18 1
  b.length == 24 && decide (1 ≤ kind ∧ kind ≤ 5) && decide (getLe b 1 1 < 2) && allZero (slice b 2 6) && allZero (slice b 19 5) &&
  (if kind ≤ 3 then chan == 0 && die == 0 && (kind != 1 || dpa % 64 == 0) && (kind != 2 || dpa % 4096 == 0)
   else dpa == 0 && s.chanPresent chan && (if kind == 4 then decide (die < 4) else die == 0))
/-- The effect a command names; none when its address is not visible. -/
def State.retireEffect (s : State) (iface ld : Nat) (b : Bytes) : Option Effect :=
  let kind := getLe b 0 1
  let dpa := getLe b 8 8
  if 4 ≤ kind then some (s.pairEffect (getLe b 16 2) (if kind = 4 then some (getLe b 18 1) else none))
  else match s.servedAt dpa, s.leafOfLine (dpa / 64) with
    | some c, some r =>
      if !s.mayRetire iface ld c then none
      else some (if kind = 1 then s.linesEffect r [dpa / 64 % 64] else if kind = 2 then s.linesEffect r (upto 64) else s.stemEffect r)
    | _, _ => none
/-- The status of a Retire command, an estimate among them, before it runs (R253, R255). -/
def State.retireStatus (s : State) (e : Effect) : Nat :=
  if e.already then 3
  else if !s.allInService || s.retiring.isSome then 4
  else if s.spare < s.deadOf e then 5
  else if 1048576 ≤ s.deadwood.length then 6
  else 0
/-- Retire, once its right is held. -/
def State.retire (s : State) (iface ld : Nat) (b : Bytes) : Answer :=
  let kind := getLe b 0 1
  let estimate := getLe b 1 1 == 1
  let out (status dead moved spare entry : Nat) : Bytes := retireOutput status kind dead moved spare entry
  if !s.retireInput b then ⟨.success, out 1 0 0 s.spare 0, s⟩
  else if 4 ≤ kind && !s.coversAll iface .retire then answer .invalidSecurityState (s.deny iface 0xC020 .retire)
  else match s.retireEffect iface ld b with
    | none => ⟨.success, out 2 0 0 s.spare 0, s⟩
    | some e =>
      let dead := s.deadOf e
      let moved := e.stems.length + e.leaves.length
      let status := s.retireStatus e
      if status ≠ 0 || estimate then ⟨.success, out status dead moved (s.spare - dead) s.deadwood.length, s⟩
      else if (s.ld iface ld).bg.isSome then answer .busy s
      else
        let r : Retiring := ⟨kind, 0, e.places, e.stems, e.leaves, moved, getLe b 16 2, getLe b 18 1, iface, ld, true, s.deadwood.length, e.first, 0⟩
        ⟨.background, out 0 dead moved (s.spare - dead) s.deadwood.length, (s.modLd iface ld (fun d => { d with bg := some 0xC020 })).startRetire r e⟩
/-- RETIRE (R253). -/
def execRetire (iface ld : Nat) (input : Bytes) (s : State) : Host.Outcome State Fault Refusal :=
  .next (s.command iface ld 0xC020 (some .retire) (fun s => s.retire iface ld input))

end Sys2Proof.Machine
end

