-- ==== Sys2Proof/Machine/Link.lean ====
section
/-! DEFINITION. The device's side of the Ozbex links: responses, supervision of commands, dies and channels, training, the link registers (02, R61 to R78). -/
namespace Sys2Proof.Machine

/-! ## Link state (R77, R78) -/

/-- A link changes state; a change into Down or Dead raises LINK_STATE (R78). -/
def State.setLink (s : State) (c st : Nat) : State :=
  let t := tileOfChan c
  let was := s.lstate c
  let s := s.wf (F.MSC_LNK_STAT_lstate t (localChan c)) st
  let s := if st = 6 ∨ st = 10 then s.wf (F.MSC_LNK_CTRL_retrain t (localChan c)) 0 else s
  let s := if was != st then s.irqEdge (irqTile t 10) else s
  if was != st && (st == 0 || st == 10) then s.emit (0x20 + 8 * t + 1) 0x0301 (le 2 c ++ le 1 st ++ le 1 0) else s
/-- The links of a tile that leaves reset train from Detect (R62); a disabled one stays so. -/
def State.trainTile (s : State) (t : Nat) : State :=
  each (((upto s.cpt).map (globalChan t)).filter (fun c => s.chanPresent c && s.lstate c == 0)) s (fun s c => s.setLink c 1)
/-- The dies_present and dies_alive fields (R77). -/
def State.showDies (s : State) (c : Nat) : State :=
  let x := s.chan c
  (s.wf (F.MSC_LNK_STAT_dies_present (tileOfChan c) (localChan c)) x.present).wf (F.MSC_LNK_STAT_dies_alive (tileOfChan c) (localChan c)) (x.present &&& x.alive &&& (15 - x.retired % 16))
/-- The media error record of a die (R73, R74, R290). -/
def State.dieReport (s : State) (c d : Nat) : State :=
  s.report { (default : Report) with type := 8, det := 14, chan := some c, die := d, member := 0xFF, tile := tileOfChan c }

/-! ## A command ends (R65, R71, R167, R205, R252) -/

/-- The PROGRAM record of a failed fast program that no log or copy owns (R290). -/
def State.programReport (s : State) (c : Nat) (cmd : PkgCmd) : State :=
  s.report { (default : Report) with type := 7, det := 6, chan := some c, die := cmd.die, member := 0xFF, grove := cmd.grove % 2 ^ 24 + cmd.line % 64 * 2 ^ 24, tile := tileOfChan c }
/-- A command is given to the scheduler again. -/
def State.submitAgain (s : State) (c : Nat) (m : MCmd) (wasted : Option Nat) : State := s.submit c { m with wasted := wasted }
/-- A command of a media read is waiting or outstanding on some channel. -/
def State.addressed (s : State) (id : Nat) : Bool :=
  s.chans.any (fun p => (p.2.sent.map Sent.m ++ p.2.waiting).any (fun m => match m.what with | .read i _ => i == id | _ => false))
/-- A member's line, or its absence, reaches the media read it belongs to; a line for a reclaimed gather is discarded and counted (R16). -/
def State.readArrived (s : State) (id m : Nat) (line : Option Line) : State :=
  if s.reservations.contains (255, id) then
    let s := if line.isSome then s.countHub 4 else s
    if s.addressed id then s else { s with reservations := s.reservations.erase (255, id) }
  else match s.op id with
    | none => s
    | some o =>
      let cut := s.lostWords.contains (.member id m, true)
      let s : State := if cut then { s with lostWords := s.lostWords.filter (fun p => p.1 != .member id m) } else s
      let line := if cut then none else line
      let r := (s.renewRead o m line).opArrive o m line
      (r.1.opEnded r.2).run
/-- A copy goes back to be made later (R206). -/
def State.copyBack (s : State) (t slot : Nat) : State :=
  match (s.tile t).copyOf slot with
  | some cp =>
    let s := (s.stopCopy t cp).releasePlace cp.dest
    if cp.why == .migration || cp.why == .unaged then s
    else if cp.why == .refresh then s.modTile t (fun x => { x with refreshDue := x.refreshDue ++ [slot] })
    else s.modTile t (fun x => { x with copyQueue := x.copyQueue ++ [(slot, cp.why)] })
  | none => s
/-- A checker's program has ended (R298). -/
def State.checkerEnd (s : State) (t : Nat) (ok : Bool) : State :=
  s.modTile t (fun x => { x with checker := { x.checker with waiting := x.checker.waiting - 1, failed := x.checker.failed || !ok } })
/-- A command has its final status: what it was for goes on. A READ that was refused for a busy line, die or state is issued again. One that STATUS reports done, its data discarded, has given no line: it is not read again as such, its read goes on as without that member (R71, R176; log 147). -/
def State.cmdEnded (s : State) (c : Nat) (m : MCmd) (status steps : Nat) (line : Option Line) : State :=
  let t := tileOfChan c
  match m.what with
  | .read id k => if status = 0x0B ∨ status = 0x04 ∨ status = 0x05 then s.submitAgain c m none else s.readArrived id k (if status = 0 then line else none)
  | .log lt num k =>
    if status = 0 then s.logDone lt num k
    else if status = 2 then (s.countTile t 92).logFailed lt num
    else s.submitAgain c m (some 24)
  | .load _ _ _ _ => if status = 0 then s else s.submitAgain c m (some 20)
  | .sheet ct slot ss k =>
    if status = 0 then ((s.countTile t 86).countTile t 90 [] steps).sheetDone ct slot ss k m.cmd true
    else if status = 2 then (s.countTile t 87).sheetDone ct slot ss k m.cmd false
    else match (s.tile ct).copyOf slot with
      | some cp => if cp.dest.num == m.cmd.grove / 25 && cp.running.contains (ss, k) then s.copyBack ct slot else s
      | none => s
  | .structure | .rebuilt =>
    if status = 0 then s else if status = 2 then (s.countTile t 92).programReport c m.cmd else s.submitAgain c m (some 24)
  | .checker ct => if status = 3 then s.submitAgain c m (some 24) else s.checkerEnd ct (status = 0)
  | .control => s
/-- A command ends unserved, its die gone: reads go on without the member; programs leave it absent (R30, R73). -/
def State.cmdGone (s : State) (m : MCmd) : State :=
  match m.what with
  | .read id k => s.readArrived id k none
  | .log lt num k => s.logDone lt num k
  | .sheet ct slot ss k =>
    (match (s.tile ct).copyOf slot with
      | some cp => if cp.running.contains (ss, k) then (s.putCopy ct { cp with running := cp.running.filter (· != (ss, k)) }).copyAdvance ct slot else s
      | none => s)
  | .checker ct => s.checkerEnd ct false
  | _ => s

def State.groupOf (s : State) (c : Nat) : Option (Nat × Nat) :=
  (upto s.groupCount).findSome? (fun g => ((upto 16).find? (fun m => s.memberChan g m == c)).map (fun m => (g, m)))
/-- A command on a channel whose link has gone is lost: its member is absent and its line-stripes are noted for rebuilding (R30, R76). -/
def State.lostOnTile (s : State) (c : Nat) (m : MCmd) : State :=
  let s := match s.groupOf c, m.what with
    | some g, .sheet _ _ ss _ => each (upto 16) s (fun s i => s.noteRebuild (sheetStripe ⟨g.1, m.cmd.die, m.cmd.grove / 25⟩ ss i))
    | some g, .log _ _ _ => s.noteRebuild ⟨g.1, m.cmd.die, m.cmd.grove, m.cmd.line, m.cmd.dense⟩
    | some g, .structure => s.noteRebuild ⟨g.1, m.cmd.die, m.cmd.grove, m.cmd.line, m.cmd.dense⟩
    | some g, .rebuilt => s.noteRebuild ⟨g.1, m.cmd.die, m.cmd.grove, m.cmd.line, m.cmd.dense⟩
    | _, _ => s
  s.cmdGone m
/-- A channel's link is disabled: EIOS is sent, the commands it had end and its members are missing (R76). -/
def State.chanOff (s : State) (c : Nat) : State :=
  let x := s.chan c
  let s := (s.modChan c (fun x => { x with waiting := [], sent := [], lockedTags := x.lockedTags ++ x.sent.map Sent.tag })).linkOff c
  each (x.sent.map Sent.m ++ x.waiting) s (fun s m => s.lostOnTile c m)

/-! ## Dies and channels that stop answering (R72 to R74) -/

/-- A die is no longer responding (R73): recorded, its outstanding and waiting commands end, its tags stay in use, and it is retired (R252). -/
def State.dieLost (s : State) (c d : Nat) : State :=
  if !hasBit (s.chan c).alive d then s
  else
    let x := s.chan c
    let out := x.sent.filter (fun e => e.m.cmd.die == d && e.m.cmd.op != 0x30)
    let wait := x.waiting.filter (fun m => m.cmd.die == d && m.cmd.op != 0x30)
    let s := s.setChan c { x with alive := x.alive &&& (15 - 2 ^ d), sent := x.sent.filter (fun e => !out.contains e), waiting := x.waiting.filter (fun m => !wait.contains m)
                                  lockedTags := x.lockedTags ++ out.map Sent.tag, silent := tdel x.silent d, others := x.others.filter (· != d) }
    let s := ((s.showDies c).emit (0x20 + 8 * tileOfChan c + 1) 0x0301 (le 2 c ++ le 1 (s.lstate c) ++ le 1 (2 ^ d))).dieReport c d
    let s := each (out.map Sent.m ++ wait) s (fun s m => s.cmdGone m)
    s.retireDie c d
/-- A channel becomes Dead: none of its dies responds (R72, R73). -/
def State.channelDead (s : State) (c : Nat) : State := each (upto 4) (s.setLink c 10) (fun s d => s.dieLost c d)
/-- A link enters Recovery, counted; more than 16 times within 1 s makes the channel Dead (R72). -/
def State.enterRecovery (s : State) (c : Nat) : State :=
  if s.lstate c != 6 then s
  else
    let recent := ((s.chan c).recRecent.filter (fun f => decide (s.fine ≤ f + 1000000000))) ++ [s.fine]
    let s : State := { s with health := { s.health with recoveries := s.health.recoveries + 1 } }
    let s := ((s.modChan c (fun x => { x with recRecent := recent })).incSat (F.MSC_LNK_STAT_recoveries (tileOfChan c) (localChan c))).countTile (tileOfChan c) 112
    if 16 < recent.length then s.channelDead c else s.setLink c 7
/-- A command is sent again under its tag (R71). -/
def State.reissue (s : State) (c : Nat) (e : Sent) : State :=
  let s := ((s.incSat (F.MSC_LNK_ERR_timeouts (tileOfChan c) (localChan c))).countTile (tileOfChan c) 2 e.m.comps).countTile (tileOfChan c) 20 e.m.comps
  (s.modChan c (fun x => { x with sent := x.sent.map (fun y => if y.tag == e.tag then { y with reissues := y.reissues + 1, asked := false, polls := 0, waited := false } else y) })).send
    (.command c (makeBlock e.m.cmd) e.m.cmd.data)
/-- A sending to a die went unanswered (R72, R73): the third in a row, with the other dies answering, ends the die; else the command is reissued up to three times, unless STATUS reports it queued or running, and a third reissue that fails makes the link recover. -/
def State.unanswered (s : State) (c : Nat) (e : Sent) (reissue : Bool) : State :=
  let d := e.m.cmd.die
  let x := s.chan c
  let run := tgetD x.silent d 0 + 1
  let s := s.setChan c { x with silent := tput x.silent d run }
  if 3 ≤ run ∧ x.others.contains d then s.dieLost c d
  else if e.stuck then s
  else if e.reissues < 3 then (if reissue then s.reissue c e else s)
  else (s.modChan c (fun x => { x with sent := x.sent.map (fun y => if y.tag == e.tag then { y with stuck := true } else y) })).enterRecovery c
/-- A die has answered: the run of unanswered sendings to it breaks, and for the other dies the channel goes on answering. -/
def Chan.answered (x : Chan) (d : Nat) : Chan :=
  { x with
    silent := tdel x.silent d
    others := ((x.others.filter (· != d)) ++ ((x.sent.map (fun e => e.m.cmd.die)).filter (· != d))).eraseDups
    sent := x.sent.map (fun e => if e.m.cmd.die == d then { e with polls := 0 } else e) }
/-- The vectors of a response header (R65): a die whose program is not suspended begins its next suspension with no read run. -/
def Chan.takeVectors (x : Chan) (v : Nat) : Chan :=
  { x with ready := v % 16, susp := v / 16
           suspReads := x.suspReads.filter (fun (p : Nat × Nat) => hasBit (v / 16) p.1 || (x.sent.any (fun e => e.m.cmd.die == p.1 && e.m.cmd.op == 0x01))) }

/-! ## Responses (R65, R69 to R71) -/

/-- STATUS is sent for a tag (R71). -/
def State.askTag (s : State) (c tag : Nat) : State :=
  (s.modChan c (fun x => { x with sent := x.sent.map (fun e => if e.tag == tag then { e with asked := true } else e) })).submit c
    ⟨statusCmd ((((s.chan c).sent.find? (fun e => e.tag == tag)).map (fun e => e.m.cmd.die)).getD 0) tag, .control, 10, [], false, false, some 21⟩
/-- STATUS is sent for every outstanding command of a list that has none out. -/
def State.askAll (s : State) (c : Nat) (l : List Sent) : State :=
  each (l.filter (fun e => !e.asked && e.m.cmd.op != 0x30)) s (fun s e => s.askTag c e.tag)
/-- Host-path reads whose target was outstanding on a channel that discarded a response read around at once (R176): the discarded header does not say whose response it was, so each of them does (log 149). -/
def State.aroundLost (s : State) (l : List Sent) : State :=
  each l s (fun s e => match e.m.what with
    | .read id m => match s.op id with
      | some o => if o.waitsTarget && m == o.member && !o.who.isPrefetch && s.aroundOk o.stripe o.member then s.aroundNow o else s
      | none => s
    | _ => s)
/-- A response header with a bad CRC-16 or sync header (R70): it and its data are discarded, and the commands whose response it may have been are asked for. -/
def State.badResponse (s : State) (c : Nat) : State :=
  let sent := (s.chan c).sent
  (((s.incSat (F.MSC_LNK_ERR_crc_errors (tileOfChan c) (localChan c))).countTile (tileOfChan c) 109).askAll c sent).aroundLost sent
/-- A good response: its vectors are taken, and the command it answers leaves the outstanding ones. The package answers STATUS itself, so STATUS_DATA is no answer of a die (R73). -/
def State.response (s : State) (c : Nat) (h : Bytes) (go : Sent → State → State) : State :=
  if !blockGood h then s.badResponse c
  else
    let die := getLe h 1 1 / 64
    let tag := getLe h 1 1 % 64
    let s := s.modChan c (fun x => x.takeVectors (getLe h 3 1))
    match (s.chan c).sent.find? (fun e => e.tag == tag && e.m.cmd.die == die) with
    | none => s
    | some e => go e (s.modChan c (fun x => let y := if e.m.cmd.op == 0x30 then x else x.answered die; { y with sent := y.sent.filter (fun z => z.tag != tag) }))

/-- READ_DATA (R270, R542): the line reaches the read it belongs to. -/
def execReadData (chan : Nat) (header : Bytes) (data : Line) (s : State) : Host.Outcome State Fault Refusal :=
  .next (s.response chan header (fun e s =>
    let susp := e.m.cmd.flag && ((s.chan chan).program e.m.cmd.die).isSome
    let s := if susp then s.countTile (tileOfChan chan) 89 else s
    s.cmdEnded chan e.m (getLe header 2 1) 0 (some data)))
/-- COMPLETION (R65). -/
def execCompletion (chan : Nat) (header : Bytes) (s : State) : Host.Outcome State Fault Refusal :=
  .next (s.response chan header (fun e s => s.cmdEnded chan e.m (getLe header 2 1) (getLe header 4 2) none))
/-- IDENT_DATA (R65, R77): the die answered is present. -/
def execIdentData (chan : Nat) (header data : Bytes) (s : State) : Host.Outcome State Fault Refusal :=
  .next (s.response chan header (fun e s =>
    if getLe data 0 1 = 0x4A then (s.modChan chan (fun x => { x with present := x.present ||| 2 ^ e.m.cmd.die })).showDies chan else s))
/-- ECHO_DATA (R65). -/
def execEchoData (chan : Nat) (header _data : Bytes) (s : State) : Host.Outcome State Fault Refusal :=
  .next (s.response chan header (fun _ s => s))
/-- STATUS does not know a command whose 40 µs wait has not ended, as after an ERR_NOTICE: it is reissued, and the run of unanswered sendings breaks (R71, R73). -/
def State.lostSending (s : State) (c : Nat) (e : Sent) : State :=
  let s := s.modChan c (fun x => { x with silent := tdel x.silent e.m.cmd.die, sent := x.sent.map (fun y => if y.tag == e.tag then { y with asked := false } else y) })
  if e.stuck ∨ 3 ≤ e.reissues then s else s.reissue c e
/-- STATUS_DATA (R71, R73): a done tag gives the command its result; a queued or running one waits again, eight such answers in a row counting as no answer; an unknown one is reissued, as an unanswered sending where its 40 µs wait had ended. -/
def execStatusData (chan : Nat) (header _data : Bytes) (s : State) : Host.Outcome State Fault Refusal :=
  .next (s.response chan header (fun q s =>
    let asked := getLe q.m.cmd.args 0 1
    let state := getLe header 6 1
    let s := if asked < 64 ∧ state = 3 then s.modChan chan (fun x => { x with lockedTags := x.lockedTags.filter (· != asked) }) else s
    match (s.chan chan).sent.find? (fun e => e.tag == asked && e.asked) with
    | none => s
    | some e =>
      if state = 3 then (s.modChan chan (fun x => { x with sent := x.sent.filter (fun z => z.tag != asked), silent := tdel x.silent e.m.cmd.die })).cmdEnded chan e.m (getLe header 7 1) 0 none
      else if state = 0 then (if e.waited then s.unanswered chan e true else s.lostSending chan e)
      else
        let s := s.modChan chan (fun x => { x with sent := x.sent.map (fun z => if z.tag == asked then { z with asked := false, polls := z.polls + 1 } else z) })
        if 7 ≤ e.polls then (s.modChan chan (fun x => { x with sent := x.sent.map (fun z => if z.tag == asked then { z with polls := 0 } else z) })).unanswered chan e false else s))
/-- ERR_NOTICE (R70, R71): STATUS is sent for the commands issued after the last good one. -/
def execErrNotice (chan : Nat) (header : Bytes) (s : State) : Host.Outcome State Fault Refusal :=
  .next (if !blockGood header then s.badResponse chan
    else
      let s := s.modChan chan (fun x => x.takeVectors (getLe header 3 1))
      let s := (s.incSat (F.MSC_LNK_ERR_crc_errors (tileOfChan chan) (localChan chan))).countTile (tileOfChan chan) 110
      let l := (s.chan chan).sent
      let after := (l.dropWhile (fun e => !(e.tag == getLe header 6 1 && e.m.cmd.die == getLe header 7 1))).drop 1
      s.askAll chan (if l.any (fun e => e.tag == getLe header 6 1 && e.m.cmd.die == getLe header 7 1) then after else l))
/-- BAD_RESPONSE_RECEIVE (R70, R71). -/
def execBadResponseReceive (chan : Nat) (s : State) : Host.Outcome State Fault Refusal := .next (s.badResponse chan)
/-- STATUS_POLL_TIMEOUT (R69): the scheduler polls a channel that has been silent while a command is outstanding. -/
def execStatusPollTimeout (chan : Nat) (s : State) : Host.Outcome State Fault Refusal :=
  .next (if (s.chan chan).sent.isEmpty then s else s.submit chan ⟨statusCmd 0 0xFF, .control, 10, [], false, false, some 21⟩)
/-- COMMAND_RESPONSE_TIMEOUT (R71, R73): STATUS is sent for the tag; when that was sent and had no answer either, the sending went unanswered. -/
def execCommandResponseTimeout (chan tag : Nat) (s : State) : Host.Outcome State Fault Refusal :=
  .next (match (s.chan chan).sent.find? (fun e => e.tag == tag) with
    | none => s
    | some e =>
      let s := s.countTile (tileOfChan chan) 111
      if e.m.cmd.op = 0x30 then s.modChan chan (fun x => { x with sent := x.sent.filter (fun z => z.tag != tag) })
      else if !e.asked then (s.modChan chan (fun x => { x with sent := x.sent.map (fun z => if z.tag == tag then { z with waited := true } else z) })).askTag chan tag
      else (s.modChan chan (fun x => { x with sent := x.sent.map (fun z => if z.tag == tag then { z with asked := false } else z) })).unanswered chan { e with asked := false } true)

/-! ## Recovery and training (R61, R62, R72, R74) -/

/-- LINK_CRC_ERROR_LIMIT (R72). -/
def execLinkCrcErrorLimit (chan : Nat) (s : State) : Host.Outcome State Fault Refusal := .next (s.enterRecovery chan)
/-- BLOCK_LOCK_LOSS (R72). -/
def execBlockLockLoss (chan : Nat) (s : State) : Host.Outcome State Fault Refusal := .next (s.enterRecovery chan)
/-- A training step from one state to the next. -/
def State.trainStep (s : State) (c at_ then_ : Nat) : State := if s.lstate c = at_ then s.setLink c then_ else s
/-- DETECT_TERMINATION_SENSED (R61): training from Detect sends TS0, so the package's link logic is reset and its tags are free again (R62, R73). -/
def execDetectTerminationSensed (chan : Nat) (s : State) : Host.Outcome State Fault Refusal :=
  .next (if s.lstate chan ≤ 1 ∧ s.chanPresent chan ∧ !(s.tile (tileOfChan chan)).held then (s.modChan chan (fun x => { x with lockedTags := [], downNoted := false })).setLink chan 2 else s)
/-- BIT_LOCK_ACHIEVED (R61). -/
def execBitLockAchieved (chan : Nat) (s : State) : Host.Outcome State Fault Refusal := .next (s.trainStep chan 2 3)
/-- BLOCK_LOCK_ACHIEVED (R61). -/
def execBlockLockAchieved (chan : Nat) (s : State) : Host.Outcome State Fault Refusal := .next (s.trainStep chan 3 4)
/-- TRAIN_PRESETS_DONE (R61, R77): the preset held. -/
def execTrainPresetsDone (chan preset : Nat) (s : State) : Host.Outcome State Fault Refusal :=
  .next (if s.lstate chan = 4 then (s.wf (F.MSC_LNK_STAT_preset (tileOfChan chan) (localChan chan)) preset).setLink chan 5 else s)
/-- REF_LOAD of an entry of the active image's tables (R49, R64): ref_0 stands in byte 7. -/
def refCmd (d i : Nat) (codes : List Nat) : PkgCmd :=
  let r := codes.getD 0 0
  { blankCmd with op := 0x32, die := d, bucket := i % 32, band := i / 32, wave := r % 8, buf := r / 8 % 2, sheet := r / 16, args := ((codes.drop 1).map (fun n => BitVec.ofNat 8 n)).take 6 }
/-- The active image's reference tables go to every die after a training that followed a loss of VMED (R49); they wait for an active image. -/
def State.loadRefs (s : State) (c : Nat) : State :=
  match s.active with
  | none => s
  | some i =>
    let s := each (upto 4) s (fun s d => each (upto i.refs.length) s (fun s k => s.submit c ⟨refCmd d k (i.refs.getD k []), .control, 10, [], false, false, some 25⟩))
    s.modChan c (fun x => { x with vmedLost := false })
/-- The tables of an image that has become active go to the dies that need them: of links that are up at once, of others after their next training (R49, R113). -/
def State.refsDue (s : State) (changed : Bool) : State :=
  each ((upto 1024).filter s.chanPresent) s (fun s c =>
    let s := if changed then s.modChan c (fun x => { x with vmedLost := true }) else s
    if (s.chan c).vmedLost && [6, 7, 8].contains (s.lstate c) then s.loadRefs c else s)
/-- CONFIG_TS2_MATCHED (R61, R73, R77): the link is Active, and every die is asked to identify itself, which makes it present; a retired die shows as present and not alive. -/
def execConfigTs2Matched (chan : Nat) (s : State) : Host.Outcome State Fault Refusal :=
  .next (if s.lstate chan = 5 then
      let gone (x : Chan) : Nat := (((upto 4).filter (fun d => hasBit x.retired d || s.retireQueue.contains (chan, d) || s.retiring.any (fun (r : Retiring) => r.kind == 4 && r.cause == 2 && r.chan == chan && r.die == d))).map (2 ^ ·)).sum
      let s := (s.setLink chan 6).modChan chan (fun x => { x with present := 0, alive := 15 - gone x, ready := 15, susp := 0, silent := [], others := [] })
      let s := each (upto 4) (s.showDies chan) (fun s d => s.submit chan ⟨{ blankCmd with op := 0x31, die := d }, .control, 10, [], false, false, some 25⟩)
      if (s.chan chan).vmedLost then s.loadRefs chan else s
    else s)
/-- RECOVERY_DONE (R61). -/
def execRecoveryDone (chan : Nat) (s : State) : Host.Outcome State Fault Refusal :=
  .next (if s.lstate chan = 7 then (s.modChan chan (fun x => { x with recFails := 0 })).setLink chan 6 else s)
/-- A channel is Down: it raises the records of a Dead channel (R74), once for the retries of its Detect. -/
def State.channelDown (s : State) (c : Nat) : State :=
  let s := s.setLink c 0
  if (s.chan c).downNoted then s else each (upto 4) (s.modChan c (fun x => { x with downNoted := true })) (fun s d => s.dieReport c d)
/-- TRAINING_STATE_TIMEOUT (R61, R72): back to Detect; a Detect, or its retry, that times out leaves the channel Down; a third failed Recovery in a row makes it Dead. -/
def execTrainingStateTimeout (chan : Nat) (s : State) : Host.Outcome State Fault Refusal :=
  .next (let st := s.lstate chan
    if st = 1 ∨ (st = 0 ∧ s.chanPresent chan ∧ !(s.tile (tileOfChan chan)).held) then s.channelDown chan
    else if 2 ≤ st ∧ st ≤ 5 then s.setLink chan 1
    else if st = 7 then
      let n := (s.chan chan).recFails + 1
      let s := s.modChan chan (fun x => { x with recFails := n })
      if 3 ≤ n then s.channelDead chan else s.setLink chan 1
    else s)

/-! ## Link registers (R76, R78) -/

/-- LNK_RETRAIN (R76): Recovery from Active, full training from Dead. -/
def execLnkRetrain (iface chan : Nat) (s : State) : Host.Outcome State Fault Refusal :=
  .next (let t := tileOfChan chan
    if !s.chanPresent chan || !(s.lstate chan == 6 || s.lstate chan == 10) then s
    else s.regWrite iface (F.MSC_LNK_CTRL_retrain t (localChan chan)).addr .tileService true (fun s =>
      if s.lstate chan = 6 then (s.wf (F.MSC_LNK_CTRL_retrain t (localChan chan)) 1).enterRecovery chan
      else (s.setLink chan 1).wf (F.MSC_LNK_CTRL_retrain t (localChan chan)) 1))
/-- LNK_DISABLE (R76): 1 sends EIOS and holds the lanes idle; 0 lets the link train. -/
def execLnkDisable (iface chan value : Nat) (s : State) : Host.Outcome State Fault Refusal :=
  .next (let f := F.MSC_LNK_CTRL_disable (tileOfChan chan) (localChan chan)
    if !s.chanPresent chan || s.rf f == value % 2 then s
    else s.regWrite iface f.addr .tileService true (fun s => if value % 2 = 1 then s.chanOff chan else (s.wf f 0).setLink chan 1))
/-- LNK_ERR_CLEAR (R78). -/
def execLnkErrClear (iface chan : Nat) (s : State) : Host.Outcome State Fault Refusal :=
  .next (let t := tileOfChan chan
    if !s.chanPresent chan then s
    else s.regWrite iface (F.MSC_LNK_ERR_clear t (localChan chan)).addr .mgmtWrite true (fun s =>
      (s.wf (F.MSC_LNK_ERR_crc_errors t (localChan chan)) 0).wf (F.MSC_LNK_ERR_timeouts t (localChan chan)) 0))

end Sys2Proof.Machine
end

