-- ==== Sys2Proof/Machine/Scrub.lean ====
section
/-! DEFINITION. The scrubber, media scans, the checker, and errors of internal words (08, R275 to R288, R295 to R301). -/
namespace Sys2Proof.Machine

/-! ## What the scrubber covers, in the order this model takes it (R284; log 31) -/

/-- The places a tile scrubs: Mapped ones of its stems in slot order, then Lent ones of its log. -/
def State.scrubMapped (s : State) (t : Nat) : List Place := ((s.tile t).stems.filter (fun p => p.2.valid)).map (fun p => p.2.place)
def State.scrubLent (s : State) (t : Nat) : List Place := ((s.tile t).fronds.map Frond.place).eraseDups
/-- Stripe groups whose member 0 lies on the tile. -/
def State.scrubGroups (s : State) (t : Nat) : List Nat := (upto s.groupCount).filter (fun g => tileOfChan (s.memberChan g 0) == t)
/-- Line-stripes of a Mapped place, of a Lent or System place, and of a group's System places. -/
def mappedStripes : Nat := 1200
def lentStripes : Nat := 400
def systemStripes : Nat := 16384 * 400
/-- Line-stripes of a pass. -/
def State.scrubTotal (s : State) (t : Nat) : Nat :=
  mappedStripes * (s.scrubMapped t).length + lentStripes * (s.scrubLent t).length + systemStripes * (s.scrubGroups t).length
/-- A fast line-stripe of a place. -/
def fastStripe (p : Place) (n : Nat) : Stripe := ⟨p.group, p.die, 25 * p.num + n / 16, n % 16, false⟩
/-- The n-th line-stripe of a pass. -/
def State.scrubSpot (s : State) (t n : Nat) : Option Stripe :=
  let a := s.scrubMapped t
  let b := s.scrubLent t
  let na := mappedStripes * a.length
  let nb := lentStripes * b.length
  if n < na then (a[n / mappedStripes]?).map (fun p => sheetStripe p (n % mappedStripes / 16) (n % 16))
  else if n < na + nb then (b[(n - na) / lentStripes]?).map (fun p => fastStripe p ((n - na) % lentStripes))
  else
    let k := n - na - nb
    ((s.scrubGroups t)[k / systemStripes]?).map (fun g =>
      let i := k % systemStripes
      fastStripe ⟨g, i / (4096 * lentStripes), i / lentStripes % 4096⟩ (i % lentStripes))

/-! ## Checking a line-stripe (R285) -/

/-- The record of a member the scrubber reads. -/
def State.scrubReport (s : State) (t type : Nat) (x : Stripe) (m : Nat) (k : Option LineCheck) (lost recovered : Bool) : State :=
  let o := s.ownerOf x m
  s.report (s.spotReport type 5 x m (o.map Prod.snd) (o.map (fun (p : LeafRef × Nat) => p.1.comp)) k (lost && o.isSome) recovered t)
/-- A member that does not decode, or that the parity blames: recovered from the others and rewritten, or recorded. True when it was lost. -/
def State.scrubBad (s : State) (t : Nat) (x : Stripe) (m : Nat) : State × Bool :=
  match s.rebuildMember x m [] with
  | some l =>
    let s := ({ s with health := { s.health with reconstructed := s.health.reconstructed + 1 } } : State).scrubReport t 2 x m none false true
    (s.renewMember t x m l true, false)
  | none => (({ s with health := { s.health with uncorrectable := s.health.uncorrectable + 1 } } : State).scrubReport t 3 x m none true false, true)
/-- Steps 1 to 3 for a member (R285); true when it was uncorrectable. -/
def State.scrubMember (s : State) (t : Nat) (x : Stripe) (m : Nat) : State × Bool :=
  match s.member x m with
  | none => (s, false)
  | some l =>
    let k := checkLine l []
    let s := (s.chargeRead x m false 6 []).countCheck (tileOfChan (s.memberChan x.group m)) k []
    if k.cls = .uncorrectable then ((s.scrubBad t x m).1, true)
    else if 2 ≤ k.most then ((s.scrubReport t 1 x m (some k) false false).renewMember t x m k.fixed false, false)
    else (s, false)
/-- Step 4: the parity syndromes of 16 sound members (R285). -/
def State.scrubParity (s : State) (t : Nat) (x : Stripe) : State :=
  let vs := (upto 16).map (fun m => ((s.member x m).map (fun l => stripeVector (checkLine l []).fixed)).getD vzero)
  let ds := (upto 14).map (fun i => (i, vs.getD i vzero))
  let pq := parityOf ds
  let sp := vxor (vs.getD 14 vzero) pq.1
  let sq := vxor (vs.getD 15 vzero) pq.2
  if sp.all (· == 0) && sq.all (· == 0) then s
  else match blameMember sp sq with
    | some m => (s.scrubBad t x m).1
    | none => (s.scrubReport t 10 x 0 none false false).countTile t 116
/-- A line-stripe none of whose members has ever been programmed holds nothing to check (log 32). -/
def State.everProgrammed (s : State) (x : Stripe) : Bool :=
  (upto 16).any (fun m => thas ((s.pkg (s.memberChan x.group m)).die x.die).lines (x.grove, x.dense, x.line))
/-- One line-stripe is scrubbed; those of Dead places are skipped (R284). -/
def State.scrubStripe (s : State) (t : Nat) (x : Stripe) : State :=
  if !s.everProgrammed x || (s.placeRec x.place).state == .dead then s
  else
    let r := each (upto 16) (s, false) (fun (a : State × Bool) m => let b := a.1.scrubMember t x m; (b.1, a.2 || b.2))
    let whole := (upto 16).all (fun m => (s.member x m).isSome)
    let s := if whole && !r.2 then r.1.scrubParity t x else r.1
    s.countTile t 114

/-- Whether a pass can end within its period at the cap (R286): 16 slots per line-stripe against cap_pct of the tile's slots in a millisecond. -/
def State.scrubLate (s : State) (t : Nat) : Bool :=
  decide (s.rf (F.MSC_SCR_CFG_period_h t) * 3600000 * (s.tileCap t * 1000 * s.rf (F.MSC_SCR_CFG_cap_pct t) / 100) < 16 * s.scrubTotal t)
/-- SCRUB_LINE_STRIPE (R285, R286): the next line-stripe of the pass; the registers follow. The scrubber holds while its steward restarts (R18). -/
def execScrubLineStripe (tile : Nat) (s : State) : Host.Outcome State Fault Refusal :=
  .next (s.onAwake tile fun s => if !s.rb (F.MSC_SCR_CFG_enable tile) || !s.tileInService tile || s.power.flushing || s.tileThrottled tile || s.coreAway (tile + 1) || s.lifecycle == 3 then s
    else
      let total := s.scrubTotal tile
      let n := (s.tile tile).scrubAt
      let s := match s.scrubSpot tile n with | some x => s.scrubStripe tile x | none => s
      let ended := decide (total ≤ n + 1)
      let s := if ended then (s.modTile tile (fun x => { x with scrubAt := 0 })).incSat (F.MSC_SCR_STAT_passes tile) else s.modTile tile (fun x => { x with scrubAt := n + 1 })
      let permille := if ended then 0 else 1000 * (n + 1) / max 1 total
      let late := s.scrubLate tile
      let was := s.rb (F.MSC_SCR_STAT_late tile)
      let s := (s.wf (F.MSC_SCR_STAT_permille tile) permille).wf (F.MSC_SCR_STAT_late tile) (b2n late)
      if late && !was then s.emit (0x20 + 8 * tile + 2) 0x0303 (le 1 tile ++ le 2 permille) else s)
/-- SCRUB_POSITION_PERSIST (R287). -/
def execScrubPositionPersist (tile : Nat) (s : State) : Host.Outcome State Fault Refusal :=
  .next (s.modTile tile (fun x => { x with scrubSaved := x.scrubAt }))

/-! ## Scanning a range (R288) -/

/-- The scrubber's checks on a host line's copy on the medium; true when it is uncorrectable. -/
def State.scanLine (s : State) (line : Nat) : State × Bool :=
  match s.leafOfLine line with
  | none => (s, false)
  | some r => match s.whereIs r (line % 64) with
    | .spot x m _ => (let a := s.scrubMember r.tile x m; (a.1, a.2 && (s.rebuildMember x m []).isNone))
    | _ => (s, false)

/-! ## Internal words (R13, R275 to R278, R283, R295) -/

/-- SRAM_CLEAR (R295). -/
def execSramClear (iface tile : Nat) (s : State) : Host.Outcome State Fault Refusal :=
  .next (if s.tileCount ≤ tile then s
    else s.regWrite iface (F.MSC_SRAM_ERR_clear tile).addr .mgmtWrite true (fun s =>
      ((s.wf (F.MSC_SRAM_ERR_corrected tile) 0).wf (F.MSC_SRAM_ERR_uncorrectable tile) 0).wf (F.MSC_SRAM_ERR_tag_parity tile) 0))
/-- A host request whose fabric word was lost (R283): a read ends poisoned, a write with the error completion and without a catch entry. -/
def State.wordLost (s : State) (q : Req) : State :=
  let s := s.report { (Report.ofLine 6 q.ownDet q.tile q.line (some q.comp) (q.kind == .read) false) with fabric := true }
  let s := each (s.ops.filter (fun o => o.who == .req q.id)) s (fun s o => s.dropOp o.id)
  ((s.failureFor q).noData q 11 4).run
/-- A word of a transfer arrived with a double-bit error (R283): the request it belongs to ends; a read-around's member will be missing; an engine's transfer is repeated once, and its second failure is an uncorrectable line for that engine; the next management register read is the one it belongs to (log 163). -/
def State.loseWord (s : State) (use : Transfer) : State :=
  match use with
  | .request id => (match s.req id with | some q => s.wordLost q | none => s)
  | .engine _ _ => { s with lostWords := s.lostWords.filter (fun p => p.1 != use) ++ [(use, s.lostWords.any (fun p => p.1 == use))] }
  | _ => { s with lostWords := s.lostWords.filter (fun p => p.1 != use) ++ [(use, true)] }
/-- FABRIC_WORD_RECEIVE (R13, R275, R283): a single-bit error is corrected and counted; a double-bit error marks the word poisoned, and its transfer fails. -/
def execFabricWordReceive (_src _dst : Nat) (use : Transfer) (word : Nat) (s : State) : Host.Outcome State Fault Refusal :=
  .next (match hammingDecode (BitVec.ofNat 137 word) with
    | .clean _ => s
    | .corrected _ => s.countHub 1
    | .uncorrectable => (s.countHub 2).loseWord use)

/-! ## The checker (R297 to R301) -/

/-- The 96 bytes of CHK_DATA or CHK_FLIP as a line. -/
def State.chkLine (s : State) (f : Nat → Fld) : Line := BitVec.ofNat 768 (ofLe (((upto 24).map (fun i => le 4 (s.rf (f i)))).flatten))
def State.chkShow (s : State) (t : Nat) (l : Line) : State := each (upto 24) s (fun s i => s.wf (F.MSC_CHK_DATA t i) (getLe (lineBytes l) (4 * i) 4))
/-- The line-stripe and member MSC_CHK_ADDR names on the scratch place. -/
def State.chkSpot (s : State) (t : Nat) (p : Place) : Stripe × Nat :=
  (⟨p.group, p.die, 25 * p.num + s.rf (F.MSC_CHK_ADDR_grove t), s.rf (F.MSC_CHK_ADDR_line_stripe t), false⟩, s.rf (F.MSC_CHK_ADDR_member t))
def State.chkBusy (s : State) (t : Nat) : Bool := s.rb (F.MSC_CHK_STAT_busy t)
def State.chkOutcome (s : State) (t n : Nat) : State := s.wf (F.MSC_CHK_STAT_outcome t) n
def State.setChecker (s : State) (t : Nat) (c : Checker) : State := s.modTile t (fun x => { x with checker := c })
/-- A checker register write: under the test right, and ignored while busy (R301). -/
def State.chkUnder (s : State) (iface t : Nat) (f : Fld) (go : State → State) : State :=
  if s.tileCount ≤ t || s.chkBusy t then s else s.regWrite iface f.addr .test true go
/-- The checker closes (R300): its registers read as closed, and the place is Free, or Dead where it failed. -/
def State.closeChecker (s : State) (t : Nat) : State :=
  let s := match (s.tile t).checker.place with | some p => s.releasePlace p | none => s
  let s := (s.setChecker t Checker.fresh).wf (F.MSC_CHK_STAT_open t) 0
  let s := (s.wf (F.MSC_CHK_STAT_busy t) 0).setReg (F.MSC_CHK_PLACE_place t).addr 0
  each [F.MSC_CHK_CTRL_open t, F.MSC_CHK_CTRL_write t, F.MSC_CHK_CTRL_read t] s (fun s f => s.wf f 0)
/-- A checker program: a member of a line-stripe, charged to the debug master, with x = 1. -/
def State.chkProgram (s : State) (t : Nat) (x : Stripe) (m : Nat) (l : Line) (skip : Bool) : State :=
  if s.memberPresent x.group x.die m then
    (s.submit (s.memberChan x.group m) ⟨fastCmd x l skip, .checker t, 9, [], false, false, none⟩).modTile t (fun y => { y with checker := { y.checker with waiting := y.checker.waiting + 1 } })
  else s
/-- CHECKER_OPEN (R297): the scratch place is lent and programmed as filler, or outcome 6. -/
def execCheckerOpen (iface tile : Nat) (s : State) : Host.Outcome State Fault Refusal :=
  .next (s.chkUnder iface tile (F.MSC_CHK_CTRL_open tile) (fun s =>
    if !s.tileInService tile || decide (2 ≤ s.spareState) || (s.tile tile).checker.place.isSome then s.chkOutcome tile 6
    else
      let r := s.takePlace tile false false
      match r.2 with
      | none => r.1.chkOutcome tile 6
      | some p =>
        let s := ((r.1.placeTo p .lent).wearPlace p 1).setChecker tile ⟨some p, .opening, 0, false⟩
        let s := (((s.wf (F.MSC_CHK_PLACE_place tile) p.num).wf (F.MSC_CHK_PLACE_group tile) p.group).wf (F.MSC_CHK_PLACE_die_index tile) p.die).wf (F.MSC_CHK_PLACE_valid tile) 1
        let s := ((s.wf (F.MSC_CHK_CTRL_open tile) 1).wf (F.MSC_CHK_STAT_busy tile) 1).chkOutcome tile 0
        let pq := parityOf ((upto 14).map (fun d => (d, stripeVector fillerLine)))
        let line (m : Nat) : Line := if m < 14 then fillerLine else parityLine (if m = 14 then pq.1 else pq.2)
        each (upto lentStripes) s (fun s n => each (upto 16) s (fun s m => s.chkProgram tile (fastStripe p n) m (line m) false))))
/-- CHECKER_CLOSE (R300). -/
def execCheckerClose (iface tile : Nat) (s : State) : Host.Outcome State Fault Refusal :=
  .next (s.chkUnder iface tile (F.MSC_CHK_CTRL_close tile) (fun s => s.closeChecker tile))
/-- CHECKER_WRITE (R298): the staged line, encoded where asked, with its flips, is programmed; the parity follows the staged line. -/
def execCheckerWrite (iface tile : Nat) (s : State) : Host.Outcome State Fault Refusal :=
  .next (s.chkUnder iface tile (F.MSC_CHK_CTRL_write tile) (fun s =>
    match (s.tile tile).checker.place with
    | none => s.chkOutcome tile 6
    | some p =>
      let at_ := s.chkSpot tile p
      let raw := s.chkLine (F.MSC_CHK_DATA tile)
      let staged := if s.rb (F.MSC_CHK_CTRL_encode tile) then recodeLine raw else raw
      let stored := staged ^^^ s.chkLine (F.MSC_CHK_FLIP tile)
      let pq := s.newParity at_.1 [(at_.2, staged)]
      let s := (s.setChecker tile ⟨some p, .writing, 0, false⟩).wf (F.MSC_CHK_STAT_busy tile) 1
      let s := ((s.wf (F.MSC_CHK_CTRL_write tile) 1).chkOutcome tile 0).chkProgram tile at_.1 at_.2 stored true
      if s.rb (F.MSC_CHK_CTRL_parity tile) && decide (at_.2 < 14) then (s.chkProgram tile at_.1 14 pq.1 false).chkProgram tile at_.1 15 pq.2 false else s))
/-- CHECKER_READ (R299): the read begins; its result comes with CHECKER_OP_DONE. -/
def execCheckerRead (iface tile : Nat) (s : State) : Host.Outcome State Fault Refusal :=
  .next (s.chkUnder iface tile (F.MSC_CHK_CTRL_read tile) (fun s =>
    match (s.tile tile).checker.place with
    | none => s.chkOutcome tile 6
    | some p => (((s.setChecker tile ⟨some p, .reading, 0, false⟩).wf (F.MSC_CHK_STAT_busy tile) 1).wf (F.MSC_CHK_CTRL_read tile) 1).chkOutcome tile 0))
/-- What a check found, as MSC_CHK_STAT shows it. -/
def State.chkFound (s : State) (t : Nat) (k : LineCheck) (outcome : Nat) : State :=
  let corr := ((upto 4).map (fun g => k.corr.getD g 0 * 2 ^ (3 * g))).sum
  ((s.wf (F.MSC_CHK_STAT_crc_ok t) (b2n k.crcOk)).wf (F.MSC_CHK_STAT_corr t) corr).chkOutcome t outcome
/-- A record of the checker (R299). -/
def State.chkReport (s : State) (t type : Nat) (x : Stripe) (m : Nat) (k : Option LineCheck) : State :=
  s.report (s.spotReport type 12 x m none none k false (type == 2) t)
/-- The result of a checker read (R299): as stored, or checked, corrected and reconstructed where allowed. -/
def State.chkResult (s : State) (t : Nat) (p : Place) : State :=
  let at_ := s.chkSpot t p
  let raw := s.rb (F.MSC_CHK_CTRL_raw t)
  match s.member at_.1 at_.2 with
  | none => s.chkOutcome t 4
  | some l =>
    let k := checkLine l []
    let show_ := if raw then l else k.fixed
    match k.cls with
    | .clean => (s.chkShow t show_).chkFound t k 1
    | .corrected => (let s := (s.chkShow t show_).chkFound t k 2; if 2 ≤ k.most then s.chkReport t 1 at_.1 at_.2 (some k) else s)
    | .uncorrectable =>
      match (if !raw && s.rb (F.MSC_CHK_CTRL_recon t) then s.rebuildMember at_.1 at_.2 [] else none) with
      | some r => ((s.chkShow t r).chkFound t k 3).chkReport t 2 at_.1 at_.2 (some k)
      | none => ((s.chkShow t show_).chkFound t k 4).chkReport t 3 at_.1 at_.2 (some k)
/-- CHECKER_OP_DONE (R297 to R301): a finished open, write or read; a failed program makes the place Dead and closes the checker. -/
def execCheckerOpDone (tile : Nat) (s : State) : Host.Outcome State Fault Refusal :=
  .next (match (s.tile tile).checker.place with
    | none => s
    | some p =>
      let c := (s.tile tile).checker
      if c.waiting != 0 || c.op == .none then s
      else if c.failed then (((s.killPlace p 1).closeChecker tile).chkOutcome tile 5)
      else
        let s := if c.op == .reading then s.chkResult tile p else if c.op == .opening then s.wf (F.MSC_CHK_STAT_open tile) 1 else s.chkOutcome tile 1
        let s := (s.setChecker tile ⟨some p, .none, 0, false⟩).wf (F.MSC_CHK_STAT_busy tile) 0
        each [F.MSC_CHK_CTRL_open tile, F.MSC_CHK_CTRL_write tile, F.MSC_CHK_CTRL_read tile] s (fun s f => s.wf f 0))

end Sys2Proof.Machine
end

