-- ==== Sys2Proof/Machine/CacheOps.lean ====
section
/-! DEFINITION. A line read whole by an engine, and range maintenance of the tile cache (08, R282; 09, R311 to R316). -/
namespace Sys2Proof.Machine

/-! ## A host line read by an engine within one step (R282, R311; log 26) -/

inductive EngineRead where
  | data (d : HostLine)
  /-- already poisoned: no further record (R282) -/
  | poisoned
  /-- uncorrectable, or its tag does not verify: recorded -/
  | lost
  /-- its key slot is not Active, or its generation has gone (R324) -/
  | stale
  /-- its counter path is unverifiable (R340) -/
  | subtree
  deriving DecidableEq, Repr

/-- A checked or cached media line opened for an engine. -/
def State.engineOpen (s : State) (t : Nat) (c : Comp) (r : LeafRef) (line : Nat) (l : Line) (det : Nat) (x : Option (Stripe × Nat)) (key : Nat × Option Nat) : EngineRead × State :=
  match s.openAt c r line l key with
  | .data d g => (.data d, s.countRegen t c.id g)
  | .stale => (.stale, s)
  | .badTag =>
    let rep := match x with
      | some p => s.spotReport 4 det p.1 p.2 (some line) (some c.id) none true false t
      | none => .ofLine 4 det t line (some c.id) true false
    (.lost, ((s.incSat (F.CIF_ERR_tag_fail t)).countTile t 104 [c.id]).report rep)
/-- What the cache holds of a line under a key, or the other one of a running re-key. -/
def State.cacheUnder (s : State) (t : Nat) (c : Comp) (line : Nat) (key : Nat × Option Nat) : Option CacheLine :=
  match (s.tile t).cacheHit line c key.1, key.2 with
  | some l, _ => some l
  | none, some o => (s.tile t).cacheHit line c o
  | none, none => none
/-- A line as an engine gets it under a key: from the catch, the cache where it may use it, zeros, or the medium with recovery. -/
def State.engineReadAt (s : State) (c : Comp) (r : LeafRef) (line : Nat) (key : Nat × Option Nat) (det : Nat) (useCache : Bool) : EngineRead × State :=
  let t := s.server r.tile
  if c.cipher == 1 && (s.slot key.1).state != 1 then (.stale, s)
  else if s.lostWords.contains (.engine det line, true) then
    (.lost, ({ s with lostWords := s.lostWords.filter (fun p => p.1 != .engine det line) } : State).report { (Report.ofLine 6 det t line (some c.id) true false) with fabric := true })
  else
    let s : State := { s with lostWords := s.lostWords.filter (fun p => p.1 != .engine det line) }
    let s := s.loadPath c r.tile r.rank det line
    if s.badPath c r.tile r.rank then (.subtree, s)
    else match (s.tile t).entry line with
      | some e => if metaPoison (lineMeta e.media) then (.poisoned, s) else s.engineOpen t c r line e.media det none key
      | none =>
        let s := if useCache then s.dropStale t c line key else s
        match (if useCache then s.cacheUnder t c line key else none) with
        | some l => (.data l.data, s)
        | none => match s.whereIs r (line % 64) with
          | .zeros => (.data 0, s)
          | .poisoned => (.poisoned, s)
          | .spot x m _ => match s.stripeRead x m [c.format] with
            | .good l k =>
              let s := (s.chargeRead x m false (masterOfDet det) [c.id]).countCheck t k [c.id]
              let s := if 2 ≤ k.most then (s.report (s.spotReport 1 det x m (some line) (some c.id) (some k) false false t)).rewriteLine t r line (s.leafOf r).gen l false (masterOfDet det) else s
              if k.poisoned then (.poisoned, s) else s.engineOpen t c r line l det (some (x, m)) key
            | .recovered l =>
              let s := s.chargeRead x m true (masterOfDet det) [c.id]
              let s := ({ s with health := { s.health with reconstructed := s.health.reconstructed + 1 } } : State).report (s.spotReport 2 det x m (some line) (some c.id) none false true t)
              let s := s.rewriteLine t r line (s.leafOf r).gen l true (masterOfDet det)
              if metaPoison (lineMeta l) then (.poisoned, s) else s.engineOpen t c r line l det (some (x, m)) key
            | .lost =>
              let s := s.chargeRead x m true (masterOfDet det) [c.id]
              (.lost, ({ s with health := { s.health with uncorrectable := s.health.uncorrectable + 1 } } : State).report (s.spotReport 3 det x m (some line) (some c.id) none true false t))

/-- A line read under the key of its slice (R323). -/
def State.engineRead (s : State) (c : Comp) (r : LeafRef) (line det : Nat) (useCache : Bool) : EngineRead × State :=
  s.engineReadAt c r line (s.lineKey c line) det useCache

/-! ## The range (R312, R316) -/

/-- First line of the range from the compartment's base, and its lines (CCH_RM_ registers). -/
def State.rmFirst (s : State) (t : Nat) : Nat := s.rf (F.CCH_RM_START_low t) + s.rf (F.CCH_RM_HIGH_start t) * 2 ^ 32
def State.rmCount (s : State) (t : Nat) : Nat := s.rf (F.CCH_RM_COUNT_low t) + s.rf (F.CCH_RM_HIGH_count t) * 2 ^ 32
/-- A line index lies in the range of an operation and is homed on the tile. -/
def State.inRange (s : State) (t : Nat) (o : RangeOp) (line : Nat) : Bool :=
  match s.served o.comp with
  | some c => decide (c.lo / 64 + o.first ≤ line ∧ line < c.lo / 64 + o.first + o.count) && s.homeOf line == t
  | none => false
/-- Leaves of the range that hold a dirty line. -/
def State.dirtyLeaves (s : State) (t : Nat) (o : RangeOp) : List Nat :=
  ((((s.tile t).catchQ.map CatchEnt.line).filter (s.inRange t o)).map (· / 64)).eraseDups
def State.countSkip (s : State) (t : Nat) (k : Nat) (comp : Nat) : State := (s.wf (F.CCH_RM_SKIP_count t) (satAdd (s.rf (F.CCH_RM_SKIP_count t)) k 0xFFFFFFFF)).countTile t 61 [comp] k
/-- Cached lines of the range leave the cache and its victim buffer, locked ones too where asked (R312). -/
def State.rangeTake (s : State) (t : Nat) (o : RangeOp) (locked : Bool) : State :=
  s.modTile t (fun x => { x with cache := x.cache.filter (fun l => !(s.inRange t o l.line && (!l.locked || locked)))
                                 victims := x.victims.filter (fun l => !s.inRange t o l.line) })
/-- Cached lines of the range are dropped; locked ones are skipped and counted, or under force unlocked and dropped (R312, R313). -/
def State.rangeDrop (s : State) (t : Nat) (o : RangeOp) : State :=
  let skip := ((s.tile t).cache.filter (fun l => l.locked && !o.force && s.inRange t o l.line)).length
  (s.rangeTake t o o.force).countSkip t skip o.comp
/-- Leaves of the range that hold a dirty line which is locked: force has them cleaned before the lock goes (R313). -/
def State.lockedLeaves (s : State) (t : Nat) (o : RangeOp) : List Nat :=
  (((s.tile t).catchQ.map CatchEnt.line).filter (fun n => s.inRange t o n && (((s.tile t).cached n).map CacheLine.locked).getD false)).map (· / 64) |>.eraseDups
/-- Locks cleared over the range (R312). -/
def State.rangeUnlock (s : State) (t : Nat) (o : RangeOp) : State :=
  s.modTile t (fun x => { x with cache := x.cache.map (fun l => if s.inRange t o l.line then { l with locked := false } else l) })
/-- Locked ways of a line's set. -/
def Tile.lockedWays (x : Tile) (line : Nat) : Nat := (x.cache.filter (fun l => l.locked && cacheSet l.line == cacheSet line)).length
def State.lockCached (s : State) (t line : Nat) : State :=
  s.modTile t (fun x => { x with cache := x.cache.map (fun l => if l.line == line then { l with locked := true } else l) })
/-- A line of the range is allocated and locked within the limit; else it is counted (R314). A way under another key is invalidated (R303). -/
def State.lockLine (s : State) (t : Nat) (o : RangeOp) (c : Comp) (line : Nat) : State :=
  let skip (s : State) : State := (s.countSkip t 1 o.comp).modTile t (fun x => { x with range := x.range.map (fun r => { r with badLine := true }) })
  match s.leafOfLine line with
  | none => s
  | some r =>
    let key := (s.lineKey c line).1
    let s := if c.cipher == 1 && (s.slot key).state == 1 then s.modTile t (fun x => x.touchKey key (s.slot key).gen) else s
    let held := (s.tile t).cached line
    let s := match held with
      | some l => if (s.tile t).usable l c key then s else s.modTile t (fun x => x.uncache line)
      | none => s
    match (s.tile t).cached line with
    | some l =>
      if l.locked then s
      else if s.rf (F.CCH_CFG_lock_ways t) ≤ (s.tile t).lockedWays line then skip s
      else s.lockCached t line
    | none =>
      if s.rf (F.CCH_CFG_lock_ways t) ≤ (s.tile t).lockedWays line then skip s
      else match s.engineRead c r line 1 false with
        | (.data d, s) =>
          let s := s.cacheAlloc t ⟨line, if c.cipher == 0 then 0 else key, if c.cipher == 0 then 0 else (s.slot key).gen, true, c.cipher == 0, d, false⟩ c.id
          if ((s.tile t).cached line).isSome then s else skip s
        | (_, s) => skip s
def State.rangeLock (s : State) (t : Nat) (o : RangeOp) : State :=
  match s.served o.comp with
  | some c => each (((upto o.count).map (fun i => c.lo / 64 + o.first + i)).filter (s.inRange t o)) s (fun s line => s.lockLine t o c line)
  | none => s
/-- The leaves of the range are destaged ahead of others (R312). -/
def State.rangeClean (s : State) (t : Nat) (leaves : List Nat) : State :=
  s.modTile t (fun x => { x with urgent := x.urgent ++ leaves.filter (fun n => !x.urgent.contains n) })

/-- A write of CCH_RM_CTRL with go = 1 (R316): refused while busy or for a bad range, else the operation runs. -/
def State.rangeGo (s : State) (iface t op : Nat) (run : State → RangeOp → State) : State :=
  if s.tileCount ≤ t || (s.tile t).held then s
  else s.regWrite iface (F.CCH_RM_CTRL_go t).addr .tileService true (fun s =>
    if s.rb (F.CCH_RM_STAT_busy t) then s.wf (F.CCH_RM_STAT_outcome t) 2
    else
      let comp := s.rf (F.CCH_RM_COMP_id t)
      let s := (s.wf (F.CCH_RM_SKIP_count t) 0).wf (F.CCH_RM_CTRL_op t) op
      match s.served comp with
      | none => s.wf (F.CCH_RM_STAT_outcome t) 3
      | some c =>
        let o : RangeOp := ⟨op, s.rb (F.CCH_RM_CTRL_force t), comp, s.rmFirst t, s.rmCount t, false, []⟩
        if o.count = 0 ∨ c.hi < c.lo + (o.first + o.count) * 64 then s.wf (F.CCH_RM_STAT_outcome t) 3
        else
          let o := { o with leaves := if op == 1 || op == 3 then s.dirtyLeaves t o else if op == 2 && o.force then s.lockedLeaves t o else [] }
          let s := (s.modTile t (fun x => { x with range := some o })).wf (F.CCH_RM_STAT_busy t) 1
          run (((s.wf (F.CCH_RM_CTRL_go t) 1).wf (F.CCH_RM_STAT_outcome t) 0).countTile t 119 [comp] o.count) o)

/-- CLEAN (R312). -/
def execClean (iface tile : Nat) (s : State) : Host.Outcome State Fault Refusal := .next (s.rangeGo iface tile 1 (fun s o => s.rangeClean tile o.leaves))
/-- INVALIDATE (R312, R313): under force the locked lines go once their leaves are clean. -/
def execInvalidate (iface tile : Nat) (s : State) : Host.Outcome State Fault Refusal :=
  .next (s.rangeGo iface tile 2 (fun s o => if o.leaves.isEmpty then s.rangeDrop tile o else (s.rangeTake tile o false).rangeClean tile o.leaves))
/-- CLEAN_AND_INVALIDATE (R312): the lines are dropped when their leaves have switched. -/
def execCleanAndInvalidate (iface tile : Nat) (s : State) : Host.Outcome State Fault Refusal := .next (s.rangeGo iface tile 3 (fun s o => s.rangeClean tile o.leaves))
/-- LOCK (R312, R314). -/
def execLock (iface tile : Nat) (s : State) : Host.Outcome State Fault Refusal := .next (s.rangeGo iface tile 4 (fun s o => s.rangeLock tile o))
/-- UNLOCK (R312). -/
def execUnlock (iface tile : Nat) (s : State) : Host.Outcome State Fault Refusal := .next (s.rangeGo iface tile 5 (fun s o => s.rangeUnlock tile o))
/-- RANGE_OP_DONE (R316): the last line is done; a clean ends once each of its leaves has switched, and nothing ends while the steward restarts (R18). -/
def execRangeOpDone (tile : Nat) (s : State) : Host.Outcome State Fault Refusal :=
  .next (match (s.tile tile).range with
    | none => s
    | some o =>
      let x := s.tile tile
      if s.coreAway (tile + 1) || o.leaves.any (fun n => x.urgent.contains n || x.destages.any (fun d => d.leaf == n)) then s
      else
        let s := if o.op == 3 || (o.op == 2 && !o.leaves.isEmpty) then s.rangeDrop tile o else s
        let s := (s.modTile tile (fun x => { x with range := none })).wf (F.CCH_RM_STAT_busy tile) 0
        (s.wf (F.CCH_RM_CTRL_go tile) 0).wf (F.CCH_RM_STAT_outcome tile) (if o.badLine then 4 else 1))

end Sys2Proof.Machine
end

