-- ==== Sys2Proof/Machine/Keys.lean ====
section
/-! DEFINITION. Key slots, live re-keying, re-rooting, and the sealed taproots (10, R319 to R325, R333, R341 to R351). -/
namespace Sys2Proof.Machine

/-! ## Key slot commands (R319 to R325) -/

/-- The scope of the key-admin right covers a key index (R357). -/
def State.keyCovered (s : State) (iface k : Nat) : Bool :=
  (s.standing iface .keyAdmin && (decide (4 ≤ iface) || (s.slot k).state != 1 || (match (s.slot k).bound with | none => true | some b => b.1 == iface))) ||
  s.warrantCoversKey iface .keyAdmin k
/-- The key slot is the old or the new one of a running re-key. -/
def State.keyInRekey (s : State) (k : Nat) : Bool := s.rekeys.any (fun r => r.old == k || r.new == k)
/-- The output of Create and Destroy (R325). -/
def keyOutput (status gen : Nat) : Bytes := le 1 status ++ zeros 1 ++ le 2 gen ++ zeros 4
/-- A Create or Destroy input is well formed: its length, and reserved bits 0. -/
def keyInput (b : Bytes) : Bool := b.length == 8 && decide (getLe b 0 4 < 2 ^ 20) && decide (getLe b 4 1 < 2) && allZero (slice b 5 3)
/-- The KEY_SLOT event (R428). -/
def State.keyEvent (s : State) (k gen iface : Nat) : State := s.raise 0x0500 (le 4 k ++ le 2 gen ++ le 1 iface)
/-- Create Key Slot, once its right is held (R319, R325). -/
def State.createSlot (s : State) (iface ld : Nat) (b : Bytes) : Answer :=
  let k := getLe b 0 4
  let x := s.slot k
  let out (status : Nat) : Answer := ⟨.success, keyOutput status x.gen, s⟩
  if !keyInput b then ⟨.success, keyOutput 1 0, s⟩
  else if !s.keyCovered iface k then out 4
  else if x.state == 1 then out 2
  else if 0xFFF ≤ x.gen then out 3
  else
    let g := x.gen + 1
    let n : Slot := ⟨1, g, if getLe b 4 1 == 1 then none else some (iface, ld), s.glade.opsec, s.glade.pwrcyc, Config.slotKey k g s.freeCtr⟩
    let s := ({ s with freeCtr := s.freeCtr + 1 } : State).setSlot k n
    ⟨.success, keyOutput 0 g, s.keyEvent k g iface⟩
/-- CREATE_KEY_SLOT (R319). -/
def execCreateKeySlot (iface ld : Nat) (input : Bytes) (s : State) : Host.Outcome State Fault Refusal :=
  .next (s.command iface ld 0xC010 (some .keyAdmin) (fun s => s.createSlot iface ld input))
/-- Destroy Key Slot, once its right is held (R321, R322, R325). -/
def State.destroySlot (s : State) (iface ld : Nat) (b : Bytes) : Answer :=
  let k := getLe b 0 4
  let x := s.slot k
  let out (status : Nat) : Answer := ⟨.success, keyOutput status x.gen, s⟩
  if !keyInput b then ⟨.success, keyOutput 1 0, s⟩
  else if !s.keyCovered iface k then out 4
  else if x.state != 1 then out 2
  else if !x.boundTo iface ld then out 4
  else if s.keyInRekey k then out 5
  else if s.namedKey k && getLe b 4 1 == 0 then out 6
  else ⟨.success, keyOutput 0 x.gen, (((s.setSlot k { x with state := 2, key := 0 }).dropKey k).writeStructures).keyEvent k x.gen iface⟩
/-- DESTROY_KEY_SLOT (R321). -/
def execDestroyKeySlot (iface ld : Nat) (input : Bytes) (s : State) : Host.Outcome State Fault Refusal :=
  .next (s.command iface ld 0xC011 (some .keyAdmin) (fun s => s.destroySlot iface ld input))
/-- What Get Key Slot Info returns (R325). -/
def State.slotInfo (s : State) (iface : Nat) (b : Bytes) : Bytes :=
  let k := getLe b 0 4
  let x := s.slot k
  if b.length != 4 || decide (2 ^ 20 ≤ k) then le 1 1 ++ zeros 15
  else if !s.keyCovered iface k then le 1 4 ++ zeros 15
  else
    let bound := x.state == 1 && x.bound.isSome
    le 1 0 ++ le 1 x.state ++ le 2 x.gen ++
    le 1 (b2n (x.state == 1 && x.bound.isNone) + 2 * b2n (s.namedKey k) + 4 * b2n (s.keyInRekey k)) ++
    le 1 (if bound then (x.bound.getD (0, 0)).1 else 0xFF) ++ le 1 (if bound then (x.bound.getD (0, 0)).2 else 0xFF) ++ zeros 1 ++
    le 4 x.opsec ++ le 4 x.pwrcyc
/-- GET_KEY_SLOT_INFO (R325). -/
def execGetKeySlotInfo (iface ld : Nat) (input : Bytes) (s : State) : Host.Outcome State Fault Refusal :=
  .next (s.command iface ld 0xC012 (some .keyAdmin) (fun s => ⟨.success, s.slotInfo iface input, s⟩))

/-! ## Live re-keying (R345 to R350) -/

/-- The output of Start Re-key. -/
def rekeyOutput (status slot : Nat) : Bytes := le 1 status ++ le 1 slot ++ zeros 6
/-- The one effective key of a range of slices, when they share one. -/
def State.sharedKey (s : State) (c : Comp) (start count : Nat) : Option Nat :=
  let k := s.effKey c start
  if (upto count).all (fun i => s.effKey c (start + i) == k) then some k else none
/-- An unused re-key slot of the sixteen. -/
def State.freeRekey (s : State) : Option Nat := (upto 16).find? (fun k => !s.rekeys.any (fun r => r.slot == k))
/-- Status of Start Re-key before it runs (R350). -/
def State.rekeyStatus (s : State) (iface ld : Nat) (comp start count new : Nat) : Nat :=
  match s.served comp with
  | none => 1
  | some c =>
    if !s.visible iface ld comp || count == 0 || decide (c.size < start + count) then 1
    else if c.cipher == 0 then 2
    else match s.sharedKey c start count with
      | none => 3
      | some old =>
        if (s.slot new).state != 1 || !(s.slot new).boundTo iface ld || new == old then 4
        else if (s.slot new).gen == (s.slot old).gen then 5
        else if s.rekeys.any (fun r => r.comp == comp) || s.freeRekey.isNone then 6
        else if s.readOnly then 7
        else if !s.allInService || s.img.apply.isSome then 8
        else 0
/-- The REKEY event (R428). -/
def State.rekeyEvent (s : State) (r : Rekey) : State := s.raise 0x0501 (le 1 r.slot ++ le 2 r.comp ++ le 4 r.old ++ le 4 r.new) [r.comp]
/-- A re-key starts: its record, boundaries at the range's start, its registers. -/
def State.rekeyBegin (s : State) (r : Rekey) : State :=
  let tiles := s.tiles.map (fun x => { x with bounds := tput x.bounds r.slot 0, boundsSaved := tput x.boundsSaved r.slot 0 })
  let s := ({ s with rekeys := s.rekeys ++ [r], tiles := tiles } : State).modLd r.iface r.ld (fun d => { d with bg := some 0xC013 })
  let s := (((s.wf (F.CIF_REKEY_compartment r.slot) r.comp).wf (F.CIF_REKEY_active r.slot) 1).wf (F.CIF_REKEY_permille r.slot) 0).wf (F.CIF_REKEY_KEY_key r.slot) r.new
  s.rekeyEvent r
/-- Start Re-key, once its right is held (R350). -/
def State.startRekey (s : State) (iface ld : Nat) (b : Bytes) : Answer :=
  let comp := getLe b 0 2
  let start := getLe b 4 4
  let count := getLe b 8 4
  let new := getLe b 12 4
  if b.length != 16 || !allZero (slice b 2 2) || decide (2 ^ 20 ≤ new) then answer .invalidInput s
  else
    let old := match s.served comp with | some c => s.effKey c start | none => new
    if !s.keyCovered iface new || !s.keyCovered iface old then answer .invalidSecurityState (s.deny iface 0xC013 .keyAdmin)
    else
      let st := s.rekeyStatus iface ld comp start count new
      if st ≠ 0 then ⟨.success, rekeyOutput st 0, s⟩
      else if (s.ld iface ld).bg.isSome then answer .busy s
      else
        let k := (s.freeRekey).getD 0
        ⟨.background, rekeyOutput 0 k, s.rekeyBegin ⟨k, comp, start, count, old, new, iface, ld⟩⟩
/-- START_REKEY (R350). -/
def execStartRekey (iface ld : Nat) (input : Bytes) (s : State) : Host.Outcome State Fault Refusal :=
  .next (s.command iface ld 0xC013 (some .keyAdmin) (fun s => s.startRekey iface ld input))

/-- Progress of the lowest tile in permille (R346, R351). -/
def State.rekeyProgress (s : State) (r : Rekey) : Nat :=
  each s.tileList 1000 (fun m t => if s.rekeyLines r t = 0 then m else min m (1000 * tgetD (s.tile t).bounds r.slot 0 / s.rekeyLines r t))
/-- The boundary passes a line; it is persisted after each 64 MiB passed (R348). -/
def State.passLine (s : State) (t : Nat) (r : Rekey) : State :=
  let n := tgetD (s.tile t).bounds r.slot 0 + 1
  let s := s.modTile t (fun x => { x with bounds := tput x.bounds r.slot n, boundsSaved := if n % 2 ^ 20 = 0 then tput x.boundsSaved r.slot n else x.boundsSaved })
  s.wf (F.CIF_REKEY_permille r.slot) (s.rekeyProgress r)
/-- The line enters the catch and leaves the tile cache (R347 step 4). -/
def State.rekeyPut (s : State) (t : Nat) (c : Comp) (line : Nat) (l : Line) : State :=
  ((s.modTile t (fun x => x.uncache line)).catchPut t line c.id l false 7).countTile t 117 [c.id]
/-- The poisoned line under the new generation (R282, R347). -/
def State.rekeyPoison (s : State) (t : Nat) (c : Comp) (ref : LeafRef) (line gen : Nat) : Line :=
  let w := lineMeta (s.poisonFor t c ref line)
  poisonLine (metaMinor w) (metaFormat w) gen
/-- Steps 1 to 4 for a line (R347). -/
def State.rekeyLine (s : State) (t : Nat) (c : Comp) (r : Rekey) (ref : LeafRef) (line : Nat) : State :=
  let new := s.slot r.new
  let gen : Option Nat := match s.present t ref line c.format with | .media m _ _ => some (metaGen (lineMeta m)) | _ => none
  let zeros := match s.present t ref line c.format with | .zeros => true | _ => false
  if zeros || gen == some new.gen then s
  else match s.engineRead c ref line 7 false with
    | (.data d, s) => s.rekeyPut t c line (cipherLine c new.key new.gen line ((s.major c ref.tile ref.rank).getD 0) ((s.storedMinor t ref line).getD 0xFFFF) d)
    | (_, s) => (s.rekeyPut t c line (s.rekeyPoison t c ref line new.gen)).poisonAdd line false
/-- REKEY_LINE (R347): the next line of the range on its home tile, by the tile that serves it; not while that tile's steward restarts (R18), the tile is braced, while a host access holds the line, or while the catch has no room. -/
def execRekeyLine (tile slot : Nat) (upsets : List Upset) (s : State) : Host.Outcome State Fault Refusal :=
  .next (s.onAwake tile fun s => match s.rekeys.find? (fun r => r.slot == slot) with
    | none => s
    | some r =>
      let n := tgetD (s.tile tile).bounds slot 0
      match s.served r.comp with
      | none => s
      | some c =>
        if s.rekeyLines r tile ≤ n then s
        else
          let ref : LeafRef := ⟨r.comp, tile, s.rekeyFirst r tile + n / 64⟩
          let line := s.lineOfLeaf ref + n % 64
          let t := s.server tile
          if s.coreAway (t + 1) || s.rb (F.MSC_WR_STAT_braced t) || !s.admits t line || s.reqs.any (fun q => q.atTile && q.line == line) then s
          else ((s.meetAt line 7 c ref upsets).rekeyLine t c r ref line).passLine tile r)

/-- The parts of an overlay run outside a range of slices. -/
def OverRun.cut (o : OverRun) (comp start count : Nat) : List OverRun :=
  if o.comp != comp || decide (o.start + o.count ≤ start) || decide (start + count ≤ o.start) then [o]
  else
    (if o.start < start then [{ o with count := start - o.start }] else []) ++
    (if start + count < o.start + o.count then [{ o with start := start + count, count := o.start + o.count - (start + count) }] else [])
/-- The overlay with a new run (R345). -/
def overlayPut (l : List OverRun) (r : Rekey) : List OverRun := (l.map (fun o => o.cut r.comp r.start r.count)).flatten ++ [⟨r.comp, r.start, r.count, r.new⟩]
/-- A re-key's record is cleared: the overlay run, the boundaries and the register (R349). -/
def State.rekeyFinish (s : State) (r : Rekey) : State :=
  let tiles := s.tiles.map (fun x => { x with bounds := tdel x.bounds r.slot, boundsSaved := tdel x.boundsSaved r.slot })
  let s : State := { s with overlay := overlayPut s.overlay r, rekeys := s.rekeys.filter (fun p => p.slot != r.slot), tiles := tiles }
  (s.wf (F.CIF_REKEY_active r.slot) 0).rekeyEvent r
/-- Runs the overlay holds (R345). A re-key whose run finds no room there does not end until a commit drops runs (log 164). -/
def overlayMost : Nat := 16384
/-- REKEY_END (R349). -/
def execRekeyEnd (slot : Nat) (s : State) : Host.Outcome State Fault Refusal :=
  .next (match s.rekeys.find? (fun r => r.slot == slot) with
    | none => s
    | some r =>
      if s.tileList.all (fun t => decide (s.rekeyLines r t ≤ tgetD (s.tile t).bounds slot 0)) && decide ((overlayPut s.overlay r).length ≤ overlayMost) then
        (s.rekeyFinish r).endBackground r.iface r.ld 0xC013 .success (rekeyOutput 0 slot)
      else s)

/-! ## Re-rooting (R341) -/

/-- A twig's major counters, when it is in the counter cache or a copy of it decodes; all zero where it was never written. -/
def State.twigRead (s : State) (c : Comp) (t i : Nat) : Option (List Nat) :=
  match (s.tile t).node c.id 0 i with
  | some v => some v
  | none => match tget (s.tile t).store (c.id, 0, i) with
    | none => some zeroVals
    | some (v, _) =>
      let ok (k : Nat) : Bool :=
        let p := s.structSpot t (.node c.id 0 i) k
        match s.stripeRead p.1 p.2 [4] with | .lost => false | _ => true
      if ok 0 || ok 1 then some v else none
/-- What a re-root has done: nodes rebuilt, lines poisoned. -/
structure Rerooted where
  state : State
  nodes : Nat
  lines : Nat
/-- The lines of a leaf below the node: all that are mapped poisoned where its twig is lost, else those that fail their tag (R341 steps 2 and 3). -/
def Rerooted.leaf (a : Rerooted) (t : Nat) (c : Comp) (rank : Nat) (lost : Bool) : Rerooted :=
  let r : LeafRef := ⟨c.id, t, rank⟩
  each (upto 64) a (fun a j =>
    let s := a.state
    let v := s.server t
    let line := s.lineOfLeaf r + j
    let s := match s.whereIs r j with | .spot x m _ => s.chargeRead x m false 8 [c.id] | _ => s
    let bad := match s.present v r line c.format with
      | .zeros => false
      | .media l _ _ => lost || (match s.openLine c r line l with | .badTag => true | _ => false)
      | _ => lost
    if bad then ⟨(s.catchPut v line c.id (s.poisonFor v c r line) false 8).poisonAdd line false, a.nodes, a.lines + 1⟩ else ⟨s, a.nodes, a.lines⟩)
/-- A twig's counters are put in the counter cache. -/
def State.putTwig (s : State) (c : Comp) (t i : Nat) (vals : List Nat) : State :=
  s.modTile t (fun x => { x with nodes := x.nodes.filter (fun n => !(n.comp == c.id && n.level == 0 && n.idx == i)) ++ [⟨c.id, 0, i, vals, true⟩] })
/-- A node is written with a new version (R341 step 4): a bole's version goes to the taproot, another node's copies to the medium. -/
def State.writeNode (s : State) (c : Comp) (t level idx : Nat) (vals : List Nat) : State × Nat :=
  let r := if c.integrity == 0 then (s, 1) else s.takeCounter t c.id
  let s := r.1.modTile t (fun x => { x with badNodes := x.badNodes.filter (· != (c.id, level, idx)) })
  if c.integrity != 0 && decide (s.depthOf c t ≤ level) then
    let s := s.modTile t (fun x => { (x.dirtyMap (.node c.id level 0)) with boles := tput x.boles c.id vals, bolesChanged := x.bolesChanged.filter (· != c.id), store := tput x.store (c.id, level, 0) (vals, r.2) })
    ({ s with roots := tput s.roots c.id ((tgetD s.roots c.id zeroVals).set t r.2) }, r.2)
  else
    let s := s.modTile t (fun x => { x with store := tput x.store (c.id, level, idx) (vals, r.2), nodes := x.nodes.map (fun n => if n.comp == c.id && n.level == level && n.idx == idx then { n with vals := vals, dirty := false } else n) })
    (s.structWrite t (.node c.id level idx), r.2)
/-- A subtree is rebuilt from its twigs (R341). -/
def Rerooted.node (a : Rerooted) (c : Comp) (t leaves : Nat) : Nat → Nat → Rerooted × Nat
  | 0, i =>
    let known := a.state.twigRead c t i
    let ranks := (upto 8).filter (fun k => decide (8 * i + k < leaves))
    let fresh := each ranks (a.state, known.getD zeroVals) (fun (p : State × List Nat) k =>
      if known.isSome then p else (let q := p.1.takeCounter t c.id; (q.1, p.2.set k q.2)))
    let s := fresh.1.putTwig c t i fresh.2
    let a := each ranks (⟨s, a.nodes, a.lines⟩ : Rerooted) (fun a k => a.leaf t c (8 * i + k) known.isNone)
    let w := a.state.writeNode c t 0 i fresh.2
    (⟨w.1, a.nodes + 1, a.lines⟩, w.2)
  | l + 1, i =>
    let kids := (upto 8).filter (fun k => decide ((8 * i + k) * 8 ^ (l + 1) < leaves))
    let r := each kids (a, zeroVals) (fun (p : Rerooted × List Nat) k => let q := p.1.node c t leaves l (8 * i + k); (q.1, p.2.set k q.2))
    let w := r.1.state.writeNode c t (l + 1) i r.2
    (⟨w.1, r.1.nodes + 1, r.1.lines⟩, w.2)
/-- The parent chain takes the new version, up to the taproot (R341 step 4). -/
def State.chainUp (s : State) (c : Comp) (t : Nat) : Nat → Nat → Nat → Nat → State
  | 0, _, _, _ => s
  | fuel + 1, level, idx, v =>
    if c.integrity == 0 || decide (s.depthOf c t ≤ level) then s
    else
      let vals := ((s.nodeVals c t (level + 1) (idx / 8)).getD zeroVals).set (idx % 8) v
      let w := s.writeNode c t (level + 1) (idx / 8) vals
      w.1.chainUp c t fuel (level + 1) (idx / 8) w.2
/-- The unverifiable nodes of a compartment on a tile, highest first. -/
def State.badOf (s : State) (comp t : Nat) : List (Nat × Nat) :=
  (((upto 16).reverse).map (fun l => (((s.tile t).badNodes.filter (fun b => b.1 == comp && b.2.1 == l)).map (fun (b : Nat × Nat × Nat) => (b.2.1, b.2.2))))).flatten
/-- The tiles a re-root covers (R351). -/
def State.rerootTiles (s : State) : List Nat :=
  if s.rb F.CIF_REROOT_CTRL_all_tiles then s.tileList else [s.rf F.CIF_REROOT_CTRL_tile]
def State.rerootLeft (s : State) : Bool := s.rerootTiles.any (fun t => !(s.badOf (s.rf F.CIF_REROOT_CTRL_compartment) t).isEmpty)
/-- REROOT (R341, R351): a write of CIF_REROOT_CTRL with go = 1. -/
def execReroot (iface value : Nat) (s : State) : Host.Outcome State Fault Refusal :=
  .next (s.regWrite iface F.CIF_REROOT_CTRL_go.addr .reRoot (!s.rb F.CIF_REROOT_STAT_busy) (fun s =>
    if s.rb F.CIF_REROOT_STAT_busy then s
    else if !s.covers iface .reRoot (bits value 11 0) then s.deny iface F.CIF_REROOT_CTRL_go.addr .reRoot
    else
      let s := (((s.wf F.CIF_REROOT_CTRL_compartment (bits value 11 0)).wf F.CIF_REROOT_CTRL_tile (bits value 14 12)).wf F.CIF_REROOT_CTRL_all_tiles (bits value 15 15)).wf F.CIF_REROOT_STAT_poisoned 0
      if s.rerootLeft then ((s.wf F.CIF_REROOT_CTRL_go 1).wf F.CIF_REROOT_STAT_busy 1).wf F.CIF_REROOT_STAT_outcome 0
      else s.wf F.CIF_REROOT_STAT_outcome 2))
/-- A tile's unverifiable nodes of a compartment are re-rooted, the highest first; a node below one that was rebuilt is rebuilt with it. -/
def State.rerootTile (s : State) (c : Comp) (t : Nat) : Rerooted :=
  let leaves := (s.patternOf c).leafCount (c.size * 0x200000) t
  each (s.badOf c.id t) (⟨s, 0, 0⟩ : Rerooted) (fun a b =>
    if (a.state.tile t).badNodes.contains (c.id, b.1, b.2) then
      let s := a.state.loadPath c t (b.2 * 8 ^ (b.1 + 1)) 8 (a.state.lineOfLeaf ⟨c.id, t, b.2 * 8 ^ (b.1 + 1)⟩)
      let r := (⟨s, a.nodes, a.lines⟩ : Rerooted).node c t leaves b.1 b.2
      ⟨r.1.state.chainUp c t 16 b.1 b.2 r.2, r.1.nodes, r.1.lines⟩
    else a)
/-- REROOT_DONE (R341, R351): the re-root of a tile ends, with its heartwood record; the last one of its scope ends the operation. -/
def execRerootDone (tile : Nat) (s : State) : Host.Outcome State Fault Refusal :=
  .next (
    let comp := s.rf F.CIF_REROOT_CTRL_compartment
    if !s.rb F.CIF_REROOT_STAT_busy || !s.rerootTiles.contains tile || (s.badOf comp tile).isEmpty then s
    else
      let before := (s.badOf comp tile).length
      let a : Rerooted := match s.served comp with
        | some c => s.rerootTile c tile
        | none => ⟨s.modTile tile (fun x => { x with badNodes := x.badNodes.filter (fun b => b.1 != comp) }), 0, 0⟩
      let s := a.state
      let s := s.wf F.CIF_ROOT_STAT_unverifiable (s.rf F.CIF_ROOT_STAT_unverifiable - (before - (s.badOf comp tile).length))
      let s := ({ s with rerooted := if s.rerooted.contains comp then s.rerooted else s.rerooted ++ [comp] } : State).incSat F.CIF_REROOT_STAT_poisoned a.lines
      let s := s.raise 0x0502 (le 2 comp ++ le 1 tile ++ le 4 a.nodes ++ le 4 a.lines) [comp]
      if s.rerootLeft then s
      else ((s.wf F.CIF_REROOT_STAT_busy 0).wf F.CIF_REROOT_CTRL_go 0).wf F.CIF_REROOT_STAT_outcome 1)

/-! ## The sealed taproots (R333, R343, R344) -/

/-- Seven-byte counters of a record, then its bound and flags (R343). -/
def SealSet.record (x : SealSet) (comp : Nat) : Bytes := nodeCounters (fitVals (tgetD x.roots comp [])) ++ le 7 (tgetD x.bounds comp 0) ++ le 1 (tgetD x.flags comp 0)
where fitVals (l : List Nat) : List Nat := (l ++ zeroVals).take 8
/-- The bytes of a sealed set: header line, 4,096 taproot records, sixteen re-key records (R343). -/
def SealSet.bytes (x : SealSet) : Bytes :=
  fit 64 ([0x54#8, 0x41#8, 0x50#8, 0x52#8] ++ le 8 x.gen ++ le 4 x.pwrcyc ++ le 4 x.opsec) ++ ((upto 4096).map x.record).flatten ++ x.rekeys
def SealSet.digest (x : SealSet) : BitVec 256 := Config.sha256 x.bytes
/-- A re-key record: the command's fields, and the persisted boundary of each tile (R348). -/
def State.rekeyRecord (s : State) (k : Nat) : Bytes :=
  match s.rekeys.find? (fun r => r.slot == k) with
  | some r => fit 64 (le 2 r.comp ++ le 4 r.start ++ le 4 r.count ++ le 4 r.old ++ le 4 r.new ++ ((upto 8).map (fun t => le 5 (tgetD (s.tile t).boundsSaved k 0))).flatten)
  | none => zeros 64
/-- The set with the highest generation. -/
def newestSet (l : List SealSet) : Option SealSet := each l none (fun m x => match m with | some y => if y.gen < x.gen then some x else m | none => some x)
/-- The set the device goes by: the one the committed digest names, or the newest (R344). -/
def State.acceptedSet (s : State) : Option SealSet :=
  match s.glade.committed with
  | some d => (match (newestSet s.sealBay).filter (fun x => x.digest == d) with
    | some x => some x
    | none => newestSet (s.sealBook.filter (fun x => x.digest == d)))
  | none => newestSet (s.sealBay ++ s.sealBook)
/-- A dirty counter line is written with a new version, and sets its slot in its parent (R336, R343 step 1). -/
def State.sealNode (s : State) (t : Nat) (n : Node) : State :=
  match s.served n.comp with
  | none => s
  | some c =>
    let vals := ((s.tile t).node n.comp n.level n.idx).getD n.vals
    let r := if c.integrity == 0 then (s, 1) else s.takeCounter t c.id
    let s := r.1.modTile t (fun x => { (x.dirtyMap (.node n.comp n.level n.idx)) with store := tput x.store (n.comp, n.level, n.idx) (vals, r.2), nodes := x.nodes.map (fun m => if m.comp == n.comp && m.level == n.level && m.idx == n.idx then { m with dirty := false } else m) })
    if c.integrity == 0 then s else s.setNode c t (n.level + 1) (n.idx / 8) (n.idx % 8) r.2
/-- A changed bole takes a new version, goes to the catch's map line entries, and its version to the taproot (R343 step 2). -/
def State.sealBole (s : State) (t comp : Nat) : State :=
  let r := s.takeCounter t comp
  let level := match s.served comp with | some c => s.depthOf c t | none => 0
  let s := r.1.modTile t (fun x => { (x.dirtyMap (.node comp level 0)) with store := tput x.store (comp, level, 0) (tgetD x.boles comp zeroVals, r.2) })
  { s with roots := tput s.roots comp ((tgetD s.roots comp zeroVals).set t r.2) }
/-- Steps 1 and 2 on a tile (R343): dirty counter lines, from the twigs up, then each changed bole. -/
def State.sealTile (s : State) (t : Nat) : State :=
  let s := each (upto 15) s (fun s l => each ((s.tile t).nodes.filter (fun n => n.dirty && n.level == l)) s (fun s n => s.sealNode t n))
  each (s.tile t).bolesChanged (s.modTile t (fun x => { x with bolesChanged := [] })) (fun s comp => s.sealBole t comp)
/-- The set composed at sealing (R343 step 3). -/
def State.composeSet (s : State) : SealSet :=
  let gen := 1 + ((newestSet (s.sealBay ++ s.sealBook)).map SealSet.gen).getD 0
  ⟨gen, s.glade.pwrcyc, s.glade.opsec, s.roots, s.allocs.map (fun (p : Nat × Nat) => (p.1, p.2 - 1)),
   s.servedComps.map (fun c => (c.id, b2n (s.rerooted.contains c.id) + 2 * b2n (c.integrity != 0))), ((upto 16).map s.rekeyRecord).flatten⟩
/-- Sealing begins (R343 steps 1 to 5): the boundaries are persisted, the set is composed, its digest pending, and the half of the root bay not written last takes it; it is not valid before it is whole. -/
def State.sealTaproots (s : State) : State :=
  let s := each s.tileList s (fun s t => if (s.tile t).held then s else s.sealTile t)
  let s : State := { s with tiles := s.tiles.map (fun x => { x with boundsSaved := x.bounds }) }
  let x := s.composeSet
  (({ s with glade := { s.glade with pendingDigest := some x.digest }, sealing := some x } : State).countHub 42).wf F.CIF_ROOT_STAT_last_seal_ok 0
/-- Sealing ends (R343 steps 5 and 6): the half is whole, and the pending digest is committed. -/
def State.commitSeal (s : State) : State :=
  match s.sealing with
  | none => s
  | some x =>
    let bay := match newestSet s.sealBay with | some y => [y, x] | none => [x]
    ({ s with glade := { s.glade with pendingDigest := none, committed := s.glade.pendingDigest }, sealBay := bay, sealing := none } : State).wf F.CIF_ROOT_STAT_last_seal_ok 1
/-- The allocators continue at the bound plus 1 (R333). -/
def State.resumeAllocs (s : State) (x : Option SealSet) : State :=
  let known (f : SealSet → Nat) : Nat := (x.map f).getD 0
  let highest (comp : Nat) : Nat := each (s.sealBay ++ s.sealBook) 0 (fun m y => max m (tgetD y.bounds comp 0))
  let bound (comp : Nat) : Nat := if s.glade.lost then highest comp + 2 ^ 32 else max (tgetD s.glade.leases comp 0) (known (fun y => tgetD y.bounds comp 0))
  let ids := (s.allocs.map Prod.fst ++ s.glade.leases.map Prod.fst ++ ((s.sealBay ++ s.sealBook).map (fun y => y.bounds.map Prod.fst)).flatten).eraseDups
  ({ s with allocs := ids.map (fun comp => (comp, bound comp + 1)) } : State).wf F.CIF_ROOT_STAT_leap (b2n s.glade.lost)
/-- The content of an accepted set is taken over. -/
def State.takeSet (s : State) (x : SealSet) : State :=
  { s with roots := x.roots, rerooted := (x.flags.filter (fun (p : Nat × Nat) => p.2 % 2 == 1)).map Prod.fst }
/-- Every subtree of every compartment with integrity 1 is unverifiable (R344). -/
def State.allUnverifiable (s : State) : State :=
  each (s.servedComps.filter (fun c => c.cipher == 1 && c.integrity != 0)) s (fun s c => each s.tileList s (fun s t =>
    if (s.patternOf c).leafCount (c.size * 0x200000) t = 0 then s else s.markBad c.id t (s.depthOf c t) 0 16 (s.lineOfLeaf ⟨c.id, t, 0⟩)))
/-- The boles are loaded from the structure lines the replay left (R217, R343): one whose version is not the taproot's is unverifiable (R339), as is one no copy of which is sound. -/
def State.loadBole (s : State) (c : Comp) (t : Nat) : State :=
  let level := s.depthOf c t
  let v := s.rootVersion c.id t
  if (s.patternOf c).leafCount (c.size * 0x200000) t = 0 then s
  else if v = 0 then s.modTile t (fun x => { x with boles := tdel x.boles c.id })
  else
    let r := s.lineSound t (.node c.id level 0) 10
    match r.2, tget (r.1.tile t).store (c.id, level, 0) with
    | true, some (vals, w) => if w = v then r.1.modTile t (fun x => { x with boles := tput x.boles c.id vals }) else r.1.markBad c.id t level 0 16 (s.lineOfLeaf ⟨c.id, t, 0⟩)
    | _, _ => r.1.markBad c.id t level 0 16 (s.lineOfLeaf ⟨c.id, t, 0⟩)
def State.loadBoles (s : State) : State :=
  each (s.servedComps.filter (fun c => c.cipher == 1 && c.integrity != 0)) s (fun s c => each s.tileList s (fun s t => s.loadBole c t))
/-- TAPROOT_ACCEPT (R333, R344). A device that has never sealed a set has none to accept. -/
def execTaprootAccept (s : State) : Host.Outcome State Fault Refusal :=
  .next (if s.rootsAccepted ∨ !s.clocks.imageChecked ∨ !s.wardenUp then s
    else
      let never := s.glade.committed.isNone && s.sealBay.isEmpty && s.sealBook.isEmpty
      let x := if s.glade.lost then newestSet (s.sealBay ++ s.sealBook) else s.acceptedSet
      let inBay := match s.glade.committed, newestSet s.sealBay with | some d, some y => y.digest == d | _, _ => false
      let src := if never then 0 else if s.glade.lost then 2 else if x.isNone || s.glade.committed.isNone then 3 else if inBay then 0 else 1
      let s := (({ s with rootsAccepted := true, sealing := none } : State).wf F.CIF_ROOT_STAT_source src).resumeAllocs x
      let s := match (if src == 3 then none else x) with | some y => (s.takeSet y).loadBoles | none => s
      let s := if src == 3 then s.allUnverifiable else s
      let s := if 2 ≤ src then s.raise 0x0503 (le 1 src) else s
      { s with clocks := { s.clocks with taprootsAccepted := true }, glade := { s.glade with lost := false } })
/-- The accepted set is written into the seedbank, beside the one written before it (R344). -/
def State.saveSealed (s : State) : State :=
  match s.acceptedSet with
  | some x => if s.sealBook.contains x then s else { s with sealBook := (match newestSet s.sealBook with | some y => [y, x] | none => [x]) }
  | none => s
/-- SEALED_SET_SAVE (R344). -/
def execSealedSetSave (s : State) : Host.Outcome State Fault Refusal := .next (if !s.rootsAccepted then s else s.saveSealed)

end Sys2Proof.Machine
end

