-- ==== Sys2Proof/Machine/Rights0.lean ====
section
/-! DEFINITION. What rights, images, firmware and host ports share: signatures and digests, resets of an interface, firmware slots and measurements, transfers aborted, the epoch floor (03, 11, 14). -/
namespace Sys2Proof.Machine

/-- Signature lengths of the parameter sets (R88, R360). -/
def sigLength (set : Nat) : Nat := if set = 1 then 7856 else if set = 2 then 16224 else if set = 3 then 29792 else 0

/-- The bytes of a 64-byte key that a set uses (R102, R369). -/
def keyOf (set : Nat) (b : Bytes) : Bytes := b.take (if set = 1 then 32 else if set = 2 then 48 else 64)

/-- A SHA-256 digest as 32 bytes, most significant byte first, as FIPS 180-4 prints it. -/
def digestBytes (d : BitVec 256) : Bytes := (le 32 d.toNat).reverse

/-- The key id of a public key (R369): the first 8 bytes of SHA-256 over it, as a little-endian number. -/
def keyIdOf (key : Bytes) : Nat := ofLe ((digestBytes (Config.sha256 key)).take 8)

/-- Range pairs of w bytes each half. -/
def readRanges (b : Bytes) (off w n unused : Nat) : List (Nat × Nat) :=
  ((upto n).map (fun i => (getLe b (off + 2 * w * i) w, getLe b (off + 2 * w * i + w) w))).filter (fun p => p.1 != unused)

/-- A new challenge is drawn for an interface (R362). -/
def State.newChallenge (s : State) (iface : Nat) : State :=
  { s with rights := { s.rights with challenge := tput s.rights.challenge iface ((Config.drbg s.freeCtr).setWidth 128) }, freeCtr := s.freeCtr + 1 }

/-- Every held warrant of an interface is dropped (R365). -/
def State.dropWarrants (s : State) (iface : Nat) : State := { s with rights := { s.rights with held := tdel s.rights.held iface } }

/-- The resets of an interface that R365 and R362 name: its warrants fall, a new challenge is drawn, its trace stops (R413). -/
def State.resetInterface (s : State) (iface : Nat) : State :=
  let s := (s.dropWarrants iface).newChallenge iface
  if s.rb F.RLG_TRC_CTRL_enable && s.rf F.RLG_TRC_CTRL_owner == iface then s.stopTrace else s

/-- A slot's bytes. -/
def State.fwSlot (s : State) (i : Nat) : Option Bytes := (s.fw.slots.getD i none)

/-- A component of a firmware image: the warden's, or the stewards' (R436). -/
def fwComponent (b : Bytes) (core : Nat) : Bytes :=
  let off := if core = 0 then 0x28 else 0x38
  slice b (getLe b off 4) (getLe b (off + 4) 4)

/-- The firmware security version in force. -/
def State.fwVersion (s : State) : Nat := ((s.fwSlot (s.rf F.WDN_FW_STAT_active_slot)).map (fun b => getLe b 0x0C 4)).getD 0

/-- A processor's firmware measurement (R436): the digest of the component of the slot it runs; zeros while it runs from ROM. -/
def State.measurement (s : State) (core : Nat) : Bytes :=
  match s.fwSlot (s.fw.running.getD core (s.rf F.WDN_FW_STAT_active_slot)) with
  | some b => digestBytes (Config.sha256 (fwComponent b core))
  | none => zeros 32

/-- A transfer in progress is aborted, its slot left empty (R438). -/
def State.abortFw (s : State) : State :=
  match s.fw.xfer with
  | some _ => ({ s with fw := { s.fw with xfer := none, slots := s.fw.slots.set (1 - s.rf F.WDN_FW_STAT_active_slot) none } }).wf F.WDN_FW_STAT_busy 0
  | none => s

/-- The transferring interface resets (R438). -/
def State.abortFwOf (s : State) (iface : Nat) : State :=
  match s.fw.xfer with
  | some x => if x.iface = iface then s.abortFw else s
  | none => s

/-! ## The parameter store (14, R448 to R452) -/

/-- The areas of R451. -/
inductive PsArea where
  | device | host | owner | legacy | reserved
  deriving DecidableEq, Repr

def psArea (key : Nat) : PsArea :=
  if key < 0x4000 then .device else if key < 0x8000 then .host else if key < 0xC000 then .owner
  else if key < 0xC200 then .legacy else .reserved

/-- The area byte of a record. -/
def PsArea.num : PsArea → Nat
  | .device => 0 | .host => 1 | .owner => 2 | .legacy => 3 | .reserved => 4

/-- Bytes a record takes (R448). -/
def psSize (length : Nat) : Nat := (12 + length + 8 + 15) / 16 * 16

/-- The records of the store, oldest first. -/
def ParamStore.recs (p : ParamStore) : List PsRec := (p.sectors.map PsSector.recs).flatten
/-- The newest record of a key (R448). -/
def ParamStore.newest (p : ParamStore) (key : Nat) : Option PsRec :=
  each (p.recs.filter (fun r => r.key == key)) none (fun m r => match m with
    | some b => if b.gen < r.gen then some r else some b
    | none => some r)

/-- The keys the store holds. -/
def ParamStore.keys (p : ParamStore) : List Nat := (p.recs.map (·.key)).eraseDups

/-- The value of a key, none where it was never written or is deleted; the fall-back holds it once R452 applies. -/
def State.psGet (s : State) (key : Nat) : Option Bytes :=
  match s.glade.fallback with
  | some t => tget t key
  | none => (s.ps.newest key).bind (fun r => if r.deleted then none else some r.value)

/-- Bytes of the newest records (R458 live_bytes). -/
def ParamStore.liveBytes (p : ParamStore) : Nat :=
  (p.keys.map (fun k => ((p.newest k).map (fun r => psSize r.value.length)).getD 0)).sum

/-- Bytes used in a sector, its header included. -/
def psUsed (l : List PsRec) : Nat := 16 + (l.map (fun r => psSize r.value.length)).sum
/-- The head sector has room for a record. -/
def ParamStore.fits (p : ParamStore) (r : PsRec) : Bool :=
  match p.sectors.getLast? with
  | some x => decide (psUsed x.recs + psSize r.value.length ≤ 4096) && !p.failed.contains x.pos
  | none => false
/-- The next sequence number of a sector (R448). -/
def ParamStore.nextSeq (p : ParamStore) : Nat := match p.sectors.getLast? with | some x => (x.seq + 1) % 2 ^ 32 | none => 0
/-- A record in the first of the erased sectors, which becomes the head (R449). -/
def ParamStore.extend (p : ParamStore) (r : PsRec) : ParamStore :=
  match p.erased with
  | e :: rest => { p with sectors := p.sectors ++ [⟨e.1, p.nextSeq, e.2, [r]⟩], erased := rest }
  | [] => p
/-- A record appended at the head, which an erased sector extends (R449). -/
def ParamStore.append (p : ParamStore) (r : PsRec) : ParamStore :=
  if p.fits r then
    match p.sectors.getLast? with
    | some x => { p with sectors := p.sectors.dropLast ++ [{ x with recs := x.recs ++ [r] }] }
    | none => p
  else p.extend r

/-- Bytes of the newest records where the store now stands, and of the newest of a key. -/
def State.psLive (s : State) : Nat :=
  match s.glade.fallback with
  | some t => (t.map (fun (p : Nat × Bytes) => psSize p.2.length)).sum
  | none => s.ps.liveBytes
def State.psHeld (s : State) (key : Nat) : Nat :=
  match s.glade.fallback with
  | some t => ((tget t key).map (fun v => psSize v.length)).getD 0
  | none => ((s.ps.newest key).map (fun r => psSize r.value.length)).getD 0
/-- A value of a key would take the newest records above 48 KiB (R449). -/
def State.psOver (s : State) (key length : Nat) : Bool := decide (49152 < s.psLive - s.psHeld key + psSize length)

/-- WDN_PS_STAT's counts (R458). -/
def State.psStat (s : State) : State :=
  ((s.wf F.WDN_PS_STAT_live_bytes s.psLive).wf F.WDN_PS_STAT_good_sectors (128 - s.ps.failed.length)).wf
    F.WDN_PS_STAT_password_set (b2n (s.psGet 0x0010).isSome)

/-- A write by the device itself of a key of its own area, done at once where a sector has room for it, and shadowed while the fall-back serves (R452). -/
def State.devicePut (s : State) (key : Nat) (value : Option Bytes) : State :=
  match s.glade.fallback with
  | some t =>
    let t := match value with | some v => tput t key v | none => tdel t key
    { s with glade := { s.glade with fallback := some t }, ps := { s.ps with shadow := some t } }
  | none =>
    let g := ((s.ps.newest key).map (·.gen)).getD 0 + 1
    ({ s with ps := s.ps.append ⟨key, g, (psArea key).num, value.isNone, value.getD []⟩ }).psStat

/-- The bytes of a record (R448). -/
def PsRec.bytes (r : PsRec) : Bytes :=
  let b := le 2 r.key ++ le 2 r.value.length ++ le 4 r.gen ++ le 1 r.area ++ le 1 (b2n r.deleted) ++ le 2 0 ++ r.value
  let b := fit (psSize r.value.length - 8) b
  b ++ le 4 (crc32 b) ++ [0xFF#8, 0xFF#8, 0xFF#8, 0x5A#8]
/-- What a reader sees of a record: lease bounds, power-down record, spare base and temperature history have no layout in the spec (R451, R508; log 101). -/
def shownRecord (key : Nat) (v : Bytes) : Bytes :=
  if [0x0001, 0x0002, 0x0003, 0x0005].contains key then Config.deviceRecord key v else v
/-- The bytes of a sector (R448): magic, sequence, erase count, records. -/
def PsSector.bytes (x : PsSector) : Bytes :=
  ascii "PSEC" ++ le 4 x.seq ++ le 4 x.erases ++ List.replicate 4 0xFF#8 ++ (x.recs.map (fun r => ({ r with value := shownRecord r.key r.value } : PsRec).bytes)).flatten

/-! ## Images and ownership -/

/-- The epoch floor in force (R84). -/
def State.epochFloor (s : State) : Nat := if s.glade.lost then s.img.floor else max s.img.floor (s.glade.floorCopy.getD 0)
/-- A live apply or a return to previous runs. -/
def State.applyRunning (s : State) : Bool := s.img.apply.isSome
/-- Work that bars an act of ownership (R370, R372). -/
def State.ownershipBusy (s : State) : Bool := s.applyRunning || !s.rekeys.isEmpty || s.rb F.CIF_REROOT_STAT_busy || s.retiring.isSome
/-- The image slots emptied (R372): the floor stays. -/
def ImgStore.cleared (x : ImgStore) : ImgStore := { x with active := none, prev := none, staged := none, mark := false, xfer := none, checking := none }
/-- A stage transfer is aborted, its slot left empty (R104). -/
def State.abortStage (s : State) : State :=
  match s.img.xfer with
  | some _ => ({ s with img := { s.img with xfer := none, staged := none, mark := false } } : State).wf F.STD_STAT_state 0
  | none => s
/-- The interface whose stage transfer runs resets (R104). -/
def State.abortStageOf (s : State) (iface : Nat) : State :=
  match s.img.xfer with
  | some x => if x.1 = iface then s.abortStage else s
  | none => s
/-- The digest of the sealed set accepted at resume, and of the set as it would be sealed now without its header (R388). -/
def State.acceptedDigest (s : State) : BitVec 256 := match s.acceptedSet with | some x => x.digest | none => 0
def State.sealDigestNow (s : State) : BitVec 256 := Config.sha256 (((each s.tileList s (fun s t => s.sealTile t)).composeSet).bytes.drop 64)

end Sys2Proof.Machine
end

