-- ==== Sys2Proof/Machine/ImageParse.lean ====
section
/-! DEFINITION. The stand image format: reading an image's bytes, and the checks 1 to 18 (03, R86 to R103; 12, R392; 15, R463 to R470). -/
namespace Sys2Proof.Machine

/-- A directory entry: offset and length of a section (R87). -/
def sectionAt (b : Bytes) (ty : Nat) : Option (Nat × Nat) :=
  ((upto 16).map (fun i => 0x40 + 12 * i)).findSome? (fun o => if getLe b o 2 = ty then some (getLe b (o + 4) 4, getLe b (o + 8) 4) else none)

/-- A section's bytes. -/
def sectionBytes (b : Bytes) (ty : Nat) : Bytes :=
  match sectionAt b ty with
  | some (o, l) => slice b o l
  | none => []

/-- The entries of a section of n-byte entries. -/
def entries (b : Bytes) (n : Nat) : List Bytes := (upto (b.length / n)).map (fun i => slice b (n * i) n)

/-- The sequencer program section (15, R463 to R465). -/
def parseProg (b : Bytes) : Prog :=
  { autoOn := getLe b 6 1 % 2 == 1, downStart := getLe b 4 2
    deps := (entries (slice b 16 128) 8).map (fun e => ⟨getLe e 0 2, getLe e 2 1, getLe e 3 1 % 2 == 1, getLe e 4 1, getLe e 5 1, getLe e 6 1⟩)
    steps := (entries (slice b 144 (4 * getLe b 2 2)) 4).map (fun e => ⟨getLe e 0 1, getLe e 1 1, getLe e 2 2⟩) }

/-- The key-slice runs of a compartment entry (R96). -/
def parseRuns (runs : List Bytes) (first count : Nat) : List Run :=
  ((runs.drop first).take count).map (fun e => ⟨getLe e 0 4, getLe e 4 4, getLe e 8 4 % 2 ^ 20⟩)

/-- A compartment entry (R94). -/
def parseComp (runs : List Bytes) (e : Bytes) : Comp :=
  { id := getLe e 0 2, attrs := getLe e 2 2, base := getLe e 4 4, size := getLe e 8 4, ports := getLe e 12 1, ld := getLe e 14 2
    policy := getLe e 16 1, cipher := getLe e 17 1, integrity := getLe e 18 1, bwClass := getLe e 19 1, interleave := getLe e 20 1
    defaultKey := getLe e 24 4 % 2 ^ 20, runs := parseRuns runs (getLe e 28 4) (getLe e 32 4) }

/-- An image as the image parser reads it (R87 to R102). -/
def parseImg (b : Bytes) : Img :=
  let plan := sectionBytes b 2
  let bw := sectionBytes b 5
  let th := sectionBytes b 6
  let runs := entries (sectionBytes b 4) 12
  { bytes := b, epoch := getLe b 0x0C 4, returnFloor := getLe b 0x10 4, flags := getLe b 0x20 4, sigSet := getLe b 0x24 1
    signer := getLe b 0x25 1, keyId := getLe b 0x28 8
    roles := (entries (sectionBytes b 1) 8).map (fun e => ⟨getLe e 0 1, getLe e 1 1, getLe e 2 1, getLe e 3 1⟩)
    chans := (entries (slice plan 0 2048) 2).map ofLe
    groups := (entries (slice plan 0x800 2048) 32).map (fun g => (entries g 2).map ofLe)
    patterns := (entries (slice plan 0x1000 320) 20).map (fun e => ⟨getLe e 0 1, (slice e 2 (getLe e 1 1)).map (·.toNat)⟩)
    comps := (entries (sectionBytes b 3) 48).map (parseComp runs)
    masters := (entries (slice bw 0 44) 4).map (fun e => ⟨getLe e 0 2, getLe e 2 1, getLe e 3 1 % 2 == 1⟩)
    classes := (entries (slice bw 44 64) 4).map (fun e => ⟨0, getLe e 0 1, getLe e 1 1 % 2 == 1⟩)
    refs := (entries (slice th 0 1120) 7).map (fun e => e.map (·.toNat))
    waveforms := (slice th 1120 5).map (·.toNat)
    refresh := (slice th 1125 5).map (·.toNat)
    sensors := (entries (slice th 1132 128) 4).map (fun e => (getLe e 0 1, getLe e 2 2))
    prog := parseProg (sectionBytes b 7)
    rates := (entries (sectionBytes b 8) 8).map (fun e => ⟨getLe e 0 2, getLe e 2 2, getLe e 4 4⟩)
    standings := (entries (sectionBytes b 9) 16).map (fun e => (getLe e 0 1, getLe e 8 8))
    roots := (entries (sectionBytes b 10) 80).map (fun e => ⟨getLe e 0 1, getLe e 1 1, getLe e 8 8, slice e 16 64⟩) }

/-! ## The checks -/

/-- A list strictly rises. -/
def rising : List Nat → Bool
  | a :: b :: t => decide (a < b) && rising (b :: t)
  | _ => true

/-- Check 1 (R87, R103). -/
def headerGood (b : Bytes) : Bool :=
  slice b 0 4 == ascii "STND" && getLe b 4 2 == 1 && getLe b 6 2 == 0x100 && decide (getLe b 0x20 4 < 4) &&
  decide (1 ≤ getLe b 0x24 1 ∧ getLe b 0x24 1 ≤ 3) && allZero (slice b 0x26 2) && allZero (slice b 0x38 8)

/-- Check 2 (R86, R103). -/
def lengthGood (b : Bytes) : Bool :=
  let n := getLe b 8 4
  decide (n ≤ 0x400000) && n % 16 == 0 && decide (256 + sigLength (getLe b 0x24 1) ≤ n) && n == b.length

/-- Section lengths the table of R89 allows. -/
def sectionLength (ty len : Nat) : Bool :=
  match ty with
  | 1 => len == 64
  | 2 => len == 4416
  | 3 => len % 48 == 0 && decide (len ≤ 196608)
  | 4 => len % 12 == 0 && decide (len ≤ 3145728)
  | 5 => len == 108
  | 6 => len == 1260
  | 7 => decide (152 ≤ len ∧ len ≤ 16384) && len % 4 == 0
  | 8 => len % 8 == 0 && decide (len ≤ 8192)
  | 9 => len % 16 == 0 && decide (len ≤ 256)
  | 10 => len % 80 == 0 && decide (len ≤ 640)
  | 11 => decide (len ≤ 65536)
  | _ => false

/-- Check 8 (R87, R89): types once each in ascending order, reserved fields 0, lengths allowed, offsets multiples of 16, no overlap with one another, the header or the signature; an empty section overlaps nothing. -/
def directoryGood (b : Bytes) : Bool :=
  let n := getLe b 0x17 1
  let ents := (upto n).map (fun i => (getLe b (0x40 + 12 * i) 2, getLe b (0x40 + 12 * i + 4) 4, getLe b (0x40 + 12 * i + 8) 4))
  (n == 10 || n == 11) && ents.map (·.1) == (upto n).map (· + 1) && (upto n).all (fun i => allZero (slice b (0x40 + 12 * i + 2) 2)) && allZero (slice b (0x40 + 12 * n) (192 - 12 * n)) &&
  ents.all (fun e => sectionLength e.1 e.2.2 && e.2.1 % 16 == 0 && decide (0x100 ≤ e.2.1 ∧ e.2.1 + e.2.2 + sigLength (getLe b 0x24 1) ≤ b.length)) &&
  ents.all (fun e => ents.all (fun f => e.1 == f.1 || e.2.2 == 0 || f.2.2 == 0 || decide (e.2.1 + e.2.2 ≤ f.2.1 ∨ f.2.1 + f.2.2 ≤ e.2.1)))

/-- Check 9 (R90). -/
def rolesGood (tiles : Nat) (b : Bytes) (i : Img) : Bool :=
  let raw := entries (sectionBytes b 1) 8
  (upto 8).all (fun t =>
    let r := i.roles.getD t ⟨0, 0, 0, 0⟩
    allZero ((raw.getD t []).drop 4) &&
    (if t < tiles then decide (r.role ≤ 1 ∧ r.floor ≤ 3 ∧ r.flags ≤ 1) && (if tiles = 1 then r.nurse == 0xFF else decide (r.nurse < tiles ∧ r.nurse ≠ t))
     else r.role == 0xFF && r.nurse == 0xFF && r.flags == 0xFF && r.floor == 0xFF)) &&
  (upto tiles).any (fun t => (i.roles.getD t ⟨1, 0, 0, 0⟩).role == 0)

/-- A global channel is disabled by the image; its media zone (R91). -/
def Img.chanDisabled (i : Img) (c : Nat) : Bool := hasBit (i.chans.getD c 0xFFFF) 5
def Img.zone (i : Img) (c : Nat) : Nat := i.chans.getD c 0xFFFF % 32
def Pattern.used (p : Pattern) : Bool := !p.tiles.isEmpty

/-- Check 10 (R91, R92). -/
def planGood (tiles cpt : Nat) (b : Bytes) (i : Img) : Bool :=
  let present := (upto 1024).filter (fun c => decide (tileOfChan c < tiles ∧ localChan c < cpt))
  let groups := i.groups.take (tiles * cpt / 16)
  (upto 1024).all (fun c => if tileOfChan c < tiles ∧ localChan c < cpt then decide (i.chans.getD c 0xFFFF < 64) else i.chans.getD c 0 == 0xFFFF) &&
  (i.groups.drop (tiles * cpt / 16)).all (fun g => g.all (· == 0xFFFF)) &&
  present.all (fun c => groups.flatten.count c == 1) && groups.flatten.all present.contains &&
  groups.all (fun g => (upto tiles).all (fun t => (g.filter (fun c => tileOfChan c == t)).length == 16 / tiles) &&
    decide ((g.filter i.chanDisabled).length ≤ 1)) &&
  (entries (slice (sectionBytes b 2) 0x1000 320) 20).all (fun e =>
    allZero (slice e 18 2) && decide (getLe e 1 1 ≤ 16) && (getLe e 1 1 == 0 ||
      (decide (12 ≤ getLe e 0 1 ∧ getLe e 0 1 ≤ 21) && (slice e 2 (getLe e 1 1)).all (fun t => (i.roles.getD t.toNat ⟨1, 0, 0, 0⟩).role == 0))))

/-- The failing compartment of check 11, by its id (R95). -/
def badComp (chans ports : Nat) (b : Bytes) (i : Img) : Option Nat :=
  let raw := entries (sectionBytes b 3) 48
  let bad (n : Nat) (c : Comp) : Bool :=
    let e := raw.getD n []
    decide (4095 < c.id ∨ 24576 * chans < c.base + c.size ∨ c.size = 0 ∨ 2 ^ ports ≤ c.ports ∨ 2 < c.policy ∨ 1 < c.cipher ∨ 1 < c.integrity ∨
      15 < c.bwClass ∨ 15 < c.interleave ∨ 8 ≤ c.attrs ∨ 2 ^ 20 ≤ getLe e 24 4) ||
    (n != 0 && decide (c.id ≤ ((i.comps.getD (n - 1) default).id))) ||
    !allZero (slice e 13 1) || !allZero (slice e 21 3) || !allZero (slice e 36 12) ||
    (c.integrity == 1 && c.cipher == 0) || (c.levelTiming && !c.awake) || (c.cipher == 0 && (c.defaultKey != 0 || getLe e 32 4 != 0)) ||
    (i.classes.getD c.bwClass ⟨0, 0, false⟩).weight == 0 || !(i.patterns.getD c.interleave ⟨0, []⟩).used ||
    ((upto i.comps.length).any (fun m => m != n && (let d := i.comps.getD m default; decide (c.base < d.base + d.size ∧ d.base < c.base + c.size))))
  ((upto i.comps.length).find? (fun n => bad n (i.comps.getD n default))).map (fun n => (i.comps.getD n default).id)

/-- The failing compartment of check 12 (R96); 0xFFFF for a run no compartment names. -/
def badSlice (b : Bytes) (i : Img) : Option Nat :=
  let raw := entries (sectionBytes b 3) 48
  let runsRaw := entries (sectionBytes b 4) 12
  let bad (n : Nat) (c : Comp) : Bool :=
    let e := raw.getD n []
    let first := getLe e 28 4
    let cnt := getLe e 32 4
    decide (cnt ≠ 0 ∧ runsRaw.length < first + cnt) ||
    ((runsRaw.drop first).take cnt).any (fun r => decide (2 ^ 20 ≤ getLe r 8 4)) ||
    c.runs.any (fun r => r.count == 0 || decide (c.size < r.start + r.count)) ||
    (upto (c.runs.length - 1)).any (fun k => (let r := c.runs.getD k default; let q := c.runs.getD (k + 1) default; decide (q.start < r.start + r.count)))
  match (upto i.comps.length).find? (fun n => bad n (i.comps.getD n default)) with
  | some n => some (i.comps.getD n default).id
  | none => if runsRaw.any (fun r => getLe r 4 4 == 0 || decide (2 ^ 20 ≤ getLe r 8 4)) then some 0xFFFF else none

/-- Check 13 (R97, R392): entries well-formed and the guarantees within 80 % of the nominal capacity of the tile with the fewest enabled channels. -/
def bandwidthGood (tiles cpt : Nat) (b : Bytes) (i : Img) : Bool :=
  let bw := sectionBytes b 5
  let enabled (t : Nat) : Nat := ((upto cpt).filter (fun c => !i.chanDisabled (globalChan t c))).length
  (entries (slice bw 0 44) 4).all (fun e => decide (getLe e 2 1 ≠ 0 ∧ getLe e 3 1 ≤ 1)) &&
  (entries (slice bw 44 64) 4).all (fun e => decide (getLe e 1 1 ≤ 1) && allZero (slice e 2 2)) &&
  (upto tiles).all (fun t => decide ((i.masters.map (·.guarantee)).sum ≤ 12 * enabled t * 8 / 10))

/-- The refresh limits of R48 by band. -/
def refreshLimit (band : Nat) : Nat := [29, 26, 24, 22, 19].getD band 19

/-- Check 14 (R98). -/
def thermalGood (b : Bytes) (i : Img) : Bool :=
  let th := sectionBytes b 6
  i.refs.all rising && i.waveforms.all (fun w => decide (w ≤ 4)) &&
  (upto 5).all (fun n => decide (i.refresh.getD n 0 ≤ refreshLimit n)) && allZero (slice th 1130 2) &&
  (entries (slice th 1132 128) 4).all (fun e => (getLe e 0 1 == 0 || getLe e 0 1 == 1 || getLe e 0 1 == 0xFF) && allZero (slice e 1 1)) &&
  i.chans.all (fun c => c == 0xFFFF || (i.sensors.getD (c % 32) (0xFF, 0)).1 != 0xFF)

/-- The dependency relation has no cycle among the rails that still have one: rails whose deps are all cleared are cleared, round by round (R469). -/
def depsClear (deps : List DepEntry) : Nat → List Nat → List Nat
  | 0, done => done
  | n + 1, done => depsClear deps n ((upto 16).filter (fun r => done.contains r ||
      (upto 16).all (fun j => !hasBit ((deps.getD r default).deps) j || done.contains j)))

/-- Rails a step names that the member must have (R469). -/
def requiredRails (tiles : Nat) : List Nat := [1, 10, 11, 12, 13, 14, 15] ++ (upto tiles).map (· + 2)

/-- A step of the sequencer program is well-formed (R465, R469). -/
def stepGood (p : Prog) (n : Nat) (st : SeqStep) : Bool :=
  let last := p.steps.length - 1
  let sectionEnd := if n < p.downStart then p.downStart else p.steps.length
  let mode (r : Nat) : Nat := (p.deps.getD r default).mode
  match st.op with
  | 0x01 => decide (1 ≤ st.a ∧ st.a ≤ 15) && st.b == 0 && mode st.a == 2
  | 0x02 => decide (1 ≤ st.a ∧ st.a ≤ 15) && st.b == 0 && mode st.a != 0
  | 0x03 => st.a == 0 && decide (1 ≤ st.b)
  | 0x04 => decide (2 ≤ st.a) && !(st.a % 2 == 0 && st.b % 2 == 1)
  | 0x05 =>
    let c := bits st.a 5 4
    let r := bits st.a 3 0
    decide (st.a < 64 ∧ c ≠ 3 ∧ n < st.b ∧ st.b < sectionEnd) && (if c = 0 then r == 0 else r != 0)
  | 0x06 => st.a == 0 && st.b == 0
  | 0x07 => decide (1 ≤ st.a ∧ 1 ≤ st.b ∧ st.b ≤ 8191)
  | 0x0F => st.a == 0 && st.b == 0 && (n == p.downStart - 1 || n == last)
  | _ => false

/-- Check 15 (R469). -/
def progGood (tiles : Nat) (b : Bytes) (p : Prog) : Bool :=
  let n := getLe b 2 2
  let dep (r : Nat) : DepEntry := p.deps.getD r default
  let raw (r : Nat) : Bytes := slice b (16 + 8 * r) 8
  let isEnd (k : Nat) : Bool := (p.steps.getD k default).op == 0x0F
  let syncs (l : List SeqStep) : List Nat := (l.filter (fun x => x.op == 0x07)).map (·.b)
  let waits := (((p.steps.take p.downStart).filter (fun x => x.op == 0x03)).map (·.b)).sum
  let req := (upto 16).filter (fun r => (dep r).required)
  getLe b 0 2 == 1 && decide (2 ≤ n ∧ n ≤ 4060 ∧ 1 ≤ p.downStart ∧ p.downStart ≤ n - 1) && b.length == 144 + 4 * n &&
  decide (getLe b 6 1 ≤ 1) && allZero (slice b 7 9) && isEnd (p.downStart - 1) && isEnd (n - 1) &&
  (upto n).all (fun k => stepGood p k (p.steps.getD k default)) &&
  allZero (raw 0) && (upto 16).all (fun r => if (dep r).mode = 0 then allZero (raw r)
    else decide ((dep r).mode ≤ 2 ∧ 1 ≤ (dep r).onTimeout ∧ 1 ≤ (dep r).discharge ∧ getLe (raw r) 3 1 ≤ 1) && allZero (slice (raw r) 7 1) &&
      (upto 16).all (fun j => !hasBit (dep r).deps j || (dep j).mode != 0)) &&
  (depsClear p.deps 16 []).length == 16 &&
  (requiredRails tiles).all (fun r => (dep r).mode != 0 && (dep r).required) &&
  (upto 8).all (fun t => decide (t < tiles) || (dep (t + 2)).mode == 0) &&
  rising (syncs (p.steps.take p.downStart)) && rising (syncs (p.steps.drop p.downStart)) &&
  decide ((req.map (fun r => 10 * (dep r).onTimeout + (dep r).settle)).sum + waits ≤ 6000)

/-- Check 16 (R100). -/
def ratesGood (i : Img) : Bool :=
  rising (i.rates.map (·.code)) && i.rates.all (fun r => decide (1 ≤ r.count ∧ 1 ≤ r.window ∧ r.window ≤ 86400))

/-- Check 17 (R101, R355). -/
def standingsGood (b : Bytes) (i : Img) : Bool :=
  (entries (sectionBytes b 9) 16).all (fun e => allZero (slice e 1 7)) &&
  (i.standings.map (·.1)).Nodup && i.standings.all (fun p => decide (p.1 < 8 ∧ p.2 < 2 ^ 29) &&
    allRights.all (fun r => !hasBit p.2 r.bit || ceiling r (ifClass p.1) == .base || ceiling r (ifClass p.1) == .standing))

/-- Check 18 (R102). -/
def rootsGood (b : Bytes) (i : Img) : Bool :=
  (entries (sectionBytes b 10) 80).all (fun e => allZero (slice e 2 6)) &&
  (i.roots.map (·.num)).Nodup && i.roots.all (fun r => decide (1 ≤ r.set ∧ r.set ≤ 3 ∧ r.num < 8) &&
    r.keyId == keyIdOf (keyOf r.set r.key) && allZero (r.key.drop (keyOf r.set r.key).length))

/-- Which image a check is run on: the staged one; the Active one at resume; the Previous one, at resume or for a return, with the return floor it is held against (R103 check 7). -/
inductive CheckOf where
  | staged
  | active
  | previous (floor : Nat)
  deriving DecidableEq, Repr

/-- The result of the checks 3 to 4 and 8 to 18, given the member, on an image whose header and length are good; check 5 to 7 are the caller's (code, detail). -/
def contentResult (m : Member) (b : Bytes) (i : Img) : Nat × Nat :=
  if !directoryGood b then (0x08, 0xFFFF)
  else if !rolesGood m.tiles b i then (0x09, 0xFFFF)
  else if !planGood m.tiles m.cpt b i then (0x0A, 0xFFFF)
  else match badComp (m.tiles * m.cpt) m.ports b i with
  | some id => (0x0B, id)
  | none => match badSlice b i with
  | some id => (0x0C, id)
  | none =>
    if !bandwidthGood m.tiles m.cpt b i then (0x0D, 0xFFFF)
    else if !thermalGood b i then (0x0E, 0xFFFF)
    else if !progGood m.tiles (sectionBytes b 7) i.prog then (0x0F, 0xFFFF)
    else if !ratesGood i then (0x10, 0xFFFF)
    else if !standingsGood b i then (0x11, 0xFFFF)
    else if !rootsGood b i then (0x12, 0xFFFF)
    else (0x00, 0xFFFF)

/-- The public key a signer and key id stand for, where the lifecycle state accepts it (R366, R371, R375): the vendor image keys in Manufacture and Unowned, the owner image key in Owned; for the Active and Previous images also the key recorded at their commit, unless it is a revoked vendor key. -/
def State.imageKey (s : State) (what : CheckOf) (slot : Option ImgSlot) (i : Img) : Option Bytes :=
  let vendor : Option Bytes := (upto 4).findSome? (fun n =>
    if !s.fuses.revoked.contains (4 + n) && Config.vendorKeySet 1 n == i.sigSet && keyIdOf (Config.vendorKey 1 n) == i.keyId then some (Config.vendorKey 1 n) else none)
  let owner : Option Bytes := s.rights.ownerSet.bind (fun r =>
    let k := keyOf (getLe r 4 1) (slice r 8 64)
    if getLe r 4 1 = i.sigSet ∧ keyIdOf k = i.keyId then some k else none)
  let now : Option Bytes :=
    if s.lifecycle ≤ 1 then (if i.signer = 0 then vendor else none)
    else if s.lifecycle = 2 then (if i.signer = 1 then owner else none) else none
  match what with
  | .staged => now
  | _ => match now with
    | some k => some k
    | none => if s.lifecycle = 3 then none else slot.bind (fun x =>
        if x.signer = i.signer ∧ x.keyId = i.keyId ∧ (i.signer ≠ 0 ∨ vendor.isSome) then some x.key else none)

/-- Checks 1 to 18 of R103 on an image: its result code and detail, and the key that verified it. -/
def State.checkImage (s : State) (what : CheckOf) (slot : Option ImgSlot) (b : Bytes) : Nat × Nat × Bytes :=
  let i := parseImg b
  let m := s.dev.member
  if !headerGood b then (0x01, 0xFFFF, [])
  else if !lengthGood b then (0x02, 0xFFFF, [])
  else if getLe b 0x14 1 ≠ m.tiles ∨ getLe b 0x15 1 ≠ m.cpt ∨ getLe b 0x16 1 ≠ m.ports then (0x03, 0xFFFF, [])
  else if getLe b 0x18 8 ≠ 0 ∧ getLe b 0x18 8 ≠ s.dev.serial then (0x04, 0xFFFF, [])
  else match s.imageKey what slot i with
  | none => (0x05, 0xFFFF, [])
  | some k =>
    let cut := b.length - sigLength i.sigSet
    if !Config.slhVerify i.sigSet k (ascii "ELVELM-STAND-V1") (b.take cut) (b.drop cut) then (0x06, 0xFFFF, [])
    else if (match what with
      | .staged => decide (i.epoch ≤ s.epochFloor) || i.epoch == 0 || i.epoch == 0xFFFFFFFF
      | .active => false
      | .previous f => decide (i.epoch < f)) then (0x07, 0xFFFF, [])
    else let r := contentResult m b i; (r.1, r.2, k)

end Sys2Proof.Machine
end

