-- ==== Sys2Proof/Machine/Rights.lean ====
section
/-! DEFINITION. Warrants, the acts of ownership and decommission, and the attestation report (11). -/
namespace Sys2Proof.Machine

/-- The fields of a warrant's 128 bytes (R360). -/
def parseWarrant (b : Bytes) : Warrant :=
  { sigSet := getLe b 5 1, signer := getLe b 6 1, root := getLe b 7 1, subject := getLe b 8 1, flags := getLe b 9 1
    rights := getLe b 16 8, serial := getLe b 24 8, notBefore := getLe b 32 4, notAfter := getLe b 36 4
    pcFirst := getLe b 40 4, pcLast := getLe b 44 4, nonce := slice b 48 16, comps := readRanges b 64 2 4 0xFFFF
    keys := readRanges b 80 4 4 0xFFFFFFFF, object := slice b 112 16 }

def Warrant.nonceBound (w : Warrant) : Bool := w.flags % 2 == 1
def Warrant.replace (w : Warrant) : Bool := (w.flags / 2) % 2 == 1
def Warrant.grants (w : Warrant) (r : Right) : Bool := hasBit w.rights r.bit

/-- Check 1 of R364: length, magic, format, reserved fields. -/
def warrantFormat (b : Bytes) (length : Nat) : Bool :=
  let set := getLe b 5 1
  decide (1 ≤ set ∧ set ≤ 3 ∧ length = 128 + sigLength set) && slice b 0 4 == [0x57#8, 0x52#8, 0x4E#8, 0x54#8] &&
  getLe b 4 1 == 1 && decide (getLe b 9 1 < 4) && allZero (slice b 10 6)

/-- The public keys a warrant's signer may stand for, of the set it names (R361, R364 check 4, R375). A signer 0 warrant names no key number: any vendor warrant key that is not revoked and declares its set may have signed it (log 18). -/
def State.warrantKeys (s : State) (w : Warrant) : List Bytes :=
  match w.signer with
  | 0 => if s.lifecycle ≤ 1 then
      (upto 4).filterMap (fun n => if !s.fuses.revoked.contains (8 + n) && Config.vendorKeySet 2 n == w.sigSet then some (Config.vendorKey 2 n) else none)
    else []
  | 1 => if s.lifecycle = 2 then
      match s.rights.ownerSet with
      | some r => if getLe r 5 1 = w.sigSet then [keyOf w.sigSet (slice r 72 64)] else []
      | none => []
    else []
  | 2 => match s.active with
    | some i =>
      if (s.lifecycle = 2 ∧ !s.rights.rootsSuspended) ∨ (s.lifecycle = 1 ∧ i.signer = 0) then
        i.roots.filterMap (fun r => if r.num == w.root && r.set == w.sigSet then some (keyOf r.set r.key) else none)
      else []
    | none => []
  | _ => []

/-- Rights whose warrant must be bound to the challenge (R361). -/
def nonceRights : List Right := [.plaintext, .mediaWrite, .reRoot, .coreDebug, .decommission, .ownerTransfer]

/-- The challenge of an interface as bytes. -/
def State.challengeBytes (s : State) (iface : Nat) : Bytes := le 16 (tgetD s.rights.challenge iface 0).toNat

/-- The ownership ticket: act 1 under signer 0 with owner-transfer (R370). -/
def isTicket (op act : Nat) (w : Warrant) : Bool := op == 3 && act == 1 && w.signer == 0 && w.grants .ownerTransfer

/-- Check 8 of R364: some right, each within the ceiling and within R361. -/
def State.rightsAllowed (s : State) (w : Warrant) (iface : Nat) : Bool :=
  w.rights != 0 && decide (w.rights < 2 ^ 29) &&
  allRights.all (fun r => !w.grants r || (ceiling r (ifClass iface) != .never &&
    (r != .coreDebug || (w.signer == 0 && decide (s.lifecycle ≤ 1))) &&
    ((r != .decommission && r != .ownerTransfer) || s.lifecycle != 2 || w.signer == 1)))

/-- Check 9 of R364. -/
def scopeGood (w : Warrant) : Bool :=
  w.comps.all (fun p => decide (p.1 ≤ p.2 ∧ p.2 ≤ 4095)) && w.keys.all (fun p => decide (p.1 ≤ p.2 ∧ p.2 ≤ 0xFFFFF))

/-- The preconditions of the acts (R367, R368, R370 to R373). -/
def State.actAllowed (s : State) (act : Nat) (w : Warrant) (record : Bytes) : Bool :=
  let idle := !s.ownershipBusy
  match act with
  | 1 => idle && w.grants .ownerTransfer && decide (s.bankCount < 16) && decide (record.length = 144) &&
      w.object == (digestBytes (Config.sha256 record)).take 16 &&
      ((s.lifecycle == 1 && w.signer == 0) || (s.lifecycle == 2 && w.signer == 1 && w.nonceBound))
  | 2 => idle && w.grants .ownerTransfer && s.lifecycle == 2 && w.signer == 1 && w.nonceBound && decide (s.storageGen < 15)
  | 3 => w.grants .decommission && w.nonceBound && ((s.lifecycle == 1 && w.signer == 0) || (s.lifecycle == 2 && w.signer == 1))
  | _ => false

/-- The status of the checks of R364, in order. -/
def State.warrantStatus (s : State) (iface op act : Nat) (b record : Bytes) (length : Nat) : Nat :=
  let w := parseWarrant b
  let keys := s.warrantKeys w
  if !warrantFormat b length ∨ b.length ≠ length then 0x01
  else if w.subject ≠ iface then 0x02
  else if w.serial ≠ s.dev.serial then 0x03
  else if keys.isEmpty then 0x04
  else if !keys.any (fun k => Config.slhVerify w.sigSet k (ascii "ELVELM-WARRANT-V1") (b.take 128) (b.drop 128)) then 0x05
  else if !s.warrantLive w then 0x06
  else if (nonceRights.any w.grants && !isTicket op act w && !w.nonceBound) || (w.nonceBound && w.nonce != s.challengeBytes iface) then 0x07
  else if !s.rightsAllowed w iface then 0x08
  else if !scopeGood w then 0x09
  else if op = 1 then (if (tgetD s.rights.held iface []).length < 4 ∨ w.replace then 0x00 else 0x0A)
  else if s.actAllowed act w record then 0x00 else 0x0B

/-- The fuse bank list with the next bank burned (R368). -/
def burnBank (banks : List Bank) (d : BitVec 256) : List Bank :=
  let n := (banks.filter (fun b => burned b.cells)).length
  banks.take n ++ [⟨d, 3, 0⟩] ++ banks.drop (n + 1)

/-- A list of triples with the next one burned (R374). -/
def burnNext (ts : List Nat) : List Nat :=
  let n := (ts.filter burned).length
  ts.take n ++ (if n < ts.length then [3] else []) ++ ts.drop (n + 1)

/-- The key set record is kept (R369): in the parameter store, under key 0x0004, and in a system structure. -/
def State.storeOwnerSet (s : State) (record : Bytes) : State :=
  ({ s with rights := { s.rights with ownerSet := some record } } : State).devicePut 0x0004 (some record)
/-- At every resume the device completes triples found with two cells burned, compares the fuses with the lifecycle record, and finishes what an act they show has left (R374): the roots suspended after a transfer, the slots emptied and the medium to be formatted after a release, the root gone after a decommission. -/
def Fuses.completed (f : Fuses) : Fuses :=
  let whole (n : Nat) : Nat := if burned n then 3 else n
  { f with unowned := whole f.unowned, decom := whole f.decom, banks := f.banks.map (fun b => { b with cells := whole b.cells, released := whole b.released })
           storageGen := f.storageGen.map whole, floor := f.floor.map whole }
def State.finishActs (s : State) : State :=
  let s : State := { s with fuses := s.fuses.completed }
  let old := s.rights.record
  let now := s.fuseRecord
  let s : State := if now.state = 2 ∧ old.state = 2 ∧ old.banks < now.banks then { s with rights := { s.rights with rootsSuspended := true } } else s
  let s : State := if now.state = 1 ∧ old.state = 2 then { s with img := s.img.cleared, reformat := true, rights := { s.rights with rootsSuspended := false } } else s
  let s : State := if now.state = 3 ∧ old.state ≠ 3 then { s with fuses := { s.fuses with uds := none }, vault := { s.vault with root := none } } else s
  { s with rights := { s.rights with record := now } }

/-- The lifecycle record of the seedbank takes what the fuses show (R374, R434). -/
def State.noteLifecycle (s : State) : State := { s with rights := { s.rights with record := s.fuseRecord } }
/-- LIFECYCLE: an act has completed (R428). -/
def State.lifecycleEvent (s : State) (act : Nat) : State := s.raise 0x0602 (le 1 act ++ le 1 s.lifecycle ++ le 1 s.bankCount)

/-- Act 1 (R370): the next bank takes the record's digest, the record is stored, every warrant falls, and from Owned the roots are suspended. -/
def State.act1 (s : State) (record : Bytes) : State :=
  let fromOwned := s.lifecycle == 2
  let s := { s with fuses := { s.fuses with banks := burnBank s.fuses.banks (Config.sha256 record) } }
  let s := s.storeOwnerSet record
  let s := each (upto 8) s State.dropWarrants
  let s := if fromOwned then
      { s with rights := { s.rights with rootsSuspended := true } } else s
  s.noteLifecycle.lifecycleEvent 1

/-- The bank in force gets its release bit. -/
def releaseBank (banks : List Bank) : List Bank :=
  let n := (banks.filter (fun b => burned b.cells)).length
  banks.modify (n - 1) (fun b => { b with released := 3 })

/-- Act 2 (R372): the ports stop, the release bit and a storage generation fuse are burned, the image slots empty, and a cold reset is requested; the medium is formatted at the next resume. -/
def State.act2 (s : State) : State :=
  let s := { s with clocks := { s.clocks with portsStopped := true } }
  let s := { s with fuses := { s.fuses with banks := releaseBank s.fuses.banks, storageGen := burnNext s.fuses.storageGen } }
  let s := each (upto 8) s State.dropWarrants
  let s := { s with img := s.img.cleared, reformat := true, rights := { s.rights with rootsSuspended := false } }
  (s.noteLifecycle.lifecycleEvent 2).requestReset ⟨2, 7, 0⟩

/-- Act 3 (R373): the ports stop, the storage root and the key caches are cleared, the decommission fuses are burned, and a cold reset is requested. -/
def State.act3 (s : State) : State :=
  let s := { s with clocks := { s.clocks with portsStopped := true } }
  let s := s.clearKeyCaches
  let s := { s with fuses := { s.fuses with decom := 3, uds := none }, vault := { s.vault with root := none } }
  (s.noteLifecycle.lifecycleEvent 3).requestReset ⟨2, 7, 0⟩

/-- WARRANT: an acceptance or a refusal (R364), counted in WDN_WARRANT_STAT (R389). -/
def State.warrantEvent (s : State) (iface status : Nat) (w : Warrant) : State :=
  let s := (s.wf F.WDN_WARRANT_STAT_last_status status).wf F.WDN_WARRANT_STAT_last_interface iface
  let s := if status = 0 then s.incSat F.WDN_WARRANT_STAT_accepted else s.incSat F.WDN_WARRANT_STAT_refused
  (s.raise 0x0601 (le 1 iface ++ le 1 status ++ le 1 w.signer ++ le 8 w.rights)).countHub 43

/-- An accepted warrant is held (R365); a nonce-bound one draws a new challenge (R362), and core-debug opens test mode (R366). -/
def State.holdWarrant (s : State) (iface : Nat) (w : Warrant) : State :=
  let held := if w.replace then [w] else tgetD s.rights.held iface [] ++ [w]
  let s := { s with rights := { s.rights with held := tput s.rights.held iface held } }
  let s := if w.grants .coreDebug then
      { s with rights := { s.rights with testOpen := true } } else s
  if w.nonceBound then s.newChallenge iface else s

/-- The output of Submit Warrant (R363). -/
def State.warrantOutput (s : State) (iface status : Nat) : Bytes :=
  le 1 status ++ le 1 (tgetD s.rights.held iface []).length ++ le 2 0 ++ s.challengeBytes iface ++ le 8 (s.rightsWord iface) ++ le 4 0

/-- The missing key set record may be supplied with no warrant (R374). -/
def State.suppliesKeySet (s : State) (op act length : Nat) (record : Bytes) : Bool :=
  op == 3 && act == 1 && length == 0 && decide (record.length = 144) && s.keySetMissing &&
  (match s.topBank with | some b => b.digest == Config.sha256 record | none => false)

/-- Submit Warrant on an interface (R363, R364). -/
def State.submitWarrant (s : State) (iface : Nat) (input : Bytes) : Answer :=
  let op := getLe input 0 1
  let act := getLe input 1 1
  let length := getLe input 4 4
  let w := slice input 8 length
  let record := input.drop (8 + length)
  let finish (status : Nat) (s : State) : Answer := ⟨.success, s.warrantOutput iface status, s⟩
  if input.length < 8 ∨ 3 < op ∨ !allZero (slice input 2 2) then answer .invalidInput s
  else if op = 0 then finish 0 s
  else if op = 2 then finish 0 (s.dropWarrants iface)
  else if s.suppliesKeySet op act length record then finish 0 (s.storeOwnerSet record)
  else
    let pw := parseWarrant w
    let status := s.warrantStatus iface op act w record length
    if status ≠ 0 then finish status (s.warrantEvent iface status pw)
    else if op = 1 then finish 0 ((s.holdWarrant iface pw).warrantEvent iface 0 pw)
    else
      let s := if pw.nonceBound then s.newChallenge iface else s
      let s := s.warrantEvent iface 0 pw
      finish 0 (if act = 1 then s.act1 record else if act = 2 then s.act2 else s.act3)

/-- SUBMIT_WARRANT (R363): needs no right of its own. -/
def execSubmitWarrant (iface ld : Nat) (input : Bytes) (s : State) : Host.Outcome State Fault Refusal :=
  .next (s.command iface ld 0xC060 none (fun s => s.submitWarrant iface input))

/-- WARRANT_LAPSE (R365): the warden removes the interface's warrants whose not_after second has been reached, each with a warrant event. -/
def execWarrantLapse (iface : Nat) (s : State) : Host.Outcome State Fault Refusal :=
  .next (
    let held := tgetD s.rights.held iface []
    let gone := held.filter (fun w => decide (w.notAfter ≤ s.glade.opsec))
    let s := { s with rights := { s.rights with held := tput s.rights.held iface (held.filter (fun w => decide (s.glade.opsec < w.notAfter))) } }
    each gone s (fun s w => s.raise 0x0601 (le 1 iface ++ le 1 0x06 ++ le 1 w.signer ++ le 8 w.rights)))

/-- The flags byte of the attestation report (R388). -/
def State.attestFlags (s : State) : Nat :=
  b2n (s.rf F.CIF_ROOT_STAT_source == 2) + 2 * b2n (s.rb F.RST_STAT_trim_safe) + 4 * b2n s.testMode +
  8 * b2n ((upto 8).any (fun i => [Right.plaintext, .mediaWrite, .reRoot, .coreDebug].any (s.holds i))) +
  16 * b2n s.active.isNone + 32 * b2n s.rights.rootsSuspended

/-- Bytes 0 to 607 of the attestation report (R388). -/
def State.attestBody (s : State) (nonce : Bytes) : Bytes :=
  ascii "ATST" ++ le 2 1 ++ le 2 0x260 ++ le 8 s.dev.serial ++ fit 32 nonce ++ le 1 s.lifecycle ++ le 1 s.attestFlags ++
  le 1 s.bankCount ++ le 1 s.storageGen ++ le 4 Config.romVersion ++ le 4 s.glade.pwrcyc ++ le 4 s.glade.opsec ++
  s.measurement 0 ++ ((upto 8).map (fun t => if s.tileInService t then s.measurement (t + 1) else zeros 32)).flatten ++
  le 4 s.fwVersion ++ le 4 ((s.active.map (·.epoch)).getD 0) ++
  (match s.active with | some i => digestBytes (Config.sha256 i.bytes) | none => zeros 32) ++
  (if s.lifecycle = 2 then (match s.topBank with | some b => digestBytes b.digest | none => zeros 32) else zeros 32) ++
  digestBytes s.acceptedDigest ++ digestBytes s.sealDigestNow ++ le 1 (s.rf F.CIF_ROOT_STAT_source) ++ zeros 3 ++
  le 4 (s.fuses.revoked.map (fun n => 2 ^ n)).sum ++ ((upto 8).map (fun i => le 8 (s.rightsWord i))).flatten ++
  digestBytes (Config.sha256 (Config.ecPublic s.vault.spdm)) ++ zeros 16

/-- The attestation report (R388). -/
def State.attestation (s : State) (nonce : Bytes) : Bytes :=
  let b := s.attestBody nonce
  b ++ Config.slhSign s.vault.identity (ascii "ELVELM-ATTEST-V1") b

/-- The report for a requester nonce (R388). -/
def State.report388 (s : State) (nonce : Bytes) : Answer := if nonce.length = 32 then ⟨.success, s.attestation nonce, s⟩ else answer .invalidInput s
/-- ATTESTATION_REPORT (R387, R388): opcode 0xD030 of the service channel, or on a host port the vendor-defined SPDM request, which only a secured session carries; both under attest. The other channels lack the opcode (R453). -/
def execAttestationReport (iface ld : Nat) (secured : Bool) (nonce : Bytes) (s : State) : Host.Outcome State Fault Refusal :=
  .next (if iface = 4 then s.command 4 0 0xD030 (some .attest) (fun s => s.report388 nonce)
    else if 4 < iface then s.command iface 0 0xD030 (some .attest) (fun s => s.report388 nonce)
    else if !s.hears iface ld then s.unheard iface ld
    else
      let s := (s.countHub 33).irqEdge (irqDoe iface)
      if !secured then s.reply iface ld 1 .invalidSecurityState []
      else if !s.holds iface .attest then (s.deny iface 0xD030 .attest).reply iface ld 1 .invalidSecurityState []
      else let a := s.report388 nonce; a.state.reply iface ld 1 a.code a.payload)

end Sys2Proof.Machine
end

