-- ==== Sys2Proof/Machine/Mgmt.lean ====
section
/-! DEFINITION. The management complex (14): watchdogs, firmware, the interrupt hub's claims, the parameter store, the service port, the sideband and its legacy protocol, and the test access port (18, R530). -/
namespace Sys2Proof.Machine

/-! ## Firmware (R436 to R442) -/

/-- The result code of the checks of R437, in order; 0 passed. -/
def State.fwCheck (s : State) (b : Bytes) : Nat :=
  let total := getLe b 8 4
  let set := getLe b 0x18 1
  let key := getLe b 0x19 1
  let sig := sigLength set
  let part (off : Nat) : Bool :=
    let o := getLe b off 4
    let l := getLe b (off + 4) 4
    decide (0 < l ∧ l ≤ 196608 ∧ 0x100 ≤ o ∧ o + l + sig ≤ total)
  if slice b 0 4 ≠ ascii "EFWI" ∨ getLe b 4 2 ≠ 1 ∨ getLe b 6 2 ≠ 0x100 ∨ 1 < getLe b 0x14 4 ∨ !allZero (slice b 0x1A 6) ∨
     !allZero (slice b 0x30 8) ∨ !allZero (slice b 0x40 8) ∨ !allZero (slice b 0x58 168) then 0x01
  else if 0x200000 < total ∨ total % 16 ≠ 0 ∨ total ≠ b.length then 0x02
  else if 3 < key ∨ s.fuses.revoked.contains key ∨ Config.vendorKeySet 0 key ≠ set ∨ sig = 0 ∨ total < 0x100 + sig ∨
     getLe b 0x20 8 ≠ keyIdOf (Config.vendorKey 0 key) then 0x03
  else if !Config.slhVerify set (Config.vendorKey 0 key) (ascii "ELVELM-FIRMWARE-V1") (b.take (total - sig)) (b.drop (total - sig)) then 0x04
  else if getLe b 0x0C 4 < s.fwFloor then 0x05
  else if Config.romVersion < getLe b 0x10 4 then 0x06
  else if part 0x28 && part 0x38 then 0x00 else 0x07

/-- The mailbox code of a result (R437). -/
def fwRet (code : Nat) : Ret :=
  if code = 0 then .success else if 3 ≤ code ∧ code ≤ 6 then .fwAuthFailed else .invalidInput

/-- Firmware on a processor trips in a trial (R442). -/
def State.trialFault (s : State) : State :=
  if s.rb F.WDN_FW_STAT_trial then { s with fw := { s.fw with fault := true } } else s

/-- A check of a slot is counted (R521): the bytes read, and the signature check where it was reached. -/
def State.fwCounted (s : State) (b : Bytes) : State := (if s.fwCheck b = 0 ∨ 4 ≤ s.fwCheck b then s.countHub 43 else s).seedRead b.length
/-- The bytes of a transfer are whole: they are checked, and stand in the slot where they pass. -/
def State.finishFw (s : State) (bytes : Bytes) : Answer :=
  let code := s.fwCheck bytes
  let other := 1 - s.rf F.WDN_FW_STAT_active_slot
  let s := (s.fwCounted bytes).seedProgram
  let s := { s with fw := { s.fw with xfer := none, slots := s.fw.slots.set other (if code = 0 then some bytes else none) } }
  answer (fwRet code) ((s.wf F.WDN_FW_STAT_result code).wf F.WDN_FW_STAT_busy 0)

/-- TRANSFER_FW (R438). -/
def execTransferFw (iface ld : Nat) (action : XferAction) (slot offset : Nat) (data : Bytes) (s : State) : Host.Outcome State Fault Refusal :=
  .next (s.command iface ld 0x0201 (some .firmware) (fun s => s.fits iface (16 + data.length) (fun s =>
    let other := 1 - s.rf F.WDN_FW_STAT_active_slot
    let s' := match s.fw.xfer with
      | some x => if x.iface ≠ iface ∧ (action = .full ∨ action = .initiate) then s.abortFw else s
      | none => s
    if slot ≠ other then answer .invalidSlot s
    else if s.fw.act.isSome then answer .fwInProgress s
    else match action with
      | .full => if offset = 0 then s'.finishFw data else answer .fwOutOfOrder s'
      | .initiate =>
        if offset ≠ 0 ∨ data.length % 128 ≠ 0 then answer .fwOutOfOrder s'
        else answer .success (({ s' with fw := { s'.fw with xfer := some ⟨iface, data⟩, slots := s'.fw.slots.set other none } }).seedProgram.wf F.WDN_FW_STAT_busy 1)
      | .next => match s.fw.xfer with
        | some x =>
          if x.iface ≠ iface ∨ offset * 128 ≠ x.bytes.length ∨ data.length % 128 ≠ 0 ∨ 0x200000 < x.bytes.length + data.length then answer .fwOutOfOrder s
          else answer .success ({ s with fw := { s.fw with xfer := some ⟨iface, x.bytes ++ data⟩ } } : State).seedProgram
        | none => answer .fwOutOfOrder s
      | .finish => match s.fw.xfer with
        | some x => if x.iface ≠ iface ∨ offset * 128 ≠ x.bytes.length then answer .fwOutOfOrder s else s.finishFw (x.bytes ++ data)
        | none => answer .fwOutOfOrder s
      | .abort => match s.fw.xfer with
        | some x => if x.iface = iface then answer .success s.abortFw else answer .fwOutOfOrder s
        | none => answer .fwOutOfOrder s)))

/-- FIRMWARE: an activation ends, or firmware returns to a slot (R428, R442). -/
def State.firmwareEvent (s : State) (slot : Nat) : State :=
  s.raise 0x0603 (le 4 (((s.fwSlot slot).map (fun b => getLe b 0x0C 4)).getD 0) ++ le 1 slot)

/-- A processor restarts on the activation's slot (R439, R440); the ring log writer goes on unless it is the warden. -/
def State.restartCore (s : State) (a : FwAct) : State := ({ s with fw := { s.fw with act := some a } } : State).logKick
/-- The sideband address is NACKed: while a store write runs (R450), and while the warden restarts (R440). -/
def State.nacking (s : State) : Bool := s.ps.writing.isSome || s.coreAway 0

/-- ACTIVATE_FW (R439): on the next cold reset the slot is marked; online, the slot record is written and the warden restarts. -/
def execActivateFw (iface ld : Nat) (online : Bool) (slot : Nat) (s : State) : Host.Outcome State Fault Refusal :=
  .next (s.command iface ld 0x0202 (some .firmware) (fun s =>
    if slot ≠ 1 - s.rf F.WDN_FW_STAT_active_slot then answer .invalidSlot s
    else if s.fw.act.isSome ∨ s.fw.xfer.isSome then answer .fwInProgress s
    else if online ∧ (s.ld iface ld).bg.isSome then answer .busy s
    else if !s.tileList.all s.tileInService ∨ s.applyRunning ∨ s.rb F.SEQ_VIN_braced ∨ s.rb F.RST_STAT_trim_safe ∨ s.rb F.WDN_FW_STAT_trial then answer .coldResetRequired s
    else
      let code := s.fwCheck ((s.fwSlot slot).getD [])
      let s := (s.fwCounted ((s.fwSlot slot).getD [])).wf F.WDN_FW_STAT_result code
      if code ≠ 0 then answer (fwRet code) s
      else if !online then answer .success ({ s with fw := { s.fw with marked := some slot } } : State).seedProgram
      else
        let s := (((s.wf F.WDN_FW_STAT_active_slot slot).wf F.WDN_FW_STAT_trial 1).wf F.WDN_FW_STAT_busy 1).wf F.WDN_FW_STAT_failed_core 15
        answer .background ((s.modLd iface ld (fun d => { d with bg := some 0x0202 })).restartCore ⟨slot, iface, ld, 0, false⟩)))

/-- The activation ends (R439, R442). -/
def State.endActivation (s : State) (a : FwAct) : State :=
  let s := ({ s with fw := { s.fw with act := none, trialStart := s.glade.opsec, fault := false } }).wf F.WDN_FW_STAT_busy 0
  (s.firmwareEvent a.slot).endBackground a.iface a.ld 0x0202 (if a.rolling then .fwRolledBack else .success) []

/-- PROCESSOR_READY (R439, R440): a restarted processor whose measurement matches runs the slot, and the next one restarts: stewards ascending after the warden, or descending and the warden last while rolling back. -/
def execProcessorReady (core : Nat) (measured : Bool) (s : State) : Host.Outcome State Fault Refusal :=
  .next (match s.fw.act with
    | some a =>
      if a.core ≠ core ∨ !measured then s
      else
        let s := { s with fw := { s.fw with running := s.fw.running.set core a.slot } }
        let s := if a.rolling then
            (if core = 0 then s.endActivation a else s.restartCore { a with core := core - 1 })
          else if core < s.tileCount then s.restartCore { a with core := core + 1 }
          else s.endActivation a
        if s.irqNow core then s.assertLine core else s
    | none => s)

/-- STEWARD_READY_TIMEOUT (R439): the activation rolls back: the slot record names the old slot again, and the stewards restart from this one down to 0, then the warden. -/
def execStewardReadyTimeout (tile : Nat) (s : State) : Host.Outcome State Fault Refusal :=
  .next (match s.fw.act with
    | some a =>
      if a.core ≠ tile + 1 ∨ a.rolling then s
      else
        let old := 1 - a.slot
        let s := ((s.wf F.WDN_FW_STAT_active_slot old).wf F.WDN_FW_STAT_trial 0).wf F.WDN_FW_STAT_failed_core core_
        s.restartCore { a with slot := old, rolling := true }
    | none => s)
where core_ : Nat := tile + 1

/-- FW_TRIAL_END (R442): the trial clears, and the floor rises to the security version where raise_floor is set. -/
def execFwTrialEnd (s : State) : Host.Outcome State Fault Refusal :=
  .next (if !s.rb F.WDN_FW_STAT_trial ∨ s.fw.act.isSome ∨ s.fw.fault ∨ s.glade.opsec < s.fw.trialStart + 60 then s
    else
      let s := s.wf F.WDN_FW_STAT_trial 0
      match s.fwSlot (s.rf F.WDN_FW_STAT_active_slot) with
      | some b =>
        if getLe b 0x14 4 % 2 = 1 then
          let v := getLe b 0x0C 4
          { s with fuses := { s.fuses with floor := s.fuses.floor.mapIdx (fun i c => if i < v then 3 else c) } }
        else s
      | none => s)

/-- WATCHDOG: core and kind, 0 an expiry, 1 a lock-up (R428; log 12). -/
def State.watchdogEvent (s : State) (core kind : Nat) : State := (s.raise 0x0902 (le 1 core ++ le 1 kind)).trialFault

/-- WARDEN_WATCHDOG_EXPIRE (R433, R478): a warm reset with cause 5. -/
def execWardenWatchdogExpire (s : State) : Host.Outcome State Fault Refusal :=
  .next ((s.watchdogEvent 0 0).requestReset ⟨3, 5, 0⟩)

/-- WARDEN_LOCKUP (R478): a warm reset with cause 10. -/
def execWardenLockup (s : State) : Host.Outcome State Fault Refusal :=
  .next ((s.watchdogEvent 0 1).requestReset ⟨3, 10, 0⟩)

/-- WATCHDOG_KICK (R433): the processor's watchdog restarts. -/
def execWatchdogKick (core : Nat) (s : State) : Host.Outcome State Fault Refusal :=
  .next { s with fw := { s.fw with kicked := tput s.fw.kicked core s.fine } }

/-! ## The interrupt hub (R443 to R446) -/

/-- IRQ_SOURCE_EDGE (R443, R444). -/
def execIrqSourceEdge (source : Nat) (s : State) : Host.Outcome State Fault Refusal := .next (s.irqEdge source)

/-- The source a claim takes: the lowest-numbered of the highest priority (R445). -/
def State.pickSource (s : State) (t : Nat) : Option Nat :=
  let l := s.claimables t
  let top := each l 0 (fun m src => max m (s.rf (F.IRQ_SRC_priority src)))
  each (l.filter (fun src => s.rf (F.IRQ_SRC_priority src) == top)) none (fun m src => match m with
    | some b => some (min b src)
    | none => some src)

/-- Lines whose target has nothing to claim fall. -/
def State.dropLines (s : State) : State :=
  { s with irq := { s.irq with lines := s.irq.lines.filter (fun t => !(s.claimables t).isEmpty) } }

/-- IRQ_CLAIM (R445): an edge source's pending bit clears; a level source goes in service; a read that finds nothing returns 0x3FF. -/
def execIrqClaim (target : Nat) (s : State) : Host.Outcome State Fault Refusal :=
  .next (match s.pickSource target with
    | none => (s.wf (F.IRQ_CLAIM_source target) 0x3FF).countHub 47
    | some src =>
      let s := { s with irq := { s.irq with waiting := s.irq.waiting.filter (fun p => p.1 != src) } }
      let s := if s.rb (F.IRQ_SRC_level src) then { s with irq := { s.irq with service := s.irq.service ++ [(target, src)] } }
        else s.wf (F.IRQ_SRC_pending src) 0
      ((s.wf (F.IRQ_CLAIM_source target) src).countHub 46).dropLines)

/-- IRQ_DONE (R445): the target ends service of a level source it claimed. -/
def execIrqDone (target source : Nat) (s : State) : Host.Outcome State Fault Refusal :=
  .next (if s.irq.service.contains (target, source) then
      ({ s with irq := { s.irq with service := s.irq.service.filter (fun p => p != (target, source)) } }).wf (F.IRQ_SRC_pending source) 0
    else s)

/-- IRQ_HOLD_EXPIRE (R446): the oldest claimable source has waited long enough, and the line asserts. -/
def execIrqHoldExpire (target : Nat) (s : State) : Host.Outcome State Fault Refusal := .next (s.assertLine target)

/-! ## The parameter store (R448 to R452): the host's and the interfaces' side -/

/-- Fewer than 16 sectors are usable: the store moves to the Glade fall-back (R452). -/
def State.paramFallback (s : State) : State :=
  if 16 ≤ 128 - s.ps.failed.length ∨ s.glade.fallback.isSome then s
  else
    let t := s.ps.keys.filterMap (fun k => (s.ps.newest k).bind (fun r => if r.deleted then none else some (k, r.value)))
    (({ s with glade := { s.glade with fallback := some t } }).wf F.WDN_PS_STAT_fallback 1).raise 0x0604 (le 2 s.ps.failed.length)

/-- The store starts a write (R449, R450), or answers the result that refuses it. The result codes are those of WDN_PS_STAT.result; the right is looked at first (R7). -/
def State.psStart (s : State) (iface opcode key : Nat) (value : Option Bytes) : Nat × State :=
  let v := value.getD []
  let area := psArea key
  if !s.holds iface .paramWrite then (5, s.deny iface opcode .paramWrite)
  else if area = .reserved ∨ 2020 < v.length then (4, s)
  else if area = .device then (2, s)
  else if area = .owner ∧ !s.power.pins.nvwp then (2, s)
  else if s.ps.writing.isSome ∨ s.power.committed then (6, s)
  else if value.isNone ∧ (s.psGet key).isNone then (1, s)
  else
    let r : PsRec := ⟨key, ((s.ps.newest key).map (·.gen)).getD 0 + 1, area.num, value.isNone, v⟩
    if s.psOver key v.length then (3, s)
    else if s.glade.fallback.isNone ∧ s.ps.erased.isEmpty then (6, s)
    else
      let s := { s with ps := { s.ps with writing := some r, waiter := some (iface, opcode) } }
      (0, (s.wf F.WDN_PS_STAT_busy 1).wf F.WDN_PS_CTRL_go 1)

/-- A read of a key (R451): result and value. -/
def State.psRead (s : State) (iface opcode key : Nat) : Nat × Bytes × State :=
  if !s.holds iface .paramRead then (5, [], s.deny iface opcode .paramRead)
  else if psArea key = .reserved then (4, [], s)
  else if key = 0x0010 then (2, [], s)
  else match s.psGet key with
    | some v => (0, shownRecord key v, s)
    | none => (1, [], s)

/-- The fields of WDN_PS_CTRL that a go writes. -/
def State.psCtrl (s : State) (key op length : Nat) : State :=
  ((s.wf F.WDN_PS_CTRL_key key).wf F.WDN_PS_CTRL_op op).wf F.WDN_PS_CTRL_length length

/-- A write of WDN_PS_CTRL with go = 1: as any field, under mgmt-write (R355); the right op needs gives result 5 where it is missing. -/
def State.psGo (s : State) (iface : Nat) (go : State → State) : State :=
  s.regWrite iface F.WDN_PS_CTRL_go.addr .mgmtWrite true go

/-- PS_READ (R448, R451, R458): the value goes to WDN_PS_BUF. -/
def execPsRead (iface key length : Nat) (s : State) : Host.Outcome State Fault Refusal :=
  .next (s.psGo iface (fun s =>
    let (res, v, s) := s.psRead iface F.WDN_PS_CTRL_go.addr key
    if res = 5 then s.wf F.WDN_PS_STAT_result 5
    else
      let s := (s.psCtrl key 1 (if res = 0 then v.length else length)).wf F.WDN_PS_STAT_result res
      if res = 0 then { s with ps := { s.ps with buf := fit 2048 v } } else s))

/-- PS_WRITE (R449 to R451): the first length bytes of WDN_PS_BUF are written. -/
def execPsWrite (iface key length : Nat) (s : State) : Host.Outcome State Fault Refusal :=
  .next (s.psGo iface (fun s =>
    let (res, s) := s.psStart iface F.WDN_PS_CTRL_go.addr key (some (fit length s.ps.buf))
    (if res = 5 then s else s.psCtrl key 2 length).wf F.WDN_PS_STAT_result res))

/-- PS_DELETE (R448): a deleted record is written for the key. -/
def execPsDelete (iface key length : Nat) (s : State) : Host.Outcome State Fault Refusal :=
  .next (s.psGo iface (fun s =>
    let (res, s) := s.psStart iface F.WDN_PS_CTRL_go.addr key none
    (if res = 5 then s else s.psCtrl key 3 length).wf F.WDN_PS_STAT_result res))

/-- PS_SHADOW (R452, R458): under param-write, the fall-back is shadowed into the Glade shadow structure. -/
def execPsShadow (iface : Nat) (s : State) : Host.Outcome State Fault Refusal :=
  .next (s.regWrite iface F.WDN_PS_CTRL_shadow.addr .paramWrite true
    (fun s => match s.glade.fallback with
      | some t => { s with ps := { s.ps with shadow := some t } }
      | none => s))

/-- The head sector counts as failed. -/
def ParamStore.failHead (p : ParamStore) : ParamStore := match p.sectors.getLast? with | some x => { p with failed := p.failed ++ [x.pos] } | none => p
/-- The record a write held is stored (R450, R452): in the fall-back while it serves, shadowed at once, else in the head sector; where the program failed, its sector has failed and the record goes to an erased one. -/
def State.psStored (s : State) (ok : Bool) (r : PsRec) : State :=
  match s.glade.fallback with
  | some t =>
    let t := if r.deleted then tdel t r.key else tput t r.key r.value
    { s with glade := { s.glade with fallback := some t }, ps := { s.ps with writing := none, shadow := some t } }
  | none =>
    let p : ParamStore := { s.ps with writing := none }
    if ok then { s with ps := p.append r }
    else if p.fits r then { s with ps := p.failHead.extend r }
    else { s with ps := ({ p with erased := p.erased.drop 1, failed := p.failed ++ (p.erased.take 1).map (·.1) } : ParamStore).extend r }
/-- The mailbox command that waited for the write ends. -/
def State.psAnswered (s : State) : State :=
  match s.ps.waiter with
  | some (iface, op) => ({ s with ps := { s.ps with waiter := none } }).send (.bgEnd iface 0 op .success [0#8])
  | none => s
/-- PS_WRITE_DONE (R450, R452): the record stands, or its sector has failed and an erased one takes it; the sideband address is no longer NACKed. -/
def execPsWriteDone (ok : Bool) (s : State) : Host.Outcome State Fault Refusal :=
  .next (match s.ps.writing with
    | none => s
    | some r =>
      let s := ((s.psStored ok r).wf F.WDN_PS_STAT_busy 0).wf F.WDN_PS_CTRL_go 0
      ((s.wf F.WDN_PS_STAT_result 0).countHub 53).psAnswered.psStat.paramFallback)

/-- PS_COMPACT (R449): the newest records of the oldest sector go to the head, and the sector is erased in the background. -/
def execPsCompact (s : State) : Host.Outcome State Fault Refusal :=
  .next (match s.ps.sectors with
    | old :: rest =>
      let keep := old.recs.filter (fun r => s.ps.newest r.key == some r)
      let p := each keep { s.ps with sectors := rest } ParamStore.append
      if 2 ≤ s.ps.erased.length ∨ rest.isEmpty ∨ !s.ps.erasing.isEmpty ∨ s.ps.writing.isSome ∨ s.glade.fallback.isSome ∨ s.power.committed ∨ p.recs.length < (rest.map (fun x => x.recs.length)).sum + keep.length then s
      else
        let s : State := { s with ps := if s.ps.failed.contains old.pos then p else { p with erasing := p.erasing ++ [(old.pos, old.erases)] } }
        s.psStat.paramFallback
    | [] => s)

/-- PS_SECTOR_ERASE_DONE (R449): the sector counts as erased and ready, or has failed. -/
def execPsSectorEraseDone (ok : Bool) (s : State) : Host.Outcome State Fault Refusal :=
  .next (match s.ps.erasing with
    | [] => s
    | e :: rest =>
      let p : ParamStore := { s.ps with erasing := rest }
      let s : State := { s with ps := if ok then { p with erased := p.erased ++ [(e.1, e.2 + 1)] } else { p with failed := p.failed ++ [e.1] } }
      (s.countHub 54).psStat.paramFallback)

/-- STORE_READ (R451, R453): result, then the value. -/
def execStoreRead (iface key : Nat) (s : State) : Host.Outcome State Fault Refusal :=
  .next (s.command iface 0 0xD010 none (fun s =>
    let (res, v, s) := s.psRead iface 0xD010 key
    if res = 5 then answer .invalidSecurityState s else ⟨.success, le 1 res ++ v, s⟩))

/-- STORE_WRITE (R451, R453). -/
def execStoreWrite (iface key : Nat) (value : Bytes) (s : State) : Host.Outcome State Fault Refusal :=
  .next (s.command iface 0 0xD011 none (fun s =>
    let (res, s) := s.psStart iface 0xD011 key (some value)
    if res = 5 then answer .invalidSecurityState s else if res = 0 then answer .background s else ⟨.success, le 1 res, s⟩))

/-! ## The service port (R453) -/

/-- USB4_CONNECT (R453). -/
def execUsb4Connect (s : State) : Host.Outcome State Fault Refusal := .next (if s.usb4 || s.clocks.held.contains 7 then s else ({ s with usb4 := true, power := { s.power with pstate := 0 } }).irqEdge irqServiceConnect)

/-- The store write of an interface goes on without a sender. -/
def State.dropWaiter (s : State) (iface : Nat) : State := { s with ps := { s.ps with waiter := s.ps.waiter.filter (fun (w : Nat × Nat) => w.1 != iface) } }
/-- Background commands of an interface go on without a sender to answer (R358, R453). -/
def State.forgetSender (s : State) (iface : Nat) : State :=
  (s.modLd iface 0 (fun d => { d with bg := none })).dropWaiter iface

/-- USB4_DISCONNECT (R453, R365): every request ends without a response, interfaces 4 and 7 reset, their transfers are aborted. -/
def execUsb4Disconnect (s : State) : Host.Outcome State Fault Refusal :=
  .next (if !s.usb4 then s
    else (((((({ s with usb4 := false }).resetInterface 4).resetInterface 7).abortFwOf 4).abortStageOf 4).forgetSender 4).forgetSender 7)

/-- A core-debug operation on a processor. -/
def State.coreOp (s : State) (iface opcode core : Nat) (go : State → Answer) : State :=
  s.command iface 0 opcode (some .coreDebug) (fun s => if core ≤ s.tileCount then go s else answer .invalidInput s)

/-- CORE_HALT (R453). -/
def execCoreHalt (iface core : Nat) (s : State) : Host.Outcome State Fault Refusal :=
  .next (s.coreOp iface 0xD110 core (fun s =>
    answer .success { s with fw := { s.fw with halted := if s.fw.halted.contains core then s.fw.halted else s.fw.halted ++ [core] } }))

/-- CORE_STEP (R278, R453): the halted processor runs one instruction of its firmware and halts again; its accesses may meet a word in error. -/
def execCoreStep (iface core : Nat) (upset : Option Bool) (s : State) : Host.Outcome State Fault Refusal :=
  .next (s.coreOp iface 0xD111 core (fun s => if s.fw.halted.contains core then answer .success (s.coreWord core upset) else answer .invalidInput s))

/-- CORE_RESUME (R453). -/
def execCoreResume (iface core : Nat) (s : State) : Host.Outcome State Fault Refusal :=
  .next (s.coreOp iface 0xD112 core (fun s => answer .success { s with fw := { s.fw with halted := s.fw.halted.filter (fun c => c != core) } }))

/-- CORE_MEMORY_READ (R278, R453): the contents of processor memory are the firmware's, free values here (log 10); an uncorrectable word takes an access fault, and the read ends with it (log 163). -/
def execCoreMemoryRead (iface core _address count : Nat) (upset : Option Bool) (s : State) : Host.Outcome State Fault Refusal :=
  .next (s.coreOp iface 0xD113 core (fun s =>
    let s := s.coreWord core upset
    if upset = some true then answer .internalError s
    else
      let (v, s) := s.draw
      ⟨.success, le (4 * count) v, s⟩))

/-! ## The sideband (R454 to R457) -/

/-- An answer to a CCC. -/
def State.ccc (s : State) (b : Bytes) : State := s.send (.ccc b)
/-- A direct CCC names the dynamic address: without one, or while a store write has it NACKed (R450), it is NACKed. -/
def State.directCcc (s : State) (go : State → State) : State :=
  if s.ps.writing.isSome || !s.rb F.WDN_I3C_STAT_addr_valid then s.send .nack else go s

/-- The reset of interface 5 (R365, R454): warrants, fragments, response and the legacy unlock end. -/
def State.resetSideband (s : State) : State :=
  let s := (s.resetInterface 5).wf F.WDN_PS_STAT_unlocked 0
  { s with sb := { s.sb with response := [], frag := 0, status := 0 } }

/-- ENEC (R454, R447): events bit 0 enables in-band interrupts. -/
def execEnec (events : Nat) (s : State) : Host.Outcome State Fault Refusal :=
  .next { s with sb := { s.sb with ibi := s.sb.ibi || hasBit events 0 } }

/-- DISEC (R454). -/
def execDisec (events : Nat) (s : State) : Host.Outcome State Fault Refusal :=
  .next { s with sb := { s.sb with ibi := s.sb.ibi && !hasBit events 0 } }

/-- RSTDAA (R455): the dynamic address clears, POSN_OUT goes low, interface 5 resets. -/
def execRstdaa (s : State) : Host.Outcome State Fault Refusal :=
  .next (((((s.resetSideband.wf F.WDN_I3C_STAT_dyn_addr 0).wf F.WDN_I3C_STAT_addr_valid 0).wf F.WDN_I3C_STAT_posn_out 0)).send (.pin .posnOut false))

/-- The provisional ID (R454). -/
def State.pid (s : State) : Nat := (Config.mipi % 2 ^ 15) * 2 ^ 33 + s.dev.member.code * 2 ^ 16 + s.dev.serial % 2 ^ 12
/-- ENTDAA (R454, R455): taken only while POSN_IN is high and no address is held; the device gives its PID, BCR and DCR, and takes the address. -/
def execEntdaa (addr : Nat) (s : State) : Host.Outcome State Fault Refusal :=
  .next (if s.power.pins.posnIn && !s.rb F.WDN_I3C_STAT_addr_valid then
      let s := s.ccc ((le 6 s.pid).reverse ++ [0x06#8, 0x00#8])
      (((s.wf F.WDN_I3C_STAT_dyn_addr addr).wf F.WDN_I3C_STAT_addr_valid 1).wf F.WDN_I3C_STAT_posn_out 1).send (.pin .posnOut true)
    else s)

/-- SETMWL (R454): at most 4,096. -/
def execSetmwl (length : Nat) (s : State) : Host.Outcome State Fault Refusal := .next { s with sb := { s.sb with mwl := min length 4096 } }
/-- SETMRL (R454): at most 4,096. -/
def execSetmrl (length : Nat) (s : State) : Host.Outcome State Fault Refusal := .next { s with sb := { s.sb with mrl := min length 4096 } }
/-- RSTACT (R454). -/
def execRstact (s : State) : Host.Outcome State Fault Refusal := .next s.resetSideband

/-- GETPID, GETBCR, GETDCR, GETMWL, GETMRL (R454); a multi-byte answer goes most significant byte first, as I3C has it (log 13). -/
def execGetpid (s : State) : Host.Outcome State Fault Refusal := .next (s.directCcc (fun s => s.ccc (le 6 s.pid).reverse))
/-- GETBCR (R454). -/
def execGetbcr (s : State) : Host.Outcome State Fault Refusal := .next (s.directCcc (fun s => s.ccc [0x06#8]))
/-- GETDCR (R454). -/
def execGetdcr (s : State) : Host.Outcome State Fault Refusal := .next (s.directCcc (fun s => s.ccc [0x00#8]))
/-- GETSTATUS (R454): the format is I3C's (log 13). -/
def execGetstatus (s : State) : Host.Outcome State Fault Refusal := .next (s.directCcc (fun s => ({ s with freeCtr := s.freeCtr + 1 } : State).ccc (Config.standardPayload 0x90 [] s.freeCtr)))
/-- GETMWL (R454). -/
def execGetmwl (s : State) : Host.Outcome State Fault Refusal := .next (s.directCcc (fun s => s.ccc (le 2 s.sb.mwl).reverse))
/-- GETMRL (R454). -/
def execGetmrl (s : State) : Host.Outcome State Fault Refusal := .next (s.directCcc (fun s => s.ccc (le 2 s.sb.mrl).reverse))
/-- UNSUPPORTED_CCC (R454): NACKed. -/
def execUnsupportedCcc (_code : Nat) (s : State) : Host.Outcome State Fault Refusal := .next (s.send .nack)

/-- A sideband command: NACKed while the address is (R440, R450) or none is assigned, else its status and response wait to be read (R456). -/
def State.sideband (s : State) (run : State → Nat × Bytes × State) : State :=
  if !s.wardenUp || s.nacking || !s.rb F.WDN_I3C_STAT_addr_valid then s.send .nack
  else
    let (status, resp, s) := run (s.irqEdge irqSideband)
    { s with sb := { s.sb with response := resp, frag := 0, status := status } }

/-- A sideband command under a right: status 0x03 where interface 5 lacks it (R456). -/
def State.sidebandUnder (s : State) (cmd : Nat) (r : Right) (run : State → Nat × Bytes × State) : State :=
  s.sideband (fun s => if s.holds 5 r then run s else (3, [], s.deny 5 cmd r))

/-- SIDEBAND_PRIVATE_READ (R456): the next fragment of the response, with its status and CRC-8. -/
def execSidebandPrivateRead (s : State) : Host.Outcome State Fault Refusal :=
  .next (if s.nacking || !s.rb F.WDN_I3C_STAT_addr_valid then s.send .nack
    else
      let room := s.sb.mrl - 5
      let part := s.sb.response.take room
      let more := decide (room < s.sb.response.length)
      let b := le 1 s.sb.status ++ le 1 (b2n more + 2 * (s.sb.frag % 128)) ++ le 2 part.length ++ part
      ({ s with sb := { s.sb with response := s.sb.response.drop room, frag := s.sb.frag + 1 } }).ccc (b ++ le 1 (crc8 b)))

/-- IDENT (R456). -/
def execIdent (s : State) : Host.Outcome State Fault Refusal :=
  .next (s.sideband (fun s => (0, le 8 s.dev.serial ++ le 2 s.dev.member.code ++ le 4 Config.romVersion ++ le 4 s.fwVersion ++ le 1 s.lifecycle, s)))

/-- LOG_READ (R456): Read Ring Log with at most 16 records. -/
def execLogRead (input : Bytes) (s : State) : Host.Outcome State Fault Refusal :=
  .next (s.sidebandUnder 0x04 .logRead (fun s =>
    let a := s.readRingLog 5 0x04 input 16
    (if a.code = .success then 0 else if a.code = .invalidSecurityState then 3 else 4, a.payload, a.state)))

/-- The sideband status of a store result (R456). -/
def sbStatus (res : Nat) : Nat := if res = 0 then 0 else if res = 5 ∨ res = 2 then 3 else if res = 6 then 1 else 4

/-- PARAM_READ (R456). -/
def execParamRead (key : Nat) (s : State) : Host.Outcome State Fault Refusal :=
  .next (s.sideband (fun s => let (res, v, s) := s.psRead 5 0x05 key; (sbStatus res, v, s)))

/-- PARAM_WRITE (R456). -/
def execParamWrite (key : Nat) (value : Bytes) (s : State) : Host.Outcome State Fault Refusal :=
  .next (s.sideband (fun s => let (res, s) := s.psStart 5 0x06 key (some value); (sbStatus res, [], s)))

/-- WARRANT (R456, R363): on interface 5. -/
def execWarrant (input : Bytes) (s : State) : Host.Outcome State Fault Refusal :=
  .next (s.sideband (fun s => let a := s.submitWarrant 5 input; (if a.code = .success then 0 else 4, a.payload, a.state)))

/-- A byte of the legacy area (R457): 0xFF in a word never written. -/
def State.legacyByte (s : State) (a : Nat) : Byte := (((s.psGet (0xC000 + a / 16)).getD (List.replicate 16 0xFF#8))).getD (a % 16) 0xFF#8

/-- The legacy commands are refused while a password is set and not unlocked (R457). -/
def State.legacyLocked (s : State) : Bool := (s.psGet 0x0010).isSome && !s.rb F.WDN_PS_STAT_unlocked

/-- L_READ (R457). -/
def execLRead (address length : Nat) (s : State) : Host.Outcome State Fault Refusal :=
  .next (s.sideband (fun s =>
    if s.legacyLocked then (3, [], s)
    else if length = 0 ∨ 32 < length ∨ 8192 < address + length then (4, [], s)
    else (0, (upto length).map (fun i => s.legacyByte (address + i)), s)))

/-- L_WRITE (R457): the word is rewritten as one record; the password governs it, not param-write. -/
def execLWrite (address : Nat) (value : Bytes) (s : State) : Host.Outcome State Fault Refusal :=
  .next (s.sideband (fun s =>
    let o := address % 16
    if s.legacyLocked then (3, [], s)
    else if value.isEmpty ∨ 8192 ≤ address ∨ 16 < o + value.length then (4, [], s)
    else if s.ps.writing.isSome ∨ s.power.committed then (1, [], s)
    else
      let key := 0xC000 + address / 16
      let old := (upto 16).map (fun i => s.legacyByte (address / 16 * 16 + i))
      let v := old.take o ++ value ++ old.drop (o + value.length)
      let r : PsRec := ⟨key, ((s.ps.newest key).map (·.gen)).getD 0 + 1, PsArea.legacy.num, false, v⟩
      if s.psOver key 16 then (4, [], s)
      else if s.glade.fallback.isNone ∧ s.ps.erased.isEmpty then (1, [], s)
      else
        let s := { s with ps := { s.ps with writing := some r, waiter := none } }
        (0, [], (s.wf F.WDN_PS_STAT_busy 1).wf F.WDN_PS_CTRL_go 1)))

/-- The digest a legacy password is kept as (R457). -/
def State.passwordDigest (s : State) (pw : Bytes) : Bytes := digestBytes (Config.sha256 (le 8 s.dev.serial ++ pw))

/-- L_UNLOCK (R457): refused after 8 wrong attempts in one power cycle. -/
def execLUnlock (password : Bytes) (s : State) : Host.Outcome State Fault Refusal :=
  .next (s.sideband (fun s =>
    if password.length ≠ 8 then (4, [], s)
    else if 8 ≤ s.sb.wrong then (3, [], s)
    else match s.psGet 0x0010 with
      | none => (0, [], s)
      | some d => if d = s.passwordDigest password then (0, [], s.wf F.WDN_PS_STAT_unlocked 1)
          else (3, [], { s with sb := { s.sb with wrong := s.sb.wrong + 1 } })))

/-- L_LOCK (R457). -/
def execLLock (s : State) : Host.Outcome State Fault Refusal := .next (s.sideband (fun s => (0, [], s.wf F.WDN_PS_STAT_unlocked 0)))

/-- L_SETPW (R456, R457): under param-write, with the old password where one is set; an all-zero new one clears it. -/
def execLSetpw (oldpw newpw : Bytes) (s : State) : Host.Outcome State Fault Refusal :=
  .next (s.sidebandUnder 0x84 .paramWrite (fun s =>
    if oldpw.length ≠ 8 ∨ newpw.length ≠ 8 then (4, [], s)
    else if (match s.psGet 0x0010 with | some d => d != s.passwordDigest oldpw | none => false) then (3, [], s)
    else (0, [], s.devicePut 0x0010 (if allZero newpw then none else some (s.passwordDigest newpw)))))

/-! ## The test access port (18, R530) -/

/-- An instruction loaded, and its data register shifted out. -/
def State.tapLoad (s : State) (code : Nat) (dr : Bytes) : State := ({ s with tap := { s.tap with instr := code } }).send (.tap dr)

/-- RST# holds the device in warm reset. -/
def State.heldWarm (s : State) : Bool := !s.power.pins.rst

/-- IDCODE (R530). -/
def execIdcode (s : State) : Host.Outcome State Fault Refusal :=
  .next (s.tapLoad 0x01 (le 4 ((Config.dieRevision % 16) * 2 ^ 28 + s.dev.member.code * 2 ^ 12 + (Config.jedec % 2 ^ 11) * 2 + 1)))

/-- SAMPLE_PRELOAD (R530): the order of the boundary cells is not in the spec, so the sample is a free value (log 10); the preloaded bits are kept. -/
def execSamplePreload (bits : Bytes) (s : State) : Host.Outcome State Fault Refusal :=
  .next (let (v, s) := s.draw
    ({ s with tap := { s.tap with boundary := bits } }).tapLoad 0x02 (le bits.length v))

/-- EXTEST (R530): drives the static pins from the boundary register only while RST# holds warm reset, else acts as BYPASS. -/
def execExtest (bits : Bytes) (s : State) : Host.Outcome State Fault Refusal :=
  .next (if s.heldWarm then (({ s with tap := { s.tap with boundary := bits } }).tapLoad 0x03 bits).send (.pin .statics true) else s.tapLoad 0x3F (zeros 1))

/-- HIGHZ (R530). -/
def execHighz (s : State) : Host.Outcome State Fault Refusal :=
  .next (if s.heldWarm then (s.tapLoad 0x04 (zeros 1)).send (.pin .statics false) else s.tapLoad 0x3F (zeros 1))

/-- CLAMP (R530). -/
def execClamp (s : State) : Host.Outcome State Fault Refusal :=
  .next (if s.heldWarm then (s.tapLoad 0x05 (zeros 1)).send (.pin .statics true) else s.tapLoad 0x3F (zeros 1))

/-- DBGMSG (R530): the data register carries the debug channel's messages, which are commands of interface 6. -/
def execDbgmsg (s : State) : Host.Outcome State Fault Refusal := .next (s.tapLoad 0x20 [])

/-- TAP_WARRANT (R530, R363): a Submit Warrant input on interface 6. -/
def execTapWarrant (input : Bytes) (s : State) : Host.Outcome State Fault Refusal :=
  .next (if !s.wardenUp then s.tapLoad 0x21 [] else let a := s.submitWarrant 6 input; a.state.tapLoad 0x21 a.payload)

/-- BYPASS, or any code the table does not hold (R530). -/
def execBypass (_code : Nat) (s : State) : Host.Outcome State Fault Refusal := .next (s.tapLoad 0x3F (zeros 1))

/-- TAP_RESET (R365): interface 6 resets; the TAP comes back on IDCODE, as IEEE 1149.1 has it (log 13). -/
def execTapReset (s : State) : Host.Outcome State Fault Refusal :=
  .next (({ s with tap := { s.tap with instr := 0x01 } }).resetInterface 6)

end Sys2Proof.Machine
end

