-- ==== Sys2Proof/Machine/Host.lean ====
section
/-! DEFINITION. Host links, IDE streams, configuration, the CXL mailbox commands, the FM API, resets of a port and of a logical device, the host port registers (04, R125 to R144; 15, R487). -/
namespace Sys2Proof.Machine

/-! ## Links (R125 to R127, R134, R143, R184, R491) -/

def HLink.down : HLink := ⟨false, false, false, []⟩
def State.link (s : State) (port link : Nat) : HLink := tgetD s.links (port, link) HLink.down
def State.setHostLink (s : State) (port link : Nat) (l : HLink) : State := { s with links := tput s.links (port, link) l }
def rateField (port link : Nat) : Fld := if link = 0 then F.HPT_LINK_rate_a port else F.HPT_LINK_rate_b port
def widthField (port link : Nat) : Fld := if link = 0 then F.HPT_LINK_width_a port else F.HPT_LINK_width_b port
def ideField (port link : Nat) : Fld := if link = 0 then F.HPT_LINK_ide_a port else F.HPT_LINK_ide_b port
/-- The port has the link: link b exists in 2 × x8 mode alone (R125). -/
def State.linkExists (s : State) (port link : Nat) : Bool := decide (port < s.portCount) && (link == 0 || (link == 1 && s.rb (F.HPT_LINK_bif port)))
/-- Transfer rate in GT/s of a rate code (R143), doubled so that 2.5 is whole. -/
def rateOfCode (n : Nat) : Nat := [0, 5, 10, 16, 32, 64, 128].getD n 0
/-- ide_a and ide_b: every stream of the link is Secure (R143); a link without streams shows 0. -/
def State.showIde (s : State) (port link : Nat) : State :=
  let l := (s.link port link).ide
  s.wf (ideField port link) (b2n (!l.isEmpty && l.all (fun (p : Nat × Bool) => p.2)))
/-- Widths a link may train at (R125). -/
def linkWidth (split : Bool) (w : Nat) : Bool := [1, 2, 4, 8].contains w || (w == 16 && !split)
/-- HOST_LINK_TRAINED (R125, R143): rate codes 1 to 6; CXL runs at 8 GT/s and above. -/
def execHostLinkTrained (port link rate width : Nat) (s : State) : Host.Outcome State Fault Refusal :=
  .next (if !s.wardenUp || s.clocks.held.contains (3 + port) || !s.linkExists port link || rate == 0 || decide (6 < rate) || !linkWidth (s.rb (F.HPT_LINK_bif port)) width || !s.power.pins.perst.getD port true then s
    else
      let s : State := { s with power := { s.power with pstate := 0 } }
      let s := s.setHostLink port link { s.link port link with up := true, cxl := decide (3 ≤ rate), l1 := false }
      (((s.wf (rateField port link) rate).wf (widthField port link) width).showIde port link).irqEdge (irqLink port))
/-- Nanoseconds of the level delay on a link at a rate and width (R126, R184; log 27): 1,600 at 64 GT/s and x8 or more, else with the added time of a request and a response flit of 256 bytes. -/
def linkDelay (rate width base : Nat) : Nat :=
  if rate = 0 ∨ width = 0 then 0
  else if rate = 6 ∧ 8 ≤ width then base
  else base + 2 * (2048 * 2 / max 1 (width * rateOfCode rate) - 4)
/-- D of a port in units of 10 ns, rounded up (R184, R188): the longest of its trained links; 2,400 ns while a tile is not In service. -/
def State.levelDelay (s : State) (port : Nat) : Nat :=
  let base := if s.allInService then 1600 else 2400
  let d (link : Nat) : Nat := linkDelay (s.rf (rateField port link)) (s.rf (widthField port link)) base
  min 2047 ((max (d 0) (d 1) + 9) / 10)
/-- IDE_INTEGRITY_FAIL (R134): the stream goes Insecure, with a link security event. -/
def execIdeIntegrityFail (port link stream : Nat) (s : State) : Host.Outcome State Fault Refusal :=
  .next (match tget (s.link port link).ide stream with
    | none => s
    | some _ =>
      let l := s.link port link
      let s := (s.setHostLink port link { l with ide := tput l.ide stream false }).showIde port link
      (s.countHub 51).emit (0x10 + port) 0x0800 (portLink port link ++ le 1 stream))
/-- IDE_KEY_PROGRAM (R134): new keys return the stream to Secure. -/
def execIdeKeyProgram (port link stream : Nat) (_key : Bytes) (s : State) : Host.Outcome State Fault Refusal :=
  .next (let l := s.link port link
    if !l.up then s else (s.setHostLink port link { l with ide := tput l.ide stream true }).showIde port link)
/-- HOST_LINK_L1_ENTRY (R491). -/
def execHostLinkL1Entry (port link : Nat) (s : State) : Host.Outcome State Fault Refusal :=
  .next (let l := s.link port link; if l.up then s.setHostLink port link { l with l1 := true } else s)
/-- GLOBAL_PERSISTENT_FLUSH (R140): both phases are answered at once. -/
def execGlobalPersistentFlush (port phase : Nat) (s : State) : Host.Outcome State Fault Refusal := .next (s.send (.gpf port phase))

/-! ## Configuration and DOE (R127, R129, R387, R477) -/

/-- Capacity of a logical device (R128). -/
def State.ldCapacity (s : State) (port ld : Nat) : Nat :=
  let top := each (s.visibleTo port ld) 0 (fun m c => max m c.hi)
  (top + 0xFFFFFFF) / 0x10000000 * 0x10000000
/-- CONFIG_REQUEST (R129, R132, R134, R477): retry status until the LDs are configured; then the register's value, as last written or as CXL and PCIe have it; BAR0's component registers and MSI-X table are reached the same way (log 13, log 156). -/
def execConfigRequest (port ld offset : Nat) (write : Bool) (value : Nat) (s : State) : Host.Outcome State Fault Refusal :=
  .next (if !(s.link port (s.linkOf port ld)).up then s
    else if s.ioInsecure port ld then s.discardIo port ld
    else if !s.ldsReady then s.send (.config port ld offset none)
    else if write then (s.writeConfig port ld offset value).send (.config port ld offset (some value))
    else s.send (.config port ld offset (some (s.configWord port ld offset))))
/-- One DSMAS entry per visible compartment: base, length, non-volatile (R129). -/
def dsmas (c : Comp) : Bytes := le 8 c.lo ++ le 8 (c.hi - c.lo) ++ le 1 1
/-- The DSLBIS values of R129: read and write latency in ns, read and write bandwidth in GB/s. -/
def dslbis : Bytes := le 2 1600 ++ le 2 900 ++ le 2 105 ++ le 2 20
/-- A DOE object reaches a port (R443, R521). -/
def State.doe (s : State) (port : Nat) : State := (s.countHub 33).irqEdge (irqDoe port)
/-- CDAT_READ (R129): the entries' content; the table's layout is CXL's (log 13). -/
def execCdatRead (port ld _handle : Nat) (s : State) : Host.Outcome State Fault Refusal :=
  .next (if s.ioInsecure port ld then s.discardIo port ld
    else (s.doe port).reply port ld 2 .success (((s.visibleTo port ld).map dsmas).flatten ++ dslbis))
/-- The measurement blocks of the SPDM responder (R387): ROM version, the processors' firmware, the active image, the lifecycle state and owner banks. -/
def State.spdmBlocks (s : State) : List Bytes :=
  [le 4 Config.romVersion, s.measurement 0] ++ (upto 8).map (fun t => if s.tileInService t then s.measurement (t + 1) else zeros 32) ++
    [match s.active with | some i => digestBytes (Config.sha256 i.bytes) | none => zeros 32, le 1 s.lifecycle ++ le 1 s.bankCount]
/-- SPDM_REQUEST (R387): answered as SPDM 1.3 has it, under the SPDM key with its certificate chain in slot 0 (log 13). -/
def execSpdmRequest (port ld : Nat) (request : Bytes) (s : State) : Host.Outcome State Fault Refusal :=
  .next (if s.ioInsecure port ld then s.discardIo port ld
    else let s := s.doe port
    ({ s with freeCtr := s.freeCtr + 1 } : State).reply port ld 1 .success (Config.spdmAnswer s.vault.spdm s.vault.spdmChain s.spdmBlocks request s.freeCtr))

/-! ## Event logs and timestamp (R138, R139, R141) -/

/-- The address of a record as a reader sees it, and whether it is redacted (R138, R380). -/
def State.shownDpa (s : State) (iface : Nat) (comp : Option Nat) (dpa : Nat) : Nat × Bool :=
  let hide := (comp.map s.sealedComp).getD false && !(comp.map (s.covers iface .address)).getD false
  (if hide then dpa / 0x100000 * 0x100000 else dpa, hide)
/-- A record's fields: handle, kind, type, compartment, address, redacted, timestamp (R132); the record formats are CXL's (log 13). -/
def State.recBytes (s : State) (iface : Nat) (r : CxlRec) : Bytes :=
  let kind := match r.kind with | .media => 0 | .module => 1 | .unmapped => 2 | .key => 3 | .visible => 4 | .link => 5
  let d := match r.dpa with | some a => s.shownDpa iface r.comp a | none => (0xFFFFFFFFFFFFFFFF, false)
  le 2 r.handle ++ le 1 kind ++ le 1 r.type ++ le 2 (r.comp.getD 0xFFFF) ++ le 8 d.1 ++ le 1 (b2n d.2) ++ le 8 r.time
def State.cxlLog (s : State) (port ld log : Nat) : CxlLog := (s.ld port ld).logs.getD log CxlLog.fresh
def State.putCxlLog (s : State) (port ld log : Nat) (l : CxlLog) : State := s.modLd port ld (fun d => { d with logs := d.logs.set log l })
/-- GET_EVENT_RECORDS (R139): overflow flag, drops, the first and the last drop's timestamps, record count, records. -/
def execGetEventRecords (iface ld log : Nat) (s : State) : Host.Outcome State Fault Refusal :=
  .next (s.command iface ld 0x0100 none (fun s =>
    if 4 ≤ log then answer .invalidInput s
    else
      let l := s.cxlLog iface ld log
      ⟨.success, le 1 (b2n l.overflow) ++ le 2 l.dropped ++ le 8 l.firstOver ++ le 8 l.lastOver ++ le 2 l.recs.length ++ (l.recs.map (s.recBytes iface)).flatten, s⟩))
/-- CLEAR_EVENT_RECORDS (R139): all, or the records of the handles given; an unknown handle is refused. -/
def execClearEventRecords (iface ld log : Nat) (all : Bool) (handles : List Nat) (s : State) : Host.Outcome State Fault Refusal :=
  .next (s.command iface ld 0x0101 none (fun s =>
    let l := s.cxlLog iface ld log
    if 4 ≤ log then answer .invalidInput s
    else if all then answer .success (s.putCxlLog iface ld log { l with recs := [], overflow := false, dropped := 0, firstOver := 0, lastOver := 0 })
    else if !handles.all (fun h => l.recs.any (fun r => r.handle == h)) then answer .invalidHandle s
    else answer .success (s.putCxlLog iface ld log { l with recs := l.recs.filter (fun r => !handles.contains r.handle), overflow := false, dropped := 0, firstOver := 0, lastOver := 0 })))
/-- The number that stands for no vector in an interrupt policy (log 156). -/
def noVector : Nat := 0xFFFF
/-- GET_EVENT_INTERRUPT_POLICY (R139). -/
def execGetEventInterruptPolicy (iface ld : Nat) (s : State) : Host.Outcome State Fault Refusal :=
  .next (s.command iface ld 0x0102 none (fun s => ⟨.success, ((upto 4).map (fun i => le 2 ((s.cxlLog iface ld i).vector.getD noVector))).flatten, s⟩))
/-- SET_EVENT_INTERRUPT_POLICY (R139): a vector, or none, for each of the four logs. -/
def execSetEventInterruptPolicy (iface ld : Nat) (vectors : List Nat) (s : State) : Host.Outcome State Fault Refusal :=
  .next (s.command iface ld 0x0103 none (fun s =>
    if vectors.length ≠ 4 ∨ vectors.any (fun v => decide (2048 ≤ v ∧ v ≠ noVector)) then answer .invalidInput s
    else answer .success (each (upto 4) s (fun s i => s.putCxlLog iface ld i { s.cxlLog iface ld i with vector := if vectors.getD i 0 = noVector then none else some (vectors.getD i 0) }))))
/-- GET_FW_INFO (R141, R442): slots, active slot, slot marked for the next cold reset, and each slot's revision (R436). -/
def execGetFwInfo (iface ld : Nat) (s : State) : Host.Outcome State Fault Refusal :=
  .next (s.command iface ld 0x0200 none (fun s =>
    let rev (i : Nat) : Bytes := match s.fwSlot i with | some b => fit 16 (slice b 0x48 16) | none => zeros 16
    ⟨.success, le 1 2 ++ le 1 (s.rf F.WDN_FW_STAT_active_slot) ++ le 1 (match s.fw.marked with | some i => i + 1 | none => 0) ++ rev 0 ++ rev 1, s⟩))
/-- GET_TIMESTAMP (R141): the time set, and what has gone by since. -/
def execGetTimestamp (iface ld : Nat) (s : State) : Host.Outcome State Fault Refusal :=
  .next (s.command iface ld 0x0300 none (fun s =>
    ⟨.success, le 8 (s.ldTime iface ld s.fine), s⟩))
/-- SET_TIMESTAMP (R141). -/
def execSetTimestamp (iface ld value : Nat) (s : State) : Host.Outcome State Fault Refusal :=
  .next (s.command iface ld 0x0301 none (fun s => answer .success (s.modLd iface ld (fun d => { d with timestamp := value, tsFine := s.fine }))))

/-! ## Identification, label area, health, shutdown state (R128, R140, R141, R259) -/

/-- The commands of R141 and R142, and whether each runs in the background. -/
def supported : List (Nat × Bool) :=
  ([0x0100, 0x0101, 0x0102, 0x0103, 0x0200, 0x0201, 0x0300, 0x0301, 0x0400, 0x0401, 0x4000, 0x4100, 0x4102, 0x4103, 0x4200, 0x4201, 0x4202,
    0x4203, 0x4204, 0x4300, 0x4301, 0x4302, 0x4303, 0x4305, 0xC000, 0xC001, 0xC002, 0xC010, 0xC011, 0xC012, 0xC021, 0xC022, 0xC031, 0xC040,
    0xC041, 0xC050, 0xC060].map (fun n => (n, false))) ++ [(0x0202, true), (0x4304, true), (0xC013, true), (0xC020, true), (0xC030, true)]
/-- The Command Effects Log's entries: opcode and whether it is a background command; CXL's effect bits are not modelled (log 13). -/
def celBytes : Bytes := (supported.map (fun (p : Nat × Bool) => le 2 p.1 ++ le 1 (b2n p.2))).flatten
/-- GET_SUPPORTED_LOGS (R141): one log, the CEL, and its size. -/
def execGetSupportedLogs (iface ld : Nat) (s : State) : Host.Outcome State Fault Refusal :=
  .next (s.command iface ld 0x0400 none (fun s => ⟨.success, le 2 1 ++ le 4 celBytes.length, s⟩))
/-- GET_LOG (R141): log 0 is the CEL. -/
def execGetLog (iface ld log : Nat) (s : State) : Host.Outcome State Fault Refusal :=
  .next (s.command iface ld 0x0401 none (fun s => if log = 0 then ⟨.success, celBytes, s⟩ else answer .invalidInput s))
/-- Bytes of a label area (R141). -/
def lsaSize : Nat := 131072
/-- IDENTIFY_MEMORY_DEVICE (R128, R141): total, volatile and persistent capacity, label area, poison list. -/
def execIdentifyMemoryDevice (iface ld : Nat) (s : State) : Host.Outcome State Fault Refusal :=
  .next (s.command iface ld 0x4000 none (fun s =>
    let n := s.ldCapacity iface ld
    ⟨.success, le 8 n ++ le 8 0 ++ le 8 n ++ le 4 lsaSize ++ le 4 65536, s⟩))
/-- GET_PARTITION_INFO (R132, R141): no volatile capacity. -/
def execGetPartitionInfo (iface ld : Nat) (s : State) : Host.Outcome State Fault Refusal :=
  .next (s.command iface ld 0x4100 none (fun s => ⟨.success, le 8 0 ++ le 8 (s.ldCapacity iface ld), s⟩))
/-- GET_LSA (R141). -/
def execGetLsa (iface ld offset length : Nat) (s : State) : Host.Outcome State Fault Refusal :=
  .next (s.command iface ld 0x4102 none (fun s =>
    if lsaSize < offset + length then answer .invalidInput s
    else ⟨.success, (upto length).map (fun i => tgetD (s.ld iface ld).lsa (offset + i) 0#8), s⟩))
/-- SET_LSA (R141). -/
def execSetLsa (iface ld offset : Nat) (data : Bytes) (s : State) : Host.Outcome State Fault Refusal :=
  .next (s.command iface ld 0x4103 none (fun s =>
    s.fits iface (8 + data.length) (fun s =>
    if lsaSize < offset + data.length then answer .invalidInput s
    else answer .success (s.modLd iface ld (fun d => { d with lsa := each (upto data.length) d.lsa (fun t i => tput t (offset + i) (data.getD i 0#8)) })))))
/-- GET_HEALTH_INFO (R140, R247, R259): maintenance needed, replacement needed, life used, dirty shutdown count, and whether the spare threshold is reached. -/
def execGetHealthInfo (iface ld : Nat) (s : State) : Host.Outcome State Fault Refusal :=
  .next (s.command iface ld 0x4200 none (fun s =>
    ⟨.success, le 1 (b2n (decide (1 ≤ s.spareState)) + 4 * b2n (decide (2 ≤ s.spareState))) ++ le 1 s.lifeUsed ++ le 4 s.health.dirtyShutdowns ++
      le 1 (b2n (decide (s.spareLeft < (s.ld iface ld).spareAlert))), s⟩))
/-- GET_ALERT_CONFIG (R259). -/
def execGetAlertConfig (iface ld : Nat) (s : State) : Host.Outcome State Fault Refusal :=
  .next (s.command iface ld 0x4201 none (fun s => ⟨.success, le 1 (s.ld iface ld).spareAlert, s⟩))
/-- SET_ALERT_CONFIG (R259). -/
def execSetAlertConfig (iface ld spare : Nat) (s : State) : Host.Outcome State Fault Refusal :=
  .next (s.command iface ld 0x4202 none (fun s =>
    if 100 < spare then answer .invalidInput s else answer .success (s.modLd iface ld (fun d => { d with spareAlert := spare }))))
/-- GET_SHUTDOWN_STATE (R140). -/
def execGetShutdownState (iface ld : Nat) (s : State) : Host.Outcome State Fault Refusal :=
  .next (s.command iface ld 0x4203 none (fun s => ⟨.success, le 1 (b2n (s.ld iface ld).dirty), s⟩))
/-- SET_SHUTDOWN_STATE (R140). -/
def execSetShutdownState (iface ld : Nat) (dirty : Bool) (s : State) : Host.Outcome State Fault Refusal :=
  .next (s.command iface ld 0x4204 none (fun s => answer .success (s.modLd iface ld (fun d => { d with dirty := dirty }))))

/-! ## Poison and media scans (R141, R288, R294) -/

/-- A device address of a logical device: whole lines within its capacity. -/
def State.ldRange (s : State) (port ld dpa length : Nat) : Bool := dpa % 64 == 0 && length % 64 == 0 && decide (dpa + length ≤ s.ldCapacity port ld)
/-- The compartment of a line that a logical device sees. -/
def State.ldComp (s : State) (port ld line : Nat) : Option Comp := (s.visibleTo port ld).find? (fun c => decide (c.lo ≤ lineDpa line ∧ lineDpa line < c.hi))
/-- GET_POISON_LIST (R294): overflow flag and timestamp, count, and each line's address, redaction and source. -/
def execGetPoisonList (iface ld dpa length : Nat) (s : State) : Host.Outcome State Fault Refusal :=
  .next (s.command iface ld 0x4300 none (fun s =>
    if !s.ldRange iface ld dpa length then answer .invalidInput s
    else
      let l := s.poison.filterMap (fun p => match s.ldComp iface ld p.1 with
        | some c => if dpa ≤ lineDpa p.1 ∧ lineDpa p.1 < dpa + length then some (s.shownDpa iface (some c.id) (lineDpa p.1), p.2) else none
        | none => none)
      ⟨.success, le 1 (b2n s.poisonOver.isSome) ++ le 8 ((s.poisonOver.map (s.ldTime iface ld)).getD 0) ++ le 4 l.length ++ (l.map (fun (p : (Nat × Bool) × Bool) => le 8 p.1.1 ++ le 1 (b2n p.1.2 + 2 * b2n p.2))).flatten, s⟩))
/-- A line is written poisoned by Inject Poison. -/
def State.injectLine (s : State) (c : Comp) (r : LeafRef) (line port : Nat) : State :=
  let t := s.server r.tile
  let l := s.poisonFor t c r line
  (((s.modTile t (fun x => x.uncache line)).catchPut t line c.id l false port).poisonDel line).poisonAdd line true
/-- A host access holds the line (R131). -/
def State.lineHeld (s : State) (line : Nat) : Bool := s.reqs.any (fun q => q.atTile && q.line == line)
/-- INJECT_POISON (R294): under the test right. A write that cannot be made ends with Media Disabled (log 28). While a host access holds the line the command has not come to it yet (R131; log 113). -/
def execInjectPoison (iface ld dpa : Nat) (s : State) : Host.Outcome State Fault Refusal :=
  .next (if s.lineHeld (dpa / 64) then s else s.command iface ld 0x4301 (some .test) (fun s =>
    if dpa % 64 ≠ 0 then answer .invalidInput s
    else match s.ldComp iface ld (dpa / 64), s.leafOfLine (dpa / 64) with
      | some c, some r =>
        if !s.covers iface .test c.id then answer .invalidSecurityState (s.deny iface 0x4301 .test)
        else if s.readOnly || !s.admits (s.server r.tile) (dpa / 64) then answer .mediaDisabled s
        else if 65536 ≤ s.poison.length && !s.poisoned (dpa / 64) then answer .injectLimit s
        else answer .success (s.injectLine c r (dpa / 64) iface)
      | _, _ => answer .invalidAddress s))
/-- A full-line write made by the device itself (R141, R148): false where a condition of R136 refuses it. -/
def State.engineWrite (s : State) (c : Comp) (r : LeafRef) (line key : Nat) (d : HostLine) (master : Nat) : Bool × State :=
  let t := s.server r.tile
  if s.readOnly || (c.cipher == 1 && (s.slot key).state != 1) then (false, s)
  else
    let s := if c.cipher == 0 then s else s.loadPath c r.tile r.rank 3 line
    if s.badPath c r.tile r.rank || !s.admitsWrite t c r line then (false, s)
    else (true, s.writeLine t c r line key d master)
/-- CLEAR_POISON (R141, R294): a full-line write of the bytes given, once no host access holds the line (R131; log 113). -/
def execClearPoison (iface ld dpa : Nat) (data : HostLine) (s : State) : Host.Outcome State Fault Refusal :=
  .next (if s.lineHeld (dpa / 64) then s else s.command iface ld 0x4302 none (fun s =>
    if dpa % 64 ≠ 0 then answer .invalidInput s
    else match s.ldComp iface ld (dpa / 64), s.leafOfLine (dpa / 64) with
      | some c, some r =>
        let key := (s.lineKey c (dpa / 64)).1
        let w := s.engineWrite c r (dpa / 64) key data iface
        if w.1 then answer .success (w.2.cacheWrite (s.server r.tile) (dpa / 64) c key (s.slot key).gen data) else answer .mediaDisabled w.2
      | _, _ => answer .invalidAddress s))
/-- Lines of a range homed on a tile. -/
def State.rangeLines (s : State) (dpa length t : Nat) : Nat :=
  ((upto (length / 64)).filter (fun i => (match s.leafOfLine (dpa / 64 + i) with | some r => r.tile == t | none => false))).length
/-- Milliseconds a scan takes at the cap of R286: a media line slot per line, on the tile that has the most to do (log 29). -/
def State.scanTime (s : State) (dpa length : Nat) : Nat :=
  each s.tileList 0 (fun m t =>
    let perMs := s.tileCap t * 1000 * s.rf (F.MSC_SCR_CFG_cap_pct t) / 100
    let n := s.rangeLines dpa length t
    max m ((n + perMs - 1) / max 1 perMs))
/-- GET_SCAN_MEDIA_CAPABILITIES (R288). -/
def execGetScanMediaCapabilities (iface ld dpa length : Nat) (s : State) : Host.Outcome State Fault Refusal :=
  .next (s.command iface ld 0x4303 none (fun s => if s.ldRange iface ld dpa length then ⟨.success, le 4 (s.scanTime dpa length), s⟩ else answer .invalidInput s))
/-- The scan of a range (R288): lines found uncorrectable. -/
def State.scan (s : State) (port ld dpa length : Nat) : State :=
  let r := each (upto (length / 64)) (s, ([] : List Nat)) (fun (a : State × List Nat) i =>
    let line := dpa / 64 + i
    if (a.1.ldComp port ld line).isNone then a
    else (let b := a.1.scanLine line; (b.1, if b.2 then a.2 ++ [line] else a.2)))
  r.1.modLd port ld (fun d => { d with scan := r.2 })
/-- SCAN_MEDIA (R288): the background command runs, and ends, within this step (log 26). -/
def execScanMedia (iface ld dpa length : Nat) (s : State) : Host.Outcome State Fault Refusal :=
  .next (
    let s := s.command iface ld 0x4304 none (fun s =>
      if !s.ldRange iface ld dpa length then answer .invalidInput s
      else if (s.ld iface ld).bg.isSome then answer .busy s
      else answer .background (s.modLd iface ld (fun d => { d with bg := some 0x4304 })))
    if (s.ld iface ld).bg == some 0x4304 then (s.scan iface ld dpa length).endBackground iface ld 0x4304 .success [] else s)
/-- Results of a scan that one payload holds (R141). -/
def scanPage : Nat := (mailboxSize - 8) / 9
/-- GET_SCAN_MEDIA_RESULTS (R141, R288): the lines found, as their addresses (R138); what one payload does not hold is left for the next. -/
def execGetScanMediaResults (iface ld : Nat) (s : State) : Host.Outcome State Fault Refusal :=
  .next (s.command iface ld 0x4305 none (fun s =>
    let found := (s.ld iface ld).scan
    let l := (found.take scanPage).map (fun line => s.shownDpa iface ((s.ldComp iface ld line).map Comp.id) (lineDpa line))
    ⟨.success, le 4 l.length ++ le 4 (found.length - l.length) ++ (l.map (fun (p : Nat × Bool) => le 8 p.1 ++ le 1 (b2n p.2))).flatten,
      if found.length ≤ scanPage then s else s.modLd iface ld (fun d => { d with scan := found.drop scanPage })⟩))
/-- SANITIZE (R141). -/
def execSanitize (iface ld : Nat) (s : State) : Host.Outcome State Fault Refusal := .next (s.command iface ld 0x4400 none (answer .unsupported))
/-- SECURE_ERASE (R141). -/
def execSecureErase (iface ld : Nat) (s : State) : Host.Outcome State Fault Refusal := .next (s.command iface ld 0x4401 none (answer .unsupported))
/-- UNSUPPORTED_COMMAND (R141): any opcode without a command. -/
def execUnsupportedCommand (iface ld opcode : Nat) (s : State) : Host.Outcome State Fault Refusal :=
  .next (if supported.any (fun (p : Nat × Bool) => p.1 == opcode) then s else s.command iface ld opcode none (answer .unsupported))

/-! ## FM API (R133) -/

/-- The number by which outputs name the FM-owned LD of a link. -/
def fmLd (link : Nat) : Nat := 0xFFFF - link
/-- An FM API command reaches a port's FM-owned LD (R132, R443). -/
def State.fmApi (s : State) (port : Nat) : State := s.irqEdge (irqFmApi port)
/-- The logical devices of a link (R127): all sixteen in x16 mode, eight on each link in 2 × x8 mode. -/
def State.linkRange (s : State) (port link : Nat) : List Nat :=
  if s.rb (F.HPT_LINK_bif port) then (upto 8).map (fun k => k + 8 * link) else upto 16
/-- A link is a single logical device: its visible compartments all name its first LD. -/
def State.single (s : State) (port link : Nat) : Bool := (s.linkRange port link).all (fun ld => ld % 8 == 0 && ld == 8 * link || (s.visibleTo port ld).isEmpty)
/-- The logical devices a link presents: one of a single logical device, else all (R127). -/
def State.linkLds (s : State) (port link : Nat) : List Nat := if s.single port link then [8 * link] else s.linkRange port link
/-- The LD-ID a logical device carries on its link (R127). -/
def State.ldId (s : State) (port ld : Nat) : Nat := if s.linkOf port ld = 1 then ld - 8 else ld
/-- GET_LD_INFO (R127, R133): the logical devices of the link, and the memory they map. -/
def execGetLdInfo (port link : Nat) (s : State) : Host.Outcome State Fault Refusal :=
  .next (if !s.linkExists port link then s
    else let l := s.linkLds port link
    (s.fmApi port).reply port (fmLd link) 0x5400 .success (le 2 l.length ++ le 8 ((l.map (s.ldCapacity port)) : List Nat).sum))
/-- GET_LD_ALLOCATIONS (R127, R133): the LD-ID and the capacity of each logical device of the link. -/
def execGetLdAllocations (port link : Nat) (_input : Bytes) (s : State) : Host.Outcome State Fault Refusal :=
  .next (if !s.linkExists port link then s
    else (s.fmApi port).reply port (fmLd link) 0x5401 .success (((s.linkLds port link).map (fun ld => le 1 (s.ldId port ld) ++ le 8 (s.ldCapacity port ld))).flatten))
/-- SET_LD_ALLOCATIONS (R133): Unsupported. -/
def execSetLdAllocations (port link : Nat) (_input : Bytes) (s : State) : Host.Outcome State Fault Refusal :=
  .next (if !s.linkExists port link then s else (s.fmApi port).reply port (fmLd link) 0x5402 .unsupported [])

/-! ## Queue pairs (R153, R156) -/

def State.queue (s : State) (q : Nat) : Option Queue := tget s.queues q
/-- Descriptors that have ended join the order in which completions are posted (R153). -/
def Queue.settle (x : Queue) : Queue :=
  { x with ended := x.ended.filter (fun n => x.descs.any (fun d => d.num == n)) ++ (x.descs.filter (fun d => d.status.isSome && !x.ended.contains d.num)).map Desc.num }
def State.putQueue (s : State) (q : Nat) (x : Queue) : State := { s with queues := tput s.queues q x.settle }

/-! ## Resets of a port and of a logical device (R155, R365, R478, R487) -/

/-- Descriptors in execution across the package, with those being fetched (R156). -/
def State.executing (s : State) : Nat := ((s.queues.map (fun (p : Nat × Queue) => (p.2.descs.filter (fun d => d.status.isNone)).length + b2n p.2.fetching)) : List Nat).sum
/-- Descriptors that may execute: 64, or 16 while the hub die is at throttle (R156, R500). -/
def State.queueDepth (s : State) : Nat := if hasBit (s.rf F.THM_STAT_die_throttle) 0 then 16 else 64
/-- The next descriptor is fetched over the link, while there is one, no flush stops the engine, and no more execute than may (R156, R212). -/
def State.fetchNext (s : State) (q : Nat) : State :=
  match s.queue q with
  | some x =>
    if x.fetching || x.error.isSome || x.deleting || x.head == x.tail || s.power.flushing || decide (s.queueDepth ≤ s.executing) then s
    else (s.putQueue q { x with fetching := true }).send (.dmaRead x.port (x.sq + 64 * x.head) 64)
  | none => s
/-- The queues in turn, beginning after one of them, fetch while they may (R156). -/
def State.fetchRound (s : State) (q : Nat) : State :=
  let all := s.queues.map (fun (p : Nat × Queue) => p.1)
  each (all.filter (fun n => decide (q < n)) ++ all.filter (fun n => decide (n ≤ q))) s (fun s n => s.fetchNext n)
/-- A logical device's queue pairs are deleted, without a completion (R155); the other queues have their room. -/
def State.dropQueues (s : State) (f : Queue → Bool) : State := ({ s with queues := s.queues.filter (fun p => !f p.2) } : State).fetchRound 0
/-- The requests of a port or LD whose line has not entered a catch are discarded without response. -/
def State.discardReqs (s : State) (f : Req → Bool) : State :=
  let gone := s.reqs.filter f
  let s := each gone s (fun s q =>
    let s := each (s.ops.filter (fun o => o.who == .req q.id)) s (fun s o => s.dropOp o.id)
    (s.dropReq q.id).freeLine q.line)
  s.run
/-- The configuration state of a logical device is reset; its event logs, label area and shutdown state are kept (R487). -/
def Ld.unconfigured (d : Ld) : Ld := { d with config := [], logs := d.logs.map (fun l => { l with vector := none }), msixPending := [], timestamp := 0, tsFine := 0, spareAlert := 0 }
/-- A link goes down: rate, width and IDE streams. -/
def State.linkReset (s : State) (port link : Nat) : State :=
  if (s.link port link).up then
    (((s.setHostLink port link HLink.down).wf (rateField port link) 0).wf (widthField port link) 0).wf (ideField port link) 0
  else s.setHostLink port link HLink.down
/-- A host port reset (R487): not while a wider reset waits (R480). -/
def State.portReset (s : State) (port cause : Nat) : State :=
  if s.portCount ≤ port || s.resets.any (fun r => decide (r.scope ≤ 3)) then s
  else
    let s := (s.resetEvent 5 cause port).noteReset 5 cause port
    let s := ((s.linkReset port 0).linkReset port 1).irqEdge (irqLink port)
    let s : State := { s with lds := s.lds.map (fun (p : (Nat × Nat) × Ld) => if p.1.1 == port then (p.1, p.2.unconfigured) else p) }
    let s := (s.dropQueues (fun q => q.port == port)).discardReqs (fun q => q.port == port)
    ((s.resetInterface port).abortStageOf port).abortFwOf port
/-- PERST_ASSERT (R477): held while the pin stays low. -/
def execPerstAssert (port : Nat) (s : State) : Host.Outcome State Fault Refusal :=
  .next (if s.portCount ≤ port then s
    else ({ s with power := { s.power with pins := { s.power.pins with perst := s.power.pins.perst.set port false } } } : State).portReset port 15)
/-- HOT_RESET (R487). -/
def execHotReset (port link : Nat) (s : State) : Host.Outcome State Fault Refusal := .next (if s.linkExists port link then s.portReset port 15 else s)
/-- HOST_LINK_DOWN (R487). -/
def execHostLinkDown (port link : Nat) (s : State) : Host.Outcome State Fault Refusal := .next (if (s.link port link).up then s.portReset port 15 else s)
/-- A reset of one logical device (R155, R487). -/
def State.ldReset (s : State) (port ld : Nat) : State :=
  if s.portCount ≤ port then s
  else
    let s := (s.resetEvent 5 15 port).noteReset 5 15 port
    let s := s.modLd port ld Ld.unconfigured
    (s.dropQueues (fun q => q.port == port && q.ld == ld)).discardReqs (fun q => q.port == port && q.ld == ld)
/-- FUNCTION_LEVEL_RESET (R487). -/
def execFunctionLevelReset (port ld : Nat) (s : State) : Host.Outcome State Fault Refusal := .next (s.ldReset port ld)
/-- CXL_RESET (R487): memory is not cleared. -/
def execCxlReset (port ld : Nat) (s : State) : Host.Outcome State Fault Refusal := .next (s.ldReset port ld)

/-! ## Host port registers (R144, R188) -/

/-- A write of a host port register's clearing bit; ports the member lacks ignore it (R5). -/
def State.hptWrite (s : State) (iface port : Nat) (f : Fld) (go : State → State) : State :=
  if s.portCount ≤ port then s else s.regWrite iface f.addr .mgmtWrite true go
/-- HPT_WFAIL_CLEAR (R144): valid and count. -/
def execHptWfailClear (iface port : Nat) (s : State) : Host.Outcome State Fault Refusal :=
  .next (s.hptWrite iface port (F.HPT_WFAIL_valid port) (fun s => (s.wf (F.HPT_WFAIL_valid port) 0).wf (F.HPT_WFAIL_count port) 0))
/-- HPT_RDLAT_CLEAR (R188): max_ns and over. -/
def execHptRdlatClear (iface port : Nat) (s : State) : Host.Outcome State Fault Refusal :=
  .next (s.hptWrite iface port (F.HPT_RDLAT_clear port) (fun s => (s.wf (F.HPT_RDLAT_max_ns port) 0).wf (F.HPT_RDLAT_over port) 0))
/-- HPT_LT_CLEAR (R188): late. -/
def execHptLtClear (iface port : Nat) (s : State) : Host.Outcome State Fault Refusal :=
  .next (s.hptWrite iface port (F.HPT_LT_clear port) (fun s => s.wf (F.HPT_LT_late port) 0))

end Sys2Proof.Machine
end

