-- ==== Sys2Proof/Machine/Queue.lean ====
section
/-! DEFINITION. Keyed-access queues (04, R145 to R156). One COPY, FILL or CLEAR command does the next line of a descriptor, one DISCARD its next leaf (log 33). -/
namespace Sys2Proof.Machine

def Queue.entries (x : Queue) : Nat := 2 ^ x.depth

/-! ## Queue pairs (R145, R153 to R155) -/

/-- CREATE_QUEUE_PAIR (R145). -/
def execCreateQueuePair (iface ld : Nat) (input : Bytes) (s : State) : Host.Outcome State Fault Refusal :=
  .next (s.command iface ld 0xC000 (some .queue) (fun s =>
    let id := getLe input 0 2
    let depth := getLe input 2 1
    let sq := getLe input 8 8
    let cq := getLe input 16 8
    if input.length ≠ 32 ∨ 4096 ≤ id ∨ (s.queue id).isSome ∨ depth < 4 ∨ 12 < depth ∨ sq % 4096 ≠ 0 ∨ cq % 4096 ≠ 0 ∨ 2048 ≤ getLe input 4 2 ∨
        1 < getLe input 3 1 ∨ !allZero (slice input 6 2) ∨ !allZero (slice input 24 8) then answer .invalidInput s
    else answer .success (s.putQueue id
      { port := iface, ld := ld, depth := depth, irq := getLe input 3 1 == 1, vector := getLe input 4 2, sq := sq, cq := cq, tail := 0, head := 0
        cqHead := 0, cqTail := 0, phase := true, fetching := false, descs := [], next := 0, error := none, deleting := false, ended := [], lastBad := 0 })))
/-- A descriptor is stopped at a line boundary: ABORTED, the first failing offset that of the line it stopped at, unless a source line failed before it (R145; log 157). -/
def Desc.aborted (d : Desc) : Desc := if d.status.isNone then { d with status := some 9, firstBad := some (d.firstBad.getD d.done) } else d
/-- A queue pair that is being deleted is freed once its completions are posted. -/
def State.freeQueue (s : State) (q : Nat) : State :=
  match s.queue q with
  | some x => if x.deleting && x.descs.isEmpty then { s with queues := tdel s.queues q } else s
  | none => s
/-- DELETE_QUEUE_PAIR (R145): fetching stops; descriptors fetched end, or are aborted. -/
def execDeleteQueuePair (iface ld : Nat) (input : Bytes) (s : State) : Host.Outcome State Fault Refusal :=
  .next (s.command iface ld 0xC001 (some .queue) (fun s =>
    let id := getLe input 0 2
    match s.queue id with
    | some x =>
      if input.length ≠ 4 ∨ 1 < getLe input 2 1 ∨ !allZero (slice input 3 1) ∨ x.port ≠ iface ∨ x.ld ≠ ld then answer .invalidInput s
      else
        let stop := getLe input 2 1 == 1
        let x := { x with deleting := true, fetching := false, descs := x.descs.map (fun d => if stop then d.aborted else d) }
        answer .success (((s.putQueue id x).freeQueue id).fetchRound id)
    | none => answer .invalidInput s))
/-- GET_QUEUE_PAIR_STATUS (R151, R154): state 0 running, 1 being deleted, 2 Error; the failing host address; how many source lines failed in the last descriptor that ended with MEDIA_ERROR (log 158). The payload's layout is the model's (log 36). -/
def execGetQueuePairStatus (iface ld : Nat) (input : Bytes) (s : State) : Host.Outcome State Fault Refusal :=
  .next (s.command iface ld 0xC002 (some .queue) (fun s =>
    match s.queue (getLe input 0 2) with
    | some x =>
      if x.port ≠ iface ∨ x.ld ≠ ld then answer .invalidInput s
      else ⟨.success, le 1 (if x.error.isSome then 2 else b2n x.deleting) ++ le 8 (x.error.getD 0) ++ le 4 x.lastBad, s⟩
    | none => answer .invalidInput s))

/-- SQ_TAIL_DOORBELL (R153): a doorbell of a queue of the LD. -/
def execSqTailDoorbell (port ld queue value : Nat) (s : State) : Host.Outcome State Fault Refusal :=
  .next (if s.ioInsecure port ld then s.discardIo port ld else match s.queue queue with
    | some x => if x.port = port ∧ x.ld = ld then (s.putQueue queue { x with tail := value % x.entries }).fetchNext queue else s
    | none => s)
/-- CQ_HEAD_DOORBELL (R154). -/
def execCqHeadDoorbell (port ld queue value : Nat) (s : State) : Host.Outcome State Fault Refusal :=
  .next (if s.ioInsecure port ld then s.discardIo port ld else match s.queue queue with
    | some x => if x.port = port ∧ x.ld = ld then s.putQueue queue { x with cqHead := value % x.entries } else s
    | none => s)

/-! ## Descriptors (R146, R147) -/

/-- The fields of a descriptor. -/
def parseDesc (b : Bytes) (num head : Nat) : Desc :=
  { num := num, op := getLe b 0 1, flags := getLe b 1 1, cid := getLe b 2 2, dkey := getLe b 4 4, skey := getLe b 8 4, dst := getLe b 16 8
    src := getLe b 24 8, len := getLe b 32 8, pattern := getLe b 40 8, head := head, status := none, done := 0, firstBad := none, bad := 0 }
def Desc.fence (d : Desc) : Bool := hasBit d.flags 0
def Desc.interrupt (d : Desc) : Bool := hasBit d.flags 1
def Desc.dstSlice (d : Desc) : Bool := hasBit d.flags 2
def Desc.srcSlice (d : Desc) : Bool := hasBit d.flags 3
/-- Lines of a descriptor, or leaves of a DISCARD. -/
def Desc.total (d : Desc) : Nat := if d.op = 4 then d.len / 4096 else d.len / 64
/-- The compartment that holds a whole range and that the queue's LD sees. -/
def State.rangeComp (s : State) (x : Queue) (a len : Nat) : Option Comp :=
  (s.visibleTo x.port x.ld).find? (fun c => decide (c.lo ≤ a ∧ a + len ≤ c.hi))
/-- A key index may be used: its slot is Active and bound to the queue's LD. -/
def State.keyUsable (s : State) (x : Queue) (k : Nat) : Bool := (s.slot k).state == 1 && (s.slot k).boundTo x.port x.ld
/-- Checks 1 and 2 of R147. -/
def descShape (b : Bytes) (d : Desc) : Bool :=
  let unit := if d.op = 4 then 4096 else 64
  decide (1 ≤ d.op ∧ d.op ≤ 4) && decide (d.flags < 16) && decide (d.dkey < 2 ^ 20) && decide (d.skey < 2 ^ 20) && allZero (slice b 12 4) &&
  allZero (slice b 48 16) && (d.op == 1 || d.src == 0) && (d.op == 2 || d.pattern == 0) &&
  d.dst % unit == 0 && d.src % 64 == 0 && d.len % unit == 0 && decide (64 ≤ d.len ∧ d.len ≤ 2 ^ 30)
/-- The status of the first failing check (R147). -/
def State.descCheck (s : State) (x : Queue) (b : Bytes) (d : Desc) : Option Nat :=
  if !descShape b d then some 1
  else match s.rangeComp x d.dst d.len, (if d.op = 1 then s.rangeComp x d.src d.len else s.rangeComp x d.dst d.len) with
    | some c, some e =>
      if (d.op != 4 && !d.dstSlice && c.cipher == 1 && !s.keyUsable x d.dkey) || (d.op == 1 && !d.srcSlice && e.cipher == 1 && !s.keyUsable x d.skey) then some 3
      else if d.op == 1 && decide (d.dst < d.src + d.len) && decide (d.src < d.dst + d.len) then some 5
      else if s.readOnly then some 7
      else none
    | _, _ => some 2
/-- DESCRIPTOR_FETCH_DONE (R147, R154): the descriptor is checked; a failed fetch puts the queue in the Error state. -/
def execDescriptorFetchDone (queue : Nat) (bytes : Bytes) (ok : Bool) (s : State) : Host.Outcome State Fault Refusal :=
  .next (match s.queue queue with
    | some x =>
      if !x.fetching then s
      else if !ok then (s.putQueue queue { x with fetching := false, error := some (x.sq + 64 * x.head) }).fetchRound queue
      else
        let head := (x.head + 1) % x.entries
        let d := parseDesc (fit 64 bytes) x.next head
        let d := { d with status := s.descCheck x (fit 64 bytes) d }
        let s := s.putQueue queue { x with fetching := false, head := head, next := x.next + 1, descs := x.descs ++ [d] }
        (s.countHub 29 ((s.rangeComp x d.dst d.len).map Comp.id).toList).fetchRound queue
    | none => s)

/-! ## Execution (R148 to R153) -/

/-- A descriptor may go on: those before it have started, and a fence waits until they have ended (R153). -/
def Queue.mayRun (x : Queue) (d : Desc) : Bool :=
  d.status.isNone && x.descs.all (fun e => !decide (e.num < d.num) || e.status.isSome || (!d.fence && decide (0 < e.done)))
/-- The key of a descriptor's line: its own, or the slice's (R323). -/
def State.descKey (s : State) (c : Comp) (line k : Nat) (slice : Bool) : Nat × Option Nat := if slice then s.lineKey c line else (k, none)
/-- A descriptor's progress. -/
def State.putDesc (s : State) (q : Nat) (d : Desc) : State :=
  match s.queue q with
  | some x => s.putQueue q { x with descs := x.descs.map (fun e => if e.num == d.num then d else e) }
  | none => s
/-- A line is done; the last ends the descriptor (R151). -/
def State.lineDone (s : State) (q : Nat) (d : Desc) (comp : Nat) : State :=
  let d := { d with done := d.done + 1 }
  (s.countHub 31 [comp]).putDesc q (if d.done = d.total then { d with status := some (if d.bad = 0 then 0 else 6) } else d)
/-- A write failed: the descriptor stops at that line (R151). -/
def State.lineFailed (s : State) (q : Nat) (d : Desc) : State :=
  s.putDesc q { d with status := some (if s.readOnly then 7 else 8), firstBad := some (d.firstBad.getD d.done) }
/-- The destination line is written poisoned (R151, R282). -/
def State.writePoison (s : State) (c : Comp) (r : LeafRef) (line key : Nat) : State :=
  let t := s.server r.tile
  let w := lineMeta (s.poisonFor t c r line)
  let l := poisonLine (metaMinor w) (metaFormat w) (if c.cipher == 0 then 0 else (s.slot key).gen)
  (s.modTile t (fun x => x.uncache line)).catchPut t line c.id l false 4
/-- Whether a destination line takes a write, by the table of device errors (R136, R151). -/
def State.writeOpen (s : State) (c : Comp) (r : LeafRef) (line key : Nat) : Bool × State :=
  if s.readOnly || (c.cipher == 1 && (s.slot key).state != 1) then (false, s)
  else
    let s := if c.cipher == 0 then s else s.loadPath c r.tile r.rank 3 line
    (!s.badPath c r.tile r.rank, s)
/-- A data line is written under the descriptor's key; the cached line goes (R148, R311). -/
def State.descWrite (s : State) (q : Nat) (d : Desc) (c : Comp) (r : LeafRef) (line : Nat) (v : HostLine) : State :=
  let t := s.server r.tile
  let key := (s.descKey c line d.dkey d.dstSlice).1
  let w := s.engineWrite c r line key v 4
  if w.1 then (w.2.modTile t (fun x => x.uncache line)).lineDone q d c.id else w.2.lineFailed q d
/-- The destination line can be written now: no switch holds its compartment (R115), no host access the line, and the catch has room. -/
def State.destReady (s : State) (c : Comp) (r : LeafRef) (line : Nat) : Bool := !s.compHeld c.id && !s.lineHeld line && s.admitsWrite (s.server r.tile) c r line
/-- The source of a COPY line read (R148, R151, R311): its plaintext, or the destination is written poisoned. -/
def State.copyFrom (s : State) (q : Nat) (d : Desc) (c e : Comp) (r f : LeafRef) (line from_ : Nat) : State :=
  let k := s.descKey e from_ d.skey d.srcSlice
  let a := s.engineReadAt e f from_ k 3 true
  match a.1 with
  | .data v => a.2.descWrite q d c r line v
  | other =>
    let key := (a.2.descKey c line d.dkey d.dstSlice).1
    let w := a.2.writeOpen c r line key
    if !w.1 then w.2.lineFailed q d
    else
      let s := w.2.writePoison c r line key
      let s := if other == .lost then s.poisonAdd line false else s
      s.lineDone q { d with bad := d.bad + 1, firstBad := some (d.firstBad.getD d.done) } c.id
/-- The queue and descriptor of a command, while the descriptor may run, has the operation, and no flush has stopped the engine (R212). -/
def State.running (s : State) (queue desc op : Nat) : Option (Queue × Desc) :=
  match s.queue queue with
  | some x => if s.power.flushing then none else (x.descs.find? (fun d => d.num == desc && d.op == op && x.mayRun d)).map (fun d => (x, d))
  | none => none
/-- COPY (R148): the next line. -/
def execCopy (queue desc : Nat) (srcUpsets upsets : List Upset) (s : State) : Host.Outcome State Fault Refusal :=
  .next (match s.running queue desc 1 with
    | none => s
    | some (x, d) =>
      let line := d.dst / 64 + d.done
      let from_ := d.src / 64 + d.done
      match s.rangeComp x d.dst d.len, s.rangeComp x d.src d.len, s.leafOfLine line, s.leafOfLine from_ with
      | some c, some e, some r, some f => if s.destReady c r line && !s.compHeld e.id && !s.lineHeld from_ then ((s.meetAt from_ 3 e f srcUpsets).meetAt line 3 c r upsets).copyFrom queue d c e r f line from_ else s
      | _, _, _, _ => s.putDesc queue d.aborted)
/-- FILL and CLEAR: the next line takes a value (R148). -/
def State.fillNext (s : State) (queue desc op : Nat) (upsets : List Upset) (v : Desc → HostLine) : State :=
  match s.running queue desc op with
  | none => s
  | some (x, d) =>
    let line := d.dst / 64 + d.done
    match s.rangeComp x d.dst d.len, s.leafOfLine line with
    | some c, some r => if s.destReady c r line then (s.meetAt line 3 c r upsets).descWrite queue d c r line (v d) else s
    | _, _ => s.putDesc queue d.aborted
/-- The pattern eight times. -/
def Desc.filled (d : Desc) : HostLine := BitVec.ofNat 512 (((upto 8).map (fun i => d.pattern * 2 ^ (64 * i))) : List Nat).sum
/-- FILL (R148). -/
def execFill (queue desc : Nat) (upsets : List Upset) (s : State) : Host.Outcome State Fault Refusal := .next (s.fillNext queue desc 2 upsets Desc.filled)
/-- CLEAR (R148). -/
def execClear (queue desc : Nat) (s : State) : Host.Outcome State Fault Refusal := .next (s.fillNext queue desc 3 [] (fun _ => 0))
/-- A leaf is discarded (R148, R150, R236, R240): its map entry reads as zeros with a new generation, its lines leave the catch, the cache and the poison list, its space goes back, and a stem left without a live leaf is queued for its last copy. -/
def State.discardLeaf (s : State) (r : LeafRef) : State :=
  let t := s.server r.tile
  let first := s.lineOfLeaf r
  let idx := s.leafIdx r
  let old := s.leafOf r
  let inLeaf (n : Nat) : Bool := n / 64 == first / 64
  let used := s.leafMapped r || s.leafInCatch t first || (s.tile t).destages.any (fun d => d.leaf == first / 64)
  let s := s.modTile t (fun x => { x with catchQ := x.catchQ.filter (fun e => !inLeaf e.line), cache := x.cache.filter (fun l => !inLeaf l.line), victims := x.victims.filter (fun l => !inLeaf l.line), urgent := x.urgent.filter (· != first / 64) })
  let s := { s with poison := s.poison.filter (fun p => !inLeaf p.1) }
  if !used then s
  else
    let s := (s.mapRoom r.tile).setLeaf r.tile idx { LeafEnt.absent with zero := true, gen := old.bump.gen }
    let s := (s.trimFilter r.tile idx).advanceTail t
    let slot := s.slotOf r
    let x := s.tile r.tile
    if (x.stem slot).valid && (upto 256).all (fun k => let e := x.leaf (slot * 256 + k); e.zero || (!e.valid && !e.poisoned && (x.stem slot).blank.contains k))
    then s.modTile r.tile (fun x => { x with copyQueue := x.copyQueue.filter (fun p => p.1 != slot) ++ [(slot, .empty)] }) else s
/-- DISCARD (R148): the next leaf. -/
def execDiscard (queue desc : Nat) (s : State) : Host.Outcome State Fault Refusal :=
  .next (match s.running queue desc 4 with
    | none => s
    | some (x, d) =>
      match s.rangeComp x d.dst d.len, s.leafOfLine (d.dst / 64 + 64 * d.done) with
      | some c, some r =>
        if s.readOnly then s.lineFailed queue d
        else if s.compHeld c.id || s.reqs.any (fun q => q.atTile && q.line / 64 == d.dst / 4096 + d.done) then s
        else (s.discardLeaf r).lineDone queue d c.id
      | _, _ => s.putDesc queue d.aborted)

/-! ## Completions (R154) -/

/-- The completion's sixteen bytes; the count of failing source lines (R151) has no place in them, and is read with GET_QUEUE_PAIR_STATUS (log 158). -/
def Desc.completion (d : Desc) (queue : Nat) (phase : Bool) : Bytes :=
  le 2 d.cid ++ le 2 d.head ++ le 2 queue ++ le 1 (d.status.getD 0) ++ le 1 (b2n phase) ++ le 4 d.done ++ le 4 (d.firstBad.getD 0xFFFFFFFF)
/-- QUEUE_COMPLETION_POST (R153, R154): completions go out in the order the descriptors ended, while the CQ has room and no flush has stopped the engine (R212); its interrupt follows where the pair and the descriptor ask for one; a link that is down puts the queue in the Error state, where a pair that is being deleted is freed all the same. -/
def execQueueCompletionPost (queue desc : Nat) (s : State) : Host.Outcome State Fault Refusal :=
  .next (match s.queue queue with
    | none => s
    | some x => match (if s.power.flushing || x.ended.head? != some desc then none else x.descs.find? (fun d => d.num == desc && d.status.isSome)) with
      | none => s
      | some d =>
        let next := (x.cqTail + 1) % x.entries
        let addr := x.cq + 16 * x.cqTail
        if next == x.cqHead then s
        else if !(s.link x.port (s.linkOf x.port x.ld)).up then
          (s.putQueue queue { x with error := some (x.error.getD addr), descs := if x.deleting then x.descs.filter (fun e => e.num != desc) else x.descs }).freeQueue queue
        else
          let s := s.putQueue queue { x with cqTail := next, phase := if next = 0 then !x.phase else x.phase, descs := x.descs.filter (fun e => e.num != desc), lastBad := if d.status == some 6 then d.bad else x.lastBad }
          let s := if d.status == some 0 then s else s.countHub 30 []
          let s := s.send (.dmaWrite x.port addr (d.completion queue x.phase))
          let s := if x.irq && d.interrupt then s.msix x.port x.ld x.vector else s
          (s.freeQueue queue).fetchRound queue)

/-- Descriptors that touch a compartment their LD no longer sees end ABORTED (R145). -/
def State.abortInvisible (s : State) : State :=
  { s with queues := s.queues.map (fun (p : Nat × Queue) => (p.1, Queue.settle { p.2 with descs := p.2.descs.map (fun d =>
      if (s.rangeComp p.2 d.dst d.len).isNone || (d.op == 1 && (s.rangeComp p.2 d.src d.len).isNone) then d.aborted else d) })) }

end Sys2Proof.Machine
end

