-- ==== Sys2Proof/Machine/Apply.lean ====
section
/-! DEFINITION. Stand images: staging and its checks, the live apply, the return to previous, the commit, and the check at resume (03, R83 to R124). -/
namespace Sys2Proof.Machine

/-! ## Status (R120 to R123) -/

/-- STD_STAT.result and detail (R103). -/
def State.stdResult (s : State) (code detail : Nat) : State := (s.wf F.STD_STAT_result code).wf F.STD_STAT_detail detail
def State.stdState (s : State) (n : Nat) : State := s.wf F.STD_STAT_state n
/-- An operation of R121 runs: an apply, a return, a verify, or the checks that follow a load. -/
def State.stdBusy (s : State) : Bool := s.applyRunning || s.img.checking.isSome
/-- Epochs as STD_EPOCH_ACTIVE, PREVIOUS and STAGED show them (R120). -/
def slotEpoch (x : Option ImgSlot) : Nat := match x with | some y => getLe y.bytes 0x0C 4 | none => 0
def State.epochActive (s : State) : Nat := if s.active.isNone then 0 else slotEpoch s.img.active
def State.epochPrevious (s : State) : Nat := slotEpoch s.img.prev
def State.epochStaged (s : State) : Nat := match s.img.staged with | some x => if headerGood x.bytes then getLe x.bytes 0x0C 4 else 0 | none => 0
/-- The return floor and the fall-back flag the slot record keeps: those of the Active image (R108, R109, R119). -/
def State.returnFloor (s : State) : Nat := match s.img.active with | some y => getLe y.bytes 0x10 4 | none => 0
def State.fallbackFlag (s : State) : Bool := match s.img.active with | some y => getLe y.bytes 0x20 1 % 2 == 1 | none => false
/-- The IMAGE event (R124, R428): old and new epoch, result, outcome (log 17), longest hold of a roll-back. -/
def State.imageEvent (s : State) (old new result outcome hold : Nat) : State :=
  s.raise 0x0700 (le 4 old ++ le 4 new ++ le 1 result ++ le 1 outcome ++ le 4 hold)
/-- A refusal: result, detail and the event. -/
def State.imageRefused (s : State) (new code detail : Nat) : State := (s.stdResult code detail).imageEvent s.epochActive new code 0 0

/-- A command bit that is written while another operation runs is ignored, but for the result (R121, R122). -/
def State.notNow (s : State) : State := s.stdResult 0x14 0xFFFF

/-! ## The slot record (R83) -/

/-- The record in force. -/
def ImgStore.record (x : ImgStore) : SlotRec := ⟨x.gen, true, x.active, x.prev, x.staged, x.mark, x.floor⟩
/-- A new record is begun: it has the next generation number, and is not valid yet. -/
def State.beginRecord (s : State) (r : SlotRec) : State := { s with img := { s.img with next := some { r with gen := s.img.gen + 1, whole := false } } }
/-- The newest valid record is taken: a new one that is complete, else the old one. -/
def State.newestRecord (s : State) : State :=
  match s.img.next with
  | some r =>
    if r.whole then { s with img := { s.img with gen := r.gen, active := r.active, prev := r.prev, staged := r.staged, mark := r.mark, floor := r.floor, next := none } }
    else { s with img := { s.img with next := none } }
  | none => s
/-- The new record is complete, with its check. -/
def State.endRecord (s : State) : State := ({ s with img := { s.img with next := s.img.next.map (fun r => { r with whole := true }) } } : State).newestRecord.seedProgram
/-- One update of the slot record. -/
def State.writeRecord (s : State) (r : SlotRec) : State := (s.beginRecord r).endRecord
/-- The apply_at_resume mark, and the bit that shows it (R106). -/
def State.setMark (s : State) (on : Bool) : State := (s.writeRecord { s.img.record with mark := on }).wf F.STD_CTRL_apply_at_resume (b2n on)

/-! ## Staging (R104 to R106) -/

/-- Any change to the Staged slot clears the mark (R106). -/
def State.setStaged (s : State) (x : Option ImgSlot) : State := (s.writeRecord { s.img.record with staged := x, mark := false }).wf F.STD_CTRL_apply_at_resume 0
/-- The transfer's bytes stand in the Staged slot, and checks 1 to 18 begin. -/
def State.stageWhole (s : State) (iface ld : Nat) (b : Bytes) : State :=
  let s := (s.setStaged (some ⟨b, 0, 0, []⟩)).seedProgram
  let s := { s with img := { s.img with xfer := none, checking := some (iface, ld), checkFor := 1 } }
  (s.stdState 2).modLd iface ld (fun d => { d with bg := some 0xC030 })
/-- The stage transfer is aborted and the slot left empty (R104). -/
def State.dropStage (s : State) : State := ((({ s with img := { s.img with xfer := none } } : State).setStaged none)).stdState 0
/-- A part that ends with Invalid Input (R104). -/
def State.stageBad (s : State) (iface : Nat) : Answer :=
  answer .invalidInput (match s.img.xfer with | some x => if x.1 = iface then s.dropStage else s | none => s)
/-- A part is well-formed (R104). -/
def stageShape (input : Bytes) : Bool :=
  let action := getLe input 0 1
  let len := getLe input 8 4
  decide (16 ≤ input.length ∧ action ≤ 4) && allZero (slice input 1 3) && allZero (slice input 12 4) && len % 16 == 0 &&
  (len != 0 || action == 4) && decide (input.length = 16 + len ∧ getLe input 4 4 + len ≤ 0x400000)
/-- Stage Image (R104, R105). A load while another operation runs ends with Busy, before a fault of its input is looked at (log 73); a part without a transfer to belong to is no load. -/
def State.stageImage (s : State) (iface ld : Nat) (input : Bytes) : Answer :=
  let action := getLe input 0 1
  let off := getLe input 4 4
  let data := input.drop 16
  let other := match s.img.xfer with | some x => x.1 != iface | none => false
  let got : Bytes := match s.img.xfer with | some x => if action ≤ 1 then [] else x.2.2 | none => []
  if s.stdBusy && (decide (action ≤ 1) || (decide (action ≤ 3) && s.img.xfer.isSome)) then answer .busy s
  else if other then answer .invalidInput s
  else if !stageShape input || off != got.length || (decide (2 ≤ action) && s.img.xfer.isNone) then s.stageBad iface
  else if (action == 0 || action == 3) && decide (iface < 4) && (s.ld iface ld).bg.isSome then answer .busy s
  else if action = 4 then ⟨.success, zeros 8, s.dropStage⟩
  else if action = 0 ∨ action = 3 then answer .background (s.stageWhole iface ld (got ++ data))
  else
    let s := if action = 1 then s.setStaged none else s
    ⟨.success, zeros 8, ({ s with img := { s.img with xfer := some (iface, ld, got ++ data) } } : State).seedProgram.stdState 1⟩
/-- STAGE_IMAGE (R104). -/
def execStageImage (iface ld : Nat) (input : Bytes) (s : State) : Host.Outcome State Fault Refusal :=
  .next (s.command iface ld 0xC030 (some .imageStage) (fun s => s.fits iface input.length (fun s => s.stageImage iface ld input)))
/-- A signature check that was reached is counted (R521). -/
def State.slhCount (s : State) (code size : Nat) : State := (if code = 0 ∨ 6 ≤ code then s.countHub 43 else s).seedRead size
/-- The Staged image after checks 1 to 18: the result, and the key that verified it (R103, R108). -/
def State.checkStaged (s : State) : (Nat × Nat) × State :=
  let b := match s.img.staged with | some x => x.bytes | none => []
  let r := s.checkImage .staged s.img.staged b
  let i := parseImg b
  let s := if r.1 = 0 then { s with img := { s.img with staged := some ⟨b, i.signer, i.keyId, r.2.2⟩ } } else s
  let s := s.slhCount r.1 b.length
  let s := (s.stdResult r.1 r.2.1)
  ((r.1, r.2.1), if s.img.staged.isNone then s else s.stdState (if r.1 = 0 then 3 else 4))
/-- IMAGE_CHECKS_DONE (R103, R104): checks 1 to 18 end; a refused image raises the image event. -/
def execImageChecksDone (s : State) : Host.Outcome State Fault Refusal :=
  .next (match s.img.checking with
    | none => s
    | some (iface, ld) =>
      let load := s.img.checkFor = 1
      let s := ({ s with img := { s.img with checking := none } } : State).wf F.STD_CTRL_verify 0
      let b := match s.img.staged with | some x => x.bytes | none => []
      let epoch := if headerGood b then getLe b 0x0C 4 else 0
      let r := s.checkStaged
      let s := if r.1.1 = 0 then r.2 else r.2.imageEvent r.2.epochActive epoch r.1.1 0 0
      if load then s.endBackground iface ld 0xC030 (if r.1.1 = 0 then .success else .invalidInput) (le 1 r.1.1 ++ zeros 1 ++ le 2 r.1.2 ++ le 4 epoch) else s)

/-! ## The comparison (R111, R112) -/

def Img.comp (i : Img) (id : Nat) : Option Comp := i.comps.find? (fun c => c.id == id)
def Img.pattern (i : Img) (c : Comp) : Pattern := i.patterns.getD c.interleave default
/-- The compartments of either image, by ascending id. -/
def unionIds (a b : Img) : List Nat := (upto 4096).filter (fun id => (a.comp id).isSome || (b.comp id).isSome)
/-- A stripe group or a channel's disable bit differs: every compartment is concerned. -/
def plansDiffer (a b : Img) : Bool := a.groups != b.groups || a.chans.map (fun c => hasBit c 5) != b.chans.map (fun c => hasBit c 5)
/-- Tiles whose role differs. -/
def rolesDiffer (a b : Img) : List Nat := (upto 8).filter (fun t => (a.roles.getD t default).role != (b.roles.getD t default).role)
/-- The default key index, or a slice's effective one, differs from what the new image names (R111, R345); a default key that is the compartment's key of the overlay is no change (log 150). -/
def State.keysDiffer (s : State) (o n : Comp) : Bool :=
  o.cipher == 1 && n.cipher == 1 &&
  ((o.defaultKey != n.defaultKey && !s.overlay.any (fun r => r.comp == o.id && r.key == n.defaultKey)) ||
   (upto (min o.size n.size)).any (fun k => s.effKey o k != n.sliceKey k))
/-- A placement-bearing change concerns the compartment (R111). -/
def State.placementChange (s : State) (a b : Img) (id : Nat) : Bool :=
  let uses (i : Img) (c : Option Comp) : List Nat := match c with | some c => (i.pattern c).tiles | none => []
  let o := a.comp id
  let n := b.comp id
  plansDiffer a b || (rolesDiffer a b).any (fun t => (uses a o ++ uses b n).contains t) ||
  (match o, n with
    | some o, some n => o.base != n.base || decide (n.size < o.size) || o.interleave != n.interleave || o.cipher != n.cipher || o.integrity != n.integrity ||
        a.pattern o != b.pattern n || s.keysDiffer o n
    | some _, none => true
    | none, _ => false)
/-- Compartments that switch: those whose entry changes, and those a placement-bearing change concerns (R111). -/
def State.changedComps (s : State) (a b : Img) : List Nat := (unionIds a b).filter (fun id => a.comp id != b.comp id || s.placementChange a b id)
/-- The comparison refuses: a concerned compartment is not empty, or its keys change while a re-key runs on it (R111). -/
def State.compareRefused (s : State) (a b : Img) : Bool :=
  (unionIds a b).any (fun id => s.placementChange a b id && (!s.compEmpty id ||
    (match a.comp id, b.comp id with | some o, some n => s.keysDiffer o n && s.rekeys.any (fun r => r.comp == id) | _, _ => false)))

/-! ## A compartment's descriptors on the tiles (R114, R229, R116) -/

/-- Host stems of a compartment on a tile. -/
def stemCount (i : Img) (c : Comp) (t : Nat) : Nat := ((i.pattern c).leafCount (c.size * 0x200000) t + 255) / 256
/-- Slots of a tile's stem map (R229). -/
def stemSlots : Nat := 50331648
/-- Slots from a to a + n hold no run but that of a compartment. -/
def Tile.slotsFree (x : Tile) (comp a n : Nat) : Bool :=
  decide (a + n ≤ stemSlots) && x.dir.all (fun d => d.1 == comp || decide (a + n ≤ d.2.1 ∨ d.2.1 + d.2.2 ≤ a))
/-- The first place for a run: after some run, or at 0. -/
def Tile.runPlace (x : Tile) (n : Nat) : Option Nat :=
  ((0 :: x.dir.map (fun d => d.2.1 + d.2.2)).filter (fun a => x.slotsFree 4096 a n)).min?
/-- A run's entries take the slots from b on (R229): stem map, leaf map, filter; both map lines become dirty. -/
def State.moveRun (s : State) (t comp b : Nat) : State :=
  match tget (s.tile t).dir comp with
  | none => s
  | some (a, n) =>
    if a = b then s
    else
      let mine (slot : Nat) : Bool := decide (a ≤ slot ∧ slot < a + n)
      let s := each ((s.tile t).copies.filter (fun c => mine c.slot)) s (fun s c => s.copyBack t c.slot)
      let x := s.tile t
      let stems := x.stems.filter (fun p => mine p.1)
      let leaves := x.leaves.filter (fun p => mine (p.1 / 256))
      let s := s.modTile t (fun x => { x with
        dir := tput x.dir comp (b, n)
        stems := x.stems.filter (fun p => !mine p.1)
        leaves := x.leaves.filter (fun p => !mine (p.1 / 256))
        filter := x.filter.filter (fun g => !mine (g / 4))
        lmc := x.lmc.filter (fun l => !mine (l / 32))
        stemHeld := x.stemHeld.filter (fun p => !mine p)
        refreshDue := x.refreshDue.map (fun p => if mine p then p - a + b else p)
        copyQueue := x.copyQueue.map (fun p => if mine p.1 then (p.1 - a + b, p.2) else p)
        swept := x.swept.map (fun p => if mine p then p - a + b else p) })
      let s := each stems s (fun s p => s.setStem t (p.1 - a + b) p.2)
      each leaves s (fun s p => s.setLeaf t (p.1 - 256 * a + 256 * b) p.2)
/-- The runs are compacted, lowest first (R229). -/
def State.compactRuns (s : State) (t : Nat) : State :=
  let order := (s.tile t).dir.mergeSort (fun a b => decide (a.2.1 ≤ b.2.1))
  (each order (s, 0) (fun (p : State × Nat) d => (p.1.moveRun t d.1 p.2, p.2 + d.2.2))).1
/-- A compartment's run on a tile comes to hold at least n slots: a new run, the run extended in place, or moved (R229). None: the tile's slots do not hold it beside the runs that are freed at the commit only. -/
def State.tryRun (s : State) (t comp n : Nat) : Option State :=
  let have_ := (tgetD (s.tile t).dir comp (0, 0)).2
  if n ≤ have_ then some s
  else
    let grow (s : State) : Option State :=
      match tget (s.tile t).dir comp with
      | some (a, k) =>
        if (s.tile t).slotsFree comp a n then some (s.modTile t (fun x => { x with dir := tput x.dir comp (a, n) }))
        else ((s.tile t).runPlace n).map (fun b => ((s.moveRun t comp b).modTile t (fun x => { x with dir := tput x.dir comp (b, max k n) })))
      | none => ((s.tile t).runPlace n).map (fun b => s.modTile t (fun x => { x with dir := tput x.dir comp (b, n) }))
    match grow s with
    | some s => some s
    | none => grow (s.compactRuns t)
/-- A tile whose slots lie at or above the resident count has no resident stem map (R231). -/
def State.noteResident (s : State) (t : Nat) : State :=
  if (s.tile t).dir.any (fun d => decide (s.cpt * 49152 < d.2.1 + d.2.2)) then s.wf (F.TRN_MAP_STAT_stem_resident t) 0 else s
/-- The run, where the tile can hold it. -/
def State.ensureRun (s : State) (t comp n : Nat) : State := ((s.tryRun t comp n).getD s).noteResident t
/-- The first tile that refuses a compartment's descriptor of an image: no run holds its host stems (R117, R229). -/
def State.refuser (s : State) (b : Img) (id : Nat) : Option Nat := (b.comp id).bind (fun n => s.tileList.find? (fun t => (s.tryRun t id (stemCount b n t)).isNone))
/-- Everything a tile keeps under a compartment's id in its counter tree is dropped. -/
def Tile.dropTree (x : Tile) (comp : Nat) : Tile :=
  { x with nodes := x.nodes.filter (fun n => n.comp != comp), boles := tdel x.boles comp, bolesChanged := x.bolesChanged.filter (· != comp)
           badNodes := x.badNodes.filter (fun p => p.1 != comp), store := x.store.filter (fun p => p.1.1 != comp) }
/-- A compartment starts with an empty counter tree (R116). -/
def State.emptyTree (s : State) (comp epoch : Nat) : State :=
  { s with tiles := s.tiles.map (fun x => x.dropTree comp), roots := tdel s.roots comp, compBorn := tput s.compBorn comp epoch }
/-- A tree takes the depth of its compartment's new size: a grown tree keeps the old bole as a node below the new one, and a tree cut back has that node as its bole again (R334). -/
def State.retree (s : State) (comp t k0 k1 : Nat) : State :=
  if k0 < k1 then
    match tget (s.tile t).boles comp with
    | none => s
    | some v =>
      let one : List Nat := [1, 0, 0, 0, 0, 0, 0, 0]
      let added : List Node := (upto (k1 - k0)).map (fun j => ⟨comp, k0 + j, 0, if j = 0 then v else one, true⟩)
      s.modTile t (fun x => { x with nodes := x.nodes ++ added, boles := tput x.boles comp one, bolesChanged := x.bolesChanged.filter (· != comp) ++ [comp] })
  else if k1 < k0 then
    let v := match (s.tile t).node comp k1 0 with
      | some v => v
      | none => (tgetD (s.tile t).store (comp, k1, 0) (zeroVals, 0)).1
    s.modTile t (fun x => { x with nodes := x.nodes.filter (fun n => !(n.comp == comp && decide (k1 ≤ n.level))), boles := tput x.boles comp v
                                   bolesChanged := x.bolesChanged.filter (· != comp) ++ [comp] })
  else s
/-- The depth of a compartment's subtree on a tile under an image. -/
def treeOf (i : Img) (c : Comp) (t : Nat) : Nat := treeDepth ((i.pattern c).leafCount (c.size * 0x200000) t)
/-- The tiles take a compartment's descriptor of image b in place of that of image a (R114, R116, R229). -/
def State.swapTiles (s : State) (a b : Img) (id : Nat) : State :=
  match b.comp id with
  | none => s
  | some n =>
    let s := each s.tileList s (fun s t => s.ensureRun t id (stemCount b n t))
    match a.comp id with
    | none => s.emptyTree id b.epoch
    | some o =>
      if o.integrity ≠ n.integrity ∨ o.cipher ≠ n.cipher then s.emptyTree id (tgetD s.compBorn id 0)
      else if n.integrity = 0 then s
      else each s.tileList s (fun s t => s.retree id t (treeOf a o t) (treeOf b n t))
/-- A compartment the image in force no longer holds: its run is freed, its tree and its taproot discarded (R116, R229). -/
def State.removeComp (s : State) (id : Nat) : State :=
  let s := each s.tileList s (fun s t => match tget (s.tile t).dir id with
    | none => s
    | some (a, n) =>
      let mine (slot : Nat) : Bool := decide (a ≤ slot ∧ slot < a + n)
      let s := each ((s.tile t).copies.filter (fun c => mine c.slot)) s (fun s c => s.copyBack t c.slot)
      let s := each ((s.tile t).stems.filter (fun p => mine p.1 && p.2.valid)) s (fun s p => s.releasePlace p.2.place)
      s.modTile t (fun x => { x with
        dir := tdel x.dir id, stems := x.stems.filter (fun p => !mine p.1), leaves := x.leaves.filter (fun p => !mine (p.1 / 256))
        filter := x.filter.filter (fun g => !mine (g / 4)), refreshDue := x.refreshDue.filter (fun p => !mine p)
        copyQueue := x.copyQueue.filter (fun p => !mine p.1), leases := tdel x.leases id, catchQ := x.catchQ.filter (fun e => e.comp != id) }))
  { s with tiles := s.tiles.map (fun x => x.dropTree id), roots := tdel s.roots id, compBorn := tdel s.compBorn id, allocs := tdel s.allocs id
           rerooted := s.rerooted.filter (· != id) }
/-- The tiles take a compartment's old descriptor again (R117, R118); one that the old image does not hold goes, with what was written to it (log 155). -/
def State.swapBack (s : State) (new old : Img) (id : Nat) : State := if (old.comp id).isNone then s.removeComp id else s.swapTiles new old id
/-- The vendor event records of R130: each logical device that sees the compartment differently. -/
def State.noteVisible (s : State) (o n : Option Comp) (id : Nat) : State :=
  let sees (c : Option Comp) (p l : Nat) : Option Nat := c.bind (fun c => if c.onPort p && c.ldOn p == l then some c.size else none)
  each s.ports s (fun s p => each (upto 16) s (fun s l => if sees o p l = sees n p l then s else s.cxlPutNoted p l 0 .visible none (some id)))
/-- Held requests go on, under the descriptor now in force (R114). -/
def State.releaseComp (s : State) (id : Nat) : State :=
  let s : State := { s with reqs := s.reqs.map (fun q => if q.comp == id && q.stage == .held then { q with epoch := s.epochOf id, tile := s.homeOf q.line } else q) }
  each s.tileList s (fun s t => s.releaseHeld t)

/-! ## The apply (R114 to R118) -/

def State.setApply (s : State) (a : Option Apply) : State := { s with img := { s.img with apply := a } }
/-- Requests of a compartment in flight, as the hub counts them (R114). -/
def State.compInFlight (s : State) (id : Nat) : Nat := (s.reqs.filter (fun q => q.comp == id && q.stage != .held)).length
/-- Switch orders in ascending id order, up to parallel at once (R114). -/
def State.orderMore (s : State) (a : Apply) : Apply :=
  let open_ := a.ordered.length - a.switched.length
  { a with ordered := a.ordered ++ ((a.changed.filter (fun id => !a.ordered.contains id)).take (s.rf F.STD_APPLY_CFG_parallel - open_)) }
/-- The apply or the return has ended: its command bit falls. -/
def State.applyOver (s : State) (a : Apply) : State := (s.setApply none).wf (if a.isReturn then F.STD_CTRL_return_prev else F.STD_CTRL_apply_live) 0
/-- The roll-back has ended (R117). -/
def State.rollbackOver (s : State) (a : Apply) : State :=
  let s := (s.applyOver a).wf F.STD_APPLY_STAT_outcome 2
  let s := if a.isReturn then s else s.stdState 3
  s.imageEvent s.epochActive a.img.epoch 0 2 a.longest
/-- The next compartment to switch back is held until it has drained (R117). -/
def State.rollbackNext (s : State) (a : Apply) : State :=
  match a.switched.getLast? with
  | none => s.rollbackOver a
  | some id => s.setApply (some { a with forced := [(id, s.fine)], rolling := true })
/-- An apply fails (R117): the first compartment, the reason and the tile; the roll-back begins. Where no compartment failed (reasons 3 and 5) the compartment field reads 0 (log 153). Once the commit's record is being written nothing rolls back. -/
def State.failApply (s : State) (reason comp tile : Nat) : State :=
  match s.img.apply with
  | none => s
  | some a =>
    if a.committing || a.rolling then s
    else
      let s := (((s.wf F.STD_APPLY_FAIL_compartment comp).wf F.STD_APPLY_FAIL_reason reason).wf F.STD_APPLY_FAIL_tile tile).wf F.STD_APPLY_FAIL_valid 1
      let s := if a.isReturn then s else s.stdState 6
      let s := s.rollbackNext { a with forced := [], ordered := a.switched }
      each s.tileList s (fun s t => s.releaseHeld t)
/-- The comparison begins (R111). -/
def State.beginApply (s : State) (isReturn : Bool) (i : Img) : State :=
  let s := s.setApply (some ⟨isReturn, i, true, [], [], [], [], [], false, false, 0⟩)
  let s := s.wf (if isReturn then F.STD_CTRL_return_prev else F.STD_CTRL_apply_live) 1
  let s := ((s.wf F.STD_APPLY_STAT_outcome 3).wf F.STD_APPLY_STAT_switched 0).wf F.STD_APPLY_STAT_total 0
  if isReturn then s else s.stdState 5
/-- Checks 19 and 20 that do not wait for the comparison: its refusals come before NOT_NOW (R103). -/
def State.applyCheck (s : State) (i : Img) : Nat :=
  match s.active with
  | none => 0x13
  | some a => if s.allInService then 0 else if s.compareRefused a i then 0x13 else 0x14
/-- The staged image as parsed. -/
def State.stagedImg (s : State) : Img := parseImg (match s.img.staged with | some x => x.bytes | none => [])
/-- A write of 1 to STD_CTRL.apply_live that is under its right (R106, R111, R121). -/
def State.applyLive (s : State) : State :=
  if s.stdBusy then s.notNow
  else
    let r := s.checkStaged
    let s := r.2
    let i := s.stagedImg
    if r.1.1 ≠ 0 then s.imageRefused s.epochStaged r.1.1 r.1.2
    else if i.flags / 2 % 2 = 1 then s.imageRefused i.epoch 0x13 0xFFFF
    else if s.applyCheck i ≠ 0 then s.imageRefused i.epoch (s.applyCheck i) 0xFFFF
    else s.beginApply false i
/-- A write of 1 to STD_CTRL.return_prev that is under its right (R119). -/
def State.returnPrev (s : State) : State :=
  if s.stdBusy then s.notNow
  else match s.img.prev with
    | none => s.imageRefused 0 0x13 0xFFFF
    | some p =>
      let r := s.checkImage (.previous s.returnFloor) (some p) p.bytes
      let i := parseImg p.bytes
      let s := s.slhCount r.1 p.bytes.length
      if r.1 ≠ 0 then s.imageRefused (slotEpoch (some p)) r.1 r.2.1
      else if s.applyCheck i ≠ 0 then s.imageRefused i.epoch (s.applyCheck i) 0xFFFF
      else (s.stdResult 0 0xFFFF).beginApply true i
/-- A write of 1 to STD_CTRL.verify that is under its right (R121). -/
def State.verifyImage (s : State) : State :=
  if s.stdBusy then s.notNow
  else ({ s with img := { s.img with checking := some (0, 0), checkFor := 0 } } : State).wf F.STD_CTRL_verify 1
/-- A write of 1 to STD_CTRL.discard_staged that is under its right (R104, R121). -/
def State.discardStaged (s : State) : State := if s.stdBusy then s.notNow else s.dropStage
/-- A write of STD_CTRL.apply_at_resume that is under its right (R106, R121): the mark is taken only while the Staged slot is verified. -/
def State.markResume (s : State) (on : Bool) : State :=
  if !on then s.setMark false
  else if [0, 1, 2, 4].contains (s.rf F.STD_STAT_state) then s
  else if s.stdBusy then s.notNow
  else s.setMark true

/-- VERIFY (R121). -/
def execVerify (iface : Nat) (s : State) : Host.Outcome State Fault Refusal := .next (s.regWrite iface F.STD_CTRL_verify.addr .imageStage (!s.stdBusy) State.verifyImage)
/-- APPLY_LIVE (R106, R111). -/
def execApplyLive (iface : Nat) (s : State) : Host.Outcome State Fault Refusal := .next (s.regWrite iface F.STD_CTRL_apply_live.addr .imageApply (!s.stdBusy) State.applyLive)
/-- APPLY_AT_RESUME (R106). -/
def execApplyAtResume (iface value : Nat) (s : State) : Host.Outcome State Fault Refusal :=
  .next (s.regWrite iface F.STD_CTRL_apply_at_resume.addr .imageApply (s.rf F.STD_CTRL_apply_at_resume != value % 2) (fun s => s.markResume (value % 2 == 1)))
/-- RETURN_PREV (R119). -/
def execReturnPrev (iface : Nat) (s : State) : Host.Outcome State Fault Refusal := .next (s.regWrite iface F.STD_CTRL_return_prev.addr .imageReturn (!s.stdBusy) State.returnPrev)
/-- DISCARD_STAGED (R104, R121). -/
def execDiscardStaged (iface : Nat) (s : State) : Host.Outcome State Fault Refusal := .next (s.regWrite iface F.STD_CTRL_discard_staged.addr .imageStage (!s.stdBusy) State.discardStaged)

/-- The output of Image Control (R107). -/
def State.controlOutput (s : State) (status : Nat) : Bytes :=
  le 1 status ++ zeros 3 ++ le 4 (s.reg F.STD_STAT_state.addr).toNat ++ le 4 (s.reg F.STD_APPLY_STAT_switched.addr).toNat ++
  le 4 (s.reg F.STD_APPLY_FAIL_compartment.addr).toNat ++ le 4 s.epochActive
/-- The right of an Image Control op (R107); op 7 takes any one of the three. -/
def State.controlRight (s : State) (iface op : Nat) : Option Right :=
  if op = 1 ∨ op = 6 then some .imageStage else if 2 ≤ op ∧ op ≤ 4 then some .imageApply else if op = 5 then some .imageReturn
  else if s.holds iface .imageApply then some .imageApply else if s.holds iface .imageReturn then some .imageReturn else some .imageStage
/-- Image Control (R107). -/
def State.imageControl (s : State) (input : Bytes) : Answer :=
  let op := getLe input 0 1
  let run (go : State → State) : Answer := let busy := s.stdBusy; let s := go s; ⟨.success, s.controlOutput (if busy then 2 else 0), s⟩
  if input.length ≠ 4 ∨ !allZero (slice input 1 3) ∨ op = 0 ∨ 7 < op then ⟨.success, s.controlOutput 1, s⟩
  else match op with
    | 1 => run State.verifyImage
    | 2 => run State.applyLive
    | 3 => if [0, 1, 2, 4].contains (s.rf F.STD_STAT_state) then ⟨.success, s.controlOutput 3, s⟩ else run (·.markResume true)
    | 4 => ⟨.success, (s.markResume false).controlOutput 0, s.markResume false⟩
    | 5 => run State.returnPrev
    | 6 => run State.discardStaged
    | _ => ⟨.success, s.controlOutput 0, s⟩
/-- IMAGE_CONTROL (R107). -/
def execImageControl (iface ld : Nat) (input : Bytes) (s : State) : Host.Outcome State Fault Refusal :=
  .next (s.command iface ld 0xC031 (s.controlRight iface (getLe input 0 1)) (fun s => s.imageControl input))

/-- Every tile is kept at T1 or shallower while an apply runs (R114): a deeper one wakes. -/
def State.wakeForApply (s : State) : State :=
  each s.tileList s (fun s t => if 2 ≤ (s.tile t).depth ∨ (s.tile t).entering.isSome then s.wakeTile t else s)
/-- APPLY_COMPARISON_DONE (R111, R114): refused with APPLY_REFUSED, where STD_APPLY_STAT then shows no apply: nothing switched, nothing changed, outcome none (log 152); or the switch orders begin. -/
def execApplyComparisonDone (s : State) : Host.Outcome State Fault Refusal :=
  .next (match s.img.apply, s.active with
    | some a, some old =>
      if !a.comparing then s
      else if s.compareRefused old a.img then
        let s := ((s.applyOver a).wf F.STD_APPLY_STAT_outcome 0)
        (if a.isReturn then s else s.stdState 3).imageRefused a.img.epoch 0x13 0xFFFF
      else
        let changed := s.changedComps old a.img
        let a := { a with comparing := false, changed := changed, placement := changed.filter (s.placementChange old a.img) }
        let s := s.wf F.STD_APPLY_STAT_total changed.length
        s.wakeForApply.setApply (some (s.orderMore a))
    | _, _ => s)

/-- A compartment switches (R114, R116): the descriptors are swapped, the switch is stamped, the records of R130 raised, descriptors that lost their range end, and held requests go on under the new epoch. -/
def State.switchComp (s : State) (a : Apply) (old : Img) (id : Nat) : State :=
  let hold := s.fine - tgetD a.forced id s.fine
  let s := s.swapTiles old a.img id
  let a := { a with switched := a.switched ++ [id], forced := tdel a.forced id }
  let s := (((s.setApply (some (s.orderMore a))).policyEligible id).incSat F.STD_APPLY_STAT_switched).countHub 56 [id]
  let s := s.raise 0x0701 (le 2 id ++ le 4 old.epoch ++ le 4 a.img.epoch ++ le 4 hold) [id]
  ((s.noteVisible (old.comp id) (a.img.comp id) id).abortInvisible).releaseComp id
/-- A compartment switches back (R117); STD_APPLY_STAT.switched goes on showing how many had switched (log 154). -/
def State.switchBack (s : State) (a : Apply) (old : Img) (id : Nat) : State :=
  let hold := s.fine - tgetD a.forced id s.fine
  let s := s.swapBack a.img old id
  let a := { a with switched := a.switched.dropLast, forced := [], longest := max a.longest hold }
  let s := ((s.setApply (some a)).policyEligible id).raise 0x0701 (le 2 id ++ le 4 a.img.epoch ++ le 4 old.epoch ++ le 4 hold) [id]
  (((s.noteVisible (a.img.comp id) (old.comp id) id).abortInvisible).releaseComp id).rollbackNext a
/-- COMPARTMENT_QUIET (R111, R114, R117): the compartment switches, or fails: it is no longer empty, or a tile refuses its descriptor. -/
def execCompartmentQuiet (comp : Nat) (s : State) : Host.Outcome State Fault Refusal :=
  .next (match s.img.apply, s.active with
    | some a, some old =>
      if s.compInFlight comp ≠ 0 then s
      else if a.rolling then (if a.switched.getLast? = some comp then s.switchBack a old comp else s)
      else if !a.ordered.contains comp || a.switched.contains comp then s
      else if a.placement.contains comp && !s.compEmpty comp then s.failApply 6 comp 0
      else match s.refuser a.img comp with
      | some t => s.failApply 4 comp t
      | none => s.switchComp a old comp
    | _, _ => s)
/-- A compartment has an order and has not switched. -/
def Apply.ordering (a : Apply) (comp : Nat) : Bool := !a.rolling && a.ordered.contains comp && !a.switched.contains comp
/-- QUIET_WAIT_EXPIRE (R114): a forced switch holds new requests. -/
def execQuietWaitExpire (comp : Nat) (s : State) : Host.Outcome State Fault Refusal :=
  .next (match s.img.apply with
    | some a => if a.ordering comp && !thas a.forced comp then s.setApply (some { a with forced := a.forced ++ [(comp, s.fine)] }) else s
    | none => s)
/-- FORCED_HOLD_EXPIRE (R114): held requests go on under the old epoch, and the compartment fails with reason 1. -/
def execForcedHoldExpire (comp : Nat) (s : State) : Host.Outcome State Fault Refusal :=
  .next (match s.img.apply with
    | some a => if a.ordering comp && thas a.forced comp then s.failApply 1 comp 0 else s
    | none => s)
/-- SWITCH_DEADLINE_EXPIRE (R117). -/
def execSwitchDeadlineExpire (comp : Nat) (s : State) : Host.Outcome State Fault Refusal :=
  .next (match s.img.apply with
    | some a => if a.ordering comp then s.failApply 2 comp 0 else s
    | none => s)

/-! ## The commit (R108, R112, R113) -/

/-- The registers an image loads: nurse and auto_restore of each tile, and the disable bits of its channels (R35, R76). -/
def State.loadImage (s : State) (i : Img) : State :=
  let s := s.loadRoles (some i)
  each ((upto 1024).filter s.chanPresent) s (fun s c =>
    let f := F.MSC_LNK_CTRL_disable (tileOfChan c) (localChan c)
    let off := hasBit (i.chans.getD c 0) 5
    if off && !s.rb f then s.chanOff c else if !off && s.rb f && !((upto 4).all (fun d => hasBit (s.chan c).retired d)) then (s.wf f 0).setLink c 1 else s)
/-- Sectional effects of a commit: the image's sections are in force, and new references go to every die (R112, R113). -/
def State.sections (s : State) (i : Img) : State :=
  let changed := (s.active.map Img.refs) != some i.refs
  let s := ({ s with active := some i } : State).loadImage i
  s.refsDue changed
/-- The slot record of a commit (R108), and of a return's (R119). -/
def State.commitRec (s : State) (isReturn : Bool) : SlotRec :=
  let r := s.img.record
  if isReturn then { r with active := r.prev, prev := r.active }
  else { r with active := r.staged, prev := r.active, staged := none, mark := false, floor := slotEpoch r.staged }
/-- That record is complete; the Glade domain keeps a copy of the floor (R84). -/
def State.commitRecord (s : State) (isReturn : Bool) : State :=
  let s := s.writeRecord (s.commitRec isReturn)
  if isReturn then s else ({ s with glade := { s.glade with floorCopy := some s.img.floor } } : State).wf F.STD_CTRL_apply_at_resume 0
/-- The image of the Active slot. -/
def State.activeSlotImg (s : State) : Option Img := s.img.active.map (fun x => parseImg x.bytes)
/-- An apply or a roll-back that a reset or a loss of power cuts off: every compartment is under the Active image again, with its sections; the record that was not complete is not taken (R83, R118). -/
def State.undoApply (s : State) : State :=
  match s.img.apply, s.activeSlotImg with
  | some a, some old =>
    let s := each a.switched.reverse (s.setApply none).newestRecord (fun s id => s.swapBack a.img old id)
    if a.committing then (({ s with active := some old } : State).loadImage old).refsDue (a.img.refs != old.refs) else s
  | _, _ => s.setApply none
/-- APPLY_COMMIT (R108, R112, R113): every changed compartment has switched; the sections are in force, and the slot record's update begins. -/
def execApplyCommit (s : State) : Host.Outcome State Fault Refusal :=
  .next (match s.img.apply with
    | some a =>
      if a.comparing || a.rolling || a.committing || a.switched.length ≠ a.changed.length then s
      else ((s.setApply (some { a with committing := true })).sections a.img).beginRecord (s.commitRec a.isReturn)
    | none => s)
/-- Warrants signed under a root that the new image removes or changes fall (R359). -/
def State.dropRootWarrants (s : State) (old new : Img) : State :=
  let kept (n : Nat) : Bool := (old.roots.find? (fun r => r.num == n)) == (new.roots.find? (fun r => r.num == n))
  { s with rights := { s.rights with held := s.rights.held.map (fun p => (p.1, p.2.filter (fun w => w.signer != 2 || kept w.root))) } }
/-- An image signed by the present owner ends the suspension of the roots (R371). -/
def State.resumeRoots (s : State) (i : Img) (key : Bytes) : State :=
  match s.rights.ownerSet with
  | some r => if i.signer = 1 ∧ keyOf (getLe r 4 1) (slice r 8 64) = key ∧ s.rights.rootsSuspended then
      { s with rights := { s.rights with rootsSuspended := false } } else s
  | none => s
/-- What a commit does besides the slot record: runs and taproots of removed compartments, the overlay, warrants, roots (R116, R229, R345, R359, R371). -/
def State.commitEffects (s : State) (old : Option Img) (i : Img) : State :=
  let before := match old with | some o => o.comps.map Comp.id | none => []
  let s := each (before.filter (fun id => (i.comp id).isNone)) s State.removeComp
  let s := match old with | some o => ({ s with overlay := [] } : State).dropRootWarrants o i | none => s
  let s := s.resumeRoots i (match s.img.active with | some x => x.key | none => [])
  { s with glade := { s.glade with program := some i.prog } }
/-- APPLY_COMMIT_DONE (R108): the slot record is complete and the image is Active. -/
def execApplyCommitDone (s : State) : Host.Outcome State Fault Refusal :=
  .next (match s.img.apply with
    | some a =>
      if !a.committing then s
      else
        let old := s.activeSlotImg
        let oldEpoch := s.epochActive
        let s := (s.applyOver a).commitRecord a.isReturn
        let s := (s.commitEffects old a.img).wf F.STD_APPLY_STAT_outcome 1
        let s := if a.isReturn then s else s.stdState 0
        s.imageEvent oldEpoch a.img.epoch 0 1 0
    | none => s)

/-! ## At resume (R84, R106, R109, R110) -/

/-- The compartments of an image that is in force from a resume on: their runs, and their trees. Against the image that was in force before, a new compartment's tree starts empty, and one that grew, or whose cipher or integrity changed, takes the tree a switch gives it (R106, R116); with nothing to compare with, they take what the medium and the taproots hold under their ids (R111). -/
def State.resumeComp (s : State) (old : Option Img) (i : Img) (c : Comp) : State :=
  match old with
  | some o => if o.comp c.id == some c && o.pattern c == i.pattern c then each s.tileList s (fun s t => s.ensureRun t c.id (stemCount i c t)) else s.swapTiles o i c.id
  | none =>
    let fresh := s.tileList.all (fun t => !thas (s.tile t).dir c.id)
    let s := each s.tileList s (fun s t => s.ensureRun t c.id (stemCount i c t))
    if fresh then s.emptyTree c.id i.epoch else s
/-- The records of R130 for every compartment that is seen differently. -/
def State.noteAll (s : State) (o n : Option Img) : State :=
  let at_ (x : Option Img) (id : Nat) : Option Comp := x.bind (fun i => i.comp id)
  each ((upto 4096).filter (fun id => at_ o id != at_ n id)) s (fun s id => s.noteVisible (at_ o id) (at_ n id) id)
/-- The image is in force from the resume on: its sections, its compartments, its references where they differ, and the records of R130 against what was in force before. -/
def State.activateAt (s : State) (old : Option Img) (i : Img) : State :=
  let s := ({ s with active := some i } : State).loadImage i
  let s := each s.tileList s State.loadShares
  let s := each i.comps s (fun s c => s.resumeComp old i c)
  (s.refsDue (old.map Img.refs != some i.refs)).noteAll old (some i)
/-- The marked image at a cold reset (R106): checks 1 to 18, and 19 while an image is active; whether it commits, with the result. -/
def State.resumeResult (s : State) : Nat × Nat × Bytes :=
  match s.img.staged with
  | none => (0x01, 0xFFFF, [])
  | some x =>
    let r := s.checkImage .staged (some x) x.bytes
    if r.1 ≠ 0 then r
    else match s.active with
      | some old => if s.compareRefused old (parseImg x.bytes) then (0x13, 0xFFFF, []) else r
      | none => r
/-- The Previous image in place of an Active one that failed its checks with a result (R109): the roles are exchanged in one slot record, and the sequencer's copy is the program of the image now Active (log 151). A Previous image that fails too is refused with its own result. -/
def State.fallBack (s : State) (x p : ImgSlot) (code : Nat) : State :=
  let q := s.checkImage (.previous s.returnFloor) (some p) p.bytes
  let off : State := { s with active := none }
  let s := s.stdResult q.1 q.2.1
  if q.1 ≠ 0 then ((off.imageRefused (slotEpoch (some x)) code 0xFFFF).imageRefused (slotEpoch (some p)) q.1 q.2.1).noteAll (some (parseImg x.bytes)) none
  else if !s.fallbackFlag then ((off.imageRefused (slotEpoch (some x)) code 0xFFFF).stdResult q.1 q.2.1).noteAll (some (parseImg x.bytes)) none
  else
    let i := parseImg p.bytes
    let s := s.writeRecord { s.img.record with active := some p, prev := some x }
    let s : State := { s with glade := { s.glade with program := some i.prog } }
    (s.activateAt (some (parseImg x.bytes)) i).imageEvent (slotEpoch (some x)) i.epoch code 1 0
/-- The Active image at resume, or the Previous one, or none (R109, R110); an image that is refused raises the image event, and compartments that are no longer seen their records (R124, R130). -/
def State.resumeActive (s : State) : State :=
  match s.img.active with
  | none => { s with active := none }
  | some x =>
    let i := parseImg x.bytes
    let r := s.checkImage .active (some x) x.bytes
    if r.1 = 0 then s.activateAt (some i) i
    else match s.img.prev with
      | none => (({ s with active := none } : State).imageRefused (slotEpoch (some x)) r.1 r.2.1).noteAll (some i) none
      | some p => (s.stdResult r.1 r.2.1).fallBack x p r.1
/-- The checked image of a mark becomes Active at a resume, its verifying key in its slot record (R106, R109). -/
def State.resumeMarked (s : State) (key : Bytes) : State :=
  let old := s.active
  let was := s.epochActive
  let i := s.stagedImg
  let s := s.writeRecord { s.img.record with staged := s.img.staged.map (fun x => { x with key := key, signer := i.signer, keyId := i.keyId }) }
  let s := (s.commitRecord false).stdResult 0 0xFFFF
  ((s.commitEffects old i).activateAt old i).imageEvent was i.epoch 0 1 0
/-- STAND_IMAGE_RESUME_CHECK (R83, R106, R109): the newest valid slot record is taken and its Active image checked; then the mark acts, against the image that is active, and is cleared (log 151). In ROM-only no image becomes active (R441). -/
def execStandImageResumeCheck (s : State) : Host.Outcome State Fault Refusal :=
  .next (if s.clocks.imageChecked ∨ !s.wardenUp then s
    else
      let s : State := { s.newestRecord with clocks := { s.clocks with imageChecked := true } }
      if s.rb F.WDN_FW_STAT_rom_only then { s with active := none }
      else
      let marked := s.img.mark
      let s := s.resumeActive
      let r := s.resumeResult
      let s := s.setMark false
      if !marked then s
      else if r.1 = 0 then s.resumeMarked r.2.2
      else s.imageRefused s.epochStaged r.1 r.2.1)

end Sys2Proof.Machine
end

