-- ==== Sys2Proof/Machine/Sequencer.lean ====
section
/-! DEFINITION. The power sequencer (15, R460 to R471): rails, the dependency engine, the step program, its faults and timeouts. -/
namespace Sys2Proof.Machine

def Power.rail (p : Power) (r : Nat) : Rail := p.rails.getD r ⟨false, false, false, false⟩
def Power.dep (p : Power) (r : Nat) : DepEntry := p.program.deps.getD r ⟨0, 0, false, 0, 0, 0⟩

/-- A rail is on while its PG is good; rail 0 always counts as on (R461, R462). -/
def Power.railOn (p : Power) (r : Nat) : Bool := r == 0 || (p.rail r).pg
/-- A rail is off once its monitor, or for VMED its PG, says so (R462). -/
def Power.railOff (p : Power) (r : Nat) : Bool := r != 0 && !(p.rail r).on

/-- The dependencies of a rail are on (R464); settle times are not measured (log 6). -/
def Power.depsMet (p : Power) (r : Nat) : Bool := (upto 16).all (fun j => !hasBit (p.dep r).deps j || p.railOn j)

/-- Rails whose mask bit is set; mask 0 means every required rail (R465 CHECK). -/
def Power.maskRails (p : Power) (mask : Nat) : List Nat :=
  (upto 16).filter (fun r => if mask = 0 then (p.dep r).required else hasBit mask r)

/-- Every required rail is on (R466). -/
def Power.requiredOn (p : Power) : Bool := (p.maskRails 0).all p.railOn

/-- Every rail but rail 0 is off. -/
def Power.allOff (p : Power) : Bool := (upto 16).all (fun r => r == 0 || !(p.rail r).on)

def State.phase (s : State) : Nat := s.rf F.SEQ_STAT_phase
def State.seqStep (s : State) : Nat := s.rf F.SEQ_STAT_step

/-- The step the sequencer stands at, while it runs a section and the step is not waiting (R465). -/
def State.stepNow (s : State) : Option SeqStep :=
  if (s.phase = 1 ∨ s.phase = 3) ∧ s.power.wait = .ready then s.power.program.steps[s.seqStep]? else none

def State.setRail (s : State) (r : Nat) (f : Rail → Rail) : State :=
  { s with power := { s.power with rails := s.power.rails.modify r f } }

/-- EN high: the rail joins those enabled since the last safe state (R466, R468). Rail 0 is not switched (R461). -/
def State.enHigh (s : State) (r : Nat) : State :=
  if r = 0 ∨ 16 ≤ r then s
  else
    let s := s.setRail r (fun x => { x with en := true, passed := false })
    ({ s with power := { s.power with order := s.power.order.filter (fun q => q != r) ++ [r] } }).send (.pin (.en r) true)

/-- EN low. -/
def State.enLow (s : State) (r : Nat) : State :=
  if r = 0 ∨ 16 ≤ r then s else (s.setRail r (fun x => { x with en := false, passed := false })).send (.pin (.en r) false)

def State.stepWait (s : State) (w : StepWait) : State := { s with power := { s.power with wait := w } }

/-- The sequencer goes to a step. -/
def State.stepTo (s : State) (n : Nat) : State := (s.wf F.SEQ_STAT_step n).stepWait .ready

/-- SEQSYNC is pulled low or released (R471). -/
def State.seqsync (s : State) (level : Bool) : State := (s.wf F.SEQ_STAT_seqsync (b2n level)).send (.pin .seqsync level)

/-- The power-up section ends: SEQSYNC is released, the phase is On, and the power-on cold reset follows (R466, R478). -/
def State.powerUpDone (s : State) : State :=
  ((s.stepWait .ready).wf F.SEQ_STAT_phase 2).seqsync true |>.requestReset ⟨2, 1, 0⟩

/-- The domains a cold reset holds: warden, fabric, the ports and tiles of the member, USB4 and sideband. -/
def State.resetDomains (s : State) : List Nat := [1, 2] ++ (upto s.portCount).map (· + 3) ++ (upto s.tileCount).map (· + 10) ++ [7, 8]
/-- The last rail is off: the phase is Off (R467), and every domain but Glade is without power (R479). A record in its write is cut (R419). -/
def State.powerOffDone (s : State) : State :=
  let s := (s.cutRecord.stepWait .ready).wf F.SEQ_STAT_phase 0
  { s with power := { s.power with minOff := false, order := [] }, clocks := { s.clocks with held := s.resetDomains }, tap := ⟨1, []⟩ }

/-- Reverse dependency order at the end of a shutdown: EN goes low for each rail that no rail still on, and not past its discharge time, names (R467). -/
def State.shedRails (s : State) : State :=
  each ((upto 16).drop 1) s (fun s r =>
    let p := s.power
    if (p.rail r).en && (upto 16).all (fun q => !hasBit (p.dep q).deps r || !(p.rail q).on || (p.rail q).passed) then s.enLow r else s)

/-- The program of a power-up: the Glade domain's copy, or the ROM default where there is none (R463, R470). -/
def State.storedProgram (s : State) : Prog := s.glade.program.getD (romProgram s.tileCount)
/-- The program of a shutdown: the ROM default where the resume has found no image to activate (R110). -/
def State.downProgram (s : State) : Prog := if s.clocks.imageChecked && s.active.isNone then romProgram s.tileCount else s.storedProgram
/-- The shutdown section starts (R467, R471). -/
def State.startShutdown (s : State) : State :=
  let s : State := { s with power := { s.power with program := s.downProgram } }
  ((s.wf F.SEQ_STAT_phase 3).stepTo s.power.program.downStart).seqsync false

/-- After a roll-back the sequencer runs again from the safe state, or at the third fault runs the shutdown section and stays locked off (R468). -/
def State.seqRetry (s : State) : State :=
  if s.rf F.SEQ_STAT_retries < 2 then
    (s.wf F.SEQ_STAT_retries (s.rf F.SEQ_STAT_retries + 1)).stepTo s.power.safe
  else
    (({ s with power := { s.power with after := .locked } } : State).wf F.SEQ_FAULT_kind 7).startShutdown

/-- The roll-back of a fault (R468): EN low for each rail enabled since the last safe state, in reverse order of enabling, each waiting until it is off or its discharge time has passed; then the sequencer runs again. -/
def State.rollNext (s : State) : List Nat → State
  | [] => ({ s with power := { s.power with order := [] } } : State).seqRetry
  | r :: rest =>
    let s := s.enLow r
    if (s.power.rail r).on then s.stepWait (.rolling (r :: rest)) else s.rollNext rest

/-- A waiting step whose condition holds is done. -/
def State.seqRecheck (s : State) : State :=
  match s.power.wait with
  | .railOn r => if s.power.railOn r then s.stepTo (s.seqStep + 1) else s
  | .railOff r => if !(s.power.rail r).on || (s.power.rail r).passed then s.stepTo (s.seqStep + 1) else s
  | .level mask up => if (s.power.maskRails mask).all (fun r => if up then s.power.railOn r else s.power.railOff r) then s.stepTo (s.seqStep + 1) else s
  | .required => if s.power.requiredOn then s.powerUpDone else s
  | .allOff => if s.power.allOff then s.powerOffDone else s.shedRails
  | .rolling (r :: rest) => if s.power.railOff r || (s.power.rail r).passed then s.rollNext rest else s
  | _ => s

/-- A power-up starts (R466): the power-cycle count rises (R402), source sequences start anew (R408), SEQSYNC is pulled low, step 0 stands at the sequencer. -/
def State.startPowerUp (s : State) : State :=
  let s := { s with glade := { s.glade with pwrcyc := (s.glade.pwrcyc + 1) % 2 ^ 32 }, seqNo := [], resets := []
                    power := { s.power with program := s.storedProgram, released := false, safe := 0, order := [], minOff := false, after := .valid } }
  ((((s.wf F.SEQ_STAT_phase 1).wf F.SEQ_STAT_retries 0).wf F.SEQ_STAT_sync_state 0).stepTo 0).seqsync false

/-- SEQ_FAULT (R468, R494): the registers, the event and the interrupt. -/
def State.seqFaultNote (s : State) (kind rail : Nat) : State :=
  let st := s.seqStep
  let s := ((s.wf F.SEQ_FAULT_kind kind).wf F.SEQ_FAULT_rail rail).wf F.SEQ_FAULT_step st
  let s := (s.incSat F.SEQ_FAULT_count).wf F.SEQ_FAULT_valid 1
  (s.emit 0x01 0x0103 (le 2 st ++ le 1 rail ++ le 1 kind)).irqEdge irqSeqFault

/-- A sequencer fault in a power-up (R468): SEQSYNC goes low where a rendezvous had released it (R471), and the rails roll back. While they do, nothing counts as a further fault. -/
def State.seqFault (s : State) (kind rail : Nat) : State :=
  match s.power.wait with
  | .rolling _ => s
  | .sync _ => (s.seqFaultNote kind rail |>.seqsync false).rollNext s.power.order.reverse
  | _ => (s.seqFaultNote kind rail).rollNext s.power.order.reverse
/-- A roll-back waits for a rail. -/
def State.rollsBack (s : State) : Bool := match s.power.wait with | .rolling _ => true | _ => false

/-- DEPENDENCY_ENABLE (R464, R466): an auto rail whose dependencies are on is enabled. -/
def execDependencyEnable (rail : Nat) (s : State) : Host.Outcome State Fault Refusal :=
  .next (if s.phase = 1 ∧ !s.rollsBack ∧ (s.power.dep rail).mode = 1 ∧ !(s.power.rail rail).en ∧ s.power.depsMet rail then s.enHigh rail else s)

/-- ENABLE (R465): once the rail's dependencies are on, EN goes high and the step waits for the rail. -/
def execStepEnable (s : State) : Host.Outcome State Fault Refusal :=
  .next (match s.stepNow with
    | some st => if st.op = 0x01 ∧ s.power.depsMet st.a then ((s.enHigh st.a).stepWait (.railOn st.a)).seqRecheck else s
    | none => s)

/-- DISABLE (R465). -/
def execStepDisable (s : State) : Host.Outcome State Fault Refusal :=
  .next (match s.stepNow with
    | some st => if st.op = 0x02 then ((s.enLow st.a).stepWait (.railOff st.a)).seqRecheck else s
    | none => s)

/-- WAIT (R465). -/
def execStepWait (s : State) : Host.Outcome State Fault Refusal :=
  .next (match s.stepNow with
    | some st => if st.op = 0x03 then s.stepWait .duration else s
    | none => s)

/-- CHECK (R465). -/
def execStepCheck (s : State) : Host.Outcome State Fault Refusal :=
  .next (match s.stepNow with
    | some st => if st.op = 0x04 then (s.stepWait (.level st.b (st.a % 2 == 1))).seqRecheck else s
    | none => s)

/-- JUMP (R465). -/
def execStepJump (s : State) : Host.Outcome State Fault Refusal :=
  .next (match s.stepNow with
    | some st =>
      if st.op = 0x05 then
        let c := bits st.a 5 4
        let on := s.power.railOn (bits st.a 3 0)
        if c = 0 ∨ (c = 1 ∧ on) ∨ (c = 2 ∧ !on) then s.stepTo st.b else s.stepTo (s.seqStep + 1)
      else s
    | none => s)

/-- SAFE (R465, R468): the step after it becomes the safe state. -/
def execStepSafe (s : State) : Host.Outcome State Fault Refusal :=
  .next (match s.stepNow with
    | some st =>
      if st.op = 0x06 then
        let s := { s with power := { s.power with safe := s.seqStep + 1, order := [] } }
        (s.wf F.SEQ_STAT_retries 0).stepTo (s.seqStep + 1)
      else s
    | none => s)

/-- SYNC (R471): the device releases SEQSYNC and waits for it to read high. -/
def execStepSync (s : State) : Host.Outcome State Fault Refusal :=
  .next (match s.stepNow with
    | some st => if st.op = 0x07 then (s.stepWait (.sync st.b)).seqsync true else s
    | none => s)

/-- END (R466, R467): of the power-up section, complete once every required rail is on; of the shutdown section, the rails still on go off in reverse dependency order. -/
def execStepEnd (s : State) : Host.Outcome State Fault Refusal :=
  .next (match s.stepNow with
    | some st =>
      if st.op = 0x0F then
        if s.phase = 1 then (s.stepWait .required).seqRecheck else ((s.stepWait .allOff).seqsync true).seqRecheck
      else s
    | none => s)

/-- STEP_WAIT_EXPIRE (R465). -/
def execStepWaitExpire (s : State) : Host.Outcome State Fault Refusal :=
  .next (if s.power.wait = .duration then s.stepTo (s.seqStep + 1) else s)

/-- SEQSYNC_HIGH (R471): the rendezvous is passed; the line is pulled low again. -/
def execSeqsyncHigh (s : State) : Host.Outcome State Fault Refusal :=
  .next (match s.power.wait with
    | .sync n => ((s.wf F.SEQ_STAT_sync_state n).stepTo (s.seqStep + 1)).seqsync false
    | _ => s)

/-- An enabled rail is on (R462). -/
def State.railUp (s : State) (r : Nat) : State :=
  (s.setRail r (fun x => { x with on := true, pg := true })).seqRecheck

/-- RAIL_ON_DONE (R462, R465). -/
def execRailOnDone (rail : Nat) (s : State) : Host.Outcome State Fault Refusal :=
  .next (if (s.power.rail rail).en then s.railUp rail else s)

/-- CHECK_TIMEOUT_EXPIRE (R467, R468): a fault in a power-up; in a shutdown SEQ_FAULT is raised and the sequence goes on. -/
def execCheckTimeoutExpire (s : State) : Host.Outcome State Fault Refusal :=
  .next (match s.power.wait with
    | .level _ _ => if s.phase = 1 then s.seqFault 3 0 else (s.seqFaultNote 3 0).stepTo (s.seqStep + 1)
    | _ => s)

/-- SYNC_TIMEOUT_EXPIRE (R468, R471): in a power-up the line goes low and the sequencer rolls back; in a shutdown SEQ_FAULT is raised and the sequence goes on. -/
def execSyncTimeoutExpire (s : State) : Host.Outcome State Fault Refusal :=
  .next (match s.power.wait with
    | .sync _ => if s.phase = 1 then s.seqFault 4 0
        else ((s.seqFaultNote 4 0).seqsync true).stepTo (s.seqStep + 1)
    | _ => s)

/-- DISCHARGE_TIMEOUT (R467, R468): SEQ_FAULT in a shutdown, and the sequence goes on; a roll-back goes on without it. -/
def execDischargeTimeout (rail : Nat) (s : State) : Host.Outcome State Fault Refusal :=
  .next (if rail ≠ 0 ∧ !(s.power.rail rail).en ∧ (s.power.rail rail).on then
      ((if s.rollsBack then s else s.seqFaultNote 5 rail).setRail rail (fun x => { x with passed := true })).seqRecheck
    else s)

/-- PG_CHATTER (R468). -/
def execPgChatter (rail : Nat) (s : State) : Host.Outcome State Fault Refusal :=
  .next (if s.phase = 1 ∧ (s.power.dep rail).mode ≠ 0 then s.seqFault 2 rail else s)

/-- SEQ_FAULT_CLEAR (R494): a write of 1 to valid clears valid and count; W1C needs mgmt-write (R355). -/
def execSeqFaultClear (iface : Nat) (s : State) : Host.Outcome State Fault Refusal :=
  .next (s.regWrite iface F.SEQ_FAULT_valid.addr .mgmtWrite true (fun s => (s.wf F.SEQ_FAULT_valid 0).wf F.SEQ_FAULT_count 0))

/-- SEQ_VIN_CLEAR (R494): lowest takes the present VIN. -/
def execSeqVinClear (iface : Nat) (s : State) : Host.Outcome State Fault Refusal :=
  .next (s.regWrite iface F.SEQ_VIN_clear.addr .mgmtWrite true (fun s => s.wf F.SEQ_VIN_lowest (min 4095 (s.power.vin / 10))))

end Sys2Proof.Machine
end

