-- ==== Sys2Proof/Machine/Service.lean ====
section
/-! DEFINITION. Tiles out of service and back: isolation, the catch escrow drain, the nurse, the rebuild, Tile Service, helpers (01, R16, R18, R22 to R38). -/
namespace Sys2Proof.Machine

/-- The interrupt a unit's completion raises, by its source identifier (R408, R443; log 12). -/
def helperIrq (helper : Nat) : Option Nat :=
  match helper with
  | 5 => some (irqHelper 0 false)
  | 6 => some (irqHelper 1 false)
  | 7 => some (irqHelper 2 false)
  | 4 => some (irqHelper 3 false)
  | 1 => some (irqHelper 4 false)
  | 8 => some (irqHelper 5 false)
  | h => if 0x20 ≤ h ∧ 2 ≤ h % 8 ∧ h % 8 ≤ 6 then some (irqTile ((h - 0x20) / 8) (h % 8)) else none
/-- HELPER_COMPLETE (R18): a helper's event goes through the FIFO, and its interrupt source is raised. -/
def execHelperComplete (helper code : Nat) (data : Bytes) (s : State) : Host.Outcome State Fault Refusal :=
  .next (match helperIrq helper with
    | some i => (s.emit helper code (data.take 28)).irqEdge i
    | none => s)

/-! ## Tile states (R36, R37) -/

/-- A tile's state changes: TILE_STATE. -/
def State.setTileState (s : State) (n st : Nat) : State :=
  let was := s.rf (F.WDN_TILE_STAT_state n)
  (s.wf (F.WDN_TILE_STAT_state n) st).raise 0x0900 (le 1 n ++ le 1 was ++ le 1 st ++ le 1 (s.rf (F.WDN_TILE_STAT_cause n)))
/-- A tile's register window. -/
def tileWindow (n a : Nat) : Bool := decide (0x100000 * (n + 1) ≤ a ∧ a < 0x100000 * (n + 2))

/-! ## A tile goes into reset (R16, R25, R62, R315, R348, R493) -/

/-- What a tile's memories keep through a reset: its catch, its boles and dirty counter lines, its leases gone; the re-key boundaries and the scrub position return to their persisted values. -/
def Tile.resetCore (x : Tile) : Tile :=
  { x with held := true, depth := 0, entering := none, waking := false, cache := [], victims := [], prefetched := [], lmc := [], stemHeld := [], census := [], meters := [], keys := [], unwraps := []
           nodes := x.nodes.filter Node.dirty, leases := [], fetches := [], filterAll := true, filter := [], logStripes := [], destages := [], urgent := []
           scrubAt := x.scrubSaved, range := none, bounds := x.boundsSaved, window := ⟨0, 0⟩, qos := Qos.fresh, fineOff := 0 }
/-- A command of a tile's own engines. -/
def For.ofTile (t : Nat) (ops : List Op) : For → Bool
  | .read id _ => ops.any (fun o => o.id == id && o.tile == t)
  | .log u _ _ => u == t
  | .load u _ _ _ => u == t
  | .sheet u _ _ _ => u == t
  | .checker u => u == t
  | _ => false
/-- A channel whose tile is in reset: nothing waits or is outstanding on it, and it is neither trained nor polled; a disabled one stays so. -/
def State.resetChan (s : State) (c : Nat) : State :=
  let lost := (s.chan c).sent.map Sent.m ++ (s.chan c).waiting
  let s := s.modChan c (fun x => { x with waiting := [], sent := [], lockedTags := [], ready := 15, susp := 0, running := [], suspended := [], suspReads := [], present := 0, silent := [], others := [], recFails := 0, recRecent := [], downNoted := false })
  each lost s (fun s m => s.lostOnTile c m)
/-- Requests the tile was serving wait at the hub again; its media reads end (R23, R25). -/
def State.holdServed (s : State) (n : Nat) : State :=
  let s := each (s.ops.filter (fun o => o.tile == n)) s (fun s o => s.dropOp o.id)
  { s with reqs := s.reqs.map (fun q => if q.stage == .active && (q.tile == n || s.serverOf q == n) then { q with stage := .held, waits := [] } else q) }
/-- The reservations a tile holds are reclaimed (R16); 255 stands for no holder. -/
def State.reclaim (s : State) (n : Nat) : State :=
  let k := (s.reservations.filter (fun r => r.1 == n)).length
  ({ s with reservations := s.reservations.map (fun r => if r.1 == n then (255, r.2) else r) } : State).countHub 3 [] k
/-- Reclaimed reservations to which no transfer is addressed are forgotten (R16). -/
def State.dropReclaimed (s : State) : State := { s with reservations := s.reservations.filter (fun r => r.1 != 255 || s.addressed r.2) }
/-- The tile's copies go back, its checker closes, its commands elsewhere are withdrawn. -/
def State.stopEngines (s : State) (n : Nat) : State :=
  let s := each ((s.tile n).copies.map Copy.slot) s (fun s slot => s.copyBack n slot)
  let s := s.closeChecker n
  let ops := s.ops
  { s with chans := s.chans.map (fun (p : Nat × Chan) => (p.1, { p.2 with waiting := p.2.waiting.filter (fun m => !For.ofTile n ops m.what) })) }
/-- The active image disables the channel (R76). -/
def State.imageDisables (s : State) (c : Nat) : Bool := hasBit (((s.active.map Img.chans).getD []).getD c 0) 5
/-- The tile's registers take their warm column, fields whose value is Image the active image's, and its channels are down (R62, R76, R254, R400, R493). -/
def State.resetWindow (s : State) (n : Nat) : State :=
  let s := each ((upto s.cpt).map (globalChan n)) s (fun s c => s.resetChan c)
  let s := (s.resetRegs warmColumn (tileWindow n)).loadShares n
  each ((upto s.cpt).map (globalChan n)) s (fun s c =>
    let off := s.imageDisables c || (upto 4).all (fun d => hasBit (s.chan c).retired d)
    let s := s.wf (F.MSC_LNK_CTRL_disable n (localChan c)) (b2n off)
    if off then s.wf (F.MSC_LNK_STAT_lstate n (localChan c)) 9 else s)
/-- A tile goes into reset, its catch retained; leaves a retirement has still to append wait on the tile that serves them (R256). -/
def State.resetTile (s : State) (n : Nat) : State :=
  let wait := s.retireWaits n
  let s := ((s.stopEngines n).reclaim n).holdServed n
  each wait ((s.modTile n Tile.resetCore).resetWindow n).dropReclaimed (fun s p => s.appendAgain p.1 p.2)

/-! ## Isolation (R25, R31, R32) -/

/-- Every request is answered as R31 says while the package fault lasts. -/
def State.answerFault (s : State) : State :=
  (({ s with reqs := s.reqs.map (fun q => if q.stage == .held then { q with stage := .active, waits := [] } else { q with waits := [] }) } : State).run)
/-- Steps 1 to 3 of R25. The isolate bit reads 1 until the tile is Isolated, whether a write or the warden itself began it (R35; log 139). -/
def State.isolate (s : State) (n cause : Nat) : State :=
  let second := !s.tilesOut.isEmpty
  let cause := if second then 7 else cause
  let s := (s.wf (F.WDN_TILE_CTRL_isolate n) 1).wf (F.WDN_TILE_STAT_cause n) cause
  let s := (s.incSat (F.WDN_TILE_STAT_isolations n)).wf (F.WDN_TILE_STAT_catch_drained n) 0
  let s := (s.setTileState n 1).failApply 3 0 n
  let s := s.trialFault.resetTile n
  if second then (({ s with packageFault := true } : State).raise 0x0901 (le 1 (s.tilesOut.map (2 ^ ·)).sum)).answerFault
  else if s.faulted then s.answerFault
  else s.run
/-- The start of a return (R33): the tile is released from reset; a VTILE that a regulator fault switched off is enabled again (R475). Its links train from Detect (R62). The restore bit reads 1 as after a write, also where the warden began the return (R35; log 139). -/
def State.startReturn (s : State) (n : Nat) : State :=
  let s := if (s.power.rail (n + 2)).en then s else s.enHigh (n + 2)
  (((s.wf (F.WDN_TILE_CTRL_restore n) 1).modTile n (fun x => { x with held := false })).trainTile n).setTileState n 3
/-- A step of R33 failed (R34). -/
def State.failReturn (s : State) (n : Nat) : State :=
  (((s.resetTile n).wf (F.WDN_TILE_CTRL_restore n) 0).wf (F.WDN_TILE_STAT_rebuild_permille n) 0).setTileState n 6
/-- A tile fails on its own (R25, R31, R34). -/
def State.tileFails (s : State) (n cause : Nat) : State :=
  if s.tileState n = 0 then s.isolate n cause
  else if s.tileState n = 3 ∨ s.tileState n = 4 then s.failReturn n else s
/-- The RESET event and history entry of a tile reset (R480, R488). -/
def State.tileReset (s : State) (n cause resetCause : Nat) : State :=
  if s.tileState n = 0 then ((s.resetEvent 4 resetCause n).noteReset 4 resetCause n).tileFails n cause else s.tileFails n cause
/-- A write of 1 to WDN_TILE_CTRLn.isolate that is under its right (R31, R35): taken or not. -/
def State.isolateWrite (s : State) (n : Nat) : Bool × State :=
  if s.tileState n = 0 ∧ s.tilesOut.isEmpty then (true, s.isolate n 1) else (false, s)
/-- A write of 1 to WDN_TILE_CTRLn.restore that is under its right (R35); a rail that a return would have to switch is not switched in a brace (R473). -/
def State.restoreWrite (s : State) (n : Nat) : Bool × State :=
  if (s.tileState n = 2 ∨ s.tileState n = 6) ∧ ((s.power.rail (n + 2)).en ∨ !s.rb F.SEQ_VIN_braced) then (true, s.startReturn n) else (false, s)
/-- A write of the nurse (R24, R35). -/
def State.nurseWrite (s : State) (n v : Nat) : Bool × State :=
  if s.tileState n = 0 ∧ v ≠ n ∧ s.tileState v = 0 then (true, s.wf (F.WDN_TILE_CTRL_nurse n) v) else (false, s)
/-- ISOLATE (R35). -/
def execIsolate (iface tile : Nat) (s : State) : Host.Outcome State Fault Refusal :=
  .next (if s.tileCount ≤ tile then s
    else s.regWrite iface (F.WDN_TILE_CTRL_isolate tile).addr .tileService (s.isolateWrite tile).1 (fun s => (s.isolateWrite tile).2))
/-- RESTORE (R33, R35). -/
def execRestore (iface tile : Nat) (s : State) : Host.Outcome State Fault Refusal :=
  .next (if s.tileCount ≤ tile then s
    else s.regWrite iface (F.WDN_TILE_CTRL_restore tile).addr .tileService (s.restoreWrite tile).1 (fun s => (s.restoreWrite tile).2))
/-- TILE_WATCHDOG_EXPIRE (R25, R433, R478): isolation with cause 2. -/
def execTileWatchdogExpire (tile : Nat) (s : State) : Host.Outcome State Fault Refusal :=
  .next (if s.tileCount ≤ tile ∨ (s.tile tile).held then s
    else ((s.irqEdge (irqTile tile 0)).watchdogEvent (tile + 1) 0).tileReset tile 2 6)
/-- STEWARD_LOCKUP (R478): isolation with cause 3. -/
def execStewardLockup (tile : Nat) (s : State) : Host.Outcome State Fault Refusal :=
  .next (if s.tileCount ≤ tile ∨ (s.tile tile).held then s
    else ((s.irqEdge (irqTile tile 1)).watchdogEvent (tile + 1) 1).tileReset tile 3 10)
/-- TILE_FABRIC_LINK_FAIL (R25): isolation with cause 4. -/
def execTileFabricLinkFail (tile : Nat) (s : State) : Host.Outcome State Fault Refusal := .next (if s.tileCount ≤ tile then s else s.tileFails tile 4)
/-- TILE_INTERNAL_ERROR (R25): isolation with cause 5. -/
def execTileInternalError (tile : Nat) (s : State) : Host.Outcome State Fault Refusal := .next (if s.tileCount ≤ tile then s else s.tileFails tile 5)

/-! ## The escrow drain and the reissue (R25 to R27) -/

/-- A leaf of the drained catch goes to the nurse's log. -/
def State.drainLeaf (s : State) (u n : Nat) : State :=
  match s.leafNum n with
  | none => s
  | some r => match s.served r.comp with
    | none => s
    | some c =>
      let s := s.loadPath c r.tile r.rank 6 (64 * n)
      let p := s.logSpot u 40 (s.tile u).head
      match p.2 with
      | some pos => p.1.destageAt u n pos c r
      | none => p.1
/-- An entry read through the escrow port enters the nurse's catch; one that failed its check enters poisoned, with a record (R27). -/
def State.drainEntry (s : State) (n u : Nat) (bad : List Nat) (e : CatchEnt) : State :=
  if bad.contains e.line then
    (s.catchPut u e.line e.comp (poisonOf e.media) true e.master).report (Report.ofLine 6 10 n e.line (some e.comp) true false)
  else s.catchPut u e.line e.comp e.media true e.master
/-- CATCH_ESCROW_DRAIN_DONE (R25 step 4, R27): the nurse appends the catch's lines; the dirty map lines are written to the medium, and the tile's litter, which this content succeeds, is released. A tile without a nurse, as that of a part of one tile, keeps its catch. -/
def execCatchEscrowDrainDone (tile : Nat) (bad : List Nat) (s : State) : Host.Outcome State Fault Refusal :=
  .next (if s.tileState tile ≠ 1 ∨ s.rb (F.WDN_TILE_STAT_catch_drained tile) then s
    else match s.nurseOf tile with
    | none => s.wf (F.WDN_TILE_STAT_catch_drained tile) 1
    | some u =>
      let q := (s.tile tile).catchQ
      let maps := (s.tile tile).mapOut.filter (fun k => !(s.tile tile).mapQ.contains k) ++ (s.tile tile).mapQ
      let s := s.modTile tile (fun x => { x with catchQ := [], mapQ := [], mapOut := [], litter := x.litter.map (fun h => { h with released := true }) })
      let s := each q s (fun s e => s.drainEntry tile u bad e)
      let s := each maps s (fun s k => s.structWrite tile k)
      let s := if s.readOnly then s else each ((q.map (fun e => e.line / 64)).eraseDups) s (fun s n => s.drainLeaf u n)
      s.wf (F.WDN_TILE_STAT_catch_drained tile) 1)
/-- ISOLATION_REISSUE (R25 step 6): requests go to the nurse; a return the warden starts on its own, or one a tile reset asked for, begins at once (R35, R495). -/
def execIsolationReissue (tile : Nat) (s : State) : Host.Outcome State Fault Refusal :=
  .next (if s.tileState tile ≠ 1 ∨ !s.rb (F.WDN_TILE_STAT_catch_drained tile) then s
    else
      let s := (s.wf (F.WDN_TILE_CTRL_isolate tile) 0).setTileState tile 2
      let s := s.releaseHeld (s.server tile)
      if s.rb (F.WDN_TILE_CTRL_restore tile) || (s.rb (F.WDN_TILE_CTRL_auto_restore tile) && s.rf (F.WDN_TILE_STAT_cause tile) != 1) then s.startReturn tile else s)

/-! ## The return (R33, R34) -/

/-- The line-stripes listed for a tile, by its nurse. -/
def State.rebuildOf (s : State) (n : Nat) : List Stripe := (((s.tiles.map Tile.rebuild).flatten.filter (fun p => p.1 == n))).map Prod.snd
/-- Progress in ‰, shown while the tile is Rebuilding (R36). -/
def State.showRebuild (s : State) (n : Nat) : State :=
  let left := (s.rebuildOf n).length
  let total := max (s.tile n).rebuildTotal left
  let s := if s.tileState n = 4 then s.wf (F.WDN_TILE_STAT_rebuild_permille n) (if total = 0 then 1000 else 1000 * (total - left) / total) else s
  s.wf (F.WDN_TILE_STAT_degraded_stripes n) (b2n (decide (0 < left)))
/-- RESTORE_VERIFY_DONE (R33 steps 1 to 5, R34); the drain has left the catch empty. -/
def execRestoreVerifyDone (tile : Nat) (pass : Bool) (s : State) : Host.Outcome State Fault Refusal :=
  .next (if s.tileState tile ≠ 3 ∨ !s.power.railOn (tile + 2) then s
    else if !pass then s.failReturn tile
    else
      let left := (s.rebuildOf tile).length
      let s := s.modTile tile (fun x => { x with rebuildTotal := left })
      let s : State := { s with fw := { s.fw with running := s.fw.running.set (tile + 1) (s.rf F.WDN_FW_STAT_active_slot), halted := s.fw.halted.filter (· != tile + 1) } }
      (s.setTileState tile 4).showRebuild tile)
/-- A member the rebuild engine read with 2 or more bits corrected in a granule (R280, R281, R290). -/
def State.renewFound (s : State) (n : Nat) (x : Stripe) (j : Nat) : State :=
  match s.member x j with
  | some l =>
    let k := checkLine l []
    if k.cls == .uncorrectable || decide (k.most < 2) then s
    else
      let w := s.ownerOf x j
      (s.report (s.spotReport 1 8 x j (w.map Prod.snd) (w.map (fun (p : LeafRef × Nat) => p.1.comp)) (some k) false false n)).renewMember n x j k.fixed false
  | none => s
/-- The line a rebuilt member takes: reconstructed, or poisoned with a record where the stripe does not give it (R274). -/
def State.rebuiltLine (s : State) (n : Nat) (x : Stripe) (m : Nat) : Line × State :=
  let made := s.rebuildMember x m []
  let s := s.chargeRead x m true 8 []
  let s := each ((upto 16).filter (· != m)) s (fun s j => s.renewFound n x j)
  match made with
  | some l => (l, s)
  | none =>
    let line := (s.ownerOf x m).map (fun o => o.2)
    let comp := (s.ownerOf x m).map (fun o => o.1.comp)
    let l := match s.ownerOf x m with
      | some o => (match s.served o.1.comp with | some c => s.unreadPoison c o.2 | none => poisonLine 0 0 0)
      | none => poisonLine 0 0 0
    (l, s.report (s.spotReport 3 8 x m line comp none true false n))
/-- Members of a line-stripe on a tile whose dies answer. -/
def State.membersOn (s : State) (n : Nat) (x : Stripe) : List Nat :=
  (upto 16).filter (fun m => tileOfChan (s.memberChan x.group m) == n && s.dieAlive (s.memberChan x.group m) x.die)
/-- One line-stripe, or for a dense one its whole sheet-stripe, is rebuilt on the tile's members. -/
def State.rebuildStripe (s : State) (n : Nat) (x : Stripe) : State :=
  each (s.membersOn n x) s (fun s m =>
    let ch := s.memberChan x.group m
    if x.dense then
      let cmd : PkgCmd := { blankCmd with die := x.die, grove := x.grove, dense := true, sheet := x.line / 16, buf := x.line / 16 % 2 }
      let s := each (upto 16) s (fun s i =>
        let l := s.rebuiltLine n { x with line := x.line / 16 * 16 + i } m
        l.2.submit ch ⟨{ cmd with op := 0x20, line := i, data := some l.1 }, .rebuilt, 8, [], false, false, none⟩)
      s.submit ch ⟨{ cmd with op := 0x21 }, .rebuilt, 8, [], false, false, none⟩
    else
      let l := s.rebuiltLine n x m
      l.2.submit ch ⟨fastCmd x l.1 false, .rebuilt, 8, [], false, false, none⟩)
/-- REBUILD_STRIPE (R33 step 6, R34, R37): the first listed stripe of the tile, also of one that a warm reset returned to service; none while its steward restarts (R18). -/
def execRebuildStripe (tile : Nat) (s : State) : Host.Outcome State Fault Refusal :=
  .next (s.onAwake tile fun s => if !(s.tileState tile == 4 || s.tileState tile == 0) || s.coreAway (tile + 1) then s
    else match s.rebuildOf tile with
      | [] => if s.tileState tile = 4 then s.showRebuild tile else s
      | x :: _ =>
        let done (y : Stripe) : Bool := if x.dense then y.dense && y.group == x.group && y.die == x.die && y.grove == x.grove && y.line / 16 == x.line / 16 else y == x
        let s := s.rebuildStripe tile x
        let s : State := { s with tiles := s.tiles.map (fun y => { y with rebuild := y.rebuild.filter (fun p => !(p.1 == tile && done p.2)) }) }
        (s.countTile tile 118).showRebuild tile)
/-- Leaves homed on the tile that the nurse still holds in its catch or has under destage. -/
def State.nurseLeaves (s : State) (n : Nat) : List Nat :=
  let u := s.tile (s.server n)
  ((u.catchQ.map (fun (e : CatchEnt) => e.line / 64) ++ u.destages.map Destage.leaf).eraseDups).filter (fun k => s.homeOf (64 * k) == n)
/-- HOME_MOVE_BACK (R33 step 7): once the nurse has written back the tile's lines, the home moves back, held requests go to the tile, and retirement that waited goes on. The package fault of R31 lasts until a warm reset, that of R32 until the tile is back. -/
def execHomeMoveBack (tile : Nat) (s : State) : Host.Outcome State Fault Refusal :=
  .next (
    let u := s.server tile
    if s.tileState tile ≠ 4 ∨ !(s.rebuildOf tile).isEmpty ∨ !s.rb (F.TRN_MAP_STAT_stem_resident tile) ∨ !s.rb (F.TRN_MAP_STAT_filter_ready tile) then s
    else if !(s.nurseLeaves tile).isEmpty then
      s.modTile u (fun x => { x with urgent := x.urgent ++ (s.nurseLeaves tile).filter (fun k => x.catchQ.any (fun e => e.line / 64 == k) && !x.urgent.contains k) })
    else
      let s := s.holdServed tile
      let home := s.homeOf
      let s := s.modTile u (fun x => { x with cache := x.cache.filter (fun l => home l.line != tile), victims := x.victims.filter (fun l => home l.line != tile), prefetched := x.prefetched.filter (fun l => home l != tile) })
      let s := (s.wf (F.WDN_TILE_CTRL_restore tile) 0).setTileState tile 0
      let s := s.wf (F.WDN_TILE_STAT_rebuild_permille tile) 0
      (s.retireNext).releaseHeld tile)

/-! ## Tile Service (R38) -/

/-- The 12-byte output: the registers as a read shows them, so that an absent tile reads state 5 (R35, R36). -/
def State.tileOutput (s : State) (status n : Nat) : Bytes :=
  le 1 status ++ zeros 3 ++ le 4 (s.wdnTile (F.WDN_TILE_CTRL_isolate n).addr) ++ le 4 (s.wdnTile (F.WDN_TILE_STAT_state n).addr)
/-- Tile Service. On bad input the registers shown are those of the tile byte's low three bits, and an input of another length than 4 bytes is bad input too: the spec says neither (log 140). -/
def State.tileService (s : State) (b : Bytes) : Answer :=
  let op := getLe b 0 1
  let n := getLe b 1 1
  let v := getLe b 2 1
  let done (p : Bool × State) : Answer := ⟨.success, p.2.tileOutput (if p.1 then 0 else 2) n, p.2⟩
  if b.length ≠ 4 ∨ 4 < op ∨ 7 < n ∨ getLe b 3 1 ≠ 0 ∨ (op = 3 ∧ 7 < v) ∨ (op = 4 ∧ 1 < v) ∨ (op ≤ 2 ∧ v ≠ 0) then ⟨.success, s.tileOutput 1 (n % 8), s⟩
  else if s.tileCount ≤ n then ⟨.success, s.tileOutput 3 n, s⟩
  else match op with
    | 0 => done (true, s)
    | 1 => done (s.isolateWrite n)
    | 2 => done (s.restoreWrite n)
    | 3 => done (s.nurseWrite n v)
    | _ => done (true, s.wf (F.WDN_TILE_CTRL_auto_restore n) v)
/-- TILE_SERVICE (R38). -/
def execTileService (iface ld : Nat) (input : Bytes) (s : State) : Host.Outcome State Fault Refusal :=
  .next (s.command iface ld 0xC050 (some .tileService) (fun s => s.tileService input))

end Sys2Proof.Machine
end

