-- ==== Sys2Proof/Machine/Health.lean ====
section
/-! DEFINITION. The health report (07, R258, R259), its range on the sideband, and the reading of media error records (08, R292, R293). -/
namespace Sys2Proof.Machine

/-- A count in k bytes that saturates at the field's maximum (R258). -/
def leSat (k n : Nat) : Bytes := le k (min n (256 ^ k - 1))
/-- The wear of every place that has a record; every other place has wear 0 (R227). -/
def State.wears (s : State) : List Nat := s.places.map (fun p => p.2.wear)
/-- Places whose wear lies in a tenth of 500,000 units; the first also holds the places without a record. -/
def State.wearBucket (s : State) (i : Nat) : Nat :=
  (s.wears.filter (fun w => decide (50000 * i ≤ w ∧ w < 50000 * (i + 1)))).length + (if i = 0 then s.placeCount - s.places.length else 0)
/-- Dies retired (R260). -/
def State.diesRetired (s : State) : Nat := ((s.chans.map (fun (p : Nat × Chan) => ((upto 4).filter (hasBit p.2.retired)).length)) : List Nat).sum
/-- A sheet is flagged age-unknown on some tile (R181, R260). -/
def State.ageUnknown (s : State) : Bool := s.tileList.any (fun t => s.rb (F.MSC_RD_STAT_age_unknown t))
/-- A signed temperature of 0.1 °C in two bytes. -/
def leTemp (t : Int) : Bytes := le 2 (signed 16 t)

/-- A tile block of the report; of a tile the member lacks it reads zero. -/
def State.tileBlock (s : State) (t : Nat) : Bytes :=
  if s.tileCount ≤ t then zeros 32
  else le 1 (s.tileState t) ++ le 1 (s.undPct t) ++ le 1 (s.rf (F.MSC_RD_STAT_yielding t)) ++ zeros 1 ++ leSat 4 (tgetD s.health.yields t 0) ++
    leSat 8 (tgetD s.health.arounds t 0) ++ leSat 8 (s.tile t).mappedStems ++ leSat 4 (tgetD s.health.spareBlocks t 0) ++ zeros 4
/-- The sensor type of a remote input; 0xFF while no image is active (R98, R497). -/
def State.zoneType (s : State) (z : Nat) : Nat := ((s.active.bind (fun i => i.sensors[z]?)).map Prod.fst).getD 0xFF
/-- A zone block of the report. -/
def State.zoneBlock (s : State) (z : Nat) : Bytes :=
  let h := tget s.hist (9 + z)
  le 1 (s.zoneType z) ++ le 1 (s.rf (F.THM_ZONE_band z)) ++ zeros 2 ++ leTemp ((h.map TempHist.peak).getD 0) ++ leTemp ((h.map TempHist.low).getD 0) ++
    ((upto 5).map (fun b => leSat 4 (tgetD s.glade.history (z, b) 0 / 60))).flatten ++
    leSat 4 ((h.map TempHist.opsec).getD 0) ++ leSat 4 ((h.map TempHist.cycle).getD 0) ++ zeros 12
/-- A die sensor block of the report, hub then tiles. -/
def State.dieBlock (s : State) (d : Nat) : Bytes :=
  if s.tileCount < d then zeros 8
  else let h := tget s.hist d
    leTemp ((h.map TempHist.peak).getD 0) ++ leSat 4 ((h.map TempHist.opsec).getD 0) ++ zeros 2

/-- Bytes 0 to 191 of the report (R258). -/
def State.healthHead (s : State) : Bytes :=
  le 2 1 ++ le 2 2112 ++ le 4 s.glade.opsec ++ le 4 s.glade.pwrcyc ++ le 1 s.spareState ++ le 1 s.spareLeft ++ le 1 s.lifeUsed ++
  le 1 (b2n s.ageUnknown + 2 * b2n (!s.allInService) + 4 * s.rf F.RST_STAT_trim_safe) ++ le 8 s.spare ++ le 8 s.spareBase ++ le 8 s.mappedStems ++
  leSat 4 s.deadwood.length ++ leSat 2 s.diesRetired ++ leSat 2 s.retiredChans.length ++ leSat 8 (s.deadPlaces + s.factoryCount) ++ zeros 8 ++
  leSat 4 (if s.places.length < s.placeCount then 0 else s.wears.foldl min (s.wears.headD 0)) ++ leSat 4 s.meanWear ++ leSat 4 (s.wears.foldl max 0) ++
  ((upto 10).map (fun i => leSat 4 (s.wearBucket i))).flatten ++ leSat 4 (s.wears.filter (fun w => decide (500000 ≤ w))).length ++ zeros 8 ++
  leSat 8 s.health.corrected ++ leSat 8 s.health.scrubRewritten ++ leSat 8 s.health.reconstructed ++ leSat 8 s.health.uncorrectable ++
  leSat 4 s.health.denseFail ++ leSat 4 s.health.readbackFail ++ leSat 4 s.health.fastFail ++ leSat 4 s.health.recoveries ++ leSat 8 (s.errNext - 1) ++ zeros 8
/-- The 2,112-byte health report (R258). -/
def State.healthReport (s : State) : Bytes :=
  s.healthHead ++ ((upto 8).map s.tileBlock).flatten ++ ((upto 32).map s.zoneBlock).flatten ++ ((upto 9).map s.dieBlock).flatten ++ zeros 56

/-- GET_HEALTH_REPORT (R258). -/
def execGetHealthReport (iface ld : Nat) (s : State) : Host.Outcome State Fault Refusal :=
  .next (s.command iface ld 0xC021 (some .healthRead) (fun s => ⟨.success, s.healthReport, s⟩))
/-- HEALTH (R456): a range of the report; one that runs past its end is bad input. -/
def execHealth (offset length : Nat) (s : State) : Host.Outcome State Fault Refusal :=
  .next (s.sidebandUnder 0x02 .healthRead (fun s => if offset + length ≤ 2112 then (0, slice s.healthReport offset length, s) else (4, [], s)))

/-- A reader sees a record with a compartment only through a logical device that sees the compartment, or, without a logical device, within its scope (R292, R453). -/
def State.seesErr (s : State) (iface ld : Nat) (e : MErr) : Bool :=
  match e.comp with
  | none => true
  | some c => if iface < 4 then s.visible iface ld c else s.covers iface .healthRead c
/-- The oldest record number kept; the next number where none is kept. -/
def State.errOldest (s : State) : Nat := (s.errs.getLast?.map MErr.num).getD s.errNext
/-- Most records one Get Media Error Records returns (R293). -/
def errMost : Nat := 16000
/-- GET_MEDIA_ERROR_RECORDS (R293): the records the reader sees, in ascending number. -/
def execGetMediaErrorRecords (iface ld : Nat) (input : Bytes) (s : State) : Host.Outcome State Fault Refusal :=
  .next (s.command iface ld 0xC022 (some .healthRead) (fun s =>
    let n := getLe input 4 2
    if input.length ≠ 8 ∨ n = 0 ∨ errMost < n ∨ !allZero (slice input 6 2) then answer .invalidInput s
    else
      let l := (s.errs.reverse.filter (fun e => decide (getLe input 0 4 ≤ e.num) && s.seesErr iface ld e)).take n
      ⟨.success, le 4 l.length ++ le 4 s.errOldest ++ le 4 s.errNext ++ zeros 4 ++ (l.map (s.errBytes iface)).flatten, s⟩))

end Sys2Proof.Machine
end

