-- ==== Sys2Proof/Machine/Power.lean ====
section
/-! DEFINITION. The power-loss flush and the litter (06, R210 to R219), VIN levels, regulator faults, the push button, and the end of a power-off (15, R462, R467, R472 to R476). -/
namespace Sys2Proof.Machine

/-! ## The flush (R212 to R214, R219, R474) -/

/-- A command that writes a structure line or a rebuilt member: it is issued again after the reset (log 26). -/
def For.lasting : For → Bool
  | .structure => true
  | .rebuilt => true
  | _ => false
/-- ABORT goes to every die that runs or holds suspended a program (R212 step 2). -/
def State.abortDies (s : State) (c : Nat) : State :=
  each ((upto 4).filter (fun d => thas (s.chan c).running d || thas (s.chan c).suspended d || hasBit (s.chan c).susp d)) s (fun s d =>
    s.send (.command c (makeBlock (abortCmd d)) none))
/-- Every program ends: copies go back to start again from their sources, destages run again from the catch (R212, R189). -/
def State.stopPrograms (s : State) : State :=
  let s := each (s.chans.map Prod.fst) s (fun s c => s.abortDies c)
  let s := each s.tileList s (fun s t => each ((s.tile t).copies.map Copy.slot) s (fun s slot => s.copyBack t slot))
  let s : State := { s with tiles := s.tiles.map (fun x => { x with logStripes := [], destages := [], urgent := (x.urgent ++ x.destages.map Destage.leaf).eraseDups }) }
  { s with chans := s.chans.map (fun (p : Nat × Chan) =>
      (p.1, { p.2 with waiting := (p.2.sent.map Sent.m ++ p.2.waiting).filter (fun m => m.what.lasting), sent := [], running := [], suspended := [], suspReads := [] })) }
/-- The half the next flush of a tile writes: successive flushes alternate (R213). -/
def Tile.nextHalf (x : Tile) : Nat := x.flushSeq % 2
/-- A tile's catch and dirty map lines in the half of the flush, not sealed yet. -/
def State.writeLitter (s : State) (t : Nat) : State :=
  let x := s.tile t
  let maps := x.mapOut.filter (fun k => !x.mapQ.contains k) ++ x.mapQ
  s.modTile t (fun y => { y with litter := y.litter.set x.nextHalf ⟨x.flushSeq + 1, s.glade.pwrcyc, s.glade.opsec, x.catchQ, maps.map (fun k => (k, s.snapOf t k)), false, false, true, 0⟩
                                 flushSeq := x.flushSeq + 1 })
/-- The seal of the last flush, which releases the other half (R213), with the time since the Commit crossing in units of 8 µs (R223). -/
def Tile.sealLitter (x : Tile) (ns : Nat) : Tile :=
  { x with litter := x.litter.map (fun h => if h.seq = x.flushSeq ∧ h.written then { h with sealed_ := true, time := min 255 (ns / 8000) } else { h with released := true }) }
/-- Tiles that take part in a flush: In service, and with their litter replayed (R219, R474); of a part of one tile, whose catch no nurse can drain, also the isolated one (R210; log 107). -/
def State.flushes (s : State) (t : Nat) : Bool := (s.tileInService t || ((s.nurseOf t).isNone && !(s.tile t).catchQ.isEmpty)) && (s.tile t).replayed

/-! ## The litter's lines (R213, R214) -/

/-- An index entry: line index or map line address, compartment, used, poisoned, map line. -/
def indexEntry (comp addr : Nat) (poisoned map : Bool) : Bytes := le 8 (addr % 2 ^ 40 + comp % 2 ^ 12 * 2 ^ 40 + 2 ^ 52 + b2n poisoned * 2 ^ 53 + b2n map * 2 ^ 54)
/-- The compartment id and the map line address of an index entry: the kind in bits 39 and 38, and of a node its level above its index (log 162). -/
def MapKey.address : MapKey → Nat × Nat
  | .stem n => (0, n)
  | .leaf n => (0, n + 2 ^ 38)
  | .node c l i => (c, i + l * 2 ^ 34 + 2 ^ 39)
/-- The data lines of a half in order, each with its index entry: host lines, then map lines. -/
def State.litterData (s : State) (t : Nat) (h : LitterHalf) : List (Bytes × Line) :=
  h.hosts.map (fun e => (indexEntry e.comp e.line (metaPoison (lineMeta e.media)) false, e.media)) ++
  h.maps.map (fun p => (indexEntry p.1.address.1 p.1.address.2 false true, s.structContent t p.1))
/-- The groups of up to 7. -/
def sevens {α : Type} (l : List α) : List (List α) := (upto ((l.length + 6) / 7)).map (fun i => (l.drop (7 * i)).take 7)
def litterHeader (h : LitterHalf) : Bytes := [0x4C#8, 0x49#8, 0x54#8, 0x52#8] ++ le 4 h.seq ++ le 4 h.pwrcyc ++ le 4 h.opsec ++ zeros 48
def litterIndex (seq g : Nat) (l : List Bytes) : Bytes := fit 56 l.flatten ++ le 4 seq ++ le 4 g
/-- The index lines' bytes, in group order. -/
def litterIndexes (seq : Nat) (l : List (Bytes × Line)) : List Bytes := (sevens l).mapIdx (fun g x => litterIndex seq g (x.map Prod.fst))
def litterSeal (h : LitterHalf) (l : List (Bytes × Line)) : Bytes :=
  fit 8 (litterHeader h) ++ le 4 (sevens l).length ++ le 4 h.hosts.length ++ le 4 h.maps.length ++ le 4 (crc32 (litterIndexes h.seq l).flatten) ++ zeros 40
/-- The lines of a half but for its seal: the header, and the groups, each followed by its index line. -/
def litterLines (h : LitterHalf) (l : List (Bytes × Line)) : List Line :=
  structLine (litterHeader h) :: (((sevens l).mapIdx (fun g x => x.map Prod.snd ++ [structLine (litterIndex h.seq g (x.map Prod.fst))])).flatten)
/-- The line-stripe of a half that holds a position: 384 fronds of system places, spread over the (group, die index) pairs (R213; log 162). -/
def State.litterStripe (s : State) (t half n : Nat) : Stripe :=
  let frond := n / 16
  let pairs := (((upto s.groupCount).map (fun g => (upto 4).map (fun d => (g, d)))).flatten).filter (fun p => !s.pairDead p.1 p.2)
  let p := pairs.getD (frond % max 1 pairs.length) (0, 0)
  ⟨p.1, p.2, Config.systemPlace t 4 (384 * half + frond) 0 0 2 % 102400, n % 16, false⟩
/-- A member of a line-stripe of the litter is programmed within the flush. -/
def State.layMember (s : State) (x : Stripe) (m : Nat) (l : Line) : State :=
  if s.memberPresent x.group x.die m then
    let c := s.memberChan x.group m
    let d := (s.pkg c).die x.die
    s.setPkg c ((s.pkg c).setDie x.die { (d.programmed (fastCmd x l false) true s.glade.elapsed) with run := d.run })
  else s
/-- Lines are laid on line-stripes, the last with filler, with their parity members (R198, R213). -/
def State.layLines (s : State) (spot : Nat → Stripe) (l : List Line) : State :=
  if s.active.isNone then s
  else each (upto ((l.length + 13) / 14)) s (fun s i =>
    let x := spot i
    let d (m : Nat) : Line := l.getD (14 * i + m) fillerLine
    let pq := parityOf ((upto 14).map (fun m => (m, stripeVector (d m))))
    each (upto 16) s (fun s m => s.layMember x m (if m < 14 then d m else parityLine (if m = 14 then pq.1 else pq.2))))
/-- The half a tile's last flush wrote. -/
def Tile.lastHalf (x : Tile) : LitterHalf := x.litter.getD ((x.flushSeq - 1) % 2) LitterHalf.fresh
/-- Header and groups of a tile's flush go to the medium. -/
def State.layLitter (s : State) (t : Nat) : State :=
  let h := (s.tile t).lastHalf
  s.layLines (s.litterStripe t ((h.seq - 1) % 2)) (litterLines h (s.litterData t h))
/-- Its seal line follows, in the next line-stripe. -/
def State.laySeal (s : State) (t : Nat) : State :=
  let h := (s.tile t).lastHalf
  let l := s.litterData t h
  s.layLines (fun i => s.litterStripe t ((h.seq - 1) % 2) (((litterLines h l).length + 13) / 14 + i)) [structLine (litterSeal h l)]
/-- The line-stripe of a half of the root bay (R343; log 162). -/
def State.bayStripe (s : State) (half n : Nat) : Stripe :=
  let pairs := (((upto s.groupCount).map (fun g => (upto 4).map (fun d => (g, d)))).flatten).filter (fun p => !s.pairDead p.1 p.2)
  let p := pairs.getD ((n / 16) % max 1 pairs.length) (0, 0)
  ⟨p.1, p.2, Config.systemPlace 8 5 (20 * half + n / 16) 0 0 2 % 102400, n % 16, false⟩
/-- The sealed set goes to the half of the root bay as format 4 lines (R343 step 5). -/
def State.layBay (s : State) : State :=
  match s.sealing with
  | some x =>
    let b := x.bytes
    s.layLines (s.bayStripe (x.gen % 2)) ((upto 4113).map (fun i => s.sealedLine (i + 2 ^ 32) x.gen (slice b (64 * i) 64)))
  | none => s
/-- Steps 2 and 3 of R212, with the sealing of the taproots beside them (R343). -/
def State.flushTiles (s : State) : State :=
  let s := s.stopPrograms
  let s := if s.rootsAccepted then s.sealTaproots.layBay else s
  each (s.tileList.filter s.flushes) ({ s with power := { s.power with commitFine := s.fine } } : State) (fun s t => (s.writeLitter t).layLitter t)
/-- The seals, but for tiles that could not write theirs. -/
def State.sealTiles (s : State) (unsealed : List Nat) : State :=
  each (s.tileList.filter (fun t => s.flushes t && !unsealed.contains t)) s (fun s t => (s.laySeal t).modTile t (fun x => x.sealLitter (s.fine - s.power.commitFine)))
/-- A catch still to be drained when a flush or a reset comes is drained first (R219). -/
def State.drainCatches (s : State) : State :=
  each (s.tileList.filter (fun t => s.tileState t == 1 && !s.rb (F.WDN_TILE_STAT_catch_drained t) && decide (1 < s.tileCount))) s (fun s t =>
    match execCatchEscrowDrainDone t [] s with
    | .next s' => s'
    | _ => s)
/-- Work that a power event or a reset ends: an apply whose commit is not complete is undone, the checkers, requests not yet in a catch (R118, R212, R300). -/
def State.endWork (s : State) : State :=
  let s := each s.tileList s.undoApply (fun s t => s.closeChecker t)
  each s.ops ({ s with reqs := [] } : State) (fun s o => s.dropOp o.id)
/-- Step 1 of R212, and with it the flush. -/
def State.startFlush (s : State) : State :=
  let s : State := { s with power := { s.power with flushing := true, flushed := false } }
  s.drainCatches.endWork.flushTiles
/-- From the Commit crossing records go to the Glade buffer, the queued ones first (R425). -/
def State.commitLog (s : State) : State :=
  if s.power.committed then s
  else
    let room := 256 - s.glade.buffer.length
    let kept : List LogRec × Nat := (s.log.queue.take room, s.log.queue.length - room)
    let g : Glade := { s.glade with buffer := s.glade.buffer ++ kept.1, bufDrops := satAdd s.glade.bufDrops kept.2 65535, bufGap := s.glade.bufGap + kept.2 }
    { s with power := { s.power with committed := true }, log := { s.log with queue := [] }, glade := g }
/-- The sequencer runs and no power-off has begun (R472, R476, R501). -/
def State.powered (s : State) : Bool := (s.phase == 1 || s.phase == 2) && !s.power.flushing
/-- A power-off begins (R467, R479): recorded with its cause, the flush and then the shutdown section; the section at once when no tile has been released since the last power-up. -/
def State.powerOff (s : State) (cause detail : Nat) (after : AfterOff) : State :=
  if !s.powered then s
  else
    let s := (s.resetEvent 1 cause detail).noteReset 1 cause detail
    let s : State := (({ s with power := { s.power with after := after }, resets := [] } : State)).wf F.THM_STAT_last_thermal (b2n (decide (cause = 11)))
    let s := s.commitLog.startFlush
    if s.power.released then s else ({ s with power := { s.power with flushed := true } } : State).startShutdown

/-! ## What a power-down record holds (R403, R450, R508) -/

/-- The temperature history of the zones and dies: seconds in each band, peak, minimum, seconds and cycle of the peak. -/
def State.histBytes (s : State) : Bytes :=
  let head (k : Nat) : Bytes := match tget s.hist k with
    | some h => le 2 (signed 16 h.peak) ++ le 2 (signed 16 h.low) ++ le 4 h.opsec ++ le 4 h.cycle
    | none => le 2 (signed 16 (-32768)) ++ zeros 10
  ((upto 32).map (fun z => head (9 + z) ++ ((upto 5).map (fun b => le 4 (tgetD s.glade.history (z, b) 0))).flatten)).flatten ++ ((upto 9).map head).flatten
/-- A 16-bit two's complement number. -/
def toTemp (n : Nat) : Int := if n < 32768 then n else (n : Int) - 65536
/-- The history a saved record gives back. -/
def State.loadHist (s : State) (b : Bytes) : State :=
  let head (k off : Nat) (t : Tbl Nat TempHist) : Tbl Nat TempHist :=
    if getLe b off 2 = 32768 then t else tput t k ⟨toTemp (getLe b off 2), toTemp (getLe b (off + 2) 2), getLe b (off + 4) 4, getLe b (off + 8) 4⟩
  let h := each (upto 9) (each (upto 32) [] (fun t z => head (9 + z) (32 * z) t)) (fun t d => head d (1024 + 12 * d) t)
  let secs := ((upto 32).map (fun z => (upto 5).map (fun i => ((z, i), getLe b (32 * z + 12 + 4 * i) 4)))).flatten
  { s with hist := h, glade := { s.glade with history := secs.filter (fun p => decide (0 < p.2)) } }
/-- The history is kept under key 0x0005 (R508). -/
def State.saveHist (s : State) : State := s.devicePut 0x0005 (some s.histBytes)
/-- The power-down record, key 0x0002 (R450, R451), with the history beside it and the fall-back store's shadow (R452). -/
def State.powerDownRecord (s : State) : State :=
  let s := (s.devicePut 0x0002 (some (le 4 s.glade.opsec ++ le 4 s.glade.pwrcyc ++ le 4 s.glade.elapsed))).saveHist
  match s.glade.fallback with
  | some t => { s with ps := { s.ps with shadow := some t } }
  | none => s
/-- FLUSH_DONE (R212 step 4, R343, R344, R467): the seals stand, but for the tiles whose flush could not be completed, and the taproots are sealed; the power-down record is written, before an orderly shutdown also the sealed set, and the shutdown section starts. -/
def execFlushDone (unsealed : List Nat) (s : State) : Host.Outcome State Fault Refusal :=
  .next (if !s.power.flushing ∨ s.power.flushed ∨ !(s.phase = 1 ∨ s.phase = 2) then s
    else
      let s := (s.sealTiles unsealed).commitSeal.powerDownRecord
      let s := if s.power.vinValid && s.rootsAccepted then s.saveSealed else s
      ({ s with power := { s.power with flushed := true } } : State).startShutdown)

/-! ## VIN (R211, R472 to R474) -/

/-- VIN as sampled, in mV: SEQ_VIN shows it in 10 mV, with the lowest since the last clear; a brace keeps its own lowest (R473, R494). -/
def State.setVin (s : State) (mv : Nat) (valid : Bool) : State :=
  let s : State := { s with power := { s.power with vin := mv, vinValid := valid, braceLow := min s.power.braceLow mv } }
  s.wf F.SEQ_VIN_lowest (min (s.rf F.SEQ_VIN_lowest) (min 4095 (mv / 10)))
/-- Every tile is braced, or no longer (R211). -/
def State.brace (s : State) (on : Bool) : State :=
  let s := s.wf F.SEQ_VIN_braced (b2n on)
  each s.tileList s (fun s t => (s.wf (F.MSC_WR_STAT_braced t) (b2n on)).refreshEligible t)
/-- BRACE (R428): 0 begin or 1 end, lowest VIN in mV, duration in µs. -/
def State.braceEvent (s : State) (ends lowest duration : Nat) : State := s.emit 0x01 0x0101 (le 1 ends ++ le 2 lowest ++ le 4 duration)
/-- VIN_WARN (R211, R472): VIN is below 11.2 V. -/
def execVinWarn (mv : Nat) (s : State) : Host.Outcome State Fault Refusal :=
  .next (
    let s := s.setVin mv false
    if s.rb F.SEQ_VIN_braced ∨ !s.powered then s
    else
      let s : State := { s with power := { s.power with braceFine := s.fine, braceLow := mv } }
      let s := ((s.brace true).braceEvent 0 mv 0).irqEdge irqVinWarn
      (each s.tileList s (fun s t => s.closeChecker t)).failApply 5 0 0)
/-- VIN_COMMIT (R212, R472, R502): VIN is below 10.4 V. One flush and one shutdown run. -/
def execVinCommit (mv : Nat) (s : State) : Host.Outcome State Fault Refusal :=
  .next (
    let s := s.setVin mv false
    if s.phase = 0 then s else (s.irqEdge irqVinCommit).powerOff 13 0 .valid)
/-- Every other rail goes off at once, in reverse dependency order and with no wait for discharge (R472, R476, R481). -/
def State.railsOff (s : State) : State :=
  if s.phase = 0 then s
  else
    let s := each ((upto 16).drop 1).reverse s (fun s r => if (s.power.rail r).en then s.enLow r else s)
    let s : State := { s with power := { s.power with rails := s.power.rails.mapIdx (fun i x => if i = 0 then x else Rail.down) }
                              pkgs := s.pkgs.map (fun (p : Nat × Pkg) => (p.1, p.2.powerOff s.glade.elapsed)), chans := s.chans.map (fun (p : Nat × Chan) => (p.1, { p.2 with vmedLost := true })) }
    s.powerOffDone
/-- VIN below Off ends a stay in P3 that waits for VIN (R468, R476). -/
def State.offSeen (s : State) : State :=
  { s with power := { s.power with after := if s.power.after = .press ∨ s.power.after = .locked then .valid else s.power.after } }
/-- VIN_OFF (R472): VIN is below 9.0 V. -/
def execVinOff (mv : Nat) (s : State) : Host.Outcome State Fault Refusal :=
  .next (
    let s := s.setVin mv false
    (if s.powered then s.powerOff 13 0 .valid else s).railsOff.offSeen)
/-- COMMIT_OFF_TIMEOUT (R472): 2.5 ms after the Commit crossing VIN is still below 10.4 V. -/
def execCommitOffTimeout (s : State) : Host.Outcome State Fault Refusal :=
  .next (if s.power.flushing ∧ s.power.vin < 10400 then s.railsOff.offSeen else s)

/-! ## The next power-up (R466, R468, R473, R476, R503, R504) -/

/-- A power-up starts where nothing stands against it: the phase is Off, 200 ms have passed, VIN is valid, and what this power-off waits for has come. -/
def State.tryPowerUp (s : State) : State :=
  if s.phase = 0 ∧ s.power.minOff ∧ s.power.vinValid then
    match s.power.after with
    | .valid => if s.storedProgram.autoOn then s.startPowerUp else s
    | .again => s.startPowerUp
    | _ => s
  else s
/-- A press, or MRST#, asks for a power-up while the phase is Off (R468, R476, R504). -/
def State.askPowerUp (s : State) : State :=
  let after := match s.power.after with
    | .thermal => .thermal
    | .thermalLocked => .thermal
    | _ => .again
  ({ s with power := { s.power with after := after } } : State).tryPowerUp
/-- No rail is switched in a brace (R473): the rails of tiles whose regulator failed in it go off when it has ended. -/
def State.shedFailed (s : State) : State :=
  each s.tileList s (fun s n => if s.phase == 2 && (s.power.rail (n + 2)).en && !(s.power.rail (n + 2)).pg && (s.tileState n == 2 || s.tileState n == 1 || s.tileState n == 6) then s.enLow (n + 2) else s)
/-- VIN_VALID (R472, R473): VIN has held at or above 11.2 V for 10 ms: a brace ends, or a power-up may start. -/
def execVinValid (mv : Nat) (s : State) : Host.Outcome State Fault Refusal :=
  .next (
    let s := s.setVin mv true
    if s.phase = 0 then s.tryPowerUp
    else if s.rb F.SEQ_VIN_braced && !s.power.flushing then
      ((s.brace false).braceEvent 1 s.power.braceLow ((s.fine - s.power.braceFine) / 1000)).shedFailed
    else s)
/-- MIN_OFF_TIME_END (R473). -/
def execMinOffTimeEnd (s : State) : Host.Outcome State Fault Refusal :=
  .next (if s.phase = 0 then ({ s with power := { s.power with minOff := true } } : State).tryPowerUp else s)

/-! ## Power good and regulator faults (R462, R467, R468, R475) -/

/-- SEQ_FAULT shows a regulator fault (R494). -/
def State.regulatorNote (s : State) (rail : Nat) : State :=
  let s := ((s.wf F.SEQ_FAULT_kind 6).wf F.SEQ_FAULT_rail rail).wf F.SEQ_FAULT_step s.seqStep
  ((s.incSat F.SEQ_FAULT_count).wf F.SEQ_FAULT_valid 1).irqEdge irqSeqFault
/-- A regulator fault (R475): the tile of a VTILE is isolated with cause 5 and its rail goes off, during a brace once that has ended (R473); any other required rail ends in a power-off, and a power-up after 200 ms. -/
def State.regulatorFault (s : State) (rail : Nat) : State :=
  let s := s.regulatorNote rail
  if 2 ≤ rail ∧ rail ≤ 9 then
    let n := rail - 2
    let s := if s.tileState n = 0 then (s.resetEvent 4 2 n).noteReset 4 2 rail else s
    let s := s.tileFails n 5
    if s.rb F.SEQ_VIN_braced then s else s.enLow rail
  else s.powerOff 2 rail .again
/-- ON_TIMEOUT_EXPIRE (R468, R475): a fault of the power-up; while a tile returns, its return fails and the rail goes off again. -/
def execOnTimeoutExpire (rail : Nat) (s : State) : Host.Outcome State Fault Refusal :=
  .next (if !(s.power.rail rail).en ∨ (s.power.rail rail).pg then s
    else if s.phase = 1 then s.seqFault 1 rail
    else if s.phase = 2 ∧ 2 ≤ rail ∧ rail ≤ 9 ∧ s.tileState (rail - 2) = 3 then (s.failReturn (rail - 2)).enLow rail
    else s)
/-- VMED is off (R46, R49, R462): programs fail, and every package loses what it held in volatile state. -/
def State.vmedOff (s : State) : State :=
  { s with pkgs := s.pkgs.map (fun (p : Nat × Pkg) => (p.1, p.2.powerOff s.glade.elapsed)), chans := s.chans.map (fun (p : Nat × Chan) => (p.1, { p.2 with vmedLost := true })) }
/-- PG_CHANGE (R462, R468, R475). -/
def execPgChange (rail : Nat) (good : Bool) (s : State) : Host.Outcome State Fault Refusal :=
  .next (if rail = 0 ∨ 16 ≤ rail then s
    else if good then
      (if (s.power.rail rail).en then s.railUp rail else s.setRail rail (fun x => { x with on := true, pg := true }))
    else
      let was := (s.power.rail rail).en && (s.power.rail rail).pg
      let s := s.setRail rail (fun x => { x with pg := false, on := x.on && rail != 14 })
      let s := if rail = 14 then s.vmedOff else s
      if was && s.phase == 1 then s.seqFault 6 rail
      else if was && s.phase == 2 && (s.power.dep rail).required then s.regulatorFault rail
      else s)
/-- RAIL_OFF_DONE (R462, R465, R467). -/
def execRailOffDone (rail : Nat) (s : State) : Host.Outcome State Fault Refusal :=
  .next (if rail = 0 ∨ (s.power.rail rail).en ∨ !(s.power.rail rail).on then s
    else
      let s := s.setRail rail (fun x => { x with on := false, pg := false })
      (if rail = 14 then s.vmedOff else s).seqRecheck)

/-! ## The push button (R476) -/

/-- PBTN (R428). -/
def State.pbtnEvent (s : State) (k : Nat) : State := s.emit 0x01 0x0106 (le 1 k)
def State.press (s : State) (on : Bool) : State := { s with power := { s.power with pressed := on } }
/-- PBTN_PRESS: pressed, and with the phase Off a power-up is asked for. -/
def execPbtnPress (s : State) : Host.Outcome State Fault Refusal :=
  .next (if s.phase = 0 then (s.press true).askPowerUp else s.press true)
/-- PBTN_RELEASE: a short press while the phase is On raises PBTN and its interrupt. -/
def execPbtnRelease (s : State) : Host.Outcome State Fault Refusal :=
  .next (if s.power.pressed && s.phase == 2 && !s.power.flushing then ((s.press false).pbtnEvent 0).irqEdge irqPbtn else s.press false)
/-- PBTN_HOLD_8S: an orderly power-off. -/
def execPbtnHold8s (s : State) : Host.Outcome State Fault Refusal :=
  .next (if s.power.pressed && s.powered then (s.pbtnEvent 1).powerOff 12 0 .press else s)
/-- PBTN_HOLD_15S: every rail off at once, whether or not the orderly power-off has ended. -/
def execPbtnHold15s (s : State) : Host.Outcome State Fault Refusal :=
  .next (if !s.power.pressed then s
    else
      let s := s.pbtnEvent 2
      if s.phase = 0 then s
      else
        let s := if s.powered then s.powerOff 12 0 .press else s
        s.railsOff)

end Sys2Proof.Machine
end

