-- ==== Sys2Proof/Machine/Reset.lean ====
section
/-! DEFINITION. Reset sources, the cold and the warm reset, clock domains and the gate, trim loads, the loss of the Glade domain, and the litter at resume (06, R217 to R219; 13, R402 to R405; 14, R441, R442; 15, R477 to R488, R493, R495; 18, R539). -/
namespace Sys2Proof.Machine

/-! ## What every cold and warm reset loses (R493) -/

/-- A tile's memories through a cold or warm reset: the catch and the dirty map lines went to the litter; re-key boundaries and the scrub position are the persisted ones. -/
def Tile.resetDeep (x : Tile) : Tile :=
  { x.resetCore with catchQ := [], mapQ := [], mapOut := [], batch := [], levelBest := none, checker := Checker.fresh, replayed := false }
/-- A channel through a cold or warm reset: only commands that write structures and rebuilt members wait on (log 26). -/
def Chan.resetDeep (x : Chan) : Chan :=
  { x with waiting := (x.sent.map Sent.m ++ x.waiting).filter (fun m => m.what.lasting), sent := [], nextTag := 0, lockedTags := [], ready := 15, susp := 0, running := [], suspended := []
           suspReads := [], present := 0, silent := [], others := [], recFails := 0, recRecent := [], downNoted := false }
/-- The tiles, the channels, and what is in flight. -/
def State.loseAll (s : State) : State :=
  { s with tiles := s.tiles.map Tile.resetDeep, chans := s.chans.map (fun (p : Nat × Chan) => (p.1, p.2.resetDeep))
           reqs := [], ops := [], reservations := [], links := [], queues := [], thm := []
           irq := ⟨[], [], [], []⟩, evf := [], evfHand := [], trace := ⟨[], []⟩
           rekeys := s.rekeys.map (fun (r : Rekey) => { r with iface := 255 }), retiring := s.retiring.map (fun (r : Retiring) => { r with byHost := false })
           ps := { s.ps with writing := none, waiter := none, buf := zeros 2048 }
           fw := { s.fw with act := none, halted := [], kicked := [] }
           rights := { s.rights with testOpen := false }, rootsAccepted := false
           sb := { s.sb with response := [], frag := 0, status := 0 }
           power := { s.power with flushing := false, flushed := false, committed := false, pstate := 0 } }
/-- A running retirement keeps its progress, and the leaves it has still to append (R256). -/
def State.loseWork (s : State) : State := each ((s.tileList.map s.retireWaits).flatten) s.loseAll (fun s p => s.appendAgain p.1 p.2)
/-- Interfaces reset: warrants fall, challenges are drawn anew; transfers are aborted (R104, R362, R365, R438). -/
def State.loseTransfers (s : State) : State :=
  let s := each (upto 8) (s.abortStage.abortFw) State.resetInterface
  { s with img := { s.img with checking := none } }
/-- A tile's links are down; a disabled channel stays so (R62, R76, R254). -/
def State.linksDown (s : State) : State :=
  each ((upto 1024).filter s.chanPresent) s (fun s c =>
    let off := s.rb (F.MSC_LNK_CTRL_disable (tileOfChan c) (localChan c)) || (upto 4).all (fun d => hasBit (s.chan c).retired d)
    if off then (s.wf (F.MSC_LNK_CTRL_disable (tileOfChan c) (localChan c)) 1).wf (F.MSC_LNK_STAT_lstate (tileOfChan c) (localChan c)) 9 else s)
/-- Events the FIFO held, not yet read (R416). -/
def State.fifoEvents (s : State) : Nat := (s.evf.filter (fun x => match x with | .event _ => true | .gap _ _ => false)).length
/-- Registers that show what is kept: flags of sheets of unknown age, unverifiable nodes, a brace, the log's use (R181, R340, R211). -/
def State.showKept (s : State) (braced : Bool) : State :=
  let s := s.wf F.CIF_ROOT_STAT_unverifiable (min 65535 ((s.tiles.map (fun x => x.badNodes.length)).sum))
  let s := each s.tileList s (fun s t => (s.wf (F.MSC_RD_STAT_age_unknown t) (b2n ((s.tile t).stems.any (fun p => p.2.ageUnknown)))).undRefresh t)
  if braced then s.brace true else s
/-- The states of the tiles after steps 1 to 5 of R33: failed, or In service, where a rebuild list that is not empty is rebuilt from then on (R34, R37). -/
def State.returnTiles (s : State) (old : List Nat) (failed : List Nat) : State :=
  each s.tileList s (fun s t =>
    let was := old.getD t 0
    let left := (s.rebuildOf t).length
    let now := if failed.contains t then 6 else 0
    let s := (s.wf (F.WDN_TILE_STAT_state t) was).modTile t (fun x => { x with rebuildTotal := left })
    let s := if was = now then s else s.setTileState t now
    let s := s.wf (F.WDN_TILE_STAT_degraded_stripes t) (b2n (decide (0 < left)))
    if now = 0 && !(s.tile t).held then s.trainTile t else s)
/-- The states of the tiles. -/
def State.tileStates (s : State) : List Nat := (upto 8).map (fun t => if t < s.tileCount then s.rf (F.WDN_TILE_STAT_state t) else 5)
/-- The flush and the sealing before a reset that starts while VIN is valid (R219, R485), with every running work ended (R118, R155, R300). -/
def State.resetFlush (s : State) : State := ((s.drainCatches.endWork.flushTiles).sealTiles []).commitSeal

/-! ## Firmware at a reset (R441, R442) -/

/-- Every processor runs a slot. -/
def State.bootSlot (s : State) (slot : Nat) : State := { s with fw := { s.fw with running := List.replicate (s.tileCount + 1) slot } }
/-- The cold reset boots the marked or active slot where it passes its checks, else the other, else from ROM alone (R439, R441). -/
def State.coldBoot (s : State) (slot : Nat) (trial : Bool) : State :=
  let pass (i : Nat) : Bool := match s.fwSlot i with | some b => s.fwCheck b == 0 | none => false
  let want := s.fw.marked.getD slot
  let got := if pass want then want else 1 - want
  let s := each (if got = want then [want] else [want, got]) s (fun s i => s.fwCounted ((s.fwSlot i).getD []))
  let s := s.wf F.WDN_FW_STAT_active_slot (if pass got then got else want)
  let s := s.wf F.WDN_FW_STAT_trial (b2n (trial && decide (got = slot) && pass got))
  let marked := s.fw.marked.isSome
  let s : State := { s with fw := { s.fw with marked := none } }
  if pass got then
    let s := s.bootSlot got
    if marked || got != slot then s.firmwareEvent got else s
  else s.wf F.WDN_FW_STAT_rom_only 1
/-- The warm reset boots the previous slot after a fault in a trial (R442). -/
def State.warmBoot (s : State) : State :=
  if s.fw.fault && s.rb F.WDN_FW_STAT_trial then
    let old := 1 - s.rf F.WDN_FW_STAT_active_slot
    (({ (s.bootSlot old) with fw := { (s.bootSlot old).fw with fault := false } } : State).wf F.WDN_FW_STAT_active_slot old).wf F.WDN_FW_STAT_trial 0 |>.firmwareEvent old
  else { s with fw := { (s.bootSlot (s.rf F.WDN_FW_STAT_active_slot)).fw with fault := false } }

/-! ## The Glade domain lost (R404, R452, R181) -/

/-- The lease bounds of the Glade counters are persisted (R403, R451). -/
def State.putBounds (s : State) (elapsed opsec : Nat) : State := s.devicePut 0x0001 (some (le 4 elapsed ++ le 4 opsec ++ le 4 s.glade.pwrcyc))
/-- The counter leases kept. -/
def State.boundsKept (s : State) : Nat × Nat := match s.psGet 0x0001 with | some b => (getLe b 0 4, getLe b 4 4) | none => (0, 0)
/-- The persisted bound of a counter: the end of its lease of 4,096 s, renewed before the counter passes it (R403). -/
def nextBound (old now : Nat) : Nat := if now < old then old else (now / 4096 + 1) * 4096
/-- The counters resume, and every sheet that exists is of unknown age (R181, R404, R451, R508). -/
def State.restoreGlade (s : State) : State :=
  let s : State := { s with glade := { s.glade with fallback := s.ps.shadow } }
  let s := if s.ps.shadow.isSome then s.wf F.WDN_PS_STAT_fallback 1 else s
  let b := (s.psGet 0x0001).getD []
  let d := (s.psGet 0x0002).getD []
  let high (off w : Nat) : Nat := max (getLe b off 4) (getLe d w 4)
  let elapsed := high 0 8
  let opsec := high 4 0
  let cycle := (high 8 4 + 1) % 2 ^ 32
  let s : State := { s with glade := { s.glade with elapsed := elapsed, opsec := opsec, pwrcyc := cycle }
                            tiles := s.tiles.map (fun x => { x with swept := [], stems := x.stems.map (fun (p : Nat × StemEnt) => (p.1, { p.2 with ageUnknown := p.2.valid })) }) }
  let s := match s.psGet 0x0005 with | some h => s.loadHist h | none => s
  let s := (s.wf F.GLD_TIME_STAT_backup_lost 1).raise 0x0004 (le 4 elapsed ++ le 4 opsec ++ le 4 (cycle - 1))
  (s.resetEvent 0 14 0).noteReset 0 14 0
/-- The medium is formatted (R372): every Mapped and Lent place becomes Free, every key slot that was created becomes Destroyed; place table, wear, deadwood, generations, spare base and heartwood stay. -/
def State.format (s : State) : State :=
  { s with reformat := false
           tiles := s.tiles.map (fun x => { Tile.fresh with held := x.held, scrubAt := 0, flushSeq := x.flushSeq })
           places := s.places.map (fun (p : Place × PlaceRec) => (p.1, { p.2 with state := if p.2.state == .mapped || p.2.state == .lent then .free else p.2.state }))
           slots := s.slots.map (fun (p : Nat × Slot) => (p.1, { p.2 with state := if p.2.state = 0 then 0 else 2, key := 0 }))
           roots := [], rerooted := [], sealBay := [], sealBook := [], sealing := none, overlay := [], rekeys := [], retiring := none, retireQueue := []
           errs := [], poison := [], poisonOver := none, lds := [], compBorn := []
           glade := { s.glade with committed := none, pendingDigest := none } }

/-! ## Clock domains (R19, R481 to R484) -/

/-- Where a domain stands in the order of R482. -/
def releaseRank (d : Nat) : Nat := if d = 1 then 0 else if d = 2 then 1 else if d ≤ 6 then 2 else if 10 ≤ d then d else 30
/-- A domain may leave reset: the trim load is over, MRST# is high, and no domain before it is held (R482). -/
def State.mayRelease (s : State) (d : Nat) : Bool :=
  s.clocks.held.contains d && !s.clocks.trimming && !s.clocks.oscFailed && s.power.pins.mrst && s.clocks.held.all (fun e => decide (releaseRank d ≤ releaseRank e))
/-- Releases that wait at the gate (R483). -/
def State.showPending (s : State) : State := s.wf F.RST_STAT_clkpend (((s.clocks.held.filter s.mayRelease).map (2 ^ ·)).sum)
/-- A clock domain leaves reset. -/
def State.releaseDomain (s : State) (d : Nat) : State :=
  let s : State := { s with clocks := { s.clocks with held := s.clocks.held.filter (· != d) } }
  let s := if d = 2 then
      ({ s with fine := 0, opNotes := [(0, s.glade.opsec)] } : State).raise 0x0005 (le 4 s.glade.opsec ++ le 1 (s.rf F.RST_STAT_last_cause))
    else if 10 ≤ d then
      let s := ({ s with power := { s.power with released := true } } : State).modTile (d - 10) (fun x => { x with held := s.tileState (d - 10) == 6 })
      if s.tileState (d - 10) = 6 then s else s.trainTile (d - 10)
    else s
  s.showPending
/-- CLOCK_GATE_RELEASE (R482, R483): the domain's monitor has seen lock and 64 stable cycles. -/
def execClockGateRelease (domain : Nat) (s : State) : Host.Outcome State Fault Refusal := .next (if s.mayRelease domain then s.releaseDomain domain else s)
/-- The trim load of a cold reset begins, or begins again; after three interrupted loads it is skipped once, for trim-safe defaults (R484). -/
def State.trimStart (s : State) : State :=
  let s := if s.clocks.trimming then s.wf F.RST_STAT_interrupted_loads (min 3 (s.rf F.RST_STAT_interrupted_loads + 1)) else s
  if s.rf F.RST_STAT_interrupted_loads = 3 ∧ !s.rb F.RST_STAT_trim_safe then
    (({ s with clocks := { s.clocks with trimming := false } } : State).wf F.RST_STAT_trim_safe 1).raise 0x0104 (le 1 3)
  else { s with clocks := { s.clocks with trimming := true } }
/-- TRIM_LOAD_DONE (R484). -/
def execTrimLoadDone (s : State) : Host.Outcome State Fault Refusal :=
  .next (if s.clocks.trimming then
      ((({ s with clocks := { s.clocks with trimming := false } } : State).wf F.RST_STAT_interrupted_loads 0).wf F.RST_STAT_trim_safe 0).showPending
    else s)

/-! ## The cold reset (R479, R482, R484 to R486, R493) -/

/-- Registers take their cold column; what the seedbank, the fuses and the pins say is shown again: the nurse of each tile (R24), the HPBIF pins (R125). -/
def State.coldRegs (s : State) : State :=
  let s := s.resetRegs coldColumn (fun _ => true)
  let s := s.loadRoles none
  let s := each s.tileList s (fun s t => each (upto 11) s (fun s m => s.wf (F.QOS_GRANT_effective t m) 0))
  let s := each (upto s.portCount) s (fun s p => s.wf (F.HPT_LINK_bif p) (b2n (s.power.pins.hpbif.getD p false)))
  s.linksDown
/-- What a cold reset takes from the state. -/
def State.coldLoss (s : State) : State :=
  let s := s.thawLog s.log.freezer false
  let s := s.loseTransfers.loseWork
  { s with active := none, usb4 := false, packageFault := false, sb := ⟨256, 256, false, [], 0, 0, 0⟩
           vault := s.vault.regenerate s.fuses.uds s.fuses.idSeed s.storageGen
           lds := s.lds.map (fun (p : (Nat × Nat) × Ld) => (p.1, { Ld.fresh with lsa := p.2.lsa, dirty := p.2.dirty }))
           clocks := { Clocks.atReset with held := s.resetDomains, trimming := s.clocks.trimming }
           tiles := s.tiles.map (fun x => { x with held := true }) }
/-- The registers after the loss. -/
def State.coldShow (s : State) : State :=
  let old := s.tileStates
  let events := s.fifoEvents
  let braced := s.rb F.SEQ_VIN_braced
  let slot := s.rf F.WDN_FW_STAT_active_slot
  let trial := s.rb F.WDN_FW_STAT_trial
  let s := s.finishActs.coldLoss.coldRegs
  let s := (s.wf F.WDN_EVF_STAT_drops (min 65535 events)).coldBoot slot trial
  let s := if s.reformat then s.format else s
  let s := if s.glade.lost then s.restoreGlade else s.wf F.GLD_TIME_STAT_backup_lost 0
  (s.returnTiles old []).showKept braced
/-- A cold reset with a cause. That of a power-up finds the flush made at the power-off; any other flushes, and takes a new power-cycle count while VIN is valid (R402, R408). -/
def State.coldReset (s : State) (cause detail : Nat) : State :=
  let s : State := { s with resets := [], fine := if cause = 1 then 0 else s.fine }
  let s := if cause = 1 then ({ s with power := { s.power with committed := false } } : State).drainGlade else s
  let s := (s.resetEvent 2 cause detail).noteReset 2 cause detail
  let s := if cause = 1 then s
    else
      let s := s.resetFlush
      if s.power.vinValid then { s with glade := { s.glade with pwrcyc := (s.glade.pwrcyc + 1) % 2 ^ 32 }, seqNo := [], fine := 0, opNotes := [] } else { s with fine := 0, opNotes := [] }
  let s := s.coldShow
  let s := s.putBounds (nextBound s.boundsKept.1 s.glade.elapsed) (nextBound s.boundsKept.2 s.glade.opsec)
  (s.trimStart.showPending).drainGlade
/-- COLD_RESET (R482): a requested cold reset begins. -/
def execColdReset (s : State) : Host.Outcome State Fault Refusal :=
  .next (match s.resets.find? (fun r => r.scope == 2) with
    | some r => if s.phase ≠ 2 ∨ s.power.flushing ∨ s.clocks.oscFailed then s else s.coldReset r.cause r.detail
    | none => s)

/-! ## The warm reset (R31, R37, R479, R485, R493) -/

/-- Fields whose warm reset value is Image take the active image's: nurse, auto_restore and the channels' disable bits (R35, R76). -/
def State.reloadImage (s : State) : State :=
  each ((upto 1024).filter s.chanPresent) (each s.tileList (s.loadRoles s.active) State.loadShares) (fun s c =>
    s.wf (F.MSC_LNK_CTRL_disable (tileOfChan c) (localChan c)) (b2n (s.imageDisables c)))
/-- Registers and state after the loss: the tiles run steps 1 to 5 of R33. -/
def State.warmShow (s : State) (failed : List Nat) : State :=
  let old := s.tileStates
  let events := s.fifoEvents
  let braced := s.rb F.SEQ_VIN_braced
  let rerooting := s.rb F.CIF_REROOT_STAT_busy
  let s := s.thawLog s.log.freezer false
  let s := s.loseTransfers.loseWork
  let s : State := { s with packageFault := decide (2 ≤ failed.length)
                            lds := s.lds.map (fun (p : (Nat × Nat) × Ld) => (p.1, { p.2.unconfigured with bg := none, scan := [], unmappedAt := none, unmappedMore := 0 }))
                            clocks := { s.clocks with taprootsAccepted := false, dirtyCounted := false, portsStopped := false }
                            tiles := s.tiles.mapIdx (fun i x => { x with held := failed.contains i }) }
  let s := ((s.resetRegs warmColumn (fun _ => true)).reloadImage).linksDown
  let s := (s.incSat F.WDN_EVF_STAT_drops events).warmBoot
  let s := (s.returnTiles old failed).showKept braced
  let s := if rerooting then s.wf F.CIF_REROOT_STAT_outcome 3 else s
  if 2 ≤ failed.length then s.raise 0x0901 (le 1 (failed.map (2 ^ ·)).sum) else s
/-- WARM_RESET (R479): a requested warm reset begins; it is dropped while a cold reset is in progress (R480). -/
def execWarmReset (failed : List Nat) (s : State) : Host.Outcome State Fault Refusal :=
  .next (match s.resets.find? (fun r => r.scope == 3) with
    | some r =>
      if s.phase ≠ 2 ∨ s.power.flushing ∨ s.clocks.oscFailed then s
      else if s.clocks.held.contains 1 then { s with resets := s.resets.filter (fun q => decide (q.scope < 3)) }
      else
        let s : State := { s with resets := [] }
        let s := (s.resetEvent 3 r.cause r.detail).noteReset 3 r.cause r.detail
        (s.resetFlush.warmShow ((failed.filter (fun t => decide (t < s.tileCount))).eraseDups)).drainGlade
    | none => s)

/-! ## The litter at resume (R217, R218, R140) -/

/-- The halves a tile replays, in order: the newest flush, after the other half where the newest has no seal and that one is not released. -/
def Tile.replayHalves (x : Tile) : List LitterHalf :=
  let w := x.litter.filter (fun h => h.written && !h.released)
  match pickBy (fun a b => decide (b < a)) LitterHalf.seq w with
  | none => []
  | some n => if n.sealed_ then [n] else w.filter (fun h => h.seq != n.seq) ++ [n]
/-- The data lines of a half, host lines and then map lines, by the group of 7 each stands in; the groups given are skipped. -/
def LitterHalf.hostsKept (h : LitterHalf) (skip : List Nat) : List CatchEnt :=
  ((upto h.hosts.length).filter (fun i => !skip.contains (i / 7))).filterMap (fun i => h.hosts[i]?)
def LitterHalf.mapsKept (h : LitterHalf) (skip : List Nat) : List (MapKey × MapSnap) :=
  ((upto h.maps.length).filter (fun i => !skip.contains ((h.hosts.length + i) / 7))).filterMap (fun i => h.maps[i]?)
/-- The skipped groups of a half, 0 A or 1 B, among those given. -/
def LitterHalf.skips (h : LitterHalf) (bad : List (Nat × Nat)) : List Nat := (bad.filter (fun p => p.1 == (h.seq - 1) % 2)).map Prod.snd
/-- Map lines that only skipped groups held. -/
def mapsLost (halves : List LitterHalf) (bad : List (Nat × Nat)) : List MapKey :=
  let kept := (halves.map (fun h => (h.mapsKept (h.skips bad)).map Prod.fst)).flatten
  (((halves.map (fun h => h.maps.map Prod.fst)).flatten).eraseDups).filter (fun k => !kept.contains k)
/-- A data line of the litter enters the catch of the tile that serves its leaf; one that cannot be rebuilt enters poisoned, with a record. -/
def State.replayEntry (s : State) (t : Nat) (bad : List Nat) (e : CatchEnt) : State :=
  let u := s.server (s.homeOf e.line)
  if bad.contains e.line then
    (s.catchPut u e.line e.comp (poisonOf e.media) true e.master).report (Report.ofLine 6 11 t e.line (some e.comp) true false)
  else s.catchPut u e.line e.comp e.media true e.master
/-- A half is replayed, map lines first. -/
def State.replayHalf (s : State) (t : Nat) (h : LitterHalf) (skip bad : List Nat) : State :=
  let s := each (h.mapsKept skip) s (fun s p => (s.takeSnap t p.1 p.2).modTile t (fun x => x.dirtyMap p.1))
  each (h.hostsKept skip) s (fun s e => s.replayEntry t bad e)
/-- A flush without a valid seal: the event, and one dirty shutdown of the resume (R140, R218). -/
def State.dirtyFlush (s : State) (t skipped : Nat) : State :=
  let s := s.raise 0x0102 (le 1 t ++ le 4 skipped)
  if s.clocks.dirtyCounted then s
  else { s with clocks := { s.clocks with dirtyCounted := true }, health := { s.health with dirtyShutdowns := s.health.dirtyShutdowns + 1 } }
/-- MSC_FLUSH_STAT (R223): the host lines replayed are those of groups that were not skipped. -/
def State.flushStat (s : State) (t : Nat) (n : Option LitterHalf) (skip : List Nat) : State :=
  match n with
  | none => s
  | some h =>
    let s := (s.wf (F.MSC_FLUSH_STAT_complete t) (b2n h.sealed_)).wf (F.MSC_FLUSH_STAT_half t) ((h.seq - 1) % 2)
    (s.wf (F.MSC_FLUSH_STAT_lines t) (min (F.MSC_FLUSH_STAT_lines t).max (h.hostsKept skip).length)).wf (F.MSC_FLUSH_STAT_time_8us t) h.time
/-- The resume is over for a tile: its litter has been replayed, its scrub position loaded (R296), and a retirement that waited for the tile begins (R255). -/
def State.replayDone (s : State) (t : Nat) : State :=
  let s := (s.modTile t (fun x => { x with replayed := true })).retireNext
  s.wf (F.MSC_SCR_STAT_permille t) (1000 * (s.tile t).scrubAt / max 1 (s.scrubTotal t))
/-- LITTER_REPLAY (R217): once the image is checked and the taproots are accepted. badGroups are the groups whose index line is invalid, each with its half (0 A, 1 B), badLines the lines that cannot be rebuilt. Map lines of skipped groups go back to their earlier copies (R218). -/
def execLitterReplay (tile : Nat) (badGroups : List (Nat × Nat)) (badLines : List Nat) (s : State) : Host.Outcome State Fault Refusal :=
  .next (
    if !s.wardenUp ∨ !s.clocks.imageChecked ∨ !s.clocks.taprootsAccepted ∨ s.tileCount ≤ tile ∨ (s.tile tile).replayed ∨ (s.tileInService tile && (s.tile tile).held) then s
    else
      let halves := if s.lifecycle = 3 then [] else (s.tile tile).replayHalves
      let newest := halves.getLast?
      let s := each (mapsLost halves badGroups) s (fun s k => s.mapBack tile k)
      let s := each halves s (fun s h => s.replayHalf tile h (h.skips badGroups) badLines)
      let s := match newest with | some h => (if h.sealed_ then s else s.dirtyFlush tile (h.skips badGroups).eraseDups.length) | none => s
      ((s.flushStat tile newest (match newest with | some h => h.skips badGroups | none => [])).undRefreshAll).replayDone tile)

/-! ## Reset requests (R477, R480, R495) -/

/-- A software or debug reset request by scope code and target of RST_CTRL: a power-off stays off until a press; a power-cycle powers up again after 200 ms (R495). -/
def State.softReset (s : State) (iface code target : Nat) : State :=
  let cause := if iface = 6 ∨ iface = 7 then 8 else 7
  match code with
  | 1 => s.requestReset ⟨3, cause, 0⟩
  | 2 => s.requestReset ⟨2, cause, 0⟩
  | 3 =>
    if target < s.tileCount ∧ s.tileState target = 0 ∧ s.tilesOut.isEmpty then
      let s := ((s.resetEvent 4 cause target).noteReset 4 cause target).wf (F.WDN_TILE_CTRL_restore target) 1
      (s.isolateWrite target).2
    else s
  | 4 => s.portReset target cause
  | 5 => s.powerOff cause 0 .press
  | 6 => s.powerOff cause 0 .again
  | _ => s
/-- RESET (R456): the scope codes of RST_CTRL that need no target (log 19). -/
def execReset (scope : Nat) (s : State) : Host.Outcome State Fault Refusal :=
  .next (s.sidebandUnder 0x07 .reset (fun s =>
    if scope = 1 ∨ scope = 2 ∨ scope = 5 ∨ scope = 6 then (0, [], s.softReset 5 scope 0) else (4, [], s)))
/-- A write of RST_CTRL with go = 1 (R495): scopes 0 and 7 do nothing, but the fields take the written values (R7). -/
def State.rstCtrl (s : State) (iface code target : Nat) : State :=
  s.regWrite iface F.RST_CTRL_go.addr .reset ((1 ≤ code && code ≤ 6) || s.rf F.RST_CTRL_scope != code || s.rf F.RST_CTRL_target != target) (fun s => ((s.wf F.RST_CTRL_scope code).wf F.RST_CTRL_target target).softReset iface code target)
/-- RST_WARM (R495). -/
def execRstWarm (iface : Nat) (s : State) : Host.Outcome State Fault Refusal := .next (s.rstCtrl iface 1 0)
/-- RST_COLD (R495). -/
def execRstCold (iface : Nat) (s : State) : Host.Outcome State Fault Refusal := .next (s.rstCtrl iface 2 0)
/-- RST_TILE (R495): isolation with cause 1, then the return at once. -/
def execRstTile (iface tile : Nat) (s : State) : Host.Outcome State Fault Refusal := .next (s.rstCtrl iface 3 (tile % 8))
/-- RST_HOST_PORT (R495). -/
def execRstHostPort (iface port : Nat) (s : State) : Host.Outcome State Fault Refusal := .next (s.rstCtrl iface 4 (port % 8))
/-- RST_POWER_OFF (R495). -/
def execRstPowerOff (iface : Nat) (s : State) : Host.Outcome State Fault Refusal := .next (s.rstCtrl iface 5 0)
/-- RST_POWER_CYCLE (R495). -/
def execRstPowerCycle (iface : Nat) (s : State) : Host.Outcome State Fault Refusal := .next (s.rstCtrl iface 6 0)
/-- RST_ASSERT (R477): RST# low for 1 µs requests a warm reset, held while the pin stays low. -/
def execRstAssert (s : State) : Host.Outcome State Fault Refusal :=
  .next (
    let s : State := { s with power := { s.power with pins := { s.power.pins with rst := false } } }
    if s.phase = 2 then s.requestReset ⟨3, 3, 0⟩ else s)
/-- MRST_ASSERT (R477, R504): MRST# low for 20 ms requests a cold reset, or starts a power-up of a device that is locked off. -/
def execMrstAssert (s : State) : Host.Outcome State Fault Refusal :=
  .next (
    let s : State := { s with power := { s.power with pins := { s.power.pins with mrst := false } } }
    if s.phase = 0 then (if s.power.after = .locked ∨ s.power.after = .thermalLocked then s.askPowerUp else s)
    else if s.phase = 2 then s.requestReset ⟨2, 4, 0⟩ else s)
/-- RESET_PIN_RELEASE (R477, R492): pin 0 RST#, 1 MRST#, 2 + p PERST[p]#. -/
def execResetPinRelease (pin : Nat) (s : State) : Host.Outcome State Fault Refusal :=
  .next (match pin with
    | 0 => { s with power := { s.power with pins := { s.power.pins with rst := true } } }
    | 1 => ({ s with power := { s.power with pins := { s.power.pins with mrst := true } } } : State).showPending
    | p + 2 => { s with power := { s.power with pins := { s.power.pins with perst := s.power.pins.perst.set p true } } })

/-! ## Clock failures (R481) -/

/-- CLOCK_FAIL and the interrupt of the clock monitor. -/
def State.clockNote (s : State) (d : Nat) : State := (s.raise 0x0105 (le 1 d)).irqEdge irqClock
/-- CLOCK_FAIL (R481): by domain; 0 stands for the reference oscillator, which the Glade domain checks. -/
def execClockFail (domain : Nat) (s : State) : Host.Outcome State Fault Refusal :=
  .next (if s.phase ≠ 2 ∨ s.clocks.held.contains domain then s
    else if domain = 0 then
      ({ (s.clockNote 0) with clocks := { (s.clockNote 0).clocks with oscFailed := true, restarts := 0, held := s.resetDomains } } : State)
    else if domain ≤ 2 then (s.clockNote domain).requestReset ⟨2, 9, domain⟩
    else if domain ≤ 6 then (if domain - 3 < s.portCount then (s.clockNote domain).portReset (domain - 3) 9 else s)
    else if domain = 7 then (((s.clockNote 7).resetInterface 4).resetInterface 7).abortFwOf 4 |>.abortStageOf 4
    else if domain = 8 then (s.clockNote 8).resetSideband
    else if 10 ≤ domain ∧ domain - 10 < s.tileCount then (s.clockNote domain).tileReset (domain - 10) 6 9
    else s)
/-- OSCILLATOR_RESTART_DONE (R481): a stable oscillator is followed by R485 and a cold reset; the third failure by every rail off and a power-up once VIN allows. -/
def execOscillatorRestartDone (stable : Bool) (s : State) : Host.Outcome State Fault Refusal :=
  .next (if !s.clocks.oscFailed then s
    else if stable then ({ s with clocks := { s.clocks with oscFailed := false, held := [] } } : State).requestReset ⟨2, 9, 0⟩
    else if s.clocks.restarts < 2 then { s with clocks := { s.clocks with restarts := s.clocks.restarts + 1 } }
    else
      let s := (s.resetEvent 1 9 0).noteReset 1 9 0
      (({ s with clocks := { s.clocks with oscFailed := false }, power := { s.power with after := .again } } : State).endWork).railsOff)

/-! ## The Glade domain (R402, R404, R539) -/

/-- The field's value is kept by the Glade domain. -/
def gladeColumn (f : FieldDesc) : RVal :=
  match f.cold with
  | .glade => .num 0
  | _ => .kept
/-- GLADE_RESET (R539): VGLADE below 1.50 V for 10 µs. The rails go off with it, since the Glade domain drives EN; what it held is lost, and R404 applies at the next resume. -/
def execGladeReset (s : State) : Host.Outcome State Fault Refusal :=
  .next (
    let s := s.endWork.railsOff
    let s : State := { s with glade := { Glade.atReset with pwrcyc := 0, lost := true }, hist := [], seqNo := []
                              power := { s.power with rails := s.power.rails.set 0 Rail.down, program := romProgram s.tileCount, after := .valid, minOff := true, vinValid := false } }
    (s.resetRegs gladeColumn (fun _ => true)).wf F.SEQ_STAT_phase 0)
/-- VGLADE_FIRST_PRESENT (R478): the Glade domain starts and drives EN[0]; the power-up follows once VIN is valid, and with it the power-on cold reset. -/
def execVgladeFirstPresent (s : State) : Host.Outcome State Fault Refusal :=
  .next (if s.phase ≠ 0 then s
    else
      let s := (s.setRail 0 (fun _ => Rail.up)).send (.pin (.en 0) true)
      s.tryPowerUp)

end Sys2Proof.Machine
end

