-- ==== Sys2Proof/Machine/Sleep.lean ====
section
/-! DEFINITION. Tile and package sleep (01, R20; 15, R489 to R491). -/
namespace Sys2Proof.Machine

/-- The re-key engine has work on a tile: a boundary has not reached its range's end (R346). -/
def State.rekeyWork (s : State) (t : Nat) : Bool := s.rekeys.any (fun r => decide (tgetD (s.tile t).bounds r.slot 0 < s.rekeyLines r t))
/-- No command waits or is outstanding on the tile's channels, and no program runs there. -/
def State.chansIdle (s : State) (t : Nat) : Bool :=
  s.chans.all (fun p => tileOfChan p.1 != t || (p.2.waiting.isEmpty && p.2.sent.isEmpty && p.2.running.isEmpty && p.2.suspended.isEmpty))
/-- The tile's helpers have no work. -/
def Tile.helpersIdle (x : Tile) : Bool :=
  x.fetches.isEmpty && x.unwraps.isEmpty && x.logStripes.all (fun l => !l.sent) && x.copies.isEmpty && x.range.isNone && x.checker.op == .none && x.urgent.isEmpty && x.destages.isEmpty
/-- A tile is idle (15, Sleep): no request for it is in flight, no program runs on its channels, none of its helpers has work. -/
def State.tileIdle (s : State) (t : Nat) : Bool :=
  s.tileInService t && !(s.tile t).held && s.reqs.all (fun q => s.serverOf q != t) && s.ops.all (fun o => o.tile != t && o.home != t) &&
  s.chansIdle t && (s.tile t).helpersIdle && !s.rekeyWork t && !s.rb (F.MSC_RD_STAT_yielding t)
/-- The deepest state a tile may enter (R489): its floor, T1 for the awake attribute and during an apply, T2 with a locked line. -/
def State.sleepFloor (s : State) (t : Nat) : Nat :=
  let floor := match s.active with | some i => (i.roles.getD t default).floor | none => 3
  let awake := s.servedComps.any (fun c => hasBit c.attrs 2 && (s.patternOf c).tiles.contains t)
  let locked := (s.tile t).cache.any (fun l => l.locked)
  min floor (if awake || s.applyRunning then 1 else if locked then 2 else 3)
/-- The tile may go from one depth to the next. -/
def State.maySleep (s : State) (t depth : Nat) : Bool :=
  decide (t < s.tileCount) && s.phase == 2 && s.tileIdle t && (s.tile t).depth + 1 == depth && (s.tile t).entering.isNone && !(s.tile t).waking && decide (depth ≤ s.sleepFloor t)
/-- TILE_IDLE_T1 (R489): after 100 ns the clock is gated. -/
def execTileIdleT1 (tile : Nat) (s : State) : Host.Outcome State Fault Refusal :=
  .next (if s.maySleep tile 1 then (s.modTile tile (fun x => { x with depth := 1 })).countTile tile 143 else s)
/-- TILE_IDLE_T2 (R489): after t2_us the entry into T2 starts. -/
def execTileIdleT2 (tile : Nat) (s : State) : Host.Outcome State Fault Refusal :=
  .next (if s.maySleep tile 2 then s.modTile tile (fun x => { x with entering := some 2 }) else s)
/-- What a tile drops before it enters T3: its cache and its leaf map, key and counter caches; dirty counter lines stay. -/
def Tile.dropCaches (x : Tile) : Tile :=
  { x with cache := [], victims := x.victims.filter (fun l => l.left), prefetched := [], lmc := [], keys := [], nodes := x.nodes.filter Node.dirty }
/-- TILE_IDLE_T3 (R489): after t3_ms the entry into T3 starts. -/
def execTileIdleT3 (tile : Nat) (s : State) : Host.Outcome State Fault Refusal :=
  .next (if s.maySleep tile 3 then s.modTile tile (fun x => { x.dropCaches with entering := some 3 }) else s)
/-- The tile's links send EIOS and enter Idle, or leave it again (R62). -/
def State.idleLinks (s : State) (t : Nat) : State :=
  each ((upto s.cpt).map (globalChan t)) s (fun s c => if s.lstate c = 6 then (s.send (.eios c)).setLink c 8 else s)
/-- The Recovery by which a link leaves Idle is none that an error starts: it counts neither in MSC_LNK_STATc.recoveries nor among R72's (log 148). -/
def State.resumeLinks (s : State) (t : Nat) : State :=
  each ((upto s.cpt).map (globalChan t)) s (fun s c => if s.lstate c = 8 then s.setLink c 7 else s)
/-- TILE_SLEEP_ENTRY_DONE (R62, R489): the tile is in T2 or T3; the deeper entry finds its links Idle already. -/
def execTileSleepEntryDone (tile : Nat) (s : State) : Host.Outcome State Fault Refusal :=
  .next (match (s.tile tile).entering with
    | some d => if s.tileCount ≤ tile then s else ((s.modTile tile (fun x => { x with depth := d, entering := none })).countTile tile (142 + d)).idleLinks tile
    | none => s)
/-- TILE_WAKE (R490): an entry under way ends where it stands. -/
def execTileWake (tile : Nat) (s : State) : Host.Outcome State Fault Refusal := .next (if s.tileCount ≤ tile then s else s.wakeTile tile)
/-- TILE_WAKE_DONE (R20, R62, R406): T0; the links leave Idle through Recovery, the fine time is loaded from the hub, held requests go on. -/
def execTileWakeDone (tile : Nat) (s : State) : Host.Outcome State Fault Refusal :=
  .next (if s.tileCount ≤ tile ∨ !(s.tile tile).waking then s
    else
      let deep := decide (2 ≤ (s.tile tile).depth)
      let s := s.modTile tile (fun x => { x with depth := 0, waking := false, entering := none, fineOff := if 2 ≤ x.depth then 0 else x.fineOff })
      (if deep then s.resumeLinks tile else s).releaseHeld tile)

/-! ## The package (R491) -/

def State.setPstate (s : State) (n : Nat) : State := { s with power := { s.power with pstate := n } }
/-- P1_ENTER (R491). -/
def execP1Enter (s : State) : Host.Outcome State Fault Refusal :=
  .next (if s.phase = 2 ∧ s.power.pstate = 0 ∧ s.rb F.SEQ_SLEEP_p1_en ∧ s.reqs.isEmpty then (s.setPstate 1).countHub 48 else s)
/-- Work that keeps the package out of P2. -/
def State.parkWork (s : State) : Bool :=
  s.applyRunning || !s.rekeys.isEmpty || s.retiring.isSome || s.rb F.CIF_REROOT_STAT_busy || s.queues.any (fun q => !q.2.descs.isEmpty)
/-- P2_ENTER (R491): every host link in L1, no USB4 connection, no such work, every tile in T3. -/
def execP2Enter (s : State) : Host.Outcome State Fault Refusal :=
  .next (if s.phase = 2 ∧ s.power.pstate ≤ 1 ∧ s.rb F.SEQ_SLEEP_p2_en ∧ s.links.all (fun l => !l.2.up || l.2.l1) ∧ !s.usb4 ∧ !s.parkWork ∧
      s.tileList.all (fun t => (s.tile t).depth == 3 || !s.tileInService t) then (s.setPstate 2).countHub 49 else s)
/-- P2_EXIT (R491): to P0. -/
def execP2Exit (s : State) : Host.Outcome State Fault Refusal := .next (if s.power.pstate = 2 then s.setPstate 0 else s)

end Sys2Proof.Machine
end

