-- ==== Sys2Proof/Machine/Thermal.lean ====
section
/-! DEFINITION. Thermal supervision (16, R496 to R510). -/
namespace Sys2Proof.Machine

/-! ## Sensors, samples and thresholds (R496 to R498) -/

/-- Sensor 9 + z is the input of media zone z; the others sit on dies. -/
def isZone (k : Nat) : Bool := decide (9 ≤ k)
/-- Thresholds of a class in 0.1 °C: warning, its clear, throttle, its clear, shutdown, restart. -/
structure Limits where
  warn : Int
  warnClear : Int
  thr : Int
  thrClear : Int
  shut : Int
  restart : Int
def limitsOf (k : Nat) : Limits := if isZone k then ⟨800, 770, 850, 820, 950, 750⟩ else ⟨950, 900, 1050, 1000, 1150, 950⟩
/-- Three samples, all at or above a value; all at or below it. -/
def allAbove (l : List Int) (v : Int) : Bool := l.length == 3 && l.all (fun t => decide (v ≤ t))
def allBelow (l : List Int) (v : Int) : Bool := l.length == 3 && l.all (fun t => decide (t ≤ v))
/-- The sensor is sampled in the present state (R496, R497): a tile's die while its VTILE is on, a remote input in use under an active image; in P3 the hub die and the remote inputs alone. -/
def State.sampled (s : State) (k : Nat) : Bool :=
  if k = 0 then true
  else if k ≤ 8 then decide (s.phase ≠ 0 ∧ k ≤ s.tileCount) && s.power.railOn (k + 1)
  else decide (k ≤ 40) && s.zoneType (k - 9) != 0xFF
/-- The newest samples of a sensor. -/
def State.samples (s : State) (k : Nat) : List Int := tgetD s.thm k []
def State.lastSample (s : State) (k : Nat) : Option Int := (s.samples k).head?
def State.pushSample (s : State) (k : Nat) (t : Int) : State := { s with thm := tput s.thm k ((t :: s.samples k).take 3) }
/-- The temperature history takes a sample (R508). -/
def State.histSample (s : State) (k : Nat) (t : Int) : State :=
  let new : TempHist := match tget s.hist k with
    | none => ⟨t, t, s.glade.opsec, s.glade.pwrcyc⟩
    | some h => if h.peak < t then ⟨t, min h.low t, s.glade.opsec, s.glade.pwrcyc⟩ else { h with low := min h.low t }
  { s with hist := tput s.hist k new }
/-- A 12-bit two's complement field as a number. -/
def of12 (n : Nat) : Int := if n < 2048 then n else (n : Int) - 4096
/-- The registers show a sample: the last one, and a die's peak since the cold reset (R509). -/
def State.showSample (s : State) (k : Nat) (t : Int) : State :=
  if isZone k then s.wf (F.THM_ZONE_temp (k - 9)) (signed 12 t)
  else
    let first := (s.samples k).length ≤ 1 && s.rf (F.THM_DIE_peak k) == 0
    let s := s.wf (F.THM_DIE_temp k) (signed 12 t)
    if first || decide (of12 (s.rf (F.THM_DIE_peak k)) < t) then s.wf (F.THM_DIE_peak k) (signed 12 t) else s

/-! ## Levels (R498, R499) -/

/-- The level a sensor takes from its last three samples. -/
def nextLevel (x : Limits) (old : Nat) (l : List Int) : Nat :=
  if allAbove l x.thr then 2
  else if old = 2 then (if allBelow l x.warnClear then 0 else if allBelow l x.thrClear then 1 else 2)
  else if allAbove l x.warn then 1
  else if old = 1 ∧ allBelow l x.warnClear then 0 else old
def State.levelOf (s : State) (k : Nat) : Nat := if isZone k then s.rf (F.THM_ZONE_level (k - 9)) else s.rf (F.THM_DIE_level k)
/-- A bit of a field set or cleared. -/
def putBit (w i : Nat) (on : Bool) : Nat := if hasBit w i then (if on then w else w - 2 ^ i) else if on then w + 2 ^ i else w
/-- The registers show a level (R509, R510). -/
def State.showLevel (s : State) (k level : Nat) : State :=
  let set (s : State) (f : Fld) (i : Nat) (on : Bool) : State := s.wf f (putBit (s.rf f) i on)
  if isZone k then
    let z := k - 9
    let s := s.wf (F.THM_ZONE_level z) level
    set (set s F.THM_ZWARN_zones z (decide (1 ≤ level))) F.THM_ZTHR_zones z (level == 2)
  else
    let s := s.wf (F.THM_DIE_level k) level
    set (set s F.THM_STAT_die_warn k (decide (1 ≤ level))) F.THM_STAT_die_throttle k (level == 2)
/-- One entry into or exit from warning or throttle: THERMAL and the interrupt source (R499). -/
def State.levelStep (s : State) (k old new : Nat) (t : Int) : State :=
  let s := (s.showLevel k new).emit 0x02 0x0200 (le 1 k ++ le 1 (b2n (isZone k)) ++ le 1 new ++ leTemp t)
  s.irqEdge (if max old new = 2 then irqThermalThrottle else irqThermalWarn)
/-- A level is taken, through the levels between. -/
def State.setLevel (s : State) (k new : Nat) (t : Int) : State :=
  let old := s.levelOf k
  if old < new then each ((upto 3).filter (fun n => decide (old < n ∧ n ≤ new))) s (fun s n => s.levelStep k (n - 1) n t)
  else each (((upto 3).filter (fun n => decide (new ≤ n ∧ n < old))).reverse) s (fun s n => s.levelStep k (n + 1) n t)

/-! ## Bands (R505, R507) -/

/-- The lower bound of a band in 0.1 °C. -/
def bandBound (b : Nat) : Int := if b = 1 then 250 else if b = 2 then 450 else if b = 3 then 650 else 850
/-- The band a zone takes from its last three samples: up at a bound, down when they are 2 °C below it. -/
def nextBand (old : Nat) (l : List Int) : Nat :=
  let up := ((upto 5).filter (fun b => b != 0 && allAbove l (bandBound b))).getLastD 0
  if old < up then up
  else ((upto 5).find? (fun b => decide (b ≤ old) && ((upto 5).all (fun k => decide (k ≤ b ∨ old < k) || allBelow l (bandBound k - 21))))).getD old
/-- The zone's band is recorded at a Glade second (R180). -/
def State.noteBand (s : State) (z : Nat) : State :=
  { s with glade := { s.glade with bands := tput s.glade.bands (z, s.rf (F.THM_ZONE_band z)) s.glade.elapsed } }

/-! ## Shutdown (R501 to R504) -/

/-- The seconds of the thermal shutdowns of the last hour, with one more. -/
def State.countShutdown (s : State) : State :=
  let l := s.glade.shutdowns.filter (fun x => decide (s.glade.elapsed < x + 3600)) ++ [s.glade.elapsed]
  ({ s with glade := { s.glade with shutdowns := l } } : State).wf F.THM_STAT_recent (min 3 l.length)
/-- A brace ends in the shutdown's flush (R502). -/
def State.endBrace (s : State) : State :=
  if s.rb F.SEQ_VIN_braced then (s.brace false).braceEvent 1 s.power.braceLow ((s.fine - s.power.braceFine) / 1000) else s
/-- A sensor enters shutdown: it is recorded and raised; the flush and the shutdown section follow, unless one runs already. -/
def State.thermalShutdown (s : State) (k : Nat) (peak : Int) : State :=
  let s := ((s.wf F.THM_STAT_last_sensor k).emit 0x02 0x0201 (le 1 k ++ leTemp peak)).irqEdge irqThermalShutdown
  if !s.powered then s
  else
    let s := s.countShutdown.endBrace
    if 3 ≤ s.glade.shutdowns.length then ((s.wf F.SEQ_FAULT_kind 7).powerOff 11 0 .thermalLocked) else s.powerOff 11 0 .thermal
/-- The check of the tile dies in a power-up that follows a thermal shutdown (R503): the shutdown section at once, with no flush. -/
def State.coldCheck (s : State) (k : Nat) (t : Int) : State :=
  if s.phase = 1 ∧ s.rb F.THM_STAT_last_thermal ∧ 1 ≤ k ∧ k ≤ 8 ∧ 950 < t then
    ({ s with power := { s.power with after := .thermal }, resets := [] } : State).startShutdown
  else s

/-! ## THERMAL_SAMPLE -/

/-- A remote input out of range (R497): throttle, band B4, no shutdown. -/
def State.sensorFault (s : State) (k : Nat) (t : Int) : State :=
  let z := k - 9
  let s : State := { s with thm := tdel s.thm k }
  let s := ((s.wf (F.THM_ZONE_fault z) 1).wf (F.THM_ZONE_temp z) 0).wf (F.THM_ZONE_band z) 4
  if s.phase = 0 then s.noteBand z else s.setLevel k 2 t
/-- A good sample: history, registers, band and level, and shutdown as three samples reach it. -/
def State.goodSample (s : State) (k : Nat) (t : Int) : State :=
  let before := s.samples k
  let s := (s.pushSample k t).histSample k t
  let l := s.samples k
  let s := if isZone k then (s.wf (F.THM_ZONE_fault (k - 9)) 0).wf (F.THM_ZONE_band (k - 9)) (nextBand (s.rf (F.THM_ZONE_band (k - 9))) l) else s
  if s.phase = 0 then (if isZone k then s.noteBand (k - 9) else s)
  else
    let x := limitsOf k
    let s := (s.showSample k t).setLevel k (nextLevel x (s.levelOf k) l) t
    let s := if allAbove l x.shut && !allAbove before x.shut then s.thermalShutdown k (max t (l.foldl max t)) else s
    s.coldCheck k t
/-- THERMAL_SAMPLE (R496 to R499, R501, R505): a sample in 0.1 °C. -/
def execThermalSample (sensor : Nat) (temp : Int) (s : State) : Host.Outcome State Fault Refusal :=
  .next (if !s.sampled sensor then s
    else if isZone sensor && decide (temp < -400 ∨ 1500 < temp) then s.sensorFault sensor temp
    else s.goodSample sensor temp)
/-- The sensors R503 waits for read at or below their restart values. -/
def State.coolEnough (s : State) : Bool :=
  (0 :: ((upto 32).filter (fun z => s.zoneType z != 0xFF)).map (· + 9)).all (fun k => match s.lastSample k with
    | some t => decide (t ≤ (limitsOf k).restart)
    | none => false)
/-- THERMAL_RESTART (R503): 10 s after the last rail went off. -/
def execThermalRestart (s : State) : Host.Outcome State Fault Refusal :=
  .next (if s.phase = 0 ∧ s.power.after = .thermal ∧ s.power.minOff ∧ s.power.vinValid ∧ s.coolEnough then s.startPowerUp else s)
/-- THERMAL_HISTORY_SAVE (R508): every 3,600 s, and not from the Commit crossing on (R450). -/
def execThermalHistorySave (s : State) : Host.Outcome State Fault Refusal :=
  .next (if s.phase ≠ 2 ∨ s.power.committed then s else s.saveHist)

end Sys2Proof.Machine
end

