-- ==== Sys2Proof/Machine/Time.lean ====
section
/-! DEFINITION. The Glade second, the resynchronisation of the tiles' fine time, and the warden's handling of the event FIFO (13, R402, R403, R406, R417; 16, R507, R508). -/
namespace Sys2Proof.Machine

/-- Leases of elapsed and operating seconds are renewed while the store can write. -/
def State.renewBounds (s : State) : State :=
  let b := s.boundsKept
  let e := nextBound b.1 s.glade.elapsed
  let o := nextBound b.2 s.glade.opsec
  if (e = b.1 ∧ o = b.2) ∨ s.phase ≠ 2 ∨ s.power.committed then s else s.putBounds e o
/-- The operating second rises while VIN is valid and the hub is out of cold reset; the warden notes the boundary (R402, R417). -/
def State.opSecond (s : State) : State :=
  if (s.phase = 2 ∨ s.phase = 3) ∧ s.power.vinValid ∧ !s.clocks.held.contains 2 then
    let n := (s.glade.opsec + 1) % 2 ^ 32
    { s with glade := { s.glade with opsec := n }, opNotes := (s.fine, n) :: s.opNotes }
  else s
/-- A zone's second: its band's time in the history, and, while the package is powered, the band record (R507, R508). -/
def State.zoneSecond (s : State) (z : Nat) : State :=
  let k := (z, s.rf (F.THM_ZONE_band z))
  let s : State := { s with glade := { s.glade with history := tput s.glade.history k (tgetD s.glade.history k 0 + 1) } }
  if s.phase = 0 then s else s.noteBand z
/-- GLADE_SECOND (R402, R403, R507). -/
def execGladeSecond (s : State) : Host.Outcome State Fault Refusal :=
  .next (if !(s.power.rail 0).on then s
    else
      let s : State := { s with glade := { s.glade with elapsed := (s.glade.elapsed + 1) % 2 ^ 32 } }
      (each ((upto 32).filter (fun z => s.zoneType z != 0xFF)) s.opSecond State.zoneSecond).renewBounds)
/-- FINE_TIME_RESYNC (R406): a copy that is behind steps forward, one that is ahead holds; of tiles in T0 or T1. -/
def execFineTimeResync (s : State) : Host.Outcome State Fault Refusal :=
  .next { s with tiles := s.tiles.map (fun x => if x.depth ≤ 1 then { x with fineOff := max x.fineOff 0 } else x) }
/-- An item of the FIFO as the warden handles it. -/
def State.handleItem (s : State) (x : FifoItem) : State :=
  match x with
  | .event e => s.record e
  | .gap _ n => s.raise 0x0001 (le 2 n)
/-- EVENT_FIFO_TAKE (R417): the oldest event read, or the oldest of the FIFO. -/
def execEventFifoTake (s : State) : Host.Outcome State Fault Refusal :=
  .next (match s.evfHand, s.evf with
    | x :: rest, _ => ({ s with evfHand := rest } : State).handleItem x
    | [], x :: rest => ({ s with evf := rest } : State).handleItem x
    | [], [] => s)

end Sys2Proof.Machine
end

