-- ==== Sys2Proof/Machine/Debug.lean ====
section
/-! DEFINITION. Debug line accesses and structure reads (11, R379; 14, R453). -/
namespace Sys2Proof.Machine

/-- The statuses of R453. -/
def okPlain : Nat := 0
def okMedia : Nat := 1
def dbgPoisoned : Nat := 2
def dbgUnmapped : Nat := 3
def dbgDenied : Nat := 4
def dbgOk : Nat := 5
/-- An answer: the status and the bytes. -/
def dbg (status : Nat) (b : Bytes) (s : State) : Answer := ⟨.success, le 1 status ++ b, s⟩
/-- Refused: DENIED, no bytes, and the rights-denied event (R358, R379). -/
def dbgRefuse (iface opcode : Nat) (r : Right) (s : State) : Answer := dbg dbgDenied [] (s.deny iface opcode r)
/-- A read under plaintext and media-read (R379, R282, R311). -/
def State.readPlain (s : State) (c : Comp) (r : LeafRef) (line : Nat) : Answer :=
  let a := s.engineRead c r line 4 true
  match a.1 with
  | .data d => dbg okPlain (le 64 d.toNat) a.2
  | _ => dbg dbgPoisoned (zeros 64) a.2
/-- A read under media-read alone, of a compartment with cipher 1: the media line after granule correction, without tag check, never from the cache. -/
def State.readMedia (s : State) (c : Comp) (r : LeafRef) (line : Nat) : Answer :=
  let t := s.server r.tile
  match s.present t r line c.format with
  | .zeros => dbg dbgUnmapped [] s
  | .media l _ _ => dbg okMedia (lineBytes l) s
  | .poisoned => dbg dbgPoisoned (zeros 64) s
  | .lost => dbg dbgPoisoned (zeros 64) (match s.whereIs r (line % 64) with
      | .spot x m _ => ({ s with health := { s.health with uncorrectable := s.health.uncorrectable + 1 } } : State).report (s.spotReport 3 4 x m (some line) (some c.id) none true false t)
      | _ => s)
/-- The line a debug access names, in the compartment that holds it now. -/
def State.debugLine (s : State) (dpa : Nat) : Option (Comp × LeafRef) :=
  match s.servedAt dpa, s.leafOfLine (dpa / 64) with
  | some c, some r => some (c, r)
  | _, _ => none
/-- LINE_READ (R379): it waits while a host access holds the line (R160). -/
def execLineRead (iface dpa : Nat) (upsets : List Upset) (s : State) : Host.Outcome State Fault Refusal :=
  .next (if s.lineHeld (dpa / 64) then s
    else s.command iface 0 0xD100 none (fun s =>
      match s.debugLine dpa with
      | none => dbgRefuse iface 0xD100 .mediaRead s
      | some (c, r) =>
        if !s.covers iface .mediaRead c.id then dbgRefuse iface 0xD100 .mediaRead s
        else if s.covers iface .plaintext c.id then (s.meetAt (dpa / 64) 4 c r upsets).readPlain c r (dpa / 64)
        else if c.cipher = 0 then dbgRefuse iface 0xD100 .plaintext s
        else (s.meetAt (dpa / 64) 4 c r upsets).readMedia c r (dpa / 64)))
/-- Every byte of the line is enabled. -/
def allEnabled (enables : Nat) : Bool := enables % 2 ^ 64 == 2 ^ 64 - 1
/-- A debug write under the compartment's key, its bytes merged where it is partial (R191, R192, R379). -/
def State.debugWrite (s : State) (iface : Nat) (c : Comp) (r : LeafRef) (line enables : Nat) (data : HostLine) : Answer :=
  let key := (s.lineKey c line).1
  let put (s : State) (d : HostLine) : Answer :=
    let w := s.engineWrite c r line key d 9
    if w.1 then dbg dbgOk [] (w.2.cacheWrite (w.2.server r.tile) line c key (w.2.slot key).gen d) else dbgRefuse iface 0xD101 .mediaWrite w.2
  if allEnabled enables then put s data
  else
    let a := s.engineRead c r line 4 true
    match a.1 with
    | .data d => put a.2 (mergeBytes d data enables)
    | _ => dbg dbgPoisoned [] a.2
/-- LINE_WRITE (R379): it waits while a host access holds the line (R160). -/
def execLineWrite (iface dpa enables : Nat) (data : HostLine) (upsets : List Upset) (s : State) : Host.Outcome State Fault Refusal :=
  .next (if s.lineHeld (dpa / 64) then s
    else s.command iface 0 0xD101 none (fun s =>
      match s.debugLine dpa with
      | none => dbgRefuse iface 0xD101 .mediaWrite s
      | some (c, r) =>
        if !s.covers iface .mediaWrite c.id then dbgRefuse iface 0xD101 .mediaWrite s
        else if !s.covers iface .plaintext c.id then dbgRefuse iface 0xD101 .plaintext s
        else (s.meetAt (dpa / 64) 4 c r upsets).debugWrite iface c r (dpa / 64) enables data))
/-- STRUCTURE_READ (R270, R379): a line of a system place, never deciphered; only formats 3 and 4 are structure lines. -/
def execStructureRead (iface group die grove line member : Nat) (s : State) : Host.Outcome State Fault Refusal :=
  .next (s.command iface 0 0xD102 none (fun s =>
    if !s.coversAll iface .mediaRead ∨ 4096 ≤ grove / 25 ∨ s.groupCount ≤ group ∨ 4 ≤ die ∨ 16 ≤ line ∨ 16 ≤ member then dbgRefuse iface 0xD102 .mediaRead s
    else
      let x : Stripe := ⟨group, die, grove, line, false⟩
      let found := s.stripeRead x member [3, 4]
      let s := s.chargeRead x member (match found with | .good _ _ => false | _ => true) 9 []
      match found with
      | .good l _ => dbg okMedia (lineBytes l) s
      | .recovered l => dbg okMedia (lineBytes l) s
      | .lost => dbg dbgPoisoned (zeros 64) (({ s with health := { s.health with uncorrectable := s.health.uncorrectable + 1 } } : State).report (s.spotReport 3 4 x member none none none false false 0))))

end Sys2Proof.Machine
end

