-- ==== Sys2Proof/Machine/Pmc.lean ====
section
/-! DEFINITION. The performance counter commands (17): reads, selections, filters. -/
namespace Sys2Proof.Machine

/-- The block a number names: tiles 0 to 7, else the hub (R522). -/
def pmcBlock (b : Nat) : Option Nat := if b < 8 then some b else none

/-- A block the member has (R5). -/
def State.pmcPresent (s : State) (b : Option Nat) : Bool :=
  match b with
  | some t => decide (t < s.tileCount)
  | none => true

/-- A counter is hidden from a reader: without the right over every compartment, when it is unfiltered or its filter's compartment is outside the reader's scope (R382, R519). -/
def State.pmcHidden (s : State) (iface : Nat) (b : Option Nat) (i : Nat) : Bool :=
  !s.coversAll iface .counterRead && match s.pmcFilter b i with
    | none => true
    | some c => !s.covers iface .counterRead c

/-- What an interface reads in a counter (R512, R519). -/
def State.pmcValue (s : State) (iface : Nat) (b : Option Nat) (i : Nat) : Nat :=
  if !s.pmcPresent b ∨ s.pmcHidden iface b i then 0 else s.rf (pmcCnt b i)

/-- PMC_EVEN_READ (R514): an even counter is read, and the counter above it latched. A reader needs mgmt-read and counter-read. -/
def execPmcEvenRead (iface block index : Nat) (s : State) : Host.Outcome State Fault Refusal :=
  .next (
    let b := pmcBlock block
    let a := (pmcCnt b index).addr
    if index % 2 = 1 ∨ pmcCount b ≤ index then s
    else s.under iface a .mgmtRead (fun s => s.under iface a .counterRead
      (fun s => if s.pmcPresent b then (s.wf (pmcHi b) (s.pmcValue iface b (index + 1))).send (.regValue iface a (s.pmcValue iface b index)) else s.send (.regValue iface a 0))
      (·.send (.regValue iface a 0))) (·.send (.regValue iface a 0)))

/-- A counter and its overflow bit set to 0 (R513, R519). -/
def State.pmcZero (s : State) (b : Option Nat) (i : Nat) : State := (s.wf (pmcCnt b i) 0).wf (pmcOvf b i) 0

/-- PMC_SEL_WRITE (R513, R519): under counter-read over every compartment, changed selections and chain bits zero the counters they affect. -/
def execPmcSelWrite (iface block index value : Nat) (s : State) : Host.Outcome State Fault Refusal :=
  .next (
    let b := pmcBlock block
    if !s.hears iface 0 then s.unheard iface 0
    else if !s.pmcPresent b ∨ pmcCount b ≤ 8 * index then s
    else if !(s.coversAll iface .counterRead && s.holds iface .mgmtWrite) then
      (if s.reg (pmcSel b (8 * index)).addr = BitVec.ofNat 32 value then s else s.deny iface (pmcSel b (8 * index)).addr .counterRead)
    else each (upto 8) s (fun s k =>
      let i := 8 * index + k
      let sel := bits value (4 * k + 2) (4 * k)
      let ch := if i % 2 = 1 then bits value (4 * k + 3) (4 * k + 3) else 0
      let s := if s.rf (pmcSel b i) ≠ sel then
          let s := if s.pmcChained b i then s.wf (pmcSel b i) sel else (s.wf (pmcSel b i) sel).pmcZero b i
          if i % 2 = 0 ∧ s.pmcChained b (i + 1) then s.pmcZero b (i + 1) else s
        else s
      if s.rf (pmcChain b i) ≠ ch then ((s.wf (pmcChain b i) ch).pmcZero b i).pmcZero b (i - 1) else s))

/-- PMC_FILT_WRITE (R519): within the writer's scope over the new compartment, and the old one while enabled, a changed filter zeroes the counters that select it. -/
def execPmcFiltWrite (iface block index value : Nat) (s : State) : Host.Outcome State Fault Refusal :=
  .next (
    let b := pmcBlock block
    let comp := bits value 11 0
    let en := bits value 12 12
    let old := s.rf (pmcFiltComp b index)
    let oldEn := s.rf (pmcFiltEn b index)
    if !s.hears iface 0 then s.unheard iface 0
    else if !s.pmcPresent b ∨ index = 0 ∨ 7 < index ∨ (comp = old ∧ en = oldEn) then s
    else if s.holds iface .mgmtWrite && s.covers iface .counterRead comp && (oldEn == 0 || s.covers iface .counterRead old) then
      let s := (s.wf (pmcFiltComp b index) comp).wf (pmcFiltEn b index) en
      each (upto (pmcCount b)) s (fun s i =>
        if s.rf (pmcSel b (if s.pmcChained b i then i - 1 else i)) = index then s.pmcZero b i else s)
    else s.deny iface (pmcFiltComp b index).addr .counterRead)

/-- An entry of Read Counters (R522). -/
def State.counterEntry (s : State) (iface : Nat) (b : Option Nat) (i : Nat) : Bytes :=
  let hid := s.pmcHidden iface b i
  let comp := if hid then 0xFFFF else (s.pmcFilter b i).getD 0xFFFF
  le 4 (s.pmcValue iface b i) ++ le 2 comp ++
    le 1 (b2n (s.pmcChained b i) + 2 * b2n hid + 4 * b2n (!hid && s.rb (pmcOvf b i))) ++ le 1 0

/-- READ_COUNTERS (R522): under counter-read; every counter is sampled at one moment, so a snapshot and a read in sequence return the same. -/
def execReadCounters (iface ld : Nat) (input : Bytes) (s : State) : Host.Outcome State Fault Refusal :=
  .next (s.command iface ld 0xC041 (some .counterRead) (fun s =>
    let block := getLe input 0 1
    let flags := getLe input 1 1
    let first := getLe input 2 2
    let n := getLe input 4 2
    let b := pmcBlock block
    if input.length ≠ 8 ∨ (8 ≤ block ∧ block ≠ 0xFF) ∨ 1 < flags ∨ n = 0 ∨ 224 < n ∨ !allZero (slice input 6 2) ∨ pmcCount b < first + n then answer .invalidInput s
    else
      ⟨.success, le 6 s.fine ++ le 2 n ++ ((upto n).map (fun i => s.counterEntry iface b (first + i))).flatten, s⟩))

end Sys2Proof.Machine
end

