-- ==== Sys2Proof/Machine/RegAccess.lean ====
section
/-! DEFINITION. The management space: reads and writes of its registers by the interfaces (00, R5 to R9; 18, R527 to R529), the seedbank window (14, R434, R435), and the commands that carry them (14, R453, R456). -/
namespace Sys2Proof.Machine

/-! ## The seedbank window (R434, R435) -/

/-- The management window of the seedbank. -/
def inWindow (addr : Nat) : Bool := decide (0xA00000 ≤ addr ∧ addr < 0xB00000)
/-- A byte of a list; 0xFF, as erased, past its end. -/
def flashByte (b : Bytes) (i : Nat) : Nat := ((b[i]?).map (·.toNat)).getD 0xFF
/-- A ring log slot's byte: a record's, erased, or of a partial slot, which is not to be interpreted (R419). -/
def slotByte (l : List LogSlot) (i d a : Nat) : Nat :=
  match l[i / 64]? with
  | some (.held r) => flashByte r.bytes (i % 64)
  | some .partialSlot => Config.seedByte d a % 256
  | none => 0xFF
/-- The byte at a seedbank address (R434): the ring log's slots, firmware slots, the parameter store's sectors in use and the reserved area as the rules give them; the rest, whose records and slot order the spec does not lay out, is a free value (log 34). -/
def State.seedByte (s : State) (d a : Nat) : Nat :=
  if a < 0x100000 then Config.seedByte d a % 256
  else if a < 0x300000 then flashByte (((s.fw.slots[0]?).getD none).getD []) (a - 0x100000)
  else if a < 0x500000 then flashByte (((s.fw.slots[1]?).getD none).getD []) (a - 0x300000)
  else if 0x1100000 ≤ a ∧ a < 0x1180000 then
    (match s.ps.sectors.find? (fun x => x.pos == (a - 0x1100000) / 4096) with
      | some x => flashByte x.bytes ((a - 0x1100000) % 4096)
      | none => Config.seedByte d a % 256)
  else if a < 0x1180000 then Config.seedByte d a % 256
  else if a < 0x11C0000 then slotByte s.log.heart (a - 0x1180000) d a
  else if a < 0x12D9000 then
    let sector := (a - 0x11C0000) / 4096
    slotByte ((s.log.sectors[(sector + 281 - s.log.first % 281) % 281]?).getD []) ((a - 0x11C0000) % 4096) d a
  else if a < 0x1400000 then Config.seedByte d a % 256
  else 0xFF
/-- The word the window shows at an offset of 1 MiB; one seedbank line is read (R521). -/
def State.windowWord (s : State) (offset : Nat) : Nat × State :=
  let a := s.rf F.WDN_SB_BANK_bank * 0x100000 + offset / 4 * 4 % 0x100000
  let byte (i : Nat) : Nat := s.seedByte s.freeCtr (a + i)
  (byte 0 + byte 1 * 2 ^ 8 + byte 2 * 2 ^ 16 + byte 3 * 2 ^ 24, ({ s with freeCtr := s.freeCtr + 1 } : State).countHub 52)
/-- A window read by an interface: without the seedbank right it returns 0 and raises the event (R435). -/
def State.windowRead (s : State) (iface offset : Nat) : Nat × State :=
  if s.holds iface .seedbank then s.windowWord offset else (0, s.deny iface (0xA00000 + offset) .seedbank)
/-- SEEDBANK_WINDOW_READ (R435). -/
def execSeedbankWindowRead (iface offset : Nat) (s : State) : Host.Outcome State Fault Refusal :=
  .next (if !s.hears iface 0 then s.unheard iface 0
    else if 0x100000 ≤ offset then s
    else let r := s.windowRead iface offset; r.2.readOut iface (0xA00000 + offset) r.1)

/-! ## Values the registers show -/

/-- A word made of fields: high bit, low bit, value. -/
def word (l : List (Nat × Nat × Nat)) : Nat := (l.map (fun f => f.2.2 % 2 ^ (f.1 - f.2.1 + 1) * 2 ^ f.2.1)).sum
/-- A word with fields laid over it. -/
def laid (w : Nat) (l : List (Nat × Nat × Nat)) : Nat := (each l (BitVec.ofNat 32 w) (fun w f => setBits w f.1 f.2.1 f.2.2)).toNat
/-- Bits of a list of Booleans, the first lowest. -/
def mask (l : List Bool) : Nat := ((l.mapIdx (fun i b => if b then 2 ^ i else 0)) : List Nat).sum
/-- The word stored at an address. -/
def State.stored (s : State) (addr : Nat) : Nat := (s.reg addr).toNat

/-- Stems of the running retirement that a tile has still to copy (R262). -/
def State.retireLeft (s : State) (t : Nat) (r : Retiring) : Nat :=
  (r.stems.filter (fun p => p.1 == t && (((s.tile t).copyOf p.2).isSome || (s.tile t).copyQueue.contains (p.2, .retire)))).length
/-- TRN_RETIRE_STAT of a tile; 0 while no retirement runs. -/
def State.retireView (s : State) (t : Nat) : Nat :=
  match s.retiring with
  | none => 0
  | some r =>
    let all := (r.stems.filter (fun p => p.1 == t)).length
    let left := s.retireLeft t r
    word [(9, 0, if all = 0 then 1000 else 1000 * (all - left) / all), (12, 10, r.kind), (31, 14, min 262143 left)]

/-- Warden and Glade registers as they show the state they stand for. -/
def State.viewWdn (s : State) (addr : Nat) : Nat :=
  if 0x400 ≤ addr ∧ addr < 0x480 then
    s.wdnTile addr
  else if addr = 0x600 then laid (s.stored addr) [(1, 0, s.lifecycle), (6, 2, s.bankCount), (10, 7, s.storageGen), (11, 11, b2n s.testMode), (12, 12, b2n s.rights.rootsSuspended), (13, 13, b2n s.keySetMissing)]
  else if 0x610 ≤ addr ∧ addr < 0x650 then
    (let w := s.rightsWord ((addr - 0x610) / 8); if addr % 8 = 0 then w % 2 ^ 32 else w / 2 ^ 32)
  else if 0x710 ≤ addr ∧ addr < 0x724 then 0
  else if addr = 0x804 then laid (s.stored addr) [(9, 4, s.fwFloor)]
  else if addr = 0x814 then laid (s.stored addr) [(2, 2, b2n (!s.power.pins.nvwp)), (3, 3, b2n (s.psGet 0x0010).isSome), (15, 8, 128 - s.ps.failed.length), (31, 16, s.psLive)]
  else if addr = 0x818 then laid (s.stored addr) [(8, 8, b2n s.power.pins.posnIn), (10, 10, b2n s.nacking)]
  else if 0x1000 ≤ addr ∧ addr < 0x1800 then getLe s.ps.buf (addr - 0x1000) 4
  else if addr = 0x10000 then s.glade.elapsed
  else if addr = 0x10004 then s.glade.opsec
  else if addr = 0x10008 then s.glade.pwrcyc
  else s.stored addr
/-- Sequencer, image and translation registers of the hub. -/
def State.viewHub (s : State) (addr : Nat) : Nat :=
  if addr = 0x20000 then laid (s.stored addr) [(14, 14, b2n (s.power.program == romProgram s.tileCount)), (15, 15, b2n s.power.program.autoOn)]
  else if addr = 0x20004 then mask (s.power.rails.map Rail.en) + mask (s.power.rails.map Rail.pg) * 2 ^ 16
  else if addr = 0x2000C then laid (s.stored addr) [(11, 0, min 4095 (s.power.vin / 10)), (25, 25, b2n s.power.vinValid)]
  else if addr = 0x30004 then laid (s.stored addr) [(29, 29, b2n s.testMode)]
  else if 0x40040 ≤ addr ∧ addr < 0x400C0 then
    let used := s.zoneType ((addr - 0x40040) / 4) != 0xFF
    laid (s.stored addr) ((18, 18, b2n used) :: (if used then [] else [(11, 0, 0)]))
  else if addr = 0x400C0 then laid (s.stored addr) [(26, 25, min 3 (s.glade.shutdowns.filter (fun x => decide (s.glade.elapsed < x + 3600))).length)]
  else if addr = 0x60000 then s.epochActive
  else if addr = 0x60004 then s.epochPrevious
  else if addr = 0x60008 then s.epochStaged
  else if addr = 0x6000C then s.epochFloor
  else if 0x50000 ≤ addr ∧ addr < 0x50440 ∧ !s.irqPresent ((addr - 0x50000) / 4) then 0
  else if 0x70000 ≤ addr ∧ addr < 0x70014 ∧ !s.clocks.imageChecked then 0
  else if addr = 0x70000 then s.spare
  else if addr = 0x70004 then s.spareBase
  else if addr = 0x70008 then word [(1, 0, s.spareState), (8, 2, s.spareLeft), (15, 9, s.lifeUsed), (16, 16, b2n s.ageUnknown), (17, 17, b2n s.retiring.isSome)]
  else if addr = 0x7000C then word [(12, 0, s.diesRetired), (23, 13, s.retiredChans.length)]
  else if addr = 0x70010 then s.deadwood.length
  else if addr = 0xA0004 then word [(0, 0, b2n s.log.frozen), (9, 1, s.glade.buffer.length), (25, 10, min 65535 s.glade.bufDrops), (26, 26, b2n (decide (4096 ≤ s.log.heart.length)))]
  else if addr = 0xA0008 then s.log.next
  else if addr = 0xA0104 then laid (s.stored addr) [(14, 0, s.trace.buf.length)]
  else s.stored addr
/-- Registers of a tile; what follows the state of the tile is shown as it stands (R221, R222, R262, R352). -/
def State.viewTile (s : State) (t off : Nat) (addr : Nat) : Nat :=
  if off = 0x104 then laid (s.stored addr) [(2, 2, b2n (!s.allInService))]
  else if off = 0x204 then laid (s.stored addr) [(16, 0, min 65536 (s.tile t).catchQ.length), (18, 18, b2n (s.destagePaused t)), (19, 19, b2n (s.migrating t)), (27, 21, s.undPct t)]
  else if off = 0x208 then word [(15, 0, min 65535 (s.undShare / 1048576)), (31, 16, min 65535 ((s.tile t).undUsed / 1048576))]
  else if off = 0x10004 then laid (s.stored addr) [(25, 16, (s.metered t 0).last)]
  else if off = 0x10008 then s.retireView t
  else if off = 0x20000 then word [(9, 0, (s.metered t 1).last), (19, 10, (s.metered t 2).last)]
  else if off = 0x30004 then laid (s.stored addr) [(18, 0, ((s.tile t).cache.filter (fun (l : CacheLine) => l.locked)).length), (25, 19, (s.tile t).victims.length)]
  else s.stored addr

/-! ## Reads (R5, R9, R382, R429, R431, R514, R519, R529) -/

/-- The host port whose register window holds an address. -/
def portOfAddr (addr : Nat) : Option Nat := if 0x90000 ≤ addr ∧ addr < 0x90400 then some ((addr - 0x90000) / 0x100) else none
/-- The PMC_ block an address lies in, and its offset there. -/
def pmcOfAddr (addr : Nat) : Option (Option Nat × Nat) :=
  match tileOfAddr addr with
  | some t => if 0x50000 ≤ addr % 0x100000 ∧ addr % 0x100000 < 0x50524 then some (some t, addr % 0x100000 - 0x50000) else none
  | none => if 0xB0000 ≤ addr ∧ addr < 0xB0524 then some (none, addr - 0xB0000) else none
/-- A read of a PMC_ register under counter-read: hidden counters and overflow bits read 0, and an even counter latches the one above (R514, R519). -/
def State.pmcRead (s : State) (iface : Nat) (b : Option Nat) (off addr : Nat) : Nat × State :=
  if !s.holds iface .counterRead then (0, s.deny iface addr .counterRead)
  else if off < 4 * pmcCount b then
    let i := off / 4
    (s.pmcValue iface b i, if i % 2 = 0 then s.wf (pmcHi b) (s.pmcValue iface b (i + 1)) else s)
  else if 0x500 ≤ off ∧ off < 0x520 then
    (mask ((upto 32).map (fun i => let n := 8 * (off - 0x500) + i; decide (n < pmcCount b) && s.rb (pmcOvf b n) && !s.pmcHidden iface b n)), s)
  else (s.stored addr, s)
/-- A read of a register of the hub under mgmt-read. -/
def State.readHub (s : State) (iface addr : Nat) : Nat × State :=
  if addr = F.WDN_FINE_LO_fine.addr then (s.fine % 2 ^ 32, s.wf F.WDN_FINE_HI_fine (s.fine / 2 ^ 32))
  else if 0xA0120 ≤ addr ∧ addr < 0xA0140 then
    (if s.rf F.RLG_TRC_CTRL_owner ≠ iface then (0, s)
     else if addr = 0xA0120 then (let s' := s.takeTrace iface; (s'.stored addr, s')) else (s.stored addr, s))
  else match portOfAddr addr with
    | some p =>
      if s.portCount ≤ p then (0, s)
      else if (addr % 0x100 = 0x10 ∨ addr % 0x100 = 0x14) ∧ !s.coversAll iface .counterRead then (0, s)
      else if addr % 0x100 = 0x14 then (laid (s.stored addr) [(30, 20, s.levelDelay p)], s)
      else (s.stored addr, s)
    | none => if addr < 0x20000 then (s.viewWdn addr, s) else (s.viewHub addr, s)
/-- An address where no register and no buffer lies (R9, R527, R528). -/
def reservedAddr (addr : Nat) : Bool := (rowAt addr).isNone && !decide (0x1000 ≤ addr ∧ addr < 0x1800)
/-- A read of an aligned word of the management space by an interface (R529); one whose fabric word was lost returns 0 (R283). -/
def State.regRead (s : State) (iface addr : Nat) : Nat × State :=
  if inWindow addr then s.windowRead iface (addr - 0xA00000)
  else if s.lostWords.contains (.register, true) then
    (0, ({ s with lostWords := s.lostWords.filter (fun p => p.1 != .register) } : State).report (.internal 8 true))
  else if !s.holds iface .mgmtRead then (0, s.deny iface addr .mgmtRead)
  else if reservedAddr addr then (0, s)
  else match tileOfAddr addr with
    | some t =>
      if s.tileCount ≤ t ∨ (s.tile t).held then (0, s)
      else
        let s := s.wakeTile t
        match pmcOfAddr addr with
        | some (b, off) => s.pmcRead iface b off addr
        | none => (s.viewTile t (addr % 0x100000) addr, s)
    | none => match pmcOfAddr addr with
      | some (b, off) => s.pmcRead iface b off addr
      | none => s.readHub iface addr

/-! ## Writes (R6 to R9, R529) -/

/-- A written value within a field's range. -/
def clampTo (c : Option (Nat × Nat)) (v : Nat) : Nat := match c with | some (lo, hi) => max lo (min hi v) | none => v
/-- What a write makes of a field without behaviour of its own; none where the field ignores it. -/
def FieldDesc.written (f : FieldDesc) (cur v : Nat) : Option Nat :=
  match f.acc with
  | .rw | .rws | .rwl => some (clampTo f.clamp v)
  | .w1c => some (cur &&& (2 ^ (f.hi - f.lo + 1) - 1 - v))
  | .w1s => some (cur ||| v)
  | .ro | .ros | .wo => none
/-- A field of an address. -/
def FieldDesc.at_ (f : FieldDesc) (addr : Nat) : Fld := ⟨addr, f.hi, f.lo⟩
/-- The fields of a register that a selection takes are written, lowest bit first. -/
def State.plain (s : State) (addr v : Nat) (sel : FieldDesc → Bool) : State :=
  each ((fieldsAt addr).filter sel) s (fun s f => match f.written (s.rf (f.at_ addr)) (bits v f.hi f.lo) with
    | some x => s.wf (f.at_ addr) x
    | none => s)
/-- Fields that lie below, or from, a bit. -/
def above (n : Nat) (f : FieldDesc) : Bool := decide (n ≤ f.lo)
def below (n : Nat) (f : FieldDesc) : Bool := decide (f.lo < n)
def every (_ : FieldDesc) : Bool := true
/-- A write would change a field or start its operation (R7). A command bit, whose number the list holds, starts only when 1 is written. -/
def State.writeActs (s : State) (addr v : Nat) (cmds : List Nat) : Bool :=
  (fieldsAt addr).any (fun f =>
    if cmds.contains f.lo then bits v f.lo f.lo == 1
    else match f.acc with
      | .wo => bits v f.hi f.lo != 0
      | _ => match f.written (s.rf (f.at_ addr)) (bits v f.hi f.lo) with
        | some x => x != s.rf (f.at_ addr)
        | none => false)
/-- The right the fields of a register name; mgmt-write alone where none does (R355). -/
def rightOf (addr : Nat) : Right := ((fieldsAt addr).findSome? (·.right)).getD .mgmtWrite
/-- A register whose fields name one right is written under it; a refused write raises one event (R7). -/
def State.writeAs (s : State) (iface addr v : Nat) (cmds : List Nat) (go : State → State) : State :=
  s.regWrite iface addr (rightOf addr) (s.writeActs addr v cmds) go
/-- The state a meaning leaves. -/
def State.after (s : State) (o : Host.Outcome State Fault Refusal) : State := match o with | .next t => t | _ => s

/-- WDN_TILE_CTRLn (R35). -/
def State.writeTileCtrl (s : State) (iface n v : Nat) : State :=
  let addr := 0x400 + 16 * n
  let cmds := (if (s.isolateWrite n).1 then [0] else []) ++ (if (s.restoreWrite n).1 then [1] else [])
  let other := (s.plain addr (v % 8) (fun f => f.lo == 2)) != s || (s.rf (F.WDN_TILE_CTRL_nurse n) != bits v 6 4 && (s.nurseWrite n (bits v 6 4)).1)
  if s.tileCount ≤ n then s
  else s.regWrite iface addr .tileService (cmds.any (fun b => bits v b b == 1) || other) (fun s =>
    let s := if bits v 0 0 = 1 then (s.isolateWrite n).2 else s
    let s := if bits v 1 1 = 1 then (s.restoreWrite n).2 else s
    let s := s.wf (F.WDN_TILE_CTRL_auto_restore n) (bits v 2 2)
    if s.rf (F.WDN_TILE_CTRL_nurse n) = bits v 6 4 then s else (s.nurseWrite n (bits v 6 4)).2)
/-- STD_CTRL (R121): its fields name three rights; one event where any is refused. -/
def State.writeStdCtrl (s : State) (iface v : Nat) : State :=
  let may (r : Right) : Bool := s.holds iface r && s.holds iface .mgmtWrite
  let mark := s.rf F.STD_CTRL_apply_at_resume != bits v 2 2
  let acts : List (Bool × Right × (State → State)) :=
    [(bits v 0 0 == 1, .imageStage, State.verifyImage), (bits v 1 1 == 1, .imageApply, State.applyLive),
     (mark, .imageApply, fun s => s.markResume (bits v 2 2 == 1)), (bits v 3 3 == 1, .imageReturn, State.returnPrev),
     (bits v 4 4 == 1, .imageStage, State.discardStaged)]
  let busy := s.stdBusy
  let s' := each (acts.filter (fun a => a.1 && may a.2.1)) s (fun s a => a.2.2 s)
  match acts.find? (fun a => a.1 && !may a.2.1) with
  | some a => if busy then s' else s'.deny iface F.STD_CTRL_verify.addr a.2.1
  | none => s'
/-- RLG_CTRL (R426, R430). -/
def State.writeLogCtrl (s : State) (iface v : Nat) : State :=
  s.writeAs iface F.RLG_CTRL_freeze.addr v [] (fun s =>
    let s := s.plain F.RLG_CTRL_freeze.addr v (above 1)
    if bits v 0 0 = 1 then s.freezeLog iface else s.thawLog iface false)
/-- RLG_TRC_CTRL (R410, R413, R431): other than enable = 0 is ignored while trace runs. -/
def State.writeTraceCtrl (s : State) (iface v : Nat) : State :=
  if bits v 0 0 = 1 then s.after (execTraceStart iface v s)
  else if s.rb F.RLG_TRC_CTRL_enable then s.after (execTraceStop iface s)
  else s.writeAs iface F.RLG_TRC_CTRL_enable.addr v [] (fun s => s.plain F.RLG_TRC_CTRL_enable.addr v every)
/-- The right an operation of WDN_PS_CTRL needs (R458). -/
def psRight (op : Nat) : Right := if op = 2 ∨ op = 3 then .paramWrite else .paramRead
/-- The interface may write a field that names a right (R7, R355). -/
def State.mayWrite (s : State) (iface : Nat) (r : Right) : Bool := s.holds iface r && s.holds iface .mgmtWrite
/-- WDN_PS_CTRL (R458): one event for the write, whichever of its fields are refused (R7). -/
def State.writePsCtrl (s : State) (iface v : Nat) : State :=
  let addr := F.WDN_PS_CTRL_go.addr
  let key := bits v 15 0
  let op := bits v 17 16
  let len := bits v 28 18
  let goes := bits v 29 29 == 1 && op != 0
  let denied := !s.mayWrite iface (psRight op) && (if goes then true else !s.rb F.WDN_PS_CTRL_go && s.writeActs addr (v % 2 ^ 29) [29, 30])
  let s := if goes then
      s.after (match op with
        | 1 => execPsRead iface key len s
        | 2 => execPsWrite iface key len s
        | 3 => execPsDelete iface key len s
        | _ => .next s)
    else if s.rb F.WDN_PS_CTRL_go then s
    else s.regWrite iface addr (psRight op) (s.writeActs addr (v % 2 ^ 29) [29, 30]) (fun s => s.plain addr v (below 29))
  if bits v 30 30 = 0 then s
  else if denied && !s.mayWrite iface .paramWrite then s
  else s.after (execPsShadow iface s)
/-- RST_CTRL (R495). -/
def State.writeRstCtrl (s : State) (iface v : Nat) : State :=
  if bits v 6 6 = 1 then s.rstCtrl iface (bits v 2 0) (bits v 5 3)
  else s.writeAs iface F.RST_CTRL_go.addr v [6] (fun s => s.plain F.RST_CTRL_go.addr v (below 6))
/-- CIF_REROOT_CTRL (R351). -/
def State.writeRerootCtrl (s : State) (iface v : Nat) : State :=
  if s.rb F.CIF_REROOT_STAT_busy then s
  else if bits v 16 16 = 1 then s.after (execReroot iface v s)
  else s.writeAs iface F.CIF_REROOT_CTRL_go.addr v [16] (fun s => s.plain F.CIF_REROOT_CTRL_go.addr v (below 16))
/-- Host port registers (R144, R188). -/
def State.writeHpt (s : State) (iface p off v : Nat) : State :=
  if bits v 31 31 = 0 then s
  else if off = 0x04 then s.after (execHptWfailClear iface p s)
  else if off = 0x10 then s.after (execHptRdlatClear iface p s)
  else if off = 0x14 then s.after (execHptLtClear iface p s)
  else s
/-- MSC_LNK_CTRLc (R76): loopback is taken while disable is 1. -/
def State.writeLnkCtrl (s : State) (iface t c v : Nat) : State :=
  let f := F.MSC_LNK_CTRL_disable t c
  let chan := globalChan t c
  let train := bits v 0 0 == 1 && (s.lstate chan == 6 || s.lstate chan == 10)
  let loop := s.rb f && s.rf (F.MSC_LNK_CTRL_loopback t c) != bits v 2 2
  if !s.chanPresent chan then s
  else s.regWrite iface f.addr .tileService (train || s.rf f != bits v 1 1 || loop) (fun s =>
    let s := if train then s.after (execLnkRetrain iface chan s) else s
    let s := s.after (execLnkDisable iface chan (bits v 1 1) s)
    if s.rb f then s.wf (F.MSC_LNK_CTRL_loopback t c) (bits v 2 2) else s)
/-- MSC_CHK_CTRL (R297 to R301): the options of the write hold for the operation it starts. -/
def State.writeChkCtrl (s : State) (iface t v : Nat) : State :=
  let addr := (F.MSC_CHK_CTRL_open t).addr
  if s.chkBusy t then s
  else s.writeAs iface addr v [0, 1, 2, 3] (fun s =>
    let s := s.plain addr v (above 4)
    let s := if bits v 0 0 = 1 then s.after (execCheckerOpen iface t s) else s
    let s := if bits v 1 1 = 1 then s.after (execCheckerClose iface t s) else s
    let s := if bits v 2 2 = 1 then s.after (execCheckerWrite iface t s) else s
    if bits v 3 3 = 1 then s.after (execCheckerRead iface t s) else s)
/-- CCH_RM_CTRL (R312, R316, R318). -/
def State.writeRmCtrl (s : State) (iface t v : Nat) : State :=
  let addr := (F.CCH_RM_CTRL_go t).addr
  let busy := s.rb (F.CCH_RM_STAT_busy t)
  let go := bits v 4 4 == 1 && decide (1 ≤ bits v 2 0 ∧ bits v 2 0 ≤ 5)
  s.regWrite iface addr (rightOf addr) (go || (!busy && s.writeActs addr (v % 16) [4])) (fun s =>
    let s := if busy then s else s.plain addr v (below 4)
    if bits v 4 4 = 0 then s
    else s.after (match bits v 2 0 with
      | 1 => execClean iface t s
      | 2 => execInvalidate iface t s
      | 3 => execCleanAndInvalidate iface t s
      | 4 => execLock iface t s
      | 5 => execUnlock iface t s
      | _ => .next s))
/-- MSC_RD_CFG (R186): resume_pct is held at yield_pct at most. -/
def State.writeRdCfg (s : State) (iface t v : Nat) : State :=
  let addr := (F.MSC_RD_CFG_yield_pct t).addr
  s.writeAs iface addr v [] (fun s =>
    let s := s.plain addr v every
    s.wf (F.MSC_RD_CFG_resume_pct t) (min (s.rf (F.MSC_RD_CFG_resume_pct t)) (s.rf (F.MSC_RD_CFG_yield_pct t))))
/-- CIF_ERR.clear (R352). -/
def State.writeCifErr (s : State) (iface t v : Nat) : State :=
  s.writeAs iface (F.CIF_ERR_clear t).addr v [] (fun s =>
    if bits v 31 31 = 1 then ((s.wf (F.CIF_ERR_tag_fail t) 0).wf (F.CIF_ERR_subtree t) 0).wf (F.CIF_ERR_regen t) 0 else s)
/-- A PMC_ register (R513, R519, R523): an overflow bit hidden from the writer stays. -/
def State.writePmc (s : State) (iface : Nat) (b : Option Nat) (off v : Nat) : State :=
  let block := b.getD 8
  if 0x400 ≤ off ∧ off < 0x480 then s.after (execPmcSelWrite iface block ((off - 0x400) / 4) v s)
  else if 0x480 ≤ off ∧ off < 0x4A0 then s.after (execPmcFiltWrite iface block ((off - 0x480) / 4) v s)
  else if 0x500 ≤ off ∧ off < 0x520 then
    s.regWrite iface (pmcBase b + off) .counterRead (s.writeActs (pmcBase b + off) v []) (fun s =>
      each ((upto 32).filter (fun i => bits v i i == 1 && decide (8 * (off - 0x500) + i < pmcCount b) && !s.pmcHidden iface b (8 * (off - 0x500) + i))) s
        (fun s i => s.wf (pmcOvf b (8 * (off - 0x500) + i)) 0))
  else s
/-- A register of a tile that its window shows. -/
def State.writeTile (s : State) (iface t off addr v : Nat) : State :=
  if 0x1000 ≤ off ∧ off < 0x1800 then
    (let c := (off - 0x1000) / 16
     if off % 16 = 0 then s.writeLnkCtrl iface t c v
     else if off % 16 = 8 ∧ bits v 31 31 = 1 then s.after (execLnkErrClear iface (globalChan t c) s) else s)
  else if off = 0x100 then s.writeRdCfg iface t v
  else if off = 0x318 then (if bits v 31 31 = 1 then s.after (execSramClear iface t s) else s)
  else if off = 0x300 then s.writeChkCtrl iface t v
  else if off = 0x308 ∨ (0x340 ≤ off ∧ off < 0x400) then (if s.chkBusy t then s else s.writeAs iface addr v [] (fun s => s.plain addr v every))
  else if off = 0x30010 then s.writeRmCtrl iface t v
  else if 0x30014 ≤ off ∧ off < 0x30024 then (if s.rb (F.CCH_RM_STAT_busy t) then s else s.writeAs iface addr v [] (fun s => s.plain addr v every))
  else if off = 0x20004 then s.writeCifErr iface t v
  else if off = 0x200 then s.writeAs iface addr v [] (fun s => ((s.plain addr v every).refreshEligible t).undRefresh t)
  else match pmcOfAddr addr with
    | some (b, o) => s.writePmc iface b o v
    | none => s.writeAs iface addr v [] (fun s => s.plain addr v every)
/-- A register of the hub. -/
def State.writeHub (s : State) (iface addr v : Nat) : State :=
  if 0x400 ≤ addr ∧ addr < 0x480 then (if addr % 16 = 0 then s.writeTileCtrl iface ((addr - 0x400) / 16) v else s)
  else if 0x710 ≤ addr ∧ addr < 0x724 then s
  else if addr = 0x810 then s.writePsCtrl iface v
  else if 0x1000 ≤ addr ∧ addr < 0x1800 then
    s.regWrite iface addr .mgmtWrite true (fun s => { s with ps := { s.ps with buf := s.ps.buf.take (addr - 0x1000) ++ le 4 v ++ s.ps.buf.drop (addr - 0x1000 + 4) } })
  else if addr = 0x20008 then (if bits v 31 31 = 1 then s.after (execSeqFaultClear iface s) else s)
  else if addr = 0x2000C then (if bits v 31 31 = 1 then s.after (execSeqVinClear iface s) else s)
  else if addr = 0x30000 then s.writeRstCtrl iface v
  else if addr = 0x60010 then s.writeStdCtrl iface v
  else if addr = 0x60020 ∧ s.applyRunning then s
  else if addr = 0x80004 then s.writeRerootCtrl iface v
  else if addr = 0xA0000 then s.writeLogCtrl iface v
  else if addr = 0xA0100 then s.writeTraceCtrl iface v
  else match portOfAddr addr, pmcOfAddr addr with
    | some p, _ => s.writeHpt iface p (addr % 0x100) v
    | none, some (b, o) => s.writePmc iface b o v
    | none, none => s.writeAs iface addr v [] (fun s => s.plain addr v every)
/-- The IRQ_ block: its registers are written by the processors alone (R447). -/
def inIrq (addr : Nat) : Bool := decide (0x50000 ≤ addr ∧ addr < 0x60000)
/-- A processor's write: target t as number 8 + t, to the IRQ_ registers (R445, R447; log 35); a source the member lacks ignores it (R5). -/
def State.irqWrite (s : State) (t addr v : Nat) : State :=
  if 9 ≤ t ∨ reservedAddr addr then s
  else if addr < 0x50440 ∧ !s.irqPresent ((addr - 0x50000) / 4) then s
  else if addr % 0x10 = 4 ∧ 0x50800 ≤ addr then (if addr = (F.IRQ_DONE_source t).addr then s.after (execIrqDone t (bits v 9 0) s) else s)
  else s.plain addr v every
/-- A write of an aligned word of the management space (R529); the seedbank window and reserved addresses ignore it (R9, R435). The WDN_EVF_ registers decode the warden's accesses alone (R416); its number is 8. -/
def State.regWriteWord (s : State) (iface addr v : Nat) : State :=
  if !s.hears iface 0 then s.unheard iface 0
  else if reservedAddr addr then s
  else if inIrq addr then (if 8 ≤ iface then s.irqWrite (iface - 8) addr v else s)
  else if 8 ≤ iface then (if iface = 8 ∧ 0x710 ≤ addr ∧ addr < 0x724 then s.plain addr v every else s)
  else match tileOfAddr addr with
    | some t => if s.tileCount ≤ t ∨ (s.tile t).held then s else (s.wakeTile t).writeTile iface t (addr % 0x100000) addr v
    | none => s.writeHub iface addr v

/-- MANAGEMENT_REGISTER_WRITE (R6, R7, R9, R529): one aligned word. -/
def execManagementRegisterWrite (iface address value : Nat) (s : State) : Host.Outcome State Fault Refusal :=
  .next (if address % 4 = 0 then s.regWriteWord iface address (value % 2 ^ 32) else s)

/-! ## Register reads and writes through messages (R453, R456) -/

/-- Words read one after another, lowest address first. -/
def State.readWords (s : State) (iface addr : Nat) : Nat → Bytes × State
  | 0 => ([], s)
  | n + 1 =>
    let r := s.regRead iface addr
    let rest := r.2.readWords iface (addr + 4) n
    (le 4 r.1 ++ rest.1, rest.2)
/-- REGISTER_READ (R453): count words from an address. -/
def execRegisterRead (iface address count : Nat) (s : State) : Host.Outcome State Fault Refusal :=
  .next (s.command iface 0 0xD000 (some .mgmtRead) (fun s =>
    if address % 4 ≠ 0 ∨ 65536 ≤ count ∨ 2 ^ 32 ≤ address then answer .invalidInput s
    else let r := s.readWords iface address count; ⟨.success, r.1, r.2⟩))
/-- Words written one after another, lowest address first. -/
def State.writeWords (s : State) (iface addr : Nat) : List Nat → State
  | [] => s
  | v :: rest => (s.regWriteWord iface addr (v % 2 ^ 32)).writeWords iface (addr + 4) rest
/-- REGISTER_WRITE (R453). -/
def execRegisterWrite (iface address : Nat) (values : List Nat) (s : State) : Host.Outcome State Fault Refusal :=
  .next (s.command iface 0 0xD001 (some .mgmtWrite) (fun s =>
    if address % 4 ≠ 0 ∨ 65536 ≤ values.length ∨ 2 ^ 32 ≤ address then answer .invalidInput s
    else answer .success (s.writeWords iface address values)))
/-- REG_READ (R456): sideband command 0x03. -/
def execRegRead (address : Nat) (s : State) : Host.Outcome State Fault Refusal :=
  .next (s.sidebandUnder 0x03 .mgmtRead (fun s =>
    if address % 4 ≠ 0 then (4, [], s) else let r := s.regRead 5 address; (0, le 4 r.1, r.2)))

end Sys2Proof.Machine
end

