-- ==== Sys2Proof/Machine/Dispatch.lean ====
section
/-! DEFINITION. One arm per command. -/
namespace Sys2Proof.Machine

/-- The effect of a command on everything but the queue. -/
def exec (i : Instr) (s : State) : Host.Outcome State Fault Refusal :=
  match i with
  | .fabricWordReceive src dst use word => Sys2Proof.Machine.execFabricWordReceive src dst use word s
  | .helperComplete helper code data => Sys2Proof.Machine.execHelperComplete helper code data s
  | .heldRequestRelease tile => Sys2Proof.Machine.execHeldRequestRelease tile s
  | .isolate iface tile => Sys2Proof.Machine.execIsolate iface tile s
  | .catchEscrowDrainDone tile bad => Sys2Proof.Machine.execCatchEscrowDrainDone tile bad s
  | .isolationReissue tile => Sys2Proof.Machine.execIsolationReissue tile s
  | .restore iface tile => Sys2Proof.Machine.execRestore iface tile s
  | .restoreVerifyDone tile pass => Sys2Proof.Machine.execRestoreVerifyDone tile pass s
  | .rebuildStripe tile => Sys2Proof.Machine.execRebuildStripe tile s
  | .homeMoveBack tile => Sys2Proof.Machine.execHomeMoveBack tile s
  | .tileService iface ld input => Sys2Proof.Machine.execTileService iface ld input s
  | .tileWatchdogExpire tile => Sys2Proof.Machine.execTileWatchdogExpire tile s
  | .stewardLockup tile => Sys2Proof.Machine.execStewardLockup tile s
  | .tileFabricLinkFail tile => Sys2Proof.Machine.execTileFabricLinkFail tile s
  | .tileInternalError tile => Sys2Proof.Machine.execTileInternalError tile s
  | .read chan block => Sys2Proof.Machine.execRead chan block s
  | .progFast chan block data => Sys2Proof.Machine.execProgFast chan block data s
  | .sheetLoad chan block data => Sys2Proof.Machine.execSheetLoad chan block data s
  | .progDense chan block => Sys2Proof.Machine.execProgDense chan block s
  | .suspend chan block => Sys2Proof.Machine.execSuspend chan block s
  | .denseSuspendReached chan die => Sys2Proof.Machine.execDenseSuspendReached chan die s
  | .resume chan block => Sys2Proof.Machine.execResume chan block s
  | .denseAutoResume chan die => Sys2Proof.Machine.execDenseAutoResume chan die s
  | .abort chan block => Sys2Proof.Machine.execAbort chan block s
  | .status chan block => Sys2Proof.Machine.execStatus chan block s
  | .identify chan block => Sys2Proof.Machine.execIdentify chan block s
  | .refLoad chan block => Sys2Proof.Machine.execRefLoad chan block s
  | .refDefault chan block => Sys2Proof.Machine.execRefDefault chan block s
  | .echo chan block => Sys2Proof.Machine.execEcho chan block s
  | .arrayReadDone chan die => Sys2Proof.Machine.execArrayReadDone chan die s
  | .fastProgramDone chan die steps unverified => Sys2Proof.Machine.execFastProgramDone chan die steps unverified s
  | .denseProgramDone chan die steps unverified => Sys2Proof.Machine.execDenseProgramDone chan die steps unverified s
  | .badBlockReceive chan discarded => Sys2Proof.Machine.execBadBlockReceive chan discarded s
  | .vmedLowDetect chan => Sys2Proof.Machine.execVmedLowDetect chan s
  | .readData chan header data => Sys2Proof.Machine.execReadData chan header data s
  | .completion chan header => Sys2Proof.Machine.execCompletion chan header s
  | .statusData chan header data => Sys2Proof.Machine.execStatusData chan header data s
  | .identData chan header data => Sys2Proof.Machine.execIdentData chan header data s
  | .echoData chan header data => Sys2Proof.Machine.execEchoData chan header data s
  | .errNotice chan header => Sys2Proof.Machine.execErrNotice chan header s
  | .badResponseReceive chan => Sys2Proof.Machine.execBadResponseReceive chan s
  | .statusPollTimeout chan => Sys2Proof.Machine.execStatusPollTimeout chan s
  | .commandResponseTimeout chan tag => Sys2Proof.Machine.execCommandResponseTimeout chan tag s
  | .linkCrcErrorLimit chan => Sys2Proof.Machine.execLinkCrcErrorLimit chan s
  | .blockLockLoss chan => Sys2Proof.Machine.execBlockLockLoss chan s
  | .detectTerminationSensed chan => Sys2Proof.Machine.execDetectTerminationSensed chan s
  | .bitLockAchieved chan => Sys2Proof.Machine.execBitLockAchieved chan s
  | .blockLockAchieved chan => Sys2Proof.Machine.execBlockLockAchieved chan s
  | .trainPresetsDone chan preset => Sys2Proof.Machine.execTrainPresetsDone chan preset s
  | .configTs2Matched chan => Sys2Proof.Machine.execConfigTs2Matched chan s
  | .recoveryDone chan => Sys2Proof.Machine.execRecoveryDone chan s
  | .trainingStateTimeout chan => Sys2Proof.Machine.execTrainingStateTimeout chan s
  | .packageTs0Receive chan => Sys2Proof.Machine.execPackageTs0Receive chan s
  | .unannouncedIdleTimeout chan => Sys2Proof.Machine.execUnannouncedIdleTimeout chan s
  | .lnkRetrain iface chan => Sys2Proof.Machine.execLnkRetrain iface chan s
  | .lnkDisable iface chan value => Sys2Proof.Machine.execLnkDisable iface chan value s
  | .lnkErrClear iface chan => Sys2Proof.Machine.execLnkErrClear iface chan s
  | .stageImage iface ld input => Sys2Proof.Machine.execStageImage iface ld input s
  | .imageChecksDone => Sys2Proof.Machine.execImageChecksDone s
  | .verify iface => Sys2Proof.Machine.execVerify iface s
  | .applyLive iface => Sys2Proof.Machine.execApplyLive iface s
  | .applyAtResume iface value => Sys2Proof.Machine.execApplyAtResume iface value s
  | .returnPrev iface => Sys2Proof.Machine.execReturnPrev iface s
  | .discardStaged iface => Sys2Proof.Machine.execDiscardStaged iface s
  | .imageControl iface ld input => Sys2Proof.Machine.execImageControl iface ld input s
  | .applyComparisonDone => Sys2Proof.Machine.execApplyComparisonDone s
  | .compartmentQuiet comp => Sys2Proof.Machine.execCompartmentQuiet comp s
  | .quietWaitExpire comp => Sys2Proof.Machine.execQuietWaitExpire comp s
  | .forcedHoldExpire comp => Sys2Proof.Machine.execForcedHoldExpire comp s
  | .switchDeadlineExpire comp => Sys2Proof.Machine.execSwitchDeadlineExpire comp s
  | .applyCommit => Sys2Proof.Machine.execApplyCommit s
  | .applyCommitDone => Sys2Proof.Machine.execApplyCommitDone s
  | .standImageResumeCheck => Sys2Proof.Machine.execStandImageResumeCheck s
  | .hostLinkTrained port link rate width => Sys2Proof.Machine.execHostLinkTrained port link rate width s
  | .ideIntegrityFail port link stream => Sys2Proof.Machine.execIdeIntegrityFail port link stream s
  | .ideKeyProgram port link stream key => Sys2Proof.Machine.execIdeKeyProgram port link stream key s
  | .cxlMemRead port ld tag hpa upsets => Sys2Proof.Machine.execCxlMemRead port ld tag hpa upsets s
  | .cxlMemWrite port ld tag hpa data upsets => Sys2Proof.Machine.execCxlMemWrite port ld tag hpa data upsets s
  | .cxlMemPartialWrite port ld tag hpa data enables upsets => Sys2Proof.Machine.execCxlMemPartialWrite port ld tag hpa data enables upsets s
  | .memSpecRd port ld tag hpa => Sys2Proof.Machine.execMemSpecRd port ld tag hpa s
  | .globalPersistentFlush port phase => Sys2Proof.Machine.execGlobalPersistentFlush port phase s
  | .configRequest port ld offset write value => Sys2Proof.Machine.execConfigRequest port ld offset write value s
  | .cdatRead port ld handle => Sys2Proof.Machine.execCdatRead port ld handle s
  | .spdmRequest port ld request => Sys2Proof.Machine.execSpdmRequest port ld request s
  | .getEventRecords iface ld log => Sys2Proof.Machine.execGetEventRecords iface ld log s
  | .clearEventRecords iface ld log all handles => Sys2Proof.Machine.execClearEventRecords iface ld log all handles s
  | .getEventInterruptPolicy iface ld => Sys2Proof.Machine.execGetEventInterruptPolicy iface ld s
  | .setEventInterruptPolicy iface ld vectors => Sys2Proof.Machine.execSetEventInterruptPolicy iface ld vectors s
  | .getFwInfo iface ld => Sys2Proof.Machine.execGetFwInfo iface ld s
  | .transferFw iface ld action slot offset data => Sys2Proof.Machine.execTransferFw iface ld action slot offset data s
  | .activateFw iface ld online slot => Sys2Proof.Machine.execActivateFw iface ld online slot s
  | .getTimestamp iface ld => Sys2Proof.Machine.execGetTimestamp iface ld s
  | .setTimestamp iface ld value => Sys2Proof.Machine.execSetTimestamp iface ld value s
  | .getSupportedLogs iface ld => Sys2Proof.Machine.execGetSupportedLogs iface ld s
  | .getLog iface ld log => Sys2Proof.Machine.execGetLog iface ld log s
  | .identifyMemoryDevice iface ld => Sys2Proof.Machine.execIdentifyMemoryDevice iface ld s
  | .getPartitionInfo iface ld => Sys2Proof.Machine.execGetPartitionInfo iface ld s
  | .getLsa iface ld offset length => Sys2Proof.Machine.execGetLsa iface ld offset length s
  | .setLsa iface ld offset data => Sys2Proof.Machine.execSetLsa iface ld offset data s
  | .getHealthInfo iface ld => Sys2Proof.Machine.execGetHealthInfo iface ld s
  | .getAlertConfig iface ld => Sys2Proof.Machine.execGetAlertConfig iface ld s
  | .setAlertConfig iface ld spare => Sys2Proof.Machine.execSetAlertConfig iface ld spare s
  | .getShutdownState iface ld => Sys2Proof.Machine.execGetShutdownState iface ld s
  | .setShutdownState iface ld dirty => Sys2Proof.Machine.execSetShutdownState iface ld dirty s
  | .getPoisonList iface ld dpa length => Sys2Proof.Machine.execGetPoisonList iface ld dpa length s
  | .injectPoison iface ld dpa => Sys2Proof.Machine.execInjectPoison iface ld dpa s
  | .clearPoison iface ld dpa data => Sys2Proof.Machine.execClearPoison iface ld dpa data s
  | .getScanMediaCapabilities iface ld dpa length => Sys2Proof.Machine.execGetScanMediaCapabilities iface ld dpa length s
  | .scanMedia iface ld dpa length => Sys2Proof.Machine.execScanMedia iface ld dpa length s
  | .getScanMediaResults iface ld => Sys2Proof.Machine.execGetScanMediaResults iface ld s
  | .sanitize iface ld => Sys2Proof.Machine.execSanitize iface ld s
  | .secureErase iface ld => Sys2Proof.Machine.execSecureErase iface ld s
  | .unsupportedCommand iface ld opcode => Sys2Proof.Machine.execUnsupportedCommand iface ld opcode s
  | .getLdInfo port link => Sys2Proof.Machine.execGetLdInfo port link s
  | .getLdAllocations port link input => Sys2Proof.Machine.execGetLdAllocations port link input s
  | .setLdAllocations port link input => Sys2Proof.Machine.execSetLdAllocations port link input s
  | .createQueuePair iface ld input => Sys2Proof.Machine.execCreateQueuePair iface ld input s
  | .deleteQueuePair iface ld input => Sys2Proof.Machine.execDeleteQueuePair iface ld input s
  | .getQueuePairStatus iface ld input => Sys2Proof.Machine.execGetQueuePairStatus iface ld input s
  | .sqTailDoorbell port ld queue value => Sys2Proof.Machine.execSqTailDoorbell port ld queue value s
  | .cqHeadDoorbell port ld queue value => Sys2Proof.Machine.execCqHeadDoorbell port ld queue value s
  | .descriptorFetchDone queue bytes ok => Sys2Proof.Machine.execDescriptorFetchDone queue bytes ok s
  | .copy queue desc srcUpsets upsets => Sys2Proof.Machine.execCopy queue desc srcUpsets upsets s
  | .fill queue desc upsets => Sys2Proof.Machine.execFill queue desc upsets s
  | .clear queue desc => Sys2Proof.Machine.execClear queue desc s
  | .discard queue desc => Sys2Proof.Machine.execDiscard queue desc s
  | .queueCompletionPost queue desc => Sys2Proof.Machine.execQueueCompletionPost queue desc s
  | .perstAssert port => Sys2Proof.Machine.execPerstAssert port s
  | .hotReset port link => Sys2Proof.Machine.execHotReset port link s
  | .hostLinkDown port link => Sys2Proof.Machine.execHostLinkDown port link s
  | .functionLevelReset port ld => Sys2Proof.Machine.execFunctionLevelReset port ld s
  | .cxlReset port ld => Sys2Proof.Machine.execCxlReset port ld s
  | .hptWfailClear iface port => Sys2Proof.Machine.execHptWfailClear iface port s
  | .hptRdlatClear iface port => Sys2Proof.Machine.execHptRdlatClear iface port s
  | .hptLtClear iface port => Sys2Proof.Machine.execHptLtClear iface port s
  | .readPatienceExpire req => Sys2Proof.Machine.execReadPatienceExpire req s
  | .yieldWindowEnd tile => Sys2Proof.Machine.execYieldWindowEnd tile s
  | .levelTimingRelease req late => Sys2Proof.Machine.execLevelTimingRelease req late s
  | .writeAdmitResume tile => Sys2Proof.Machine.execWriteAdmitResume tile s
  | .lingerExpire tile line => Sys2Proof.Machine.execLingerExpire tile line s
  | .destageLeaf tile upsets => Sys2Proof.Machine.execDestageLeaf tile upsets s
  | .lineStripeFillTimeout tile => Sys2Proof.Machine.execLineStripeFillTimeout tile s
  | .leafSwitch tile leaf => Sys2Proof.Machine.execLeafSwitch tile leaf s
  | .stemCopyStart tile => Sys2Proof.Machine.execStemCopyStart tile s
  | .sheetReadback tile stem => Sys2Proof.Machine.execSheetReadback tile stem s
  | .stemSwitch tile stem => Sys2Proof.Machine.execStemSwitch tile stem s
  | .stemCopyAbandon tile stem => Sys2Proof.Machine.execStemCopyAbandon tile stem s
  | .refreshDue tile stem => Sys2Proof.Machine.execRefreshDue tile stem s
  | .vinWarn mv => Sys2Proof.Machine.execVinWarn mv s
  | .vinCommit mv => Sys2Proof.Machine.execVinCommit mv s
  | .flushDone unsealed => Sys2Proof.Machine.execFlushDone unsealed s
  | .vinValid mv => Sys2Proof.Machine.execVinValid mv s
  | .vinOff mv => Sys2Proof.Machine.execVinOff mv s
  | .commitOffTimeout => Sys2Proof.Machine.execCommitOffTimeout s
  | .litterReplay tile badGroups badLines => Sys2Proof.Machine.execLitterReplay tile badGroups badLines s
  | .censusEnd tile => Sys2Proof.Machine.execCensusEnd tile s
  | .filterRebuildDone tile => Sys2Proof.Machine.execFilterRebuildDone tile s
  | .stemMapResident tile => Sys2Proof.Machine.execStemMapResident tile s
  | .wearLevelTick tile => Sys2Proof.Machine.execWearLevelTick tile s
  | .retire iface ld input => Sys2Proof.Machine.execRetire iface ld input s
  | .retireDone => Sys2Proof.Machine.execRetireDone s
  | .getHealthReport iface ld => Sys2Proof.Machine.execGetHealthReport iface ld s
  | .getMediaErrorRecords iface ld input => Sys2Proof.Machine.execGetMediaErrorRecords iface ld input s
  | .scrubLineStripe tile => Sys2Proof.Machine.execScrubLineStripe tile s
  | .scrubPositionPersist tile => Sys2Proof.Machine.execScrubPositionPersist tile s
  | .sramClear iface tile => Sys2Proof.Machine.execSramClear iface tile s
  | .checkerOpen iface tile => Sys2Proof.Machine.execCheckerOpen iface tile s
  | .checkerClose iface tile => Sys2Proof.Machine.execCheckerClose iface tile s
  | .checkerWrite iface tile => Sys2Proof.Machine.execCheckerWrite iface tile s
  | .checkerRead iface tile => Sys2Proof.Machine.execCheckerRead iface tile s
  | .checkerOpDone tile => Sys2Proof.Machine.execCheckerOpDone tile s
  | .clean iface tile => Sys2Proof.Machine.execClean iface tile s
  | .invalidate iface tile => Sys2Proof.Machine.execInvalidate iface tile s
  | .cleanAndInvalidate iface tile => Sys2Proof.Machine.execCleanAndInvalidate iface tile s
  | .lock iface tile => Sys2Proof.Machine.execLock iface tile s
  | .unlock iface tile => Sys2Proof.Machine.execUnlock iface tile s
  | .rangeOpDone tile => Sys2Proof.Machine.execRangeOpDone tile s
  | .createKeySlot iface ld input => Sys2Proof.Machine.execCreateKeySlot iface ld input s
  | .destroyKeySlot iface ld input => Sys2Proof.Machine.execDestroyKeySlot iface ld input s
  | .getKeySlotInfo iface ld input => Sys2Proof.Machine.execGetKeySlotInfo iface ld input s
  | .keyUnwrapDone tile key => Sys2Proof.Machine.execKeyUnwrapDone tile key s
  | .reroot iface value => Sys2Proof.Machine.execReroot iface value s
  | .rerootDone tile => Sys2Proof.Machine.execRerootDone tile s
  | .taprootAccept => Sys2Proof.Machine.execTaprootAccept s
  | .sealedSetSave => Sys2Proof.Machine.execSealedSetSave s
  | .startRekey iface ld input => Sys2Proof.Machine.execStartRekey iface ld input s
  | .rekeyLine tile slot upsets => Sys2Proof.Machine.execRekeyLine tile slot upsets s
  | .rekeyEnd slot => Sys2Proof.Machine.execRekeyEnd slot s
  | .submitWarrant iface ld input => Sys2Proof.Machine.execSubmitWarrant iface ld input s
  | .warrantLapse iface => Sys2Proof.Machine.execWarrantLapse iface s
  | .qosWindowEnd tile => Sys2Proof.Machine.execQosWindowEnd tile s
  | .mediaIssue chan => Sys2Proof.Machine.execMediaIssue chan s
  | .shortfallSpanEnd tile => Sys2Proof.Machine.execShortfallSpanEnd tile s
  | .gladeSecond => Sys2Proof.Machine.execGladeSecond s
  | .fineTimeResync => Sys2Proof.Machine.execFineTimeResync s
  | .traceStart iface value => Sys2Proof.Machine.execTraceStart iface value s
  | .traceStop iface => Sys2Proof.Machine.execTraceStop iface s
  | .traceDataRead iface => Sys2Proof.Machine.execTraceDataRead iface s
  | .eventFifoTake => Sys2Proof.Machine.execEventFifoTake s
  | .evfData0Read => Sys2Proof.Machine.execEvfData0Read s
  | .fineLoRead iface => Sys2Proof.Machine.execFineLoRead iface s
  | .logRecordWriteDone => Sys2Proof.Machine.execLogRecordWriteDone s
  | .logSectorEraseDone => Sys2Proof.Machine.execLogSectorEraseDone s
  | .logQueueGapWrite => Sys2Proof.Machine.execLogQueueGapWrite s
  | .rateWindowEnd code => Sys2Proof.Machine.execRateWindowEnd code s
  | .logFreeze iface => Sys2Proof.Machine.execLogFreeze iface s
  | .logThaw iface => Sys2Proof.Machine.execLogThaw iface s
  | .freezeLimitExpire => Sys2Proof.Machine.execFreezeLimitExpire s
  | .readRingLog iface ld input => Sys2Proof.Machine.execReadRingLog iface ld input s
  | .wardenWatchdogExpire => Sys2Proof.Machine.execWardenWatchdogExpire s
  | .watchdogKick core => Sys2Proof.Machine.execWatchdogKick core s
  | .seedbankWindowRead iface offset => Sys2Proof.Machine.execSeedbankWindowRead iface offset s
  | .processorReady core measured => Sys2Proof.Machine.execProcessorReady core measured s
  | .stewardReadyTimeout tile => Sys2Proof.Machine.execStewardReadyTimeout tile s
  | .fwTrialEnd => Sys2Proof.Machine.execFwTrialEnd s
  | .irqSourceEdge source => Sys2Proof.Machine.execIrqSourceEdge source s
  | .irqClaim target => Sys2Proof.Machine.execIrqClaim target s
  | .irqDone target source => Sys2Proof.Machine.execIrqDone target source s
  | .irqHoldExpire target => Sys2Proof.Machine.execIrqHoldExpire target s
  | .psRead iface key length => Sys2Proof.Machine.execPsRead iface key length s
  | .psWrite iface key length => Sys2Proof.Machine.execPsWrite iface key length s
  | .psDelete iface key length => Sys2Proof.Machine.execPsDelete iface key length s
  | .psShadow iface => Sys2Proof.Machine.execPsShadow iface s
  | .psWriteDone ok => Sys2Proof.Machine.execPsWriteDone ok s
  | .psCompact => Sys2Proof.Machine.execPsCompact s
  | .usb4Connect => Sys2Proof.Machine.execUsb4Connect s
  | .usb4Disconnect => Sys2Proof.Machine.execUsb4Disconnect s
  | .registerRead iface address count => Sys2Proof.Machine.execRegisterRead iface address count s
  | .registerWrite iface address values => Sys2Proof.Machine.execRegisterWrite iface address values s
  | .storeRead iface key => Sys2Proof.Machine.execStoreRead iface key s
  | .storeWrite iface key value => Sys2Proof.Machine.execStoreWrite iface key value s
  | .attestationReport iface ld secured nonce => Sys2Proof.Machine.execAttestationReport iface ld secured nonce s
  | .lineRead iface dpa upsets => Sys2Proof.Machine.execLineRead iface dpa upsets s
  | .lineWrite iface dpa enables data upsets => Sys2Proof.Machine.execLineWrite iface dpa enables data upsets s
  | .structureRead iface group die grove line member => Sys2Proof.Machine.execStructureRead iface group die grove line member s
  | .coreHalt iface core => Sys2Proof.Machine.execCoreHalt iface core s
  | .coreStep iface core upset => Sys2Proof.Machine.execCoreStep iface core upset s
  | .coreResume iface core => Sys2Proof.Machine.execCoreResume iface core s
  | .coreMemoryRead iface core address count upset => Sys2Proof.Machine.execCoreMemoryRead iface core address count upset s
  | .idcode => Sys2Proof.Machine.execIdcode s
  | .samplePreload bits => Sys2Proof.Machine.execSamplePreload bits s
  | .extest bits => Sys2Proof.Machine.execExtest bits s
  | .highz => Sys2Proof.Machine.execHighz s
  | .clamp => Sys2Proof.Machine.execClamp s
  | .dbgmsg => Sys2Proof.Machine.execDbgmsg s
  | .tapWarrant input => Sys2Proof.Machine.execTapWarrant input s
  | .bypass code => Sys2Proof.Machine.execBypass code s
  | .tapReset => Sys2Proof.Machine.execTapReset s
  | .enec events => Sys2Proof.Machine.execEnec events s
  | .disec events => Sys2Proof.Machine.execDisec events s
  | .rstdaa => Sys2Proof.Machine.execRstdaa s
  | .entdaa addr => Sys2Proof.Machine.execEntdaa addr s
  | .setmwl length => Sys2Proof.Machine.execSetmwl length s
  | .setmrl length => Sys2Proof.Machine.execSetmrl length s
  | .rstact => Sys2Proof.Machine.execRstact s
  | .getpid => Sys2Proof.Machine.execGetpid s
  | .getbcr => Sys2Proof.Machine.execGetbcr s
  | .getdcr => Sys2Proof.Machine.execGetdcr s
  | .getstatus => Sys2Proof.Machine.execGetstatus s
  | .getmwl => Sys2Proof.Machine.execGetmwl s
  | .getmrl => Sys2Proof.Machine.execGetmrl s
  | .unsupportedCcc code => Sys2Proof.Machine.execUnsupportedCcc code s
  | .sidebandPrivateRead => Sys2Proof.Machine.execSidebandPrivateRead s
  | .ident => Sys2Proof.Machine.execIdent s
  | .health offset length => Sys2Proof.Machine.execHealth offset length s
  | .regRead address => Sys2Proof.Machine.execRegRead address s
  | .logRead input => Sys2Proof.Machine.execLogRead input s
  | .paramRead key => Sys2Proof.Machine.execParamRead key s
  | .paramWrite key value => Sys2Proof.Machine.execParamWrite key value s
  | .reset scope => Sys2Proof.Machine.execReset scope s
  | .warrant input => Sys2Proof.Machine.execWarrant input s
  | .lRead address length => Sys2Proof.Machine.execLRead address length s
  | .lWrite address value => Sys2Proof.Machine.execLWrite address value s
  | .lUnlock password => Sys2Proof.Machine.execLUnlock password s
  | .lLock => Sys2Proof.Machine.execLLock s
  | .lSetpw oldpw newpw => Sys2Proof.Machine.execLSetpw oldpw newpw s
  | .pgChange rail good => Sys2Proof.Machine.execPgChange rail good s
  | .dependencyEnable rail => Sys2Proof.Machine.execDependencyEnable rail s
  | .stepEnable => Sys2Proof.Machine.execStepEnable s
  | .stepDisable => Sys2Proof.Machine.execStepDisable s
  | .stepWait => Sys2Proof.Machine.execStepWait s
  | .stepCheck => Sys2Proof.Machine.execStepCheck s
  | .stepJump => Sys2Proof.Machine.execStepJump s
  | .stepSafe => Sys2Proof.Machine.execStepSafe s
  | .stepSync => Sys2Proof.Machine.execStepSync s
  | .stepEnd => Sys2Proof.Machine.execStepEnd s
  | .stepWaitExpire => Sys2Proof.Machine.execStepWaitExpire s
  | .seqsyncHigh => Sys2Proof.Machine.execSeqsyncHigh s
  | .railOnDone rail => Sys2Proof.Machine.execRailOnDone rail s
  | .railOffDone rail => Sys2Proof.Machine.execRailOffDone rail s
  | .onTimeoutExpire rail => Sys2Proof.Machine.execOnTimeoutExpire rail s
  | .checkTimeoutExpire => Sys2Proof.Machine.execCheckTimeoutExpire s
  | .syncTimeoutExpire => Sys2Proof.Machine.execSyncTimeoutExpire s
  | .dischargeTimeout rail => Sys2Proof.Machine.execDischargeTimeout rail s
  | .pgChatter rail => Sys2Proof.Machine.execPgChatter rail s
  | .minOffTimeEnd => Sys2Proof.Machine.execMinOffTimeEnd s
  | .pbtnPress => Sys2Proof.Machine.execPbtnPress s
  | .pbtnRelease => Sys2Proof.Machine.execPbtnRelease s
  | .pbtnHold8s => Sys2Proof.Machine.execPbtnHold8s s
  | .pbtnHold15s => Sys2Proof.Machine.execPbtnHold15s s
  | .mrstAssert => Sys2Proof.Machine.execMrstAssert s
  | .rstAssert => Sys2Proof.Machine.execRstAssert s
  | .coldReset => Sys2Proof.Machine.execColdReset s
  | .warmReset failed => Sys2Proof.Machine.execWarmReset failed s
  | .resetPinRelease pin => Sys2Proof.Machine.execResetPinRelease pin s
  | .trimLoadDone => Sys2Proof.Machine.execTrimLoadDone s
  | .clockGateRelease domain => Sys2Proof.Machine.execClockGateRelease domain s
  | .clockFail domain => Sys2Proof.Machine.execClockFail domain s
  | .oscillatorRestartDone stable => Sys2Proof.Machine.execOscillatorRestartDone stable s
  | .gladeReset => Sys2Proof.Machine.execGladeReset s
  | .rstWarm iface => Sys2Proof.Machine.execRstWarm iface s
  | .rstCold iface => Sys2Proof.Machine.execRstCold iface s
  | .rstTile iface tile => Sys2Proof.Machine.execRstTile iface tile s
  | .rstHostPort iface port => Sys2Proof.Machine.execRstHostPort iface port s
  | .rstPowerOff iface => Sys2Proof.Machine.execRstPowerOff iface s
  | .rstPowerCycle iface => Sys2Proof.Machine.execRstPowerCycle iface s
  | .seqFaultClear iface => Sys2Proof.Machine.execSeqFaultClear iface s
  | .seqVinClear iface => Sys2Proof.Machine.execSeqVinClear iface s
  | .tileIdleT1 tile => Sys2Proof.Machine.execTileIdleT1 tile s
  | .tileIdleT2 tile => Sys2Proof.Machine.execTileIdleT2 tile s
  | .tileIdleT3 tile => Sys2Proof.Machine.execTileIdleT3 tile s
  | .tileSleepEntryDone tile => Sys2Proof.Machine.execTileSleepEntryDone tile s
  | .tileWake tile => Sys2Proof.Machine.execTileWake tile s
  | .tileWakeDone tile => Sys2Proof.Machine.execTileWakeDone tile s
  | .p1Enter => Sys2Proof.Machine.execP1Enter s
  | .p2Enter => Sys2Proof.Machine.execP2Enter s
  | .p2Exit => Sys2Proof.Machine.execP2Exit s
  | .thermalSample sensor temp => Sys2Proof.Machine.execThermalSample sensor temp s
  | .thermalRestart => Sys2Proof.Machine.execThermalRestart s
  | .thermalHistorySave => Sys2Proof.Machine.execThermalHistorySave s
  | .pmcEvenRead iface block index => Sys2Proof.Machine.execPmcEvenRead iface block index s
  | .pmcSelWrite iface block index value => Sys2Proof.Machine.execPmcSelWrite iface block index value s
  | .pmcFiltWrite iface block index value => Sys2Proof.Machine.execPmcFiltWrite iface block index value s
  | .readCounters iface ld input => Sys2Proof.Machine.execReadCounters iface ld input s
  | .managementRegisterWrite iface address value => Sys2Proof.Machine.execManagementRegisterWrite iface address value s
  | .wardenLockup => Sys2Proof.Machine.execWardenLockup s
  | .vgladeFirstPresent => Sys2Proof.Machine.execVgladeFirstPresent s
  | .programAbortDone chan die => Sys2Proof.Machine.execProgramAbortDone chan die s
  | .hostLinkL1Entry port link => Sys2Proof.Machine.execHostLinkL1Entry port link s
  | .psSectorEraseDone ok => Sys2Proof.Machine.execPsSectorEraseDone ok s

end Sys2Proof.Machine
end

