-- ==== Sys2Proof/Machine/Tick.lean ====
section
/-! DEFINITION. One cycle of the fabric clock, which an empty queue leaves to pass: the fine time (13, R405, R406) and the cycles and slot classes of the counters (17, R516, R520, R521). -/
namespace Sys2Proof.Machine

/-- The fabric clock, or the warden clock that counts for it in P2, runs (R405, R482). -/
def State.fabricRuns (s : State) : Bool :=
  (s.rf F.SEQ_STAT_phase == 2 || s.rf F.SEQ_STAT_phase == 3) && !s.clocks.held.contains 2 && !s.clocks.oscFailed
/-- A tile's copy over k ns of the hub's count: stopped in T2 and T3; one that is ahead holds (R406). -/
def Tile.copyTick (k : Nat) (x : Tile) : Tile :=
  if 2 ≤ x.depth then { x with fineOff := x.fineOff - k }
  else if 0 < x.fineOff then { x with fineOff := max 0 (x.fineOff - k) } else x
/-- The commands that wait at a tile's scheduler, with their channels; dense programs that a yield, a brace or a throttle withholds are not waiting (R516). -/
def State.waitingOn (s : State) (t : Nat) : List (Nat × MCmd) :=
  let all : List (Nat × MCmd) := ((s.chans.filter (fun p => tileOfChan p.1 == t)).map (fun p => p.2.waiting.map (fun m => (p.1, m)))).flatten
  all.filter (fun p => !s.withheld p.1 p.2)
/-- The event of a slot starved at the back: dies busy, tags or die queues full, media line slots spent, else the lane (log 16). -/
def State.backEvent (s : State) (l : List (Nat × MCmd)) : Nat :=
  if l.all (fun p => arrayOp p.2.cmd.op && !(s.chan p.1).dieReady p.2.cmd.die) then 26
  else if l.all (fun p => (s.chan p.1).freeTag.isNone || decide (5 ≤ ((s.chan p.1).outOn p.2.cmd.die).length)) then 28
  else if l.all (fun p => p.2.slot && decide (s.chanSlots p.1 ≤ tgetD (s.tile (tileOfChan p.1)).qos.chanUsed p.1 0)) then 29
  else 27
/-- A scheduler cycle of a tile in T0 (R516): the slots no command took are starved at the front or at the back. -/
def State.tileCycle (s : State) (t : Nat) : State :=
  let x := s.tile t
  if x.depth ≠ 0 ∨ x.held then s
  else
    let used := min 4 x.slots
    let s := (s.countTile t 0).modTile t (fun y => { y with slots := x.slots - used })
    let l := s.waitingOn t
    if l.isEmpty then s.countTile t 3 [] (4 - used)
    else (s.countTile t 4 [] (4 - used)).countTile t (s.backEvent l) [] (4 - used)
/-- The fine time advances by k, with the tiles' copies. -/
def State.advance (s : State) (k : Nat) : State :=
  { s with fine := (s.fine + k) % 2 ^ 64, tiles := s.tiles.map (Tile.copyTick k) }
/-- A cycle in which no command arrives: 1 ns, or 10 ns in P2 (R405). -/
def State.tick (s : State) : State :=
  if !s.fabricRuns then s
  else if s.power.pstate = 2 then (s.advance 10).countHub 50
  else (each s.tileList (s.advance 1) State.tileCycle).countHub 0

end Sys2Proof.Machine
end

