-- ==== Sys2Proof/Safety.lean ====
section
/-! DEFINITION. What every step keeps: the canonical form of the register file, the bounds of the queues the spec sizes, what is only ever added to, and fuses that only burn. -/
namespace Sys2Proof.Machine

/-- The register file in its canonical form: addresses strictly rising, and no entry equal to the cold reset value its address reads without one, so that equal register files are equal lists. -/
abbrev regsOk (l : List (Nat × Word)) : Prop := l.Pairwise (fun p q => p.1 < q.1) ∧ ∀ p ∈ l, p.2 ≠ coldValue p.1
abbrev State.regsCanonical (s : State) : Prop := regsOk s.regs

/-- The event FIFO holds at most its 1,024 entries (R414), the Glade buffer its 256 records (R426), the media error list its 65,536 records (R289). -/
abbrev State.bounded (s : State) : Prop := s.evfLevel ≤ 1024 ∧ s.glade.buffer.length ≤ 256 ∧ s.errs.length ≤ 65536

/-- Fuses only burn (R367, R368, R437): burned banks, storage generation and security floor do not fall, and a decommissioned part stays so. -/
abbrev fusesLe (a b : State) : Prop :=
  a.bankCount ≤ b.bankCount ∧ a.storageGen ≤ b.storageGen ∧ a.fwFloor ≤ b.fwFloor ∧ (burned a.fuses.decom = true → burned b.fuses.decom = true)

/-- What is permanent: the heartwood's slots (R420) and the deadwood list (R257) only grow at their end, the spare base stays (R242), read-only is not left (R250). -/
abbrev permanent (a b : State) : Prop :=
  a.log.heart <+: b.log.heart ∧ a.deadwood <+: b.deadwood ∧ b.spareBase = a.spareBase ∧ (a.readOnly = true → b.readOnly = true)

end Sys2Proof.Machine
end

