-- ==== Sys2Proof/Certificates/Slice0/Obligations.lean ====
section
/-! DEFINITION. The statements for the provers: what the commands do, what every step keeps, what reset leaves. -/
open Sys2Proof Sys2Proof.Machine

/-- Mailbox queries answer with their payload and leave nothing else changed (R139, R141, R128, R140, R259, R453). -/
def Obligations.MailboxQueriesAnswer : Prop :=
  ∀ (s : State) (iface ld log offset length : Nat), s.hears iface ld = true →
    let h := s.heard iface
    let say (op : Nat) (code : Ret) (b : Bytes) : Host.Outcome State Fault Refusal := .next (if carries iface op then h.reply iface ld op code b else h.reply iface ld op .unsupported [])
    (log < 4 → exec (.getEventRecords iface ld log) s = say 0x0100 .success
      (le 1 (b2n (h.cxlLog iface ld log).overflow) ++ le 2 (h.cxlLog iface ld log).dropped ++ le 8 (h.cxlLog iface ld log).firstOver ++ le 8 (h.cxlLog iface ld log).lastOver ++ le 2 (h.cxlLog iface ld log).recs.length ++
        ((h.cxlLog iface ld log).recs.map (h.recBytes iface)).flatten)) ∧
    (4 ≤ log → exec (.getEventRecords iface ld log) s = say 0x0100 .invalidInput []) ∧
    exec (.getEventInterruptPolicy iface ld) s = say 0x0102 .success (((upto 4).map (fun i => le 2 ((h.cxlLog iface ld i).vector.getD noVector))).flatten) ∧
    exec (.getFwInfo iface ld) s = say 0x0200 .success (le 1 2 ++ le 1 (h.rf F.WDN_FW_STAT_active_slot) ++ le 1 ((h.fw.marked.map (· + 1)).getD 0) ++
      ((h.fwSlot 0).map (fun b => fit 16 (slice b 0x48 16))).getD (zeros 16) ++ ((h.fwSlot 1).map (fun b => fit 16 (slice b 0x48 16))).getD (zeros 16)) ∧
    exec (.getTimestamp iface ld) s = say 0x0300 .success
      (le 8 (h.ldTime iface ld h.fine)) ∧
    exec (.getSupportedLogs iface ld) s = say 0x0400 .success (le 2 1 ++ le 4 celBytes.length) ∧
    (log = 0 → exec (.getLog iface ld log) s = say 0x0401 .success celBytes) ∧
    (log ≠ 0 → exec (.getLog iface ld log) s = say 0x0401 .invalidInput []) ∧
    exec (.identifyMemoryDevice iface ld) s = say 0x4000 .success
      (le 8 (h.ldCapacity iface ld) ++ le 8 0 ++ le 8 (h.ldCapacity iface ld) ++ le 4 lsaSize ++ le 4 65536) ∧
    exec (.getPartitionInfo iface ld) s = say 0x4100 .success (le 8 0 ++ le 8 (h.ldCapacity iface ld)) ∧
    (offset + length ≤ lsaSize → exec (.getLsa iface ld offset length) s = say 0x4102 .success
      ((upto length).map (fun i => tgetD (h.ld iface ld).lsa (offset + i) 0#8))) ∧
    (lsaSize < offset + length → exec (.getLsa iface ld offset length) s = say 0x4102 .invalidInput []) ∧
    exec (.getHealthInfo iface ld) s = say 0x4200 .success
      (le 1 (b2n (decide (1 ≤ h.spareState)) + 4 * b2n (decide (2 ≤ h.spareState))) ++ le 1 h.lifeUsed ++ le 4 h.health.dirtyShutdowns ++
        le 1 (b2n (decide (h.spareLeft < (h.ld iface ld).spareAlert)))) ∧
    exec (.getAlertConfig iface ld) s = say 0x4201 .success (le 1 (h.ld iface ld).spareAlert) ∧
    exec (.getShutdownState iface ld) s = say 0x4203 .success (le 1 (b2n (h.ld iface ld).dirty))

/-- Mailbox settings change what they name, or are refused for their operand (R139, R140, R141, R259, R453). -/
def Obligations.MailboxSettingsTakeEffect : Prop :=
  ∀ (s : State) (iface ld log offset spare value : Nat) (handles vectors : List Nat) (data : Bytes) (dirty : Bool), s.hears iface ld = true →
    let h := s.heard iface
    let l := h.cxlLog iface ld log
    let done (op : Nat) (t : State) : Host.Outcome State Fault Refusal := .next (if carries iface op then t.reply iface ld op .success [] else h.reply iface ld op .unsupported [])
    let no (op : Nat) (code : Ret) : Host.Outcome State Fault Refusal := .next (if carries iface op then h.reply iface ld op code [] else h.reply iface ld op .unsupported [])
    let bad (v : Nat) : Prop := 2048 ≤ v ∧ v ≠ noVector
    (log < 4 → exec (.clearEventRecords iface ld log true handles) s =
      done 0x0101 (h.putCxlLog iface ld log { l with recs := [], overflow := false, dropped := 0, firstOver := 0, lastOver := 0 })) ∧
    (log < 4 ∧ (∀ x ∈ handles, ∃ r ∈ l.recs, r.handle = x) → exec (.clearEventRecords iface ld log false handles) s =
      done 0x0101 (h.putCxlLog iface ld log { l with recs := l.recs.filter (fun r => !handles.contains r.handle), overflow := false, dropped := 0, firstOver := 0, lastOver := 0 })) ∧
    (log < 4 ∧ (∃ x ∈ handles, ∀ r ∈ l.recs, r.handle ≠ x) → exec (.clearEventRecords iface ld log false handles) s = no 0x0101 .invalidHandle) ∧
    (4 ≤ log → ∀ all, exec (.clearEventRecords iface ld log all handles) s = no 0x0101 .invalidInput) ∧
    (vectors.length = 4 ∧ (∀ v ∈ vectors, ¬bad v) → exec (.setEventInterruptPolicy iface ld vectors) s =
      done 0x0103 (each (upto 4) h (fun t i => t.putCxlLog iface ld i { t.cxlLog iface ld i with vector := if vectors.getD i 0 = noVector then none else some (vectors.getD i 0) }))) ∧
    (vectors.length ≠ 4 ∨ (∃ v ∈ vectors, bad v) → exec (.setEventInterruptPolicy iface ld vectors) s = no 0x0103 .invalidInput) ∧
    exec (.setTimestamp iface ld value) s = done 0x0301 (h.modLd iface ld (fun d => { d with timestamp := value, tsFine := h.fine })) ∧
    (¬(iface < 4 ∧ mailboxSize < 8 + data.length) ∧ offset + data.length ≤ lsaSize → exec (.setLsa iface ld offset data) s =
      done 0x4103 (h.modLd iface ld (fun d => { d with lsa := each (upto data.length) d.lsa (fun t i => tput t (offset + i) (data.getD i 0#8)) }))) ∧
    (iface < 4 ∧ mailboxSize < 8 + data.length → exec (.setLsa iface ld offset data) s = no 0x4103 .invalidLength) ∧
    (¬(iface < 4 ∧ mailboxSize < 8 + data.length) ∧ lsaSize < offset + data.length → exec (.setLsa iface ld offset data) s = no 0x4103 .invalidInput) ∧
    (spare ≤ 100 → exec (.setAlertConfig iface ld spare) s = done 0x4202 (h.modLd iface ld (fun d => { d with spareAlert := spare }))) ∧
    (100 < spare → exec (.setAlertConfig iface ld spare) s = no 0x4202 .invalidInput) ∧
    exec (.setShutdownState iface ld dirty) s = done 0x4204 (h.modLd iface ld (fun d => { d with dirty := dirty }))

/-- SANITIZE, SECURE_ERASE and opcodes outside the tables are answered Unsupported (R141). -/
def Obligations.UnsupportedCommandsAnswerUnsupported : Prop :=
  ∀ (s : State) (iface ld opcode : Nat), s.hears iface ld = true →
    exec (.sanitize iface ld) s = .next ((s.heard iface).reply iface ld 0x4400 .unsupported []) ∧
    exec (.secureErase iface ld) s = .next ((s.heard iface).reply iface ld 0x4401 .unsupported []) ∧
    ((∀ p ∈ supported, p.1 ≠ opcode) → exec (.unsupportedCommand iface ld opcode) s = .next ((s.heard iface).reply iface ld opcode .unsupported [])) ∧
    ((∃ p ∈ supported, p.1 = opcode) → exec (.unsupportedCommand iface ld opcode) s = .next s)

/-- The FM API shows the logical devices and takes no allocation (R127, R133). -/
def Obligations.FmApiCommandsAnswer : Prop :=
  ∀ (s : State) (port link : Nat) (input : Bytes),
    let lds := if s.single port link then [8 * link] else if s.rb (F.HPT_LINK_bif port) then (upto 8).map (fun k => k + 8 * link) else upto 16
    (s.linkExists port link = true →
      exec (.getLdInfo port link) s = .next ((s.fmApi port).reply port (fmLd link) 0x5400 .success (le 2 lds.length ++ le 8 ((lds.map (s.ldCapacity port)) : List Nat).sum)) ∧
      exec (.getLdAllocations port link input) s =
        .next ((s.fmApi port).reply port (fmLd link) 0x5401 .success ((lds.map (fun ld => le 1 (s.ldId port ld) ++ le 8 (s.ldCapacity port ld))).flatten)) ∧
      exec (.setLdAllocations port link input) s = .next ((s.fmApi port).reply port (fmLd link) 0x5402 .unsupported [])) ∧
    (s.linkExists port link = false →
      exec (.getLdInfo port link) s = .next s ∧ exec (.getLdAllocations port link input) s = .next s ∧ exec (.setLdAllocations port link input) s = .next s)

/-- Poison and scan commands: list, inject, clear, scan (R131, R141, R288, R294, R453). -/
def Obligations.PoisonAndScanCommandsTakeEffect : Prop :=
  ∀ (s : State) (iface ld dpa length : Nat) (data : HostLine), s.hears iface ld = true →
    let h := s.heard iface
    let say (op : Nat) (code : Ret) (b : Bytes) : Host.Outcome State Fault Refusal := .next (if carries iface op then h.reply iface ld op code b else h.reply iface ld op .unsupported [])
    let seen := h.poison.filterMap (fun p => match h.ldComp iface ld p.1 with
      | some c => if dpa ≤ lineDpa p.1 ∧ lineDpa p.1 < dpa + length then some (h.shownDpa iface (some c.id) (lineDpa p.1), p.2) else none
      | none => none)
    let all := (h.ld iface ld).scan
    let found := (all.take scanPage).map (fun line => h.shownDpa iface ((h.ldComp iface ld line).map Comp.id) (lineDpa line))
    (h.ldRange iface ld dpa length = true → exec (.getPoisonList iface ld dpa length) s = say 0x4300 .success
      (le 1 (b2n h.poisonOver.isSome) ++ le 8 ((h.poisonOver.map (h.ldTime iface ld)).getD 0) ++ le 4 seen.length ++ (seen.map (fun p => le 8 p.1.1 ++ le 1 (b2n p.1.2 + 2 * b2n p.2))).flatten)) ∧
    (h.ldRange iface ld dpa length = true → exec (.getScanMediaCapabilities iface ld dpa length) s = say 0x4303 .success (le 4 (h.scanTime dpa length))) ∧
    exec (.getScanMediaResults iface ld) s = .next (if carries iface 0x4305 then
      (if all.length ≤ scanPage then h else h.modLd iface ld (fun d => { d with scan := all.drop scanPage })).reply iface ld 0x4305 .success
        (le 4 found.length ++ le 4 (all.length - found.length) ++ (found.map (fun p => le 8 p.1 ++ le 1 (b2n p.2))).flatten)
      else h.reply iface ld 0x4305 .unsupported []) ∧
    (h.ldRange iface ld dpa length = false → exec (.getPoisonList iface ld dpa length) s = say 0x4300 .invalidInput [] ∧
      exec (.getScanMediaCapabilities iface ld dpa length) s = say 0x4303 .invalidInput []) ∧
    (s.lineHeld (dpa / 64) = true → exec (.injectPoison iface ld dpa) s = .next s ∧ exec (.clearPoison iface ld dpa data) s = .next s) ∧
    (∀ c r, carries iface 0x4301 = true ∧ s.lineHeld (dpa / 64) = false ∧ dpa % 64 = 0 ∧ h.holds iface .test = true ∧ h.ldComp iface ld (dpa / 64) = some c ∧ h.leafOfLine (dpa / 64) = some r ∧ h.covers iface .test c.id = true ∧
        h.readOnly = false ∧ h.admits (h.server r.tile) (dpa / 64) = true ∧ h.poison.length < 65536 →
      exec (.injectPoison iface ld dpa) s = .next ((h.injectLine c r (dpa / 64) iface).reply iface ld 0x4301 .success [])) ∧
    (∀ c r t, carries iface 0x4302 = true ∧ s.lineHeld (dpa / 64) = false ∧ dpa % 64 = 0 ∧ h.ldComp iface ld (dpa / 64) = some c ∧ h.leafOfLine (dpa / 64) = some r ∧
        h.engineWrite c r (dpa / 64) (h.lineKey c (dpa / 64)).1 data iface = (true, t) →
      exec (.clearPoison iface ld dpa data) s =
        .next ((t.cacheWrite (h.server r.tile) (dpa / 64) c (h.lineKey c (dpa / 64)).1 (h.slot (h.lineKey c (dpa / 64)).1).gen data).reply iface ld 0x4302 .success [])) ∧
    (s.lineHeld (dpa / 64) = false ∧ dpa % 64 ≠ 0 → exec (.clearPoison iface ld dpa data) s = say 0x4302 .invalidInput []) ∧
    (carries iface 0x4304 = true ∧ h.ldRange iface ld dpa length = true ∧ (h.ld iface ld).bg = none →
      let b := (h.modLd iface ld (fun d => { d with bg := some 0x4304 })).reply iface ld 0x4304 .background []
      exec (.scanMedia iface ld dpa length) s = .next (if (b.ld iface ld).bg == some 0x4304 then (b.scan iface ld dpa length).endBackground iface ld 0x4304 .success [] else b))

/-- Host link events and configuration: training, IDE keys and failures, L1, flush, configuration space, DOE (R125, R129, R134, R140, R387, R477, R491). -/
def Obligations.HostLinkCommandsTakeEffect : Prop :=
  ∀ (s : State) (port link rate width stream ld offset value phase handle : Nat) (key request : Bytes),
    let l := s.link port link
    (s.wardenUp = true ∧ s.clocks.held.contains (3 + port) = false ∧ s.linkExists port link = true ∧ 1 ≤ rate ∧ rate ≤ 6 ∧
        linkWidth (s.rb (F.HPT_LINK_bif port)) width = true ∧ s.power.pins.perst.getD port true = true →
      exec (.hostLinkTrained port link rate width) s =
        .next ((((((({ s with power := { s.power with pstate := 0 } } : State)).setHostLink port link { l with up := true, cxl := decide (3 ≤ rate), l1 := false }).wf (rateField port link) rate).wf
          (widthField port link) width).showIde port link).irqEdge (irqLink port))) ∧
    (l.up = true → exec (.ideKeyProgram port link stream key) s = .next ((s.setHostLink port link { l with ide := tput l.ide stream true }).showIde port link)) ∧
    ((tget l.ide stream).isSome = true → exec (.ideIntegrityFail port link stream) s =
      .next ((((s.setHostLink port link { l with ide := tput l.ide stream false }).showIde port link).countHub 51).emit (0x10 + port) 0x0800 (portLink port link ++ le 1 stream))) ∧
    (l.up = true → exec (.hostLinkL1Entry port link) s = .next (s.setHostLink port link { l with l1 := true })) ∧
    exec (.globalPersistentFlush port phase) s = .next (s.send (.gpf port phase)) ∧
    ((s.link port (s.linkOf port ld)).up = true ∧ s.ioInsecure port ld = false ∧ s.ldsReady = false → ∀ w, exec (.configRequest port ld offset w value) s = .next (s.send (.config port ld offset none))) ∧
    ((s.link port (s.linkOf port ld)).up = true ∧ s.ioInsecure port ld = false ∧ s.ldsReady = true →
      exec (.configRequest port ld offset true value) s = .next ((s.writeConfig port ld offset value).send (.config port ld offset (some value))) ∧
      exec (.configRequest port ld offset false value) s = .next (s.send (.config port ld offset (some (s.configWord port ld offset))))) ∧
    ((s.link port (s.linkOf port ld)).up = true ∧ s.ioInsecure port ld = true → ∀ w, exec (.configRequest port ld offset w value) s = .next (s.discardIo port ld)) ∧
    (s.ioInsecure port ld = true → exec (.cdatRead port ld handle) s = .next (s.discardIo port ld) ∧ exec (.spdmRequest port ld request) s = .next (s.discardIo port ld)) ∧
    (s.ioInsecure port ld = false → exec (.cdatRead port ld handle) s = .next ((s.doe port).reply port ld 2 .success (((s.visibleTo port ld).map dsmas).flatten ++ dslbis)) ∧
     exec (.spdmRequest port ld request) s =
      .next (({ s.doe port with freeCtr := (s.doe port).freeCtr + 1 } : State).reply port ld 1 .success 
        (Config.spdmAnswer (s.doe port).vault.spdm (s.doe port).vault.spdmChain (s.doe port).spdmBlocks request (s.doe port).freeCtr)))

/-- PERST, hot reset and link down reset the port; FLR and CXL reset the logical device (R487, R477, R144, R188). -/
def Obligations.HostPortResetsTakeEffect : Prop :=
  ∀ (s : State) (iface port link ld : Nat),
    (port < s.portCount → exec (.perstAssert port) s =
      .next (({ s with power := { s.power with pins := { s.power.pins with perst := s.power.pins.perst.set port false } } } : State).portReset port 15)) ∧
    (s.linkExists port link = true → exec (.hotReset port link) s = .next (s.portReset port 15)) ∧
    ((s.link port link).up = true → exec (.hostLinkDown port link) s = .next (s.portReset port 15)) ∧
    (port < s.portCount →
      let t := ((s.resetEvent 5 15 port).noteReset 5 15 port).modLd port ld Ld.unconfigured
      let u := (t.dropQueues (fun q => q.port == port && q.ld == ld)).discardReqs (fun q => q.port == port && q.ld == ld)
      exec (.functionLevelReset port ld) s = .next u ∧ exec (.cxlReset port ld) s = .next u) ∧
    (s.hears iface 0 = true ∧ port < s.portCount ∧ s.holds iface .mgmtWrite = true →
      exec (.hptWfailClear iface port) s = .next ((s.wf (F.HPT_WFAIL_valid port) 0).wf (F.HPT_WFAIL_count port) 0) ∧
      exec (.hptRdlatClear iface port) s = .next ((s.wf (F.HPT_RDLAT_max_ns port) 0).wf (F.HPT_RDLAT_over port) 0) ∧
      exec (.hptLtClear iface port) s = .next (s.wf (F.HPT_LT_late port) 0))

/-- CXL.mem requests arrive: a line of a compartment is taken and started, an unmapped one answered, MemSpecRd ignored (R129, R130, R132, R134, R143, R159, R191, R192). -/
def Obligations.HostMemoryRequestsArrive : Prop :=
  ∀ (s : State) (port ld tag hpa enables : Nat) (data : HostLine) (upsets : List Upset),
    let dec := s.hdmDecode port ld hpa
    let dpa := dec.getD hpa
    let t := s.linkAwake port ld
    let at_ := if dec.isNone then none else (t.visibleTo port ld).find? (fun c => decide (c.lo ≤ dpa ∧ dpa < c.hi))
    let failed := ((t.countHub (9 + port) []).noteUnmapped port ld (dpa / 64)).noteWriteFail port ld (dpa / 64) 5 none
    let started (k : ReqKind) (n : Nat) (c : Comp) (d : HostLine) (en : Nat) : State :=
      let r := (t.countHub (n + port) [c.id]).takeReq k port ld tag (dpa / 64) d en c
      (r.1.meetUpsets r.2 c upsets).startReq r.2
    (s.portOpen port ld = true ∧ s.insecure port ld = false → ∀ c, at_ = some c →
      exec (.cxlMemRead port ld tag hpa upsets) s = .next (started .read 5 c 0 0) ∧
      exec (.cxlMemWrite port ld tag hpa data upsets) s = .next (started .write 9 c data 0) ∧
      exec (.cxlMemPartialWrite port ld tag hpa data enables upsets) s = .next (started .partialWrite 9 c data enables)) ∧
    (s.portOpen port ld = true ∧ s.insecure port ld = false → at_ = none →
      exec (.cxlMemRead port ld tag hpa upsets) s =
        .next ((((t.countHub (5 + port) []).noteUnmapped port ld (dpa / 64)).countHub (17 + port)).send (.hostData port ld tag 0 true)) ∧
      exec (.cxlMemWrite port ld tag hpa data upsets) s = .next (failed.send (.hostCmp port ld tag true)) ∧
      exec (.cxlMemPartialWrite port ld tag hpa data enables upsets) s = .next (failed.send (.hostCmp port ld tag true))) ∧
    (s.portOpen port ld = false → exec (.cxlMemRead port ld tag hpa upsets) s = .next s ∧ exec (.cxlMemWrite port ld tag hpa data upsets) s = .next s ∧
      exec (.cxlMemPartialWrite port ld tag hpa data enables upsets) s = .next s) ∧
    (s.portOpen port ld = true ∧ s.insecure port ld = true →
      let u := s.emit (0x10 + port) 0x0800 (portLink port (s.linkOf port ld) ++ le 1 0)
      exec (.cxlMemRead port ld tag hpa upsets) s = .next u ∧ exec (.cxlMemWrite port ld tag hpa data upsets) s = .next u ∧
      exec (.cxlMemPartialWrite port ld tag hpa data enables upsets) s = .next u) ∧
    exec (.memSpecRd port ld tag hpa) s = .next s

/-- What time and room do to requests: held ones go on, keys arrive, patience and level timing expire (R22, R172, R176, R184, R185, R194, R322). -/
def Obligations.RequestTimingEventsTakeEffect : Prop :=
  ∀ (s : State) (tile key req : Nat) (late : Bool),
    (∀ q, s.firstHeld tile = some q ∧ s.mayGo q = true → exec (.heldRequestRelease tile) s = .next ((s.release q).run)) ∧
    exec (.writeAdmitResume tile) s = .next (s.releaseHeld tile) ∧
    ((s.tile tile).unwraps.contains key = true →
      let t := (s.modTile tile (fun x => { x with unwraps := x.unwraps.filter (· != key) })).countHub 41
      exec (.keyUnwrapDone tile key) s =
        .next (((if (t.slot key).state = 1 then t.modTile tile (fun x => x.touchKey key (t.slot key).gen) else t).resolve (.key key)).run)) ∧
    (∀ o, s.readOfReq req = some o →
      (o.phase ≠ .around ∧ o.phase ≠ .recover ∧ s.aroundOk o.stripe o.member = true →
        let p := { o with phase := .recover, path := 8, errored := true }
        exec (.readPatienceExpire req) s = .next ((((s.countTile o.tile 113).countAround p).putOp p).gather p)) ∧
      (o.phase ≠ .around ∧ o.phase ≠ .recover ∧ s.aroundOk o.stripe o.member = false → exec (.readPatienceExpire req) s = .next s) ∧
      (o.phase = .around ∨ o.phase = .recover →
        exec (.readPatienceExpire req) s = .next (((s.opRetry o).1.opEnded (s.opRetry o).2).run))) ∧
    (∀ q x, s.req req = some q ∧ q.stage = .paced x → exec (.levelTimingRelease req late) s =
      .next ((if q.late || late then s.incSat (F.HPT_LT_late q.port) else s).deliver q x)) ∧
    (∀ q, s.req req = some q ∧ (∀ x, q.stage ≠ .paced x) ∧ s.levelTimed q.comp = true →
      exec (.levelTimingRelease req late) s = .next (s.modReq req (fun r => { r with late := true })))

/-- MEDIA_ISSUE sends the first waiting command of the channel, by tier and share (R394). -/
def Obligations.MediaIssueSendsTheFirstWaiting : Prop :=
  ∀ (s : State) (chan : Nat),
    let w := s.writeStructures
    (w.pickWaiting chan = none → exec (.mediaIssue chan) s = .next w) ∧
    ∀ (m : MCmd), w.pickWaiting chan = some m →
    let u := w.modChan chan (fun x => { x with waiting := x.waiting.erase m })
    ((u.chan chan).freeTag = none → exec (.mediaIssue chan) s = .next u) ∧
    ∀ tag, (u.chan chan).freeTag = some tag →
      let wave := if m.cmd.op == 0x21 then ((u.active.map Img.waveforms).getD []).getD (u.rf (F.THM_ZONE_band (u.zoneOf chan))) 0 else m.cmd.wave
      let cmd := { m.cmd with tag := tag, wave := wave }
      let t := (u.charge chan m).noteProg m
      let v := if ((t.chan chan).noteIssue m).suspended != (t.chan chan).suspended && m.cmd.op == 0x01 then t.countTile (tileOfChan chan) 88 else t
      exec (.mediaIssue chan) s = .next ((v.modChan chan
        (fun x => { (x.noteIssue m) with sent := x.sent ++ [⟨{ m with cmd := cmd }, tag, 0, false, 0, false, false⟩], nextTag := (tag + 1) % 64 })).send (.command chan (makeBlock cmd) cmd.data))

/-- The windows of the scheduler and of the read path end: counts shown and renewed, shortfalls reported, yielding decided (R390, R391, R399, R401, R173, R174, R187). -/
def Obligations.SharesAndYieldAreRenewed : Prop :=
  ∀ (s : State) (tile : Nat),
    (let yielding := s.rb (F.MSC_RD_STAT_yielding tile)
     let q := (s.tile tile).qos
     let waits := (upto 11).filter (fun m => s.masterWaits tile m && !(yielding && m == 5))
     let shown := each (upto 11) s (fun s m => s.wf (F.QOS_GRANT_used tile m) (min 65535 (tgetD q.used m 0)))
     let counted := each waits shown (fun s m => s.countTile tile (131 + m))
     let t := (counted.modTile tile (fun x => { x with qos := { x.qos with
       used := [], extra := [], chanUsed := [], classUsed := [], windows := x.qos.windows + 1
       due := each (upto 11) x.qos.due (fun d m => tmod d m 0 (· + (if yielding && m == 5 then 0 else q.eff.getD m 0)))
       got := each (upto 11) x.qos.got (fun d m => tmod d m 0 (· + tgetD q.used m 0))
       waited := (x.qos.waited ++ waits).eraseDups } })).requote tile
     exec (.qosWindowEnd tile) s = .next (if t.rb (F.QOS_CAP_scaled tile) then t.countTile tile 142 else t)) ∧
    ((s.tile tile).qos.windows < s.rf (F.QOS_SF_CFG_span tile) → exec (.shortfallSpanEnd tile) s = .next s) ∧
    (¬ (s.tile tile).qos.windows < s.rf (F.QOS_SF_CFG_span tile) →
     let q := (s.tile tile).qos
     let short := q.waited.filter (fun m => decide (tgetD q.got m 0 < tgetD q.due m 0))
     let told := each short s (fun s m =>
       let t := (s.wf (F.QOS_SHORT_short tile) (s.rf (F.QOS_SHORT_short tile) ||| 2 ^ m)).emit (0x20 + 8 * tile + 1) 0x0A00
         (le 1 tile ++ le 1 m ++ le 4 (tgetD q.due m 0) ++ le 4 (tgetD q.got m 0))
       if hasBit (t.rf (F.QOS_SF_CFG_irq_mask tile)) m then t.irqEdge (irqTile tile 7) else t)
     exec (.shortfallSpanEnd tile) s = .next (told.modTile tile (fun x => { x with qos := { x.qos with due := [], got := [], waited := [], windows := 0 } }))) ∧
    (let w := (s.tile tile).window
     let share := if w.reads = 0 then 0 else 100 * w.arounds / w.reads
     let crossed := s.rf (F.MSC_RD_CFG_yield_pct tile) * w.reads < 100 * w.arounds
     let u := (s.modTile tile (fun x => { x with window := ⟨0, 0⟩ })).wf (F.MSC_RD_STAT_last_share tile) share
     s.rb (F.MSC_RD_STAT_yielding tile) = false →
       (¬ crossed → exec (.yieldWindowEnd tile) s = .next (u.wf (F.MSC_RD_STAT_yielding tile) 0)) ∧
       (crossed →
         let v := (u.countTile tile 95).wf (F.MSC_RD_STAT_yielding tile) 1
         let x := ((({ v with health := { v.health with yields := tmod v.health.yields tile 0 (· + 1) } } : State).incSat (F.MSC_RD_STAT_yields tile)).countTile tile 94)
         exec (.yieldWindowEnd tile) s = .next ((x.emit (0x20 + 8 * tile + 1) 0x0302 (le 1 tile ++ le 1 0 ++ le 1 share)).irqEdge (irqTile tile 8))))

/-- Destage: a leaf goes to the log head, a line-stripe fills, the leaf map switches, lines become eligible (R195, R197, R198, R199, R201). -/
def Obligations.DestageCommandsTakeEffect : Prop :=
  ∀ (s : State) (tile line leaf : Nat) (upsets : List (Nat × Upset)),
    exec (.lingerExpire tile line) s = .next ((s.modTile tile (fun x => { x with catchQ := x.catchQ.map (fun e => if e.line == line then { e with eligible := true } else e) })).wakeTile tile) ∧
    (∀ n r c, (s.tiles[tile]?.map Tile.depth).getD 0 = 0 ∧ s.readOnly = false ∧ s.power.flushing = false ∧ s.destagePaused tile = false ∧ s.tileInService tile = true ∧
        s.nextLeaf tile = some n ∧ s.leafNum n = some r ∧ s.served r.comp = some c →
      let t := each upsets (s.loadPath c r.tile r.rank 6 (64 * n)) (fun s u => s.meetAt (64 * n + u.1 % 64) 6 c r [u.2])
      let spot := t.logSpot tile 40 (t.tile tile).head
      exec (.destageLeaf tile upsets) s = .next (match spot.2 with
        | some pos => spot.1.destageAt tile n pos c r
        | none => spot.1)) ∧
    (∀ n, (s.tiles[tile]?.map Tile.depth).getD 0 = 0 ∧ s.readOnly = false ∧ s.power.flushing = false ∧ s.destagePaused tile = false ∧ s.tileInService tile = true ∧
        s.nextLeaf tile = some n ∧ s.leafNum n = none →
      exec (.destageLeaf tile upsets) s = .next (s.modTile tile (fun x => { x with catchQ := x.catchQ.filter (fun e => e.line / 64 != n), urgent := x.urgent.filter (· != n) }))) ∧
    ((s.tiles[tile]?.map Tile.depth).getD 0 = 0 ∧ (s.readOnly = true ∨ s.power.flushing = true ∨ s.destagePaused tile = true ∨ s.tileInService tile = false ∨ s.nextLeaf tile = none) →
      exec (.destageLeaf tile upsets) s = .next s) ∧
    ((s.tiles[tile]?.map Tile.depth).getD 0 ≠ 0 → exec (.destageLeaf tile upsets) s = .next (s.wakeTile tile)) ∧
    (∀ z, (s.tile tile).logStripes.find? (fun z => !z.sent && z.num == (s.tile tile).head / 14) = some z →
      exec (.lineStripeFillTimeout tile) s =
        .next (((s.programStripe tile z).modTile tile (fun x => { x with head := 14 * ((s.tile tile).head / 14 + 1) })).undRefresh tile)) ∧
    ((s.tile tile).logStripes.find? (fun z => !z.sent && z.num == (s.tile tile).head / 14) = none → exec (.lineStripeFillTimeout tile) s = .next s) ∧
    (∀ d r, (s.tile tile).destages.find? (fun d => d.leaf == leaf) = some d ∧ (s.tile tile).destageOpen d = false ∧ s.leafNum leaf = some r →
      let fin (s : State) : State := s.modTile tile (fun x => { x with destages := x.destages.filter (fun y => y.leaf != leaf) })
      ((s.leafOf r).gen = d.gen →
        let t := (s.mapRoom r.tile).setLeaf r.tile (s.leafIdx r) ((s.tile tile).entryAt d (s.leafOf r))
        let u := t.modTile tile (fun x => { x with catchQ := x.catchQ.filter (fun y => !d.taken.contains (y.line, y.ver)) })
        exec (.leafSwitch tile leaf) s = .next ((fin (u.modTile tile (fun x => { x with victims := x.victims.filter (fun v => !(v.left && v.line / 64 == leaf)) }))).advanceTail tile)) ∧
      ((s.leafOf r).gen ≠ d.gen → exec (.leafSwitch tile leaf) s = .next (((fin s).countTile tile 75 [d.comp]).advanceTail tile))) ∧
    (∀ d, (s.tile tile).destages.find? (fun d => d.leaf == leaf) = some d ∧ (s.tile tile).destageOpen d = false ∧ s.leafNum leaf = none →
      exec (.leafSwitch tile leaf) s = .next ((s.modTile tile (fun x => { x with destages := x.destages.filter (fun y => y.leaf != leaf) })).advanceTail tile)) ∧
    ((s.tile tile).destages.find? (fun d => d.leaf == leaf) = none → exec (.leafSwitch tile leaf) s = .next s) ∧
    (∀ d, (s.tile tile).destages.find? (fun d => d.leaf == leaf) = some d ∧ (s.tile tile).destageOpen d = true → exec (.leafSwitch tile leaf) s = .next s)

/-- Stem copies: started, read back, switched, abandoned, and queued for refresh (R203, R205, R206, R208). -/
def Obligations.StemCopyCommandsTakeEffect : Prop :=
  ∀ (s : State) (tile stem : Nat),
    ((s.tiles[tile]?.map Tile.depth).getD 0 = 0 ∧ s.power.flushing = false ∧ s.rb (F.MSC_WR_STAT_braced tile) = false ∧ s.rb F.RST_STAT_trim_safe = false ∧ s.tileInService tile = true →
      let t := each ((s.tile tile).copies.map Copy.slot) s (fun s slot => s.copyAdvance tile slot)
      exec (.stemCopyStart tile) s = .next (match t.nextCopy tile with
        | some p => t.beginCopy tile p.1 p.2
        | none => t)) ∧
    ((s.tiles[tile]?.map Tile.depth).getD 0 = 0 ∧ (s.power.flushing = true ∨ s.rb (F.MSC_WR_STAT_braced tile) = true ∨ s.rb F.RST_STAT_trim_safe = true ∨ s.tileInService tile = false) →
      exec (.stemCopyStart tile) s = .next s) ∧
    ((s.tiles[tile]?.map Tile.depth).getD 0 ≠ 0 → exec (.stemCopyStart tile) s = .next (s.wakeTile tile)) ∧
    (∀ cp, (s.tile tile).copyOf stem = some cp → ∀ ss m rest, cp.ended = (ss, m) :: rest →
      let sound (i : Nat) : Bool := match s.member (sheetStripe cp.dest ss i) m with
        | some l => (checkLine l []).crcOk && decide ((checkLine l []).most ≤ 2)
        | none => false
      let ok := { cp with ended := rest, marks := cp.marks.set ss (m + 1) }
      ((upto 16).all sound = true →
        exec (.sheetReadback tile stem) s = .next (((if m + 1 = 16 then s.countTile tile 81 [cp.comp] else s).putCopy tile ok).copyAdvance tile stem)) ∧
      ((upto 16).all sound = false → exec (.sheetReadback tile stem) s = .next (s.copyFail tile cp true ss m))) ∧
    (∀ cp, (s.tile tile).copyOf stem = some cp ∧ cp.verified = true →
      let named := (s.mapRoom tile).setStem tile stem ⟨cp.dest, true, false, false, s.progOf cp / 2 % 2 ^ 29, (s.tile tile).liveLeaves cp, ((s.tile tile).stem stem).copySeq + 1, (s.placeRec cp.dest).patches, cp.blank⟩
      let freed := (((named.dropCopied tile cp).freeSource cp).dropCopy tile stem).modTile tile (fun x => { x with swept := x.swept.filter (· != stem) })
      exec (.stemSwitch tile stem) s = .next (((freed.ageFlag tile).countTile tile cp.why.counter [cp.comp]).advanceTail ((freed.ageFlag tile).server tile))) ∧
    (∀ cp, (s.tile tile).copyOf stem = some cp ∧ cp.verified = false ∧ cp.prog.isSome = true ∧ s.progOf cp + 2 ≤ s.glade.elapsed →
      let t := ((s.stopCopy tile cp).releasePlace cp.dest).countTile tile 83 [cp.comp]
      exec (.stemCopyAbandon tile stem) s = .next (match cp.why with
        | .refresh => t.modTile tile (fun x => { x with refreshDue := x.refreshDue ++ [stem] })
        | .migration => t
        | .unaged => t
        | w => t.modTile tile (fun x => { x with copyQueue := x.copyQueue ++ [(stem, w)] }))) ∧
    (((s.tile tile).stem stem).valid = true ∧ s.refreshLimit ((s.tile tile).stem stem) ≤ bucketOf (s.ageOf ((s.tile tile).stem stem)) + 1 ∧
        (s.tile tile).refreshDue.contains stem = false ∧ (s.tile tile).copyOf stem = none →
      exec (.refreshDue tile stem) s = .next ((s.modTile tile (fun x => { x with refreshDue := x.refreshDue ++ [stem] })).wakeTile tile)) ∧
    ((∀ cp, (s.tile tile).copyOf stem = some cp → cp.verified = false) → exec (.stemSwitch tile stem) s = .next s) ∧
    ((∀ cp, (s.tile tile).copyOf stem = some cp → cp.verified = true ∨ cp.prog.isNone = true ∨ s.glade.elapsed < s.progOf cp + 2) → exec (.stemCopyAbandon tile stem) s = .next s) ∧
    ((∀ cp, (s.tile tile).copyOf stem = some cp → cp.ended = []) → exec (.sheetReadback tile stem) s = .next s)

/-- Maps and wear: a census ends, the filter is rebuilt, the stem map is resident, wear is levelled (R235, R237, R163, R231, R246). -/
def Obligations.StemMapCommandsTakeEffect : Prop :=
  ∀ (s : State) (tile : Nat),
    (s.rb (F.TRN_MAP_STAT_census tile) = true → exec (.censusEnd tile) s =
      .next (let slots := ((s.tile tile).census.map (fun n => (upto 4).map (fun i => 4 * n + i))).flatten
        let t := (each slots s (fun s slot => s.rebuildEntry tile slot)).modTile tile (fun x => { x with census := [] })
        ((t.wf (F.TRN_MAP_STAT_census tile) 0).emit (0x20 + 8 * tile) 0x0403 (le 1 tile ++ le 4 (slots.filter (fun k => ((t.tile tile).stem k).valid)).length)).undRefreshAll)) ∧
    (s.rb (F.TRN_MAP_STAT_census tile) = false → exec (.censusEnd tile) s = .next s) ∧
    exec (.filterRebuildDone tile) s = .next ((s.modTile tile (fun x => { x with
      filterAll := false
      filter := ((x.leaves.filter (fun p => p.2.valid || p.2.zero || p.2.poisoned)).map (fun (p : Nat × LeafEnt) => p.1 / 64)).eraseDups })).wf (F.TRN_MAP_STAT_filter_ready tile) 1) ∧
    ((∀ d ∈ (s.tile tile).dir, d.2.1 + d.2.2 ≤ s.cpt * 49152) → exec (.stemMapResident tile) s = .next (s.wf (F.TRN_MAP_STAT_stem_resident tile) 1)) ∧
    (s.rb (F.TRN_WEAR_CFG_level_en tile) = true ∧ s.tileInService tile = true →
      let x := s.tile tile
      let best := s.leastWorn tile x.levelBest ((upto 4096).map (fun i => (x.levelAt + i) % 50331648))
      let t := s.modTile tile (fun x => { x with levelAt := (x.levelAt + 4096) % 50331648, levelBest := best })
      let barred := t.levelBarred tile
      (best = none → exec (.wearLevelTick tile) s = .next t) ∧
      (∀ k, best = some k ∧ barred = false ∧ (t.placeRec (x.stem k).place).wear + t.rf (F.TRN_WEAR_CFG_gap tile) * 100 < t.meanWear ∧ x.copyOf k = none →
        exec (.wearLevelTick tile) s = .next (t.modTile tile (fun x => { x with levelBest := none, copyQueue := x.copyQueue ++ [(k, .wear)] }))) ∧
      (∀ k, best = some k ∧ (barred = true ∨ t.meanWear ≤ (t.placeRec (x.stem k).place).wear + t.rf (F.TRN_WEAR_CFG_gap tile) * 100 ∨ (x.copyOf k).isNone = false) →
        exec (.wearLevelTick tile) s = .next t)) ∧
    (s.rb (F.TRN_WEAR_CFG_level_en tile) = false ∨ s.tileInService tile = false → exec (.wearLevelTick tile) s = .next s) ∧
    ((∃ d ∈ (s.tile tile).dir, s.cpt * 49152 < d.2.1 + d.2.2) → exec (.stemMapResident tile) s = .next s)

/-- A package queues the array commands it accepts, and refuses those it may not run (R50, R54, R55, R64, R66, R67, R70). -/
def Obligations.ArrayCommandsAreQueued : Prop :=
  ∀ (s : State) (chan : Nat) (block : Bytes) (data : Line),
    let take (c : PkgCmd) : State := s.setPkg chan { s.pkg chan with lastTag := c.tag, lastDie := c.die }
    let queued (c : PkgCmd) : State :=
      let p := (take c).pkg chan
      ((take c).setPkg chan ((p.setDie c.die { p.die c.die with queue := (p.die c.die).queue ++ [c] }).setTag c.tag .queued)).pkgGo chan c.die
    let refused (c : PkgCmd) (st : Nat) : State :=
      if ((take c).pkg chan).tagUsed c.tag then (take c).pkgSend chan (respType c.op) c.die c.tag st 0 [] [] else (take c).pkgAnswer chan c st [] []
    let accept (op : Nat) (d : Option Line) (i : Instr) : Prop :=
      (readBlock block d).op = op →
        (((take (readBlock block d)).pkg chan).refusal (readBlock block d) = none → exec i s = .next (queued (readBlock block d))) ∧
        (∀ st, ((take (readBlock block d)).pkg chan).refusal (readBlock block d) = some st → exec i s = .next (refused (readBlock block d) st))
    let other (op : Nat) (d : Option Line) (i : Instr) : Prop :=
      let c := readBlock block d
      (c.op ≠ op → pkgOpcodes.contains c.op = true → exec i s = .next (take c)) ∧
      (pkgOpcodes.contains c.op = false → exec i s = .next (if ((take c).pkg chan).tagUsed c.tag then (take c).pkgSend chan 0x82 c.die c.tag stBadOpcode 0 [] []
        else (take c).pkgAnswer chan c stBadOpcode [] []))
    (blockGood block = true →
      accept 0x01 none (.read chan block) ∧ accept 0x10 (some data) (.progFast chan block data) ∧ accept 0x20 (some data) (.sheetLoad chan block data) ∧
      accept 0x21 none (.progDense chan block) ∧ accept 0x32 none (.refLoad chan block) ∧ accept 0x33 none (.refDefault chan block) ∧
      other 0x01 none (.read chan block) ∧ other 0x10 (some data) (.progFast chan block data) ∧ other 0x20 (some data) (.sheetLoad chan block data) ∧
      other 0x21 none (.progDense chan block) ∧ other 0x32 none (.refLoad chan block) ∧ other 0x33 none (.refDefault chan block)) ∧
    (blockGood block = false →
      exec (.read chan block) s = .next (s.errNotice chan 1) ∧ exec (.progDense chan block) s = .next (s.errNotice chan 1) ∧
      exec (.refLoad chan block) s = .next (s.errNotice chan 1) ∧ exec (.refDefault chan block) s = .next (s.errNotice chan 1) ∧
      exec (.progFast chan block data) s = .next (s.errNotice chan 7) ∧ exec (.sheetLoad chan block data) s = .next (s.errNotice chan 7))

/-- SUSPEND, RESUME, ABORT, STATUS, IDENTIFY and ECHO act at once (R53, R56, R64, R65, R69). -/
def Obligations.ControlCommandsBypassTheQueue : Prop :=
  ∀ (s : State) (chan : Nat) (block : Bytes),
    let cmd := readBlock block none
    let t := s.setPkg chan { s.pkg chan with lastTag := cmd.tag, lastDie := cmd.die }
    let run := ((t.pkg chan).die cmd.die).run
    let kept := t.setPkg chan ((t.pkg chan).setTag cmd.tag .running)
    let noEffect := t.pkgAnswer chan cmd stNoEffect [] []
    let acts (op : Nat) (i : Instr) (r : State) : Prop := exec i s = .next (
      if blockGood block = false then s.errNotice chan 1
      else if cmd.op = op then (if (t.pkg chan).tagUsed cmd.tag then t.pkgSend chan (respType cmd.op) cmd.die cmd.tag stRefusedBusy 0 [] [] else r)
      else if pkgOpcodes.contains cmd.op then t
      else if (t.pkg chan).tagUsed cmd.tag then t.pkgSend chan 0x82 cmd.die cmd.tag stBadOpcode 0 [] [] else t.pkgAnswer chan cmd stBadOpcode [] [])
    acts 0x30 (.status chan block) (t.pkgAnswer chan cmd stOk (if getLe cmd.args 6 1 = 0xFF then [] else (t.pkg chan).tagBytes (getLe cmd.args 6 1)) []) ∧
    acts 0x31 (.identify chan block) (t.pkgAnswer chan cmd stOk [] (le 1 0x4A ++ le 1 (Config.packageRevision chan) ++ le 1 4 ++ le 3 grovesPerDie ++
      le 2 ((t.pkg chan).die cmd.die).bad.length ++ le 6 (Config.packageSerial chan) ++ le 2 (Config.packageTrim chan))) ∧
    acts 0x3F (.echo chan block) (t.pkgAnswer chan cmd stOk [] (cmd.args ++ zeros 4)) ∧
    (∀ r, run = some r ∧ r.cmd.op = 0x21 ∧ r.isHeld = false →
      let u := t.setRun chan cmd.die (some { r with susp := .asked false, suspTags := r.suspTags ++ [cmd.tag] })
      acts 0x22 (.suspend chan block) (u.setPkg chan ((u.pkg chan).setTag cmd.tag .running))) ∧
    (∀ r, run = some r ∧ r.cmd.op = 0x21 ∧ r.susp = .held false → acts 0x22 (.suspend chan block) noEffect) ∧
    (∀ r, run = some r ∧ r.cmd.op = 0x21 ∧ r.susp = .held true → acts 0x22 (.suspend chan block)
      (((t.setRun chan cmd.die (some { r with susp := .held false })).pkgAnswer chan cmd stOk [] []).pkgGo chan cmd.die)) ∧
    ((∀ r, run = some r → r.cmd.op ≠ 0x21) → acts 0x22 (.suspend chan block) noEffect) ∧
    (∀ r, run = some r ∧ r.isHeld = true →
      let u := t.setRun chan cmd.die (some { r with resumeTags := r.resumeTags ++ [cmd.tag] })
      acts 0x23 (.resume chan block) ((u.setPkg chan ((u.pkg chan).setTag cmd.tag .running)).pkgGo chan cmd.die)) ∧
    ((∀ r, run = some r → r.isHeld = false) → acts 0x23 (.resume chan block) noEffect) ∧
    (∀ r, run = some r → acts 0x24 (.abort chan block)
      (if r.isHeld then kept.abortRun chan cmd.die { r with abortTags := r.abortTags ++ [cmd.tag] }
       else kept.setRun chan cmd.die (some { r with abortTags := r.abortTags ++ [cmd.tag] }))) ∧
    (run = none → acts 0x24 (.abort chan block) noEffect)

/-- What happens inside a package: suspensions, resumes, reads, programs and aborts end; blocks, power and links fail (R41, R46, R47, R52, R53, R54, R56, R62, R64, R70, R75). -/
def Obligations.PackageEventsTakeEffect : Prop :=
  ∀ (s : State) (chan die steps unverified discarded : Nat),
    let p := s.pkg chan
    let x := p.die die
    (∀ r b, x.run = some r ∧ r.susp = .asked b →
      let t := s.setRun chan die (some { r with susp := .held b, suspTags := [], reads := 0 })
      exec (.denseSuspendReached chan die) s = .next ((each r.suspTags t (fun s n => s.pkgDone chan { r.cmd with op := 0x22, tag := n } stOk 0 [])).pkgGo chan die)) ∧
    ((∀ r, x.run = some r → r.susp = .none ∨ r.isHeld = true) → exec (.denseSuspendReached chan die) s = .next s) ∧
    (∀ r, x.run = some r ∧ r.susp = .held true ∧ x.reading = none ∧ x.nextRead = none → exec (.denseAutoResume chan die) s = .next ((s.resumeNow chan die r).pkgGo chan die)) ∧
    ((∀ r, x.run = some r → r.susp ≠ .held true ∨ x.reading.isSome = true ∨ x.nextRead.isSome = true) → exec (.denseAutoResume chan die) s = .next s) ∧
    (∀ c, x.reading = some c →
      let t := s.setPkg chan (p.setDie die { x with reading := none })
      let got := x.readLine c.grove c.dense c.line c.bucket c.band (t.cellAge x c.grove c.line) (t.cellHeat chan x c.grove c.line)
      exec (.arrayReadDone chan die) s = .next (match got with
        | some l => (t.pkgDone chan c stOk 0 (lineBytes l)).pkgGo chan die
        | none => (t.draw.2.pkgDone chan c stOk 0 (lineBytes (BitVec.ofNat 768 t.draw.1))).pkgGo chan die)) ∧
    (x.reading = none → exec (.arrayReadDone chan die) s = .next s) ∧
    (let ended (r : DieRun) : State :=
       let t := s.setPkg chan (p.setDie die (x.programmed r.cmd (unverified == 0) s.glade.elapsed))
       let u := each r.suspTags t (fun s n => s.pkgDone chan { r.cmd with op := 0x22, tag := n } stNoEffect 0 [])
       (u.pkgDone chan r.cmd (if unverified = 0 then stOk else stProgFail) (if unverified = 0 then steps else unverified) []).pkgGo chan die
     let can (op : Nat) (r : DieRun) : Prop := r.cmd.op = op ∧ r.isHeld = false ∧ r.abortTags = [] ∧ r.cmd.mayEnd steps unverified = true
     (∀ r, x.run = some r ∧ can 0x10 r → exec (.fastProgramDone chan die steps unverified) s = .next (ended r)) ∧
     (∀ r, x.run = some r ∧ can 0x21 r → exec (.denseProgramDone chan die steps unverified) s = .next (ended r)) ∧
     ((∀ r, x.run = some r → ¬ can 0x10 r) → exec (.fastProgramDone chan die steps unverified) s = .next s) ∧
     ((∀ r, x.run = some r → ¬ can 0x21 r) → exec (.denseProgramDone chan die steps unverified) s = .next s)) ∧
    (∀ r, x.run = some r ∧ r.abortTags ≠ [] → exec (.programAbortDone chan die) s = .next (s.abortRun chan die r)) ∧
    ((∀ r, x.run = some r → r.abortTags = []) → exec (.programAbortDone chan die) s = .next s) ∧
    exec (.badBlockReceive chan discarded) s = .next (s.pkgSend chan 0x8F 0 0 0 discarded (le 1 p.lastTag ++ le 1 p.lastDie) []) ∧
    exec (.vmedLowDetect chan) s = .next (s.setPkg chan { p with vmedLow := true, dies := p.dies.map (fun y => match y.run with
      | some r => y.programmed r.cmd false s.glade.elapsed
      | none => y) }) ∧
    (let cut (y : PkgDie) : PkgDie := { y with queue := [], reading := y.reading.map (fun c => { c with tag := noTag })
                                               run := y.run.map (fun r => { r with cmd := { r.cmd with tag := noTag }, suspTags := [], abortTags := [], resumeTags := [] }) }
     exec (.packageTs0Receive chan) s = .next (s.setPkg chan { p with tags := [], dies := p.dies.map cut }) ∧
     exec (.unannouncedIdleTimeout chan) s = .next (s.setPkg chan { p with tags := [], dies := p.dies.map cut }))

/-- Responses of a package reach the command they answer (R65, R69, R70, R71, R72, R73, R176, R270). -/
def Obligations.ResponsesReachTheirCommand : Prop :=
  ∀ (s : State) (chan : Nat) (header data : Bytes) (line : Line),
    let die := getLe header 1 1 / 64
    let tag := getLe header 1 1 % 64
    let t := s.modChan chan (fun x => x.takeVectors (getLe header 3 1))
    let bad := (((s.incSat (F.MSC_LNK_ERR_crc_errors (tileOfChan chan) (localChan chan))).countTile (tileOfChan chan) 109).askAll chan (s.chan chan).sent).aroundLost (s.chan chan).sent
    (blockGood header = true → ∀ e, (t.chan chan).sent.find? (fun e => e.tag == tag && e.m.cmd.die == die) = some e →
      let u := t.modChan chan (fun x => let y := if e.m.cmd.op == 0x30 then x else x.answered die; { y with sent := y.sent.filter (fun z => z.tag != tag) })
      exec (.readData chan header line) s = .next ((if e.m.cmd.flag && ((u.chan chan).program e.m.cmd.die).isSome then u.countTile (tileOfChan chan) 89 else u).cmdEnded
        chan e.m (getLe header 2 1) 0 (some line)) ∧
      exec (.completion chan header) s = .next (u.cmdEnded chan e.m (getLe header 2 1) (getLe header 4 2) none) ∧
      exec (.identData chan header data) s = .next (if getLe data 0 1 = 0x4A then (u.modChan chan (fun x => { x with present := x.present ||| 2 ^ e.m.cmd.die })).showDies chan else u) ∧
      exec (.echoData chan header data) s = .next u ∧
      (let asked := getLe e.m.cmd.args 0 1
       let state := getLe header 6 1
       let v := if asked < 64 ∧ state = 3 then u.modChan chan (fun x => { x with lockedTags := x.lockedTags.filter (· != asked) }) else u
       let found := (v.chan chan).sent.find? (fun z => z.tag == asked && z.asked)
       let polled := v.modChan chan (fun x => { x with sent := x.sent.map (fun z => if z.tag == asked then { z with asked := false, polls := z.polls + 1 } else z) })
       (found = none → exec (.statusData chan header data) s = .next v) ∧
       (∀ q, found = some q →
         (state = 3 → exec (.statusData chan header data) s = .next ((v.modChan chan (fun x => { x with sent := x.sent.filter (fun z => z.tag != asked), silent := tdel x.silent q.m.cmd.die })).cmdEnded
           chan q.m (getLe header 7 1) 0 none)) ∧
         (state = 0 → exec (.statusData chan header data) s = .next (if q.waited then v.unanswered chan q true else v.lostSending chan q)) ∧
         (state ≠ 3 ∧ state ≠ 0 ∧ q.polls < 7 → exec (.statusData chan header data) s = .next polled) ∧
         (state ≠ 3 ∧ state ≠ 0 ∧ 7 ≤ q.polls → exec (.statusData chan header data) s =
           .next ((polled.modChan chan (fun x => { x with sent := x.sent.map (fun z => if z.tag == asked then { z with polls := 0 } else z) })).unanswered chan q false))))) ∧
    (blockGood header = true → (t.chan chan).sent.find? (fun e => e.tag == tag && e.m.cmd.die == die) = none →
      exec (.readData chan header line) s = .next t ∧ exec (.completion chan header) s = .next t ∧ exec (.identData chan header data) s = .next t ∧
      exec (.echoData chan header data) s = .next t ∧ exec (.statusData chan header data) s = .next t) ∧
    (blockGood header = false →
      exec (.readData chan header line) s = .next bad ∧ exec (.completion chan header) s = .next bad ∧ exec (.identData chan header data) s = .next bad ∧
      exec (.echoData chan header data) s = .next bad ∧ exec (.statusData chan header data) s = .next bad ∧ exec (.errNotice chan header) s = .next bad) ∧
    exec (.badResponseReceive chan) s = .next bad ∧
    (blockGood header = true →
      let w := (t.incSat (F.MSC_LNK_ERR_crc_errors (tileOfChan chan) (localChan chan))).countTile (tileOfChan chan) 110
      let last (e : Sent) : Bool := e.tag == getLe header 6 1 && e.m.cmd.die == getLe header 7 1
      exec (.errNotice chan header) s = .next (w.askAll chan (if (w.chan chan).sent.any last then ((w.chan chan).sent.dropWhile (fun e => !last e)).drop 1 else (w.chan chan).sent)))

/-- A silent channel is polled, a silent command asked about, and a sending that stays unanswered counted (R69, R71, R73). -/
def Obligations.ChannelTimeoutsTakeEffect : Prop :=
  ∀ (s : State) (chan tag : Nat),
    ((s.chan chan).sent ≠ [] → exec (.statusPollTimeout chan) s = .next (s.submit chan ⟨statusCmd 0 0xFF, .control, 10, [], false, false, some 21⟩)) ∧
    ((s.chan chan).sent = [] → exec (.statusPollTimeout chan) s = .next s) ∧
    (∀ e, (s.chan chan).sent.find? (fun e => e.tag == tag) = some e →
      let t := s.countTile (tileOfChan chan) 111
      (e.m.cmd.op = 0x30 → exec (.commandResponseTimeout chan tag) s = .next (t.modChan chan (fun x => { x with sent := x.sent.filter (fun z => z.tag != tag) }))) ∧
      (e.m.cmd.op ≠ 0x30 ∧ e.asked = false → exec (.commandResponseTimeout chan tag) s =
        .next ((t.modChan chan (fun x => { x with sent := x.sent.map (fun z => if z.tag == tag then { z with waited := true } else z) })).askTag chan tag)) ∧
      (e.m.cmd.op ≠ 0x30 ∧ e.asked = true → exec (.commandResponseTimeout chan tag) s =
        .next ((t.modChan chan (fun x => { x with sent := x.sent.map (fun z => if z.tag == tag then { z with asked := false } else z) })).unanswered chan { e with asked := false } true))) ∧
    ((s.chan chan).sent.find? (fun e => e.tag == tag) = none → exec (.commandResponseTimeout chan tag) s = .next s)

/-- The link states of a channel: Detect to Active, Recovery, and back (R61, R62, R72, R73, R77). -/
def Obligations.LinkTrainingStepsTakeEffect : Prop :=
  ∀ (s : State) (chan preset : Nat),
    let st := s.lstate chan
    let n := (s.chan chan).recFails + 1
    let failed := s.modChan chan (fun x => { x with recFails := n })
    (st ≤ 1 ∧ s.chanPresent chan = true ∧ (s.tile (tileOfChan chan)).held = false → exec (.detectTerminationSensed chan) s =
      .next ((s.modChan chan (fun x => { x with lockedTags := [], downNoted := false })).setLink chan 2)) ∧
    (st = 2 → exec (.bitLockAchieved chan) s = .next (s.setLink chan 3)) ∧
    (st = 3 → exec (.blockLockAchieved chan) s = .next (s.setLink chan 4)) ∧
    (st = 4 → exec (.trainPresetsDone chan preset) s = .next ((s.wf (F.MSC_LNK_STAT_preset (tileOfChan chan) (localChan chan)) preset).setLink chan 5)) ∧
    (st = 5 →
      let gone (x : Chan) : Nat := (((upto 4).filter (fun d => hasBit x.retired d || s.retireQueue.contains (chan, d) ||
        s.retiring.any (fun (r : Retiring) => r.kind == 4 && r.cause == 2 && r.chan == chan && r.die == d))).map (2 ^ ·)).sum
      let up := (s.setLink chan 6).modChan chan (fun x => { x with present := 0, alive := 15 - gone x, ready := 15, susp := 0, silent := [], others := [] })
      let asked := each (upto 4) (up.showDies chan) (fun s d => s.submit chan ⟨{ blankCmd with op := 0x31, die := d }, .control, 10, [], false, false, some 25⟩)
      exec (.configTs2Matched chan) s = .next (if (asked.chan chan).vmedLost then asked.loadRefs chan else asked)) ∧
    (st = 7 → exec (.recoveryDone chan) s = .next ((s.modChan chan (fun x => { x with recFails := 0 })).setLink chan 6)) ∧
    (st = 6 →
      let t := (({ s with health := { s.health with recoveries := s.health.recoveries + 1 } } : State).modChan chan
        (fun x => { x with recRecent := ((s.chan chan).recRecent.filter (fun f => decide (s.fine ≤ f + 1000000000))) ++ [s.fine] }))
      let u := (t.incSat (F.MSC_LNK_STAT_recoveries (tileOfChan chan) (localChan chan))).countTile (tileOfChan chan) 112
      ((s.chan chan).recRecent.filter (fun f => decide (s.fine ≤ f + 1000000000))).length < 16 →
        exec (.linkCrcErrorLimit chan) s = .next (u.setLink chan 7) ∧ exec (.blockLockLoss chan) s = .next (u.setLink chan 7)) ∧
    (st = 1 ∨ (st = 0 ∧ s.chanPresent chan = true ∧ (s.tile (tileOfChan chan)).held = false) → exec (.trainingStateTimeout chan) s = .next (s.channelDown chan)) ∧
    (2 ≤ st ∧ st ≤ 5 → exec (.trainingStateTimeout chan) s = .next (s.setLink chan 1)) ∧
    (st = 7 ∧ n < 3 → exec (.trainingStateTimeout chan) s = .next (failed.setLink chan 1)) ∧
    (st = 7 ∧ 3 ≤ n → exec (.trainingStateTimeout chan) s = .next (failed.channelDead chan)) ∧
    -- in any other state these events change nothing
    (st ≠ 2 → exec (.bitLockAchieved chan) s = .next s) ∧ (st ≠ 3 → exec (.blockLockAchieved chan) s = .next s) ∧ (st ≠ 4 → exec (.trainPresetsDone chan preset) s = .next s) ∧
    (st ≠ 5 → exec (.configTs2Matched chan) s = .next s) ∧ (st ≠ 6 → exec (.linkCrcErrorLimit chan) s = .next s ∧ exec (.blockLockLoss chan) s = .next s) ∧ (st ≠ 7 → exec (.recoveryDone chan) s = .next s)

/-- LNK_RETRAIN, LNK_DISABLE and LNK_ERR_CLEAR under their rights (R76, R78). -/
def Obligations.LinkControlsTakeEffect : Prop :=
  ∀ (s : State) (iface chan value : Nat),
    let t := tileOfChan chan
    let c := localChan chan
    (s.chanPresent chan = false → exec (.lnkRetrain iface chan) s = .next s ∧ exec (.lnkDisable iface chan value) s = .next s ∧ exec (.lnkErrClear iface chan) s = .next s) ∧
    (s.lstate chan ≠ 6 ∧ s.lstate chan ≠ 10 → exec (.lnkRetrain iface chan) s = .next s) ∧
    (s.hears iface 0 = true ∧ s.chanPresent chan = true ∧ s.holds iface .tileService = true ∧ s.holds iface .mgmtWrite = true →
      (s.lstate chan = 6 → exec (.lnkRetrain iface chan) s = .next ((s.wf (F.MSC_LNK_CTRL_retrain t c) 1).enterRecovery chan)) ∧
      (s.lstate chan = 10 → exec (.lnkRetrain iface chan) s = .next ((s.setLink chan 1).wf (F.MSC_LNK_CTRL_retrain t c) 1)) ∧
      (value % 2 = 1 ∧ s.rf (F.MSC_LNK_CTRL_disable t c) = 0 → exec (.lnkDisable iface chan value) s = .next (s.chanOff chan)) ∧
      ((s.chan chan).sent = [] ∧ (s.chan chan).waiting = [] → s.chanOff chan =
        (((s.modChan chan (fun x => { x with waiting := [], sent := [], lockedTags := x.lockedTags ++ x.sent.map Sent.tag })).wf (F.MSC_LNK_CTRL_disable t c) 1).wf (F.MSC_LNK_STAT_lstate t c) 9).send (.eios chan)) ∧
      (value % 2 = 0 ∧ s.rf (F.MSC_LNK_CTRL_disable t c) = 1 → exec (.lnkDisable iface chan value) s = .next ((s.wf (F.MSC_LNK_CTRL_disable t c) 0).setLink chan 1)) ∧
      (s.rf (F.MSC_LNK_CTRL_disable t c) = value % 2 → exec (.lnkDisable iface chan value) s = .next s) ∧
      exec (.lnkErrClear iface chan) s = .next ((s.wf (F.MSC_LNK_ERR_crc_errors t c) 0).wf (F.MSC_LNK_ERR_timeouts t c) 0))

/-- The health report, the error records and retirement, by the mailbox and by the sideband (R253, R254, R256, R258, R293, R453, R456). -/
def Obligations.HealthAndRetireCommandsTakeEffect : Prop :=
  ∀ (s : State) (iface ld offset length : Nat) (b : Bytes),
    (s.hears iface ld = true →
      let h := s.heard iface
      let say (op : Nat) (code : Ret) (out : Bytes) (t : State) : Host.Outcome State Fault Refusal :=
        .next (if carries iface op then t.reply iface ld op code out else h.reply iface ld op .unsupported [])
      (h.holds iface .healthRead = true →
        exec (.getHealthReport iface ld) s = say 0xC021 .success h.healthReport h ∧
        (b.length = 8 ∧ 1 ≤ getLe b 4 2 ∧ getLe b 4 2 ≤ errMost ∧ allZero (slice b 6 2) = true →
          let l := (h.errs.reverse.filter (fun e => decide (getLe b 0 4 ≤ e.num) && h.seesErr iface ld e)).take (getLe b 4 2)
          exec (.getMediaErrorRecords iface ld b) s = say 0xC022 .success
            (le 4 l.length ++ le 4 h.errOldest ++ le 4 h.errNext ++ zeros 4 ++ (l.map (h.errBytes iface)).flatten) h) ∧
        (b.length ≠ 8 ∨ getLe b 4 2 = 0 ∨ errMost < getLe b 4 2 ∨ allZero (slice b 6 2) = false → exec (.getMediaErrorRecords iface ld b) s = say 0xC022 .invalidInput [] h)) ∧
      (h.holds iface .retire = true →
        (h.retireInput b = false → exec (.retire iface ld b) s = say 0xC020 .success (retireOutput 1 (getLe b 0 1) 0 0 h.spare 0) h) ∧
        (h.retireInput b = true ∧ 4 ≤ getLe b 0 1 ∧ h.coversAll iface .retire = false → exec (.retire iface ld b) s = say 0xC020 .invalidSecurityState [] (h.deny iface 0xC020 .retire)) ∧
        (h.retireInput b = true ∧ (getLe b 0 1 < 4 ∨ h.coversAll iface .retire = true) →
          (h.retireEffect iface ld b = none → exec (.retire iface ld b) s = say 0xC020 .success (retireOutput 2 (getLe b 0 1) 0 0 h.spare 0) h) ∧
          ∀ e, h.retireEffect iface ld b = some e →
          let est := getLe b 1 1 == 1
          let moved := e.stems.length + e.leaves.length
          let out (st : Nat) : Bytes := retireOutput st (getLe b 0 1) (h.deadOf e) moved (h.spare - h.deadOf e) h.deadwood.length
          (h.retireStatus e ≠ 0 ∨ est = true → exec (.retire iface ld b) s = say 0xC020 .success (out (h.retireStatus e)) h) ∧
          (h.retireStatus e = 0 ∧ est = false ∧ (h.ld iface ld).bg.isSome = true → exec (.retire iface ld b) s = say 0xC020 .busy [] h) ∧
          (h.retireStatus e = 0 ∧ est = false ∧ (h.ld iface ld).bg = none → exec (.retire iface ld b) s = say 0xC020 .background (out 0)
            ((h.modLd iface ld (fun d => { d with bg := some 0xC020 })).startRetire
              ⟨getLe b 0 1, 0, e.places, e.stems, e.leaves, moved, getLe b 16 2, getLe b 18 1, iface, ld, true, h.deadwood.length, e.first, 0⟩ e))))) ∧
    (s.wardenUp = true ∧ s.nacking = false ∧ s.rb F.WDN_I3C_STAT_addr_valid = true ∧ (s.irqEdge irqSideband).holds 5 .healthRead = true →
      let i := s.irqEdge irqSideband
      let ready (code : Nat) (out : Bytes) : Host.Outcome State Fault Refusal := .next { i with sb := { i.sb with response := out, frag := 0, status := code } }
      (offset + length ≤ 2112 → exec (.health offset length) s = ready 0 (slice i.healthReport offset length)) ∧
      (2112 < offset + length → exec (.health offset length) s = ready 4 [])) ∧
    (∀ r, s.retiring = some r ∧ s.retireDone r = true ∧ s.active.isSome = true →
      (∀ line, r.first = some line → exec .retireDone s = .next (s.retireDestaged r line)) ∧
      (r.first = none →
        let marked := if r.cause = 2 then s else s.unitEntry r
        let t := if r.cause = 2 then marked
          else if r.kind = 4 then marked.killDie r.chan r.die
          else if r.kind = 5 then ({ (each (upto 4) marked (fun s d => s.killDie r.chan d)) with retiredChans := (marked.retiredChans ++ [r.chan]).eraseDups } : State).linkOff r.chan
          else each r.places marked (fun s p => s.killPlace p (if r.kind == 3 then 0 else 4))
        let dead := if r.cause = 2 then r.dead else r.dead + (t.deadPlaces - s.deadPlaces)
        let u := ({ t with retiring := none } : State).retireEvent r dead 0
        exec .retireDone s = .next (if r.byHost then u.endBackground r.iface r.ld 0xC020 .success (retireOutput 0 r.kind dead r.total u.spare r.entry) else u).retireNext)) ∧
    ((∀ r, s.retiring = some r → s.retireDone r = false ∨ s.active = none) → exec .retireDone s = .next s)

/-- The scrubber's steps, the cleared SRAM counters and a received fabric word (R13, R275, R283, R285, R286, R287, R295). -/
def Obligations.ScrubAndFabricCommandsTakeEffect : Prop :=
  ∀ (s : State) (tile iface src dst word : Nat) (use : Transfer),
    let n := (s.tile tile).scrubAt
    let total := s.scrubTotal tile
    let done : State := match s.scrubSpot tile n with | some x => s.scrubStripe tile x | none => s
    let may := s.rb (F.MSC_SCR_CFG_enable tile) = true ∧ s.tileInService tile = true ∧ s.power.flushing = false ∧ s.tileThrottled tile = false ∧ s.coreAway (tile + 1) = false ∧ (s.lifecycle == 3) = false
    (¬ (s.tiles[tile]?.map Tile.depth).getD 0 = 0 → exec (.scrubLineStripe tile) s = .next (s.wakeTile tile)) ∧ ((s.tiles[tile]?.map Tile.depth).getD 0 = 0 ∧ ¬ may → exec (.scrubLineStripe tile) s = .next s) ∧
    ((s.tiles[tile]?.map Tile.depth).getD 0 = 0 ∧ may →
      let shown (t : State) (permille : Nat) : State :=
        let u := (t.wf (F.MSC_SCR_STAT_permille tile) permille).wf (F.MSC_SCR_STAT_late tile) (b2n (t.scrubLate tile))
        if t.scrubLate tile && !t.rb (F.MSC_SCR_STAT_late tile) then u.emit (0x20 + 8 * tile + 2) 0x0303 (le 1 tile ++ le 2 permille) else u
      (n + 1 < total → exec (.scrubLineStripe tile) s =
        .next (shown (done.modTile tile (fun x => { x with scrubAt := n + 1 })) (1000 * (n + 1) / max 1 total))) ∧
      (total ≤ n + 1 → exec (.scrubLineStripe tile) s =
        .next (shown ((done.modTile tile (fun x => { x with scrubAt := 0 })).incSat (F.MSC_SCR_STAT_passes tile)) 0))) ∧
    exec (.scrubPositionPersist tile) s = .next (s.modTile tile (fun x => { x with scrubSaved := x.scrubAt })) ∧
    (s.tileCount ≤ tile → exec (.sramClear iface tile) s = .next s) ∧
    (tile < s.tileCount ∧ s.hears iface 0 = true ∧ s.holds iface .mgmtWrite = true →
      exec (.sramClear iface tile) s =
        .next (((s.wf (F.MSC_SRAM_ERR_corrected tile) 0).wf (F.MSC_SRAM_ERR_uncorrectable tile) 0).wf (F.MSC_SRAM_ERR_tag_parity tile) 0)) ∧
    (∀ d, hammingDecode (BitVec.ofNat 137 word) = .clean d → exec (.fabricWordReceive src dst use word) s = .next s) ∧
    (∀ d, hammingDecode (BitVec.ofNat 137 word) = .corrected d → exec (.fabricWordReceive src dst use word) s = .next (s.countHub 1)) ∧
    (hammingDecode (BitVec.ofNat 137 word) = .uncorrectable → 
      let t := s.countHub 2
      exec (.fabricWordReceive src dst use word) s = .next (match use with
        | .request id => (match t.req id with | some q => t.wordLost q | none => t)
        | .engine _ _ => { t with lostWords := t.lostWords.filter (fun p => p.1 != use) ++ [(use, t.lostWords.any (fun p => p.1 == use))] }
        | _ => { t with lostWords := t.lostWords.filter (fun p => p.1 != use) ++ [(use, true)] }))

/-- The media checker opens, writes, reads and closes a scratch place (R297, R298, R299, R300, R301). -/
def Obligations.CheckerCommandsTakeEffect : Prop :=
  ∀ (s : State) (tile iface : Nat) (p : Place),
    let checker := (s.tile tile).checker
    (s.tileCount ≤ tile ∨ s.chkBusy tile = true → exec (.checkerOpen iface tile) s = .next s ∧ exec (.checkerWrite iface tile) s = .next s ∧
      exec (.checkerRead iface tile) s = .next s ∧ exec (.checkerClose iface tile) s = .next s) ∧
    (checker.place = none ∨ checker.waiting ≠ 0 ∨ checker.op = .none → exec (.checkerOpDone tile) s = .next s) ∧
    (tile < s.tileCount ∧ s.chkBusy tile = false ∧ s.hears iface 0 = true ∧ s.holds iface .test = true ∧ s.holds iface .mgmtWrite = true →
      exec (.checkerClose iface tile) s = .next (s.closeChecker tile) ∧
      (s.tileInService tile = false ∨ 2 ≤ s.spareState ∨ checker.place.isSome = true → exec (.checkerOpen iface tile) s = .next (s.chkOutcome tile 6)) ∧
      (s.tileInService tile = true ∧ s.spareState < 2 ∧ checker.place = none →
        let r := s.takePlace tile false false
        (r.2 = none → exec (.checkerOpen iface tile) s = .next (r.1.chkOutcome tile 6)) ∧
        (r.2 = some p →
          let a := ((r.1.placeTo p .lent).wearPlace p 1).setChecker tile ⟨some p, .opening, 0, false⟩
          let b := (((a.wf (F.MSC_CHK_PLACE_place tile) p.num).wf (F.MSC_CHK_PLACE_group tile) p.group).wf (F.MSC_CHK_PLACE_die_index tile) p.die).wf (F.MSC_CHK_PLACE_valid tile) 1
          let c := ((b.wf (F.MSC_CHK_CTRL_open tile) 1).wf (F.MSC_CHK_STAT_busy tile) 1).chkOutcome tile 0
          let pq := parityOf ((upto 14).map (fun d => (d, stripeVector fillerLine)))
          exec (.checkerOpen iface tile) s = .next (each (upto lentStripes) c (fun s n => each (upto 16) s (fun s m =>
            s.chkProgram tile (fastStripe p n) m (if m < 14 then fillerLine else parityLine (if m = 14 then pq.1 else pq.2)) false))))) ∧
      (checker.place = some p →
        exec (.checkerRead iface tile) s =
          .next ((((s.setChecker tile ⟨some p, .reading, 0, false⟩).wf (F.MSC_CHK_STAT_busy tile) 1).wf (F.MSC_CHK_CTRL_read tile) 1).chkOutcome tile 0) ∧
        let spot := s.chkSpot tile p
        let raw := s.chkLine (F.MSC_CHK_DATA tile)
        let staged := if s.rb (F.MSC_CHK_CTRL_encode tile) then recodeLine raw else raw
        let pq := s.newParity spot.1 [(spot.2, staged)]
        let a := ((s.setChecker tile ⟨some p, .writing, 0, false⟩).wf (F.MSC_CHK_STAT_busy tile) 1).wf (F.MSC_CHK_CTRL_write tile) 1
        let b := (a.chkOutcome tile 0).chkProgram tile spot.1 spot.2 (staged ^^^ s.chkLine (F.MSC_CHK_FLIP tile)) true
        exec (.checkerWrite iface tile) s = .next (if b.rb (F.MSC_CHK_CTRL_parity tile) && decide (spot.2 < 14)
          then (b.chkProgram tile spot.1 14 pq.1 false).chkProgram tile spot.1 15 pq.2 false else b)) ∧
      (checker.place = none → exec (.checkerRead iface tile) s = .next (s.chkOutcome tile 6) ∧ exec (.checkerWrite iface tile) s = .next (s.chkOutcome tile 6))) ∧
    (checker.place = some p ∧ checker.waiting = 0 →
      let ended (t : State) : State := each [F.MSC_CHK_CTRL_open tile, F.MSC_CHK_CTRL_write tile, F.MSC_CHK_CTRL_read tile]
        ((t.setChecker tile ⟨some p, .none, 0, false⟩).wf (F.MSC_CHK_STAT_busy tile) 0) (fun s f => s.wf f 0)
      (checker.op ≠ .none ∧ checker.failed = true → exec (.checkerOpDone tile) s = .next (((s.killPlace p 1).closeChecker tile).chkOutcome tile 5)) ∧
      (checker.failed = false →
        (checker.op = .reading → exec (.checkerOpDone tile) s = .next (ended (s.chkResult tile p))) ∧
        (checker.op = .opening → exec (.checkerOpDone tile) s = .next (ended (s.wf (F.MSC_CHK_STAT_open tile) 1))) ∧
        (checker.op = .writing → exec (.checkerOpDone tile) s = .next (ended (s.chkOutcome tile 1)))))

/-- The cache range operations start with their counts shown, and their end is reported (R312, R313, R314, R316). -/
def Obligations.CacheRangeCommandsTakeEffect : Prop :=
  ∀ (s : State) (tile iface : Nat),
    (s.tileCount ≤ tile ∨ (s.tile tile).held = true → exec (.clean iface tile) s = .next s ∧ exec (.invalidate iface tile) s = .next s ∧
      exec (.cleanAndInvalidate iface tile) s = .next s ∧ exec (.lock iface tile) s = .next s ∧ exec (.unlock iface tile) s = .next s) ∧
    (tile < s.tileCount ∧ (s.tile tile).held = false ∧ s.hears iface 0 = true ∧ s.holds iface .tileService = true ∧ s.holds iface .mgmtWrite = true →
      let codes : List (Nat × Instr) := [(1, .clean iface tile), (2, .invalidate iface tile), (3, .cleanAndInvalidate iface tile), (4, .lock iface tile), (5, .unlock iface tile)]
      (s.rb (F.CCH_RM_STAT_busy tile) = true → ∀ x ∈ codes, exec x.2 s = .next (s.wf (F.CCH_RM_STAT_outcome tile) 2)) ∧
      (s.rb (F.CCH_RM_STAT_busy tile) = false →
        let comp := s.rf (F.CCH_RM_COMP_id tile)
        let a (op : Nat) : State := (s.wf (F.CCH_RM_SKIP_count tile) 0).wf (F.CCH_RM_CTRL_op tile) op
        let o (op : Nat) : RangeOp := ⟨op, (a op).rb (F.CCH_RM_CTRL_force tile), comp, (a op).rmFirst tile, (a op).rmCount tile, false, []⟩
        let full (op : Nat) : RangeOp := { o op with leaves := if op == 1 || op == 3 then (a op).dirtyLeaves tile (o op) else if op == 2 && (o op).force then (a op).lockedLeaves tile (o op) else [] }
        let b (op : Nat) : State :=
          (((((a op).modTile tile (fun x => { x with range := some (full op) })).wf (F.CCH_RM_STAT_busy tile) 1).wf (F.CCH_RM_CTRL_go tile) 1).wf (F.CCH_RM_STAT_outcome tile) 0).countTile
            tile 119 [comp] (o op).count
        (∀ x ∈ codes, (a x.1).served comp = none → exec x.2 s = .next ((a x.1).wf (F.CCH_RM_STAT_outcome tile) 3)) ∧
        (∀ c, ∀ x ∈ codes, (a x.1).served comp = some c ∧ ((o x.1).count = 0 ∨ c.hi < c.lo + ((o x.1).first + (o x.1).count) * 64) →
          exec x.2 s = .next ((a x.1).wf (F.CCH_RM_STAT_outcome tile) 3)) ∧
        (∀ c, (∀ op, 1 ≤ op ∧ op ≤ 5 → (a op).served comp = some c ∧ (o op).count ≠ 0 ∧ c.lo + ((o op).first + (o op).count) * 64 ≤ c.hi) →
          exec (.clean iface tile) s = .next ((b 1).rangeClean tile (full 1).leaves) ∧
          exec (.invalidate iface tile) s = .next (if (full 2).leaves.isEmpty then (b 2).rangeDrop tile (full 2) else ((b 2).rangeTake tile (full 2) false).rangeClean tile (full 2).leaves) ∧
          exec (.cleanAndInvalidate iface tile) s = .next ((b 3).rangeClean tile (full 3).leaves) ∧
          exec (.lock iface tile) s = .next ((b 4).rangeLock tile (full 4)) ∧
          exec (.unlock iface tile) s = .next ((b 5).rangeUnlock tile (full 5))))) ∧
    (∀ o, (s.tile tile).range = some o →
      let waits := o.leaves.any (fun n => (s.tile tile).urgent.contains n || (s.tile tile).destages.any (fun d => d.leaf == n))
      let t := if o.op == 3 || (o.op == 2 && !o.leaves.isEmpty) then s.rangeDrop tile o else s
      (s.coreAway (tile + 1) = true ∨ waits = true → exec (.rangeOpDone tile) s = .next s) ∧
      (s.coreAway (tile + 1) = false ∧ waits = false → exec (.rangeOpDone tile) s = .next ((((t.modTile tile (fun x => { x with range := none })).wf (F.CCH_RM_STAT_busy tile) 0).wf
        (F.CCH_RM_CTRL_go tile) 0).wf (F.CCH_RM_STAT_outcome tile) (if o.badLine then 4 else 1)))) ∧
    ((s.tile tile).range = none → exec (.rangeOpDone tile) s = .next s)

/-- Key slots are created, destroyed and shown, and a re-key starts, passes its lines and ends (R319, R320, R321, R325, R347, R349, R350, R453). -/
def Obligations.KeySlotCommandsTakeEffect : Prop :=
  ∀ (s : State) (iface ld tile slot : Nat) (b : Bytes) (upsets : List Upset),
    let h := s.heard iface
    let say (op : Nat) (a : Answer) : Host.Outcome State Fault Refusal :=
      .next (if carries iface op then a.state.reply iface ld op a.code a.payload else h.reply iface ld op .unsupported [])
    let k := getLe b 0 4
    let x := h.slot k
    (s.hears iface ld = true ∧ h.holds iface .keyAdmin = true →
      (keyInput b = false → exec (.createKeySlot iface ld b) s = say 0xC010 ⟨.success, keyOutput 1 0, h⟩ ∧ exec (.destroyKeySlot iface ld b) s = say 0xC011 ⟨.success, keyOutput 1 0, h⟩) ∧
      (keyInput b = true ∧ h.keyCovered iface k = false →
        exec (.createKeySlot iface ld b) s = say 0xC010 ⟨.success, keyOutput 4 x.gen, h⟩ ∧ exec (.destroyKeySlot iface ld b) s = say 0xC011 ⟨.success, keyOutput 4 x.gen, h⟩) ∧
      (keyInput b = true ∧ h.keyCovered iface k = true →
        (x.state = 1 → exec (.createKeySlot iface ld b) s = say 0xC010 ⟨.success, keyOutput 2 x.gen, h⟩) ∧
        (x.state ≠ 1 ∧ 0xFFF ≤ x.gen → exec (.createKeySlot iface ld b) s = say 0xC010 ⟨.success, keyOutput 3 x.gen, h⟩) ∧
        (x.state ≠ 1 ∧ x.gen < 0xFFF →
          let n : Slot := ⟨1, x.gen + 1, if getLe b 4 1 == 1 then none else some (iface, ld), h.glade.opsec, h.glade.pwrcyc, Config.slotKey k (x.gen + 1) h.freeCtr⟩
          exec (.createKeySlot iface ld b) s = say 0xC010 ⟨.success, keyOutput 0 (x.gen + 1),
            (({ h with freeCtr := h.freeCtr + 1 } : State).setSlot k n).keyEvent k (x.gen + 1) iface⟩) ∧
        (x.state ≠ 1 → exec (.destroyKeySlot iface ld b) s = say 0xC011 ⟨.success, keyOutput 2 x.gen, h⟩) ∧
        (x.state = 1 ∧ x.boundTo iface ld = false → exec (.destroyKeySlot iface ld b) s = say 0xC011 ⟨.success, keyOutput 4 x.gen, h⟩) ∧
        (x.state = 1 ∧ x.boundTo iface ld = true ∧ h.keyInRekey k = true → exec (.destroyKeySlot iface ld b) s = say 0xC011 ⟨.success, keyOutput 5 x.gen, h⟩) ∧
        (x.state = 1 ∧ x.boundTo iface ld = true ∧ h.keyInRekey k = false →
          (h.namedKey k = true ∧ getLe b 4 1 = 0 → exec (.destroyKeySlot iface ld b) s = say 0xC011 ⟨.success, keyOutput 6 x.gen, h⟩) ∧
          (h.namedKey k = false ∨ getLe b 4 1 ≠ 0 → exec (.destroyKeySlot iface ld b) s = say 0xC011 ⟨.success, keyOutput 0 x.gen,
            (((h.setSlot k { x with state := 2, key := 0 }).dropKey k).writeStructures).keyEvent k x.gen iface⟩))) ∧
      exec (.getKeySlotInfo iface ld b) s = say 0xC012 ⟨.success, h.slotInfo iface b, h⟩ ∧
      (b.length ≠ 16 ∨ allZero (slice b 2 2) = false ∨ 2 ^ 20 ≤ getLe b 12 4 → exec (.startRekey iface ld b) s = say 0xC013 ⟨.invalidInput, [], h⟩) ∧
      (b.length = 16 ∧ allZero (slice b 2 2) = true ∧ getLe b 12 4 < 2 ^ 20 →
        let comp := getLe b 0 2
        let new := getLe b 12 4
        let old := match h.served comp with | some c => h.effKey c (getLe b 4 4) | none => new
        (h.keyCovered iface new = false ∨ h.keyCovered iface old = false → exec (.startRekey iface ld b) s = say 0xC013 ⟨.invalidSecurityState, [], h.deny iface 0xC013 .keyAdmin⟩) ∧
        (h.keyCovered iface new = true ∧ h.keyCovered iface old = true →
          let st := h.rekeyStatus iface ld comp (getLe b 4 4) (getLe b 8 4) new
          (st ≠ 0 → exec (.startRekey iface ld b) s = say 0xC013 ⟨.success, rekeyOutput st 0, h⟩) ∧
          (st = 0 ∧ (h.ld iface ld).bg = none → exec (.startRekey iface ld b) s = say 0xC013 ⟨.background, rekeyOutput 0 (h.freeRekey.getD 0),
            h.rekeyBegin ⟨h.freeRekey.getD 0, comp, getLe b 4 4, getLe b 8 4, old, new, iface, ld⟩⟩) ∧
          (st = 0 ∧ (h.ld iface ld).bg.isSome = true → exec (.startRekey iface ld b) s = say 0xC013 ⟨.busy, [], h⟩)))) ∧
    (∀ r, s.rekeys.find? (fun r => r.slot == slot) = some r →
      (∀ c, (s.tiles[tile]?.map Tile.depth).getD 0 = 0 ∧ s.served r.comp = some c ∧ tgetD (s.tile tile).bounds slot 0 < s.rekeyLines r tile →
        let n := tgetD (s.tile tile).bounds slot 0
        let ref : LeafRef := ⟨r.comp, tile, s.rekeyFirst r tile + n / 64⟩
        let line := s.lineOfLeaf ref + n % 64
        let t := s.server tile
        (s.coreAway (t + 1) = false ∧ s.rb (F.MSC_WR_STAT_braced t) = false ∧ s.admits t line = true ∧ s.reqs.any (fun q => q.atTile && q.line == line) = false →
          exec (.rekeyLine tile slot upsets) s = .next (((s.meetAt line 7 c ref upsets).rekeyLine t c r ref line).passLine tile r)) ∧
        (s.coreAway (t + 1) = true ∨ s.rb (F.MSC_WR_STAT_braced t) = true ∨ s.admits t line = false ∨ s.reqs.any (fun q => q.atTile && q.line == line) = true →
          exec (.rekeyLine tile slot upsets) s = .next s)) ∧
      ((s.tiles[tile]?.map Tile.depth).getD 0 = 0 ∧ (s.served r.comp = none ∨ s.rekeyLines r tile ≤ tgetD (s.tile tile).bounds slot 0) → exec (.rekeyLine tile slot upsets) s = .next s) ∧
      (s.tileList.all (fun t => decide (s.rekeyLines r t ≤ tgetD (s.tile t).bounds slot 0)) = true ∧ (overlayPut s.overlay r).length ≤ overlayMost →
        exec (.rekeyEnd slot) s = .next ((s.rekeyFinish r).endBackground r.iface r.ld 0xC013 .success (rekeyOutput 0 slot))) ∧
      (s.tileList.all (fun t => decide (s.rekeyLines r t ≤ tgetD (s.tile t).bounds slot 0)) = false ∨ overlayMost < (overlayPut s.overlay r).length → exec (.rekeyEnd slot) s = .next s)) ∧
    ((s.tiles[tile]?.map Tile.depth).getD 0 ≠ 0 → exec (.rekeyLine tile slot upsets) s = .next (s.wakeTile tile)) ∧
    (s.rekeys.find? (fun r => r.slot == slot) = none → exec (.rekeyEnd slot) s = .next s ∧ ((s.tiles[tile]?.map Tile.depth).getD 0 = 0 → exec (.rekeyLine tile slot upsets) s = .next s))

/-- Re-roots, the accepted taproots and sealed sets, warrants and the attestation report (R341, R344, R351, R363, R365, R371, R388). -/
def Obligations.RootAndRightsCommandsTakeEffect : Prop :=
  ∀ (s : State) (iface ld tile value : Nat) (secured : Bool) (b : Bytes),
    let h := s.heard iface
    (s.hears iface 0 = true ∧ s.holds iface .reRoot = true ∧ s.holds iface .mgmtWrite = true ∧ s.rb F.CIF_REROOT_STAT_busy = true → exec (.reroot iface value) s = .next s) ∧
    (s.hears iface 0 = true ∧ s.holds iface .reRoot = true ∧ s.holds iface .mgmtWrite = true ∧ s.rb F.CIF_REROOT_STAT_busy = false ∧ s.covers iface .reRoot (bits value 11 0) = false →
      exec (.reroot iface value) s = .next (s.deny iface F.CIF_REROOT_CTRL_go.addr .reRoot)) ∧
    (s.hears iface 0 = true ∧ s.rb F.CIF_REROOT_STAT_busy = false ∧ s.holds iface .reRoot = true ∧ s.holds iface .mgmtWrite = true ∧ s.covers iface .reRoot (bits value 11 0) = true →
      let t := (((s.wf F.CIF_REROOT_CTRL_compartment (bits value 11 0)).wf F.CIF_REROOT_CTRL_tile (bits value 14 12)).wf F.CIF_REROOT_CTRL_all_tiles (bits value 15 15)).wf F.CIF_REROOT_STAT_poisoned 0
      (t.rerootLeft = true → exec (.reroot iface value) s = .next (((t.wf F.CIF_REROOT_CTRL_go 1).wf F.CIF_REROOT_STAT_busy 1).wf F.CIF_REROOT_STAT_outcome 0)) ∧
      (t.rerootLeft = false → exec (.reroot iface value) s = .next (t.wf F.CIF_REROOT_STAT_outcome 2))) ∧
    (let comp := s.rf F.CIF_REROOT_CTRL_compartment
     (s.rb F.CIF_REROOT_STAT_busy = false ∨ s.rerootTiles.contains tile = false ∨ (s.badOf comp tile).isEmpty = true → exec (.rerootDone tile) s = .next s) ∧
     (s.rb F.CIF_REROOT_STAT_busy = true ∧ s.rerootTiles.contains tile = true ∧ (s.badOf comp tile).isEmpty = false →
      let a : Rerooted := match s.served comp with
        | some c => s.rerootTile c tile
        | none => ⟨s.modTile tile (fun x => { x with badNodes := x.badNodes.filter (fun b => b.1 != comp) }), 0, 0⟩
      let t := a.state.wf F.CIF_ROOT_STAT_unverifiable (a.state.rf F.CIF_ROOT_STAT_unverifiable - ((s.badOf comp tile).length - (a.state.badOf comp tile).length))
      let u := (({ t with rerooted := if t.rerooted.contains comp then t.rerooted else t.rerooted ++ [comp] } : State).incSat F.CIF_REROOT_STAT_poisoned a.lines).raise
        0x0502 (le 2 comp ++ le 1 tile ++ le 4 a.nodes ++ le 4 a.lines) [comp]
      (u.rerootLeft = true → exec (.rerootDone tile) s = .next u) ∧
      (u.rerootLeft = false → exec (.rerootDone tile) s = .next (((u.wf F.CIF_REROOT_STAT_busy 0).wf F.CIF_REROOT_CTRL_go 0).wf F.CIF_REROOT_STAT_outcome 1)))) ∧
    (s.rootsAccepted = true ∨ s.clocks.imageChecked = false ∨ s.wardenUp = false → exec .taprootAccept s = .next s) ∧
    (s.rootsAccepted = false ∧ s.clocks.imageChecked = true ∧ s.wardenUp = true →
      let never := s.glade.committed.isNone && s.sealBay.isEmpty && s.sealBook.isEmpty
      let x := if s.glade.lost then newestSet (s.sealBay ++ s.sealBook) else s.acceptedSet
      let inBay := match s.glade.committed, newestSet s.sealBay with | some d, some y => y.digest == d | _, _ => false
      let src := if never then 0 else if s.glade.lost then 2 else if x.isNone || s.glade.committed.isNone then 3 else if inBay then 0 else 1
      let t := (({ s with rootsAccepted := true, sealing := none } : State).wf F.CIF_ROOT_STAT_source src).resumeAllocs x
      let u := match (if src == 3 then none else x) with | some y => (t.takeSet y).loadBoles | none => t
      let v := if src == 3 then u.allUnverifiable else u
      let w := if 2 ≤ src then v.raise 0x0503 (le 1 src) else v
      exec .taprootAccept s = .next { w with clocks := { w.clocks with taprootsAccepted := true }, glade := { w.glade with lost := false } }) ∧
    (s.rootsAccepted = false ∨ s.acceptedSet = none ∨ (∃ x, s.acceptedSet = some x ∧ s.sealBook.contains x = true) → exec .sealedSetSave s = .next s) ∧
    (∀ x, s.rootsAccepted = true ∧ s.acceptedSet = some x ∧ s.sealBook.contains x = false →
      exec .sealedSetSave s = .next { s with sealBook := (newestSet s.sealBook).toList ++ [x] }) ∧
    (s.hears iface ld = true →
      let say (a : Answer) : Host.Outcome State Fault Refusal :=
        .next (if carries iface 0xC060 then a.state.reply iface ld 0xC060 a.code a.payload else h.reply iface ld 0xC060 .unsupported [])
      let op := getLe b 0 1
      let act := getLe b 1 1
      let length := getLe b 4 4
      let w := slice b 8 length
      let record := b.drop (8 + length)
      let pw := parseWarrant w
      let st := h.warrantStatus iface op act w record length
      let ended (n : Nat) (t : State) : Answer := ⟨.success, t.warrantOutput iface n, t⟩
      (b.length < 8 ∨ 3 < op ∨ allZero (slice b 2 2) = false → exec (.submitWarrant iface ld b) s = say ⟨.invalidInput, [], h⟩) ∧
      (8 ≤ b.length ∧ op ≤ 3 ∧ allZero (slice b 2 2) = true →
        (op = 0 → exec (.submitWarrant iface ld b) s = say (ended 0 h)) ∧
        (op = 2 → exec (.submitWarrant iface ld b) s = say (ended 0 (h.dropWarrants iface))) ∧
        (op ≠ 0 ∧ op ≠ 2 ∧ h.suppliesKeySet op act length record = true → exec (.submitWarrant iface ld b) s = say (ended 0 (h.storeOwnerSet record))) ∧
        (op ≠ 0 ∧ op ≠ 2 ∧ h.suppliesKeySet op act length record = false →
          (st ≠ 0 → exec (.submitWarrant iface ld b) s = say (ended st (h.warrantEvent iface st pw))) ∧
          (st = 0 ∧ op = 1 → exec (.submitWarrant iface ld b) s = say (ended 0 ((h.holdWarrant iface pw).warrantEvent iface 0 pw))) ∧
          (st = 0 ∧ op ≠ 1 →
            let t := (if pw.nonceBound then h.newChallenge iface else h).warrantEvent iface 0 pw
            exec (.submitWarrant iface ld b) s = say (ended 0 (if act = 1 then t.act1 record else if act = 2 then t.act2 else t.act3)))))) ∧
    (let held := tgetD s.rights.held iface []
     let t : State := { s with rights := { s.rights with held := tput s.rights.held iface (held.filter (fun w => decide (s.glade.opsec < w.notAfter))) } }
     exec (.warrantLapse iface) s = .next (each (held.filter (fun w => decide (w.notAfter ≤ s.glade.opsec))) t (fun s w =>
       s.raise 0x0601 (le 1 iface ++ le 1 0x06 ++ le 1 w.signer ++ le 8 w.rights)))) ∧
    (let made (t : State) : Answer := if b.length = 32 then ⟨.success, t.attestation b, t⟩ else ⟨.invalidInput, [], t⟩
     let run (t : State) (op : Nat) : State := (made t).state.reply iface (if iface < 4 then ld else 0) op (made t).code (made t).payload
     (4 ≤ iface ∧ s.hears iface 0 = true ∧ carries iface 0xD030 = true ∧ h.holds iface .attest = true → exec (.attestationReport iface ld secured b) s = .next (run h 0xD030)) ∧
     (iface < 4 ∧ s.hears iface ld = true →
       let d := (s.countHub 33).irqEdge (irqDoe iface)
       (secured = false → exec (.attestationReport iface ld secured b) s = .next (d.reply iface ld 1 .invalidSecurityState [])) ∧
       (secured = true ∧ d.holds iface .attest = false → exec (.attestationReport iface ld secured b) s = .next ((d.deny iface 0xD030 .attest).reply iface ld 1 .invalidSecurityState [])) ∧
       (secured = true ∧ d.holds iface .attest = true → exec (.attestationReport iface ld secured b) s = .next (run d 1))))

/-- Images are staged, checked, marked, applied, returned and discarded under their rights (R103, R104, R105, R106, R107, R111, R119, R121, R122, R141, R453). -/
def Obligations.ImageStagingCommandsTakeEffect : Prop :=
  ∀ (s : State) (iface ld value : Nat) (b : Bytes),
    let notNow (t : State) : State := (t.wf F.STD_STAT_result 0x14).wf F.STD_STAT_detail 0xFFFF
    (s.hears iface ld = true →
      let h := s.heard iface
      let say (op : Nat) (a : Answer) : Host.Outcome State Fault Refusal :=
        .next (if carries iface op then a.state.reply iface ld op a.code a.payload else h.reply iface ld op .unsupported [])
      (h.holds iface .imageStage = true →
        (iface < 4 ∧ mailboxSize < b.length → exec (.stageImage iface ld b) s = say 0xC030 ⟨.invalidLength, [], h⟩) ∧
        (¬ (iface < 4 ∧ mailboxSize < b.length) →
          let action := getLe b 0 1
          let got : Bytes := match h.img.xfer with | some x => if action ≤ 1 then [] else x.2.2 | none => []
          let busy := h.stdBusy && (decide (action ≤ 1) || (decide (action ≤ 3) && h.img.xfer.isSome))
          let other := match h.img.xfer with | some x => x.1 != iface | none => false
          let bad := !stageShape b || getLe b 4 4 != got.length || (decide (2 ≤ action) && h.img.xfer.isNone)
          let wait := (action == 0 || action == 3) && decide (iface < 4) && (h.ld iface ld).bg.isSome
          (busy = true → exec (.stageImage iface ld b) s = say 0xC030 ⟨.busy, [], h⟩) ∧
          (busy = false ∧ other = true → exec (.stageImage iface ld b) s = say 0xC030 ⟨.invalidInput, [], h⟩) ∧
          (busy = false ∧ other = false ∧ bad = true → exec (.stageImage iface ld b) s =
            say 0xC030 ⟨.invalidInput, [], match h.img.xfer with | some x => if x.1 = iface then h.dropStage else h | none => h⟩) ∧
          (busy = false ∧ other = false ∧ bad = false →
            (wait = true → exec (.stageImage iface ld b) s = say 0xC030 ⟨.busy, [], h⟩) ∧
            (wait = false ∧ (action = 0 ∨ action = 3) → exec (.stageImage iface ld b) s = say 0xC030 ⟨.background, [], h.stageWhole iface ld (got ++ b.drop 16)⟩) ∧
            (action = 4 → exec (.stageImage iface ld b) s = say 0xC030 ⟨.success, zeros 8, h.dropStage⟩) ∧
            (action = 1 ∨ action = 2 →
              let t := if action = 1 then h.setStaged none else h
              exec (.stageImage iface ld b) s = say 0xC030 ⟨.success, zeros 8, ({ t with img := { t.img with xfer := some (iface, ld, got ++ b.drop 16) } } : State).seedProgram.stdState 1⟩)))) ∧
      (∀ r, s.controlRight iface (getLe b 0 1) = some r ∧ h.holds iface r = true →
        let op := getLe b 0 1
        let ran (t : State) : Host.Outcome State Fault Refusal := say 0xC031 ⟨.success, t.controlOutput (if h.stdBusy then 2 else 0), t⟩
        let unmarkable := [0, 1, 2, 4].contains (h.rf F.STD_STAT_state)
        (b.length ≠ 4 ∨ allZero (slice b 1 3) = false ∨ op = 0 ∨ 7 < op → exec (.imageControl iface ld b) s = say 0xC031 ⟨.success, h.controlOutput 1, h⟩) ∧
        (b.length = 4 ∧ allZero (slice b 1 3) = true →
          (op = 1 → exec (.imageControl iface ld b) s = ran h.verifyImage) ∧ (op = 2 → exec (.imageControl iface ld b) s = ran h.applyLive) ∧
          (op = 3 ∧ unmarkable = true → exec (.imageControl iface ld b) s = say 0xC031 ⟨.success, h.controlOutput 3, h⟩) ∧
          (op = 3 ∧ unmarkable = false → exec (.imageControl iface ld b) s = ran (h.markResume true)) ∧
          (op = 4 → exec (.imageControl iface ld b) s = say 0xC031 ⟨.success, (h.markResume false).controlOutput 0, h.markResume false⟩) ∧
          (op = 5 → exec (.imageControl iface ld b) s = ran h.returnPrev) ∧ (op = 6 → exec (.imageControl iface ld b) s = ran h.discardStaged) ∧
          (op = 7 → exec (.imageControl iface ld b) s = say 0xC031 ⟨.success, h.controlOutput 0, h⟩)))) ∧
    (s.hears iface 0 = true ∧ s.holds iface .mgmtWrite = true →
      (s.holds iface .imageStage = true →
        (s.stdBusy = false → exec (.verify iface) s = .next (({ s with img := { s.img with checking := some (0, 0), checkFor := 0 } } : State).wf F.STD_CTRL_verify 1) ∧
          exec (.discardStaged iface) s = .next s.dropStage) ∧
        (s.stdBusy = true → exec (.verify iface) s = .next (notNow s) ∧ exec (.discardStaged iface) s = .next (notNow s))) ∧
      (s.holds iface .imageApply = true →
        (s.stdBusy = true → exec (.applyLive iface) s = .next (notNow s)) ∧
        (s.stdBusy = false →
          let r := s.checkStaged
          let i := r.2.stagedImg
          exec (.applyLive iface) s = .next (if r.1.1 ≠ 0 then r.2.imageRefused r.2.epochStaged r.1.1 r.1.2
            else if i.flags / 2 % 2 = 1 then r.2.imageRefused i.epoch 0x13 0xFFFF
            else if r.2.applyCheck i ≠ 0 then r.2.imageRefused i.epoch (r.2.applyCheck i) 0xFFFF else r.2.beginApply false i)) ∧
        (value % 2 = 0 → exec (.applyAtResume iface value) s = .next ((s.writeRecord { s.img.record with mark := false }).wf F.STD_CTRL_apply_at_resume 0)) ∧
        (value % 2 = 1 →
          ([0, 1, 2, 4].contains (s.rf F.STD_STAT_state) = true → exec (.applyAtResume iface value) s = .next s) ∧
          ([0, 1, 2, 4].contains (s.rf F.STD_STAT_state) = false ∧ s.stdBusy = true → exec (.applyAtResume iface value) s = .next (notNow s)) ∧
          ([0, 1, 2, 4].contains (s.rf F.STD_STAT_state) = false ∧ s.stdBusy = false →
            exec (.applyAtResume iface value) s = .next ((s.writeRecord { s.img.record with mark := true }).wf F.STD_CTRL_apply_at_resume 1)))) ∧
      (s.holds iface .imageReturn = true →
        (s.stdBusy = true → exec (.returnPrev iface) s = .next (notNow s)) ∧
        (s.stdBusy = false ∧ s.img.prev = none → exec (.returnPrev iface) s = .next (s.imageRefused 0 0x13 0xFFFF)) ∧
        (∀ p, s.stdBusy = false ∧ s.img.prev = some p →
          let r := s.checkImage (.previous s.returnFloor) (some p) p.bytes
          let t := s.slhCount r.1 p.bytes.length
          exec (.returnPrev iface) s = .next (if r.1 ≠ 0 then t.imageRefused (slotEpoch (some p)) r.1 r.2.1
            else if t.applyCheck (parseImg p.bytes) ≠ 0 then t.imageRefused (parseImg p.bytes).epoch (t.applyCheck (parseImg p.bytes)) 0xFFFF
            else (t.stdResult 0 0xFFFF).beginApply true (parseImg p.bytes))))) ∧
    (s.img.checking = none → exec .imageChecksDone s = .next s) ∧
    (∀ i l, s.img.checking = some (i, l) →
      let t := ({ s with img := { s.img with checking := none } } : State).wf F.STD_CTRL_verify 0
      let bytes := match t.img.staged with | some x => x.bytes | none => []
      let epoch := if headerGood bytes then getLe bytes 0x0C 4 else 0
      let r := t.checkStaged
      let u := if r.1.1 = 0 then r.2 else r.2.imageEvent r.2.epochActive epoch r.1.1 0 0
      exec .imageChecksDone s = .next (if s.img.checkFor = 1
        then u.endBackground i l 0xC030 (if r.1.1 = 0 then .success else .invalidInput) (le 1 r.1.1 ++ zeros 1 ++ le 2 r.1.2 ++ le 4 epoch) else u))

/-- An apply compares, switches compartment by compartment, rolls back, commits; a resume checks the image (R106, R108, R109, R111, R112, R114, R117). -/
def Obligations.ApplyStepsTakeEffect : Prop :=
  ∀ (s : State) (comp : Nat),
    (∀ a old, s.img.apply = some a ∧ s.active = some old →
      (a.comparing = true →
        (s.compareRefused old a.img = true →
          let t := (s.applyOver a).wf F.STD_APPLY_STAT_outcome 0
          exec .applyComparisonDone s = .next ((if a.isReturn then t else t.stdState 3).imageRefused a.img.epoch 0x13 0xFFFF)) ∧
        (s.compareRefused old a.img = false →
          let changed := s.changedComps old a.img
          let b := { a with comparing := false, changed := changed, placement := changed.filter (s.placementChange old a.img) }
          let t := (s.wf F.STD_APPLY_STAT_total changed.length).wakeForApply
          exec .applyComparisonDone s = .next (t.setApply (some ((s.wf F.STD_APPLY_STAT_total changed.length).orderMore b))))) ∧
      (s.compInFlight comp = 0 →
        (a.rolling = true ∧ a.switched.getLast? = some comp → exec (.compartmentQuiet comp) s = .next (s.switchBack a old comp)) ∧
        (a.rolling = false ∧ a.ordered.contains comp = true ∧ a.switched.contains comp = false →
          exec (.compartmentQuiet comp) s = .next (if a.placement.contains comp && !s.compEmpty comp then s.failApply 6 comp 0
            else match s.refuser a.img comp with | some t => s.failApply 4 comp t | none => s.switchComp a old comp)) ∧
        (a.rolling = true ∧ a.switched.getLast? ≠ some comp → exec (.compartmentQuiet comp) s = .next s) ∧
        (a.rolling = false ∧ (a.ordered.contains comp = false ∨ a.switched.contains comp = true) → exec (.compartmentQuiet comp) s = .next s)) ∧
      (s.compInFlight comp ≠ 0 → exec (.compartmentQuiet comp) s = .next s) ∧ (a.comparing = false → exec .applyComparisonDone s = .next s)) ∧
    (s.img.apply = none ∨ s.active = none → exec (.compartmentQuiet comp) s = .next s ∧ exec .applyComparisonDone s = .next s) ∧
    ((∀ a, s.img.apply = some a → a.ordering comp = false) → exec (.quietWaitExpire comp) s = .next s ∧ exec (.forcedHoldExpire comp) s = .next s ∧ exec (.switchDeadlineExpire comp) s = .next s) ∧
    ((∀ a, s.img.apply = some a → a.comparing = true ∨ a.rolling = true ∨ a.committing = true ∨ a.switched.length ≠ a.changed.length) → exec .applyCommit s = .next s) ∧
    ((∀ a, s.img.apply = some a → a.committing = false) → exec .applyCommitDone s = .next s) ∧
    (∀ a, s.img.apply = some a →
      (a.ordering comp = true ∧ thas a.forced comp = false →
        exec (.quietWaitExpire comp) s = .next (s.setApply (some { a with forced := a.forced ++ [(comp, s.fine)] }))) ∧
      (a.ordering comp = true ∧ thas a.forced comp = true → exec (.forcedHoldExpire comp) s = .next (s.failApply 1 comp 0) ∧ exec (.quietWaitExpire comp) s = .next s) ∧
      (thas a.forced comp = false → exec (.forcedHoldExpire comp) s = .next s) ∧
      (a.ordering comp = true → exec (.switchDeadlineExpire comp) s = .next (s.failApply 2 comp 0)) ∧
      (a.comparing = false ∧ a.rolling = false ∧ a.committing = false ∧ a.switched.length = a.changed.length →
        exec .applyCommit s = .next (((s.setApply (some { a with committing := true })).sections a.img).beginRecord (s.commitRec a.isReturn))) ∧
      (a.committing = true →
        let t := (((s.applyOver a).commitRecord a.isReturn).commitEffects s.activeSlotImg a.img).wf F.STD_APPLY_STAT_outcome 1
        exec .applyCommitDone s = .next ((if a.isReturn then t else t.stdState 0).imageEvent s.epochActive a.img.epoch 0 1 0))) ∧
    (s.clocks.imageChecked = true ∨ s.wardenUp = false → exec .standImageResumeCheck s = .next s) ∧
    (s.clocks.imageChecked = false ∧ s.wardenUp = true →
      let c : State := { s.newestRecord with clocks := { s.clocks with imageChecked := true } }
      (c.rb F.WDN_FW_STAT_rom_only = true → exec .standImageResumeCheck s = .next { c with active := none }) ∧
      (c.rb F.WDN_FW_STAT_rom_only = false →
        let t := c.resumeActive
        let r := t.resumeResult
        let u := (t.writeRecord { t.img.record with mark := false }).wf F.STD_CTRL_apply_at_resume 0
        (c.img.mark = false → exec .standImageResumeCheck s = .next u) ∧
        (c.img.mark = true ∧ r.1 = 0 → exec .standImageResumeCheck s = .next (u.resumeMarked r.2.2)) ∧
        (c.img.mark = true ∧ r.1 ≠ 0 → exec .standImageResumeCheck s = .next (u.imageRefused u.epochStaged r.1 r.2.1))))

/-- Queue pairs are created, deleted and shown; descriptors are fetched, run and completed (R115, R134, R145, R147, R148, R151, R153, R154, R453). -/
def Obligations.QueueCommandsTakeEffect : Prop :=
  ∀ (s : State) (iface ld queue desc value : Nat) (b : Bytes) (srcUpsets upsets : List Upset),
    let h := s.heard iface
    let say (op : Nat) (a : Answer) : Host.Outcome State Fault Refusal :=
      .next (if carries iface op then a.state.reply iface ld op a.code a.payload else h.reply iface ld op .unsupported [])
    let id := getLe b 0 2
    (s.hears iface ld = true ∧ h.holds iface .queue = true →
      (let good := b.length = 32 ∧ id < 4096 ∧ h.queue id = none ∧ 4 ≤ getLe b 2 1 ∧ getLe b 2 1 ≤ 12 ∧ getLe b 8 8 % 4096 = 0 ∧ getLe b 16 8 % 4096 = 0 ∧ getLe b 4 2 < 2048 ∧
          getLe b 3 1 ≤ 1 ∧ allZero (slice b 6 2) = true ∧ allZero (slice b 24 8) = true
       (good → exec (.createQueuePair iface ld b) s = say 0xC000 ⟨.success, [], h.putQueue id ⟨iface, ld, getLe b 2 1, getLe b 3 1 == 1, getLe b 4 2, getLe b 8 8, getLe b 16 8,
          0, 0, 0, 0, true, false, [], 0, none, false, [], 0⟩⟩) ∧
       (¬ good → exec (.createQueuePair iface ld b) s = say 0xC000 ⟨.invalidInput, [], h⟩)) ∧
      (∀ x, h.queue id = some x →
        let mine := x.port = iface ∧ x.ld = ld
        let good := b.length = 4 ∧ getLe b 2 1 ≤ 1 ∧ allZero (slice b 3 1) = true ∧ mine
        (good →
          let y := { x with deleting := true, fetching := false, descs := x.descs.map (fun d => if getLe b 2 1 == 1 then d.aborted else d) }
          exec (.deleteQueuePair iface ld b) s = say 0xC001 ⟨.success, [], ((h.putQueue id y).freeQueue id).fetchRound id⟩) ∧
        (¬ good → exec (.deleteQueuePair iface ld b) s = say 0xC001 ⟨.invalidInput, [], h⟩) ∧
        (mine → exec (.getQueuePairStatus iface ld b) s = say 0xC002 ⟨.success, le 1 (if x.error.isSome then 2 else b2n x.deleting) ++ le 8 (x.error.getD 0) ++ le 4 x.lastBad, h⟩) ∧
        (¬ mine → exec (.getQueuePairStatus iface ld b) s = say 0xC002 ⟨.invalidInput, [], h⟩)) ∧
      (h.queue id = none → exec (.deleteQueuePair iface ld b) s = say 0xC001 ⟨.invalidInput, [], h⟩ ∧ exec (.getQueuePairStatus iface ld b) s = say 0xC002 ⟨.invalidInput, [], h⟩)) ∧
    (s.ioInsecure iface ld = true → exec (.sqTailDoorbell iface ld queue value) s = .next (s.discardIo iface ld) ∧ exec (.cqHeadDoorbell iface ld queue value) s = .next (s.discardIo iface ld)) ∧
    (s.queue queue = none → (s.ioInsecure iface ld = false → exec (.sqTailDoorbell iface ld queue value) s = .next s ∧ exec (.cqHeadDoorbell iface ld queue value) s = .next s) ∧
      exec (.descriptorFetchDone queue b true) s = .next s ∧ exec (.descriptorFetchDone queue b false) s = .next s ∧ exec (.queueCompletionPost queue desc) s = .next s) ∧
    (∀ x, s.queue queue = some x →
      (s.ioInsecure iface ld = false ∧ x.port = iface ∧ x.ld = ld → exec (.sqTailDoorbell iface ld queue value) s = .next ((s.putQueue queue { x with tail := value % x.entries }).fetchNext queue) ∧
        exec (.cqHeadDoorbell iface ld queue value) s = .next (s.putQueue queue { x with cqHead := value % x.entries })) ∧
      (s.ioInsecure iface ld = false ∧ ¬ (x.port = iface ∧ x.ld = ld) → exec (.sqTailDoorbell iface ld queue value) s = .next s ∧ exec (.cqHeadDoorbell iface ld queue value) s = .next s) ∧
      (x.fetching = false → exec (.descriptorFetchDone queue b true) s = .next s ∧ exec (.descriptorFetchDone queue b false) s = .next s) ∧
      (x.fetching = true →
        exec (.descriptorFetchDone queue b false) s = .next ((s.putQueue queue { x with fetching := false, error := some (x.sq + 64 * x.head) }).fetchRound queue) ∧
        (let head := (x.head + 1) % x.entries
         let d := parseDesc (fit 64 b) x.next head
         let e := { d with status := s.descCheck x (fit 64 b) d }
         let t := s.putQueue queue { x with fetching := false, head := head, next := x.next + 1, descs := x.descs ++ [e] }
         exec (.descriptorFetchDone queue b true) s = .next ((t.countHub 29 ((t.rangeComp x e.dst e.len).map Comp.id).toList).fetchRound queue))) ∧
      (let posts := s.power.flushing = false ∧ x.ended.head? = some desc ∧ ((x.cqTail + 1) % x.entries == x.cqHead) = false
       (¬ posts ∨ x.descs.find? (fun d => d.num == desc && d.status.isSome) = none → exec (.queueCompletionPost queue desc) s = .next s) ∧
       (∀ d, posts ∧ x.descs.find? (fun d => d.num == desc && d.status.isSome) = some d →
        let addr := x.cq + 16 * x.cqTail
        let next := (x.cqTail + 1) % x.entries
        ((s.link x.port (s.linkOf x.port x.ld)).up = false → exec (.queueCompletionPost queue desc) s = .next ((s.putQueue queue
          { x with error := some (x.error.getD addr), descs := if x.deleting then x.descs.filter (fun e => e.num != desc) else x.descs }).freeQueue queue)) ∧
        ((s.link x.port (s.linkOf x.port x.ld)).up = true →
          let t := s.putQueue queue { x with cqTail := next, phase := if next = 0 then !x.phase else x.phase, descs := x.descs.filter (fun e => e.num != desc), lastBad := if d.status == some 6 then d.bad else x.lastBad }
          let u := (if d.status == some 0 then t else t.countHub 30 []).send (.dmaWrite x.port addr (d.completion queue x.phase))
          exec (.queueCompletionPost queue desc) s = .next (((if x.irq && d.interrupt then u.msix x.port x.ld x.vector else u).freeQueue queue).fetchRound queue))))) ∧
    ((s.running queue desc 1 = none → exec (.copy queue desc srcUpsets upsets) s = .next s) ∧ (s.running queue desc 2 = none → exec (.fill queue desc upsets) s = .next s) ∧
      (s.running queue desc 3 = none → exec (.clear queue desc) s = .next s) ∧ (s.running queue desc 4 = none → exec (.discard queue desc) s = .next s)) ∧
    (∀ op x d, s.running queue desc op = some (x, d) →
      let line := d.dst / 64 + d.done
      let read := d.src / 64 + d.done
      (∀ c r, s.rangeComp x d.dst d.len = some c ∧ s.leafOfLine line = some r →
        (∀ e f, op = 1 ∧ s.rangeComp x d.src d.len = some e ∧ s.leafOfLine read = some f →
          let may := s.destReady c r line && !s.compHeld e.id && !s.lineHeld read
          exec (.copy queue desc srcUpsets upsets) s = .next (if may then ((s.meetAt read 3 e f srcUpsets).meetAt line 3 c r upsets).copyFrom queue d c e r f line read else s)) ∧
        (op = 2 → exec (.fill queue desc upsets) s = .next (if s.destReady c r line then (s.meetAt line 3 c r upsets).descWrite queue d c r line d.filled else s)) ∧
        (op = 3 → exec (.clear queue desc) s = .next (if s.destReady c r line then (s.meetAt line 3 c r []).descWrite queue d c r line 0 else s))) ∧
      (s.rangeComp x d.dst d.len = none ∨ s.leafOfLine line = none →
        (op = 1 → exec (.copy queue desc srcUpsets upsets) s = .next (s.putDesc queue d.aborted)) ∧ (op = 2 → exec (.fill queue desc upsets) s = .next (s.putDesc queue d.aborted)) ∧
        (op = 3 → exec (.clear queue desc) s = .next (s.putDesc queue d.aborted))) ∧
      (op = 1 ∧ (s.rangeComp x d.src d.len = none ∨ s.leafOfLine read = none) → exec (.copy queue desc srcUpsets upsets) s = .next (s.putDesc queue d.aborted)) ∧
      (op = 4 ∧ (s.rangeComp x d.dst d.len = none ∨ s.leafOfLine (d.dst / 64 + 64 * d.done) = none) → exec (.discard queue desc) s = .next (s.putDesc queue d.aborted)) ∧
      (∀ c r, op = 4 ∧ s.rangeComp x d.dst d.len = some c ∧ s.leafOfLine (d.dst / 64 + 64 * d.done) = some r →
        exec (.discard queue desc) s = .next (if s.readOnly then s.lineFailed queue d
          else if s.compHeld c.id || s.reqs.any (fun q => q.atTile && q.line / 64 == d.dst / 4096 + d.done) then s
          else (s.discardLeaf r).lineDone queue d c.id)))

/-- Each sequencer step acts as its operation says (R464, R465, R466, R467, R468, R471). -/
def Obligations.SequencerStepsTakeEffect : Prop :=
  ∀ (s : State) (st : SeqStep) (rail : Nat),
    (s.phase = 1 ∧ s.rollsBack = false ∧ (s.power.dep rail).mode = 1 ∧ (s.power.rail rail).en = false ∧ s.power.depsMet rail = true → exec (.dependencyEnable rail) s = .next (s.enHigh rail)) ∧
    (s.phase ≠ 1 ∨ s.rollsBack = true ∨ (s.power.dep rail).mode ≠ 1 ∨ (s.power.rail rail).en = true ∨ s.power.depsMet rail = false → exec (.dependencyEnable rail) s = .next s) ∧
    (s.stepNow = some st →
      (st.op = 0x01 ∧ s.power.depsMet st.a = true → exec .stepEnable s = .next ((s.enHigh st.a).stepWait (.railOn st.a)).seqRecheck) ∧
      (st.op = 0x02 → exec .stepDisable s = .next ((s.enLow st.a).stepWait (.railOff st.a)).seqRecheck) ∧
      (st.op = 0x03 → exec .stepWait s = .next (s.stepWait .duration)) ∧
      (st.op = 0x04 → exec .stepCheck s = .next (s.stepWait (.level st.b (st.a % 2 == 1))).seqRecheck) ∧
      (st.op = 0x05 →
        let c := bits st.a 5 4
        let on := s.power.railOn (bits st.a 3 0)
        (c = 0 ∨ c = 1 ∧ on = true ∨ c = 2 ∧ on = false → exec .stepJump s = .next (s.stepTo st.b)) ∧
        (c = 1 ∧ on = false ∨ c = 2 ∧ on = true → exec .stepJump s = .next (s.stepTo (s.seqStep + 1)))) ∧
      (st.op = 0x06 → exec .stepSafe s =
        .next ((({ s with power := { s.power with safe := s.seqStep + 1, order := [] } } : State).wf F.SEQ_STAT_retries 0).stepTo (s.seqStep + 1))) ∧
      (st.op = 0x07 → exec .stepSync s = .next ((s.stepWait (.sync st.b)).seqsync true)) ∧
      (st.op = 0x0F ∧ s.phase = 1 → exec .stepEnd s = .next (s.stepWait .required).seqRecheck) ∧
      (st.op = 0x0F ∧ s.phase ≠ 1 → exec .stepEnd s = .next ((s.stepWait .allOff).seqsync true).seqRecheck)) ∧
    (let idle (op : Nat) (i : Instr) : Prop := (∀ st, s.stepNow = some st → st.op ≠ op) → exec i s = .next s
     idle 0x01 .stepEnable ∧ idle 0x02 .stepDisable ∧ idle 0x03 .stepWait ∧ idle 0x04 .stepCheck ∧ idle 0x05 .stepJump ∧ idle 0x06 .stepSafe ∧ idle 0x07 .stepSync ∧ idle 0x0F .stepEnd)

/-- What the sequencer does at its events, its timeouts and its fault registers (R462, R465, R467, R468, R471, R494). -/
def Obligations.SequencerEventsTakeEffect : Prop :=
  ∀ (s : State) (rail iface n : Nat) (b : Bool),
    (s.power.wait = .duration → exec .stepWaitExpire s = .next (s.stepTo (s.seqStep + 1))) ∧
    (s.power.wait = .sync n →
      exec .seqsyncHigh s = .next (((s.wf F.SEQ_STAT_sync_state n).stepTo (s.seqStep + 1)).seqsync false) ∧
      (s.phase = 1 → exec .syncTimeoutExpire s = .next (s.seqFault 4 0)) ∧
      (s.phase ≠ 1 → exec .syncTimeoutExpire s = .next (((s.seqFaultNote 4 0).seqsync true).stepTo (s.seqStep + 1)))) ∧
    (s.power.wait = .level n b →
      (s.phase = 1 → exec .checkTimeoutExpire s = .next (s.seqFault 3 0)) ∧ (s.phase ≠ 1 → exec .checkTimeoutExpire s = .next ((s.seqFaultNote 3 0).stepTo (s.seqStep + 1)))) ∧
    ((s.power.rail rail).en = true → exec (.railOnDone rail) s = .next (s.railUp rail)) ∧
    (s.phase = 1 ∧ (s.power.rail rail).en = true ∧ (s.power.rail rail).pg = false → exec (.onTimeoutExpire rail) s = .next (s.seqFault 1 rail)) ∧
    (s.phase = 2 ∧ (s.power.rail rail).en = true ∧ (s.power.rail rail).pg = false ∧ 2 ≤ rail ∧ rail ≤ 9 ∧ s.tileState (rail - 2) = 3 → exec (.onTimeoutExpire rail) s = .next ((s.failReturn (rail - 2)).enLow rail)) ∧
    (rail ≠ 0 ∧ (s.power.rail rail).en = false ∧ (s.power.rail rail).on = true →
      exec (.dischargeTimeout rail) s = .next ((if s.rollsBack then s else s.seqFaultNote 5 rail).setRail rail (fun x => { x with passed := true })).seqRecheck) ∧
    (s.phase = 1 ∧ (s.power.dep rail).mode ≠ 0 → exec (.pgChatter rail) s = .next (s.seqFault 2 rail)) ∧
    -- an event whose condition does not stand changes nothing
    (s.power.wait ≠ .duration → exec .stepWaitExpire s = .next s) ∧
    ((∀ k, s.power.wait ≠ .sync k) → exec .seqsyncHigh s = .next s ∧ exec .syncTimeoutExpire s = .next s) ∧ ((∀ k c, s.power.wait ≠ .level k c) → exec .checkTimeoutExpire s = .next s) ∧
    ((s.power.rail rail).en = false → exec (.railOnDone rail) s = .next s) ∧ ((s.power.rail rail).en = false ∨ (s.power.rail rail).pg = true → exec (.onTimeoutExpire rail) s = .next s) ∧
    (rail = 0 ∨ (s.power.rail rail).en = true ∨ (s.power.rail rail).on = false → exec (.dischargeTimeout rail) s = .next s) ∧
    (s.phase ≠ 1 ∨ (s.power.dep rail).mode = 0 → exec (.pgChatter rail) s = .next s) ∧
    (s.hears iface 0 = true ∧ s.holds iface .mgmtWrite = true →
      exec (.seqFaultClear iface) s = .next ((s.wf F.SEQ_FAULT_valid 0).wf F.SEQ_FAULT_count 0) ∧
      exec (.seqVinClear iface) s = .next (s.wf F.SEQ_VIN_lowest (min 4095 (s.power.vin / 10))))

/-- A tile is isolated by command and at its faults, restored and served; helpers raise their events (R18, R24, R25, R35, R38, R433, R453, R478). -/
def Obligations.IsolationCommandsTakeEffect : Prop :=
  ∀ (s : State) (iface ld tile helper code : Nat) (data b : Bytes),
    (helperIrq helper = none → exec (.helperComplete helper code data) s = .next s) ∧
    (∀ i, helperIrq helper = some i → exec (.helperComplete helper code data) s = .next ((s.emit helper code (data.take 28)).irqEdge i)) ∧
    (s.tileCount ≤ tile → exec (.isolate iface tile) s = .next s ∧ exec (.restore iface tile) s = .next s ∧ exec (.tileWatchdogExpire tile) s = .next s ∧
      exec (.stewardLockup tile) s = .next s ∧ exec (.tileFabricLinkFail tile) s = .next s ∧ exec (.tileInternalError tile) s = .next s) ∧
    (let away (t : State) : Bool := decide (t.tileState tile = 0) && t.tilesOut.isEmpty
     let back (t : State) : Bool := (decide (t.tileState tile = 2) || decide (t.tileState tile = 6)) && ((t.power.rail (tile + 2)).en || !t.rb F.SEQ_VIN_braced)
     (tile < s.tileCount →
      (s.hears iface 0 = true ∧ s.holds iface .tileService = true ∧ s.holds iface .mgmtWrite = true →
        exec (.isolate iface tile) s = .next (if away s then s.isolate tile 1 else s) ∧ exec (.restore iface tile) s = .next (if back s then s.startReturn tile else s)) ∧
      ((s.tile tile).held = false →
        exec (.tileWatchdogExpire tile) s = .next (((s.irqEdge (irqTile tile 0)).watchdogEvent (tile + 1) 0).tileReset tile 2 6) ∧
        exec (.stewardLockup tile) s = .next (((s.irqEdge (irqTile tile 1)).watchdogEvent (tile + 1) 1).tileReset tile 3 10)) ∧
      ((s.tile tile).held = true → exec (.tileWatchdogExpire tile) s = .next s ∧ exec (.stewardLockup tile) s = .next s) ∧
      (let fails (cause : Nat) : State := if s.tileState tile = 0 then s.isolate tile cause else if s.tileState tile = 3 ∨ s.tileState tile = 4 then s.failReturn tile else s
       exec (.tileFabricLinkFail tile) s = .next (fails 4) ∧ exec (.tileInternalError tile) s = .next (fails 5))) ∧
     (s.hears iface ld = true →
      let h := s.heard iface
      let say (a : Answer) : Host.Outcome State Fault Refusal :=
        .next (if carries iface 0xC050 then a.state.reply iface ld 0xC050 a.code a.payload else h.reply iface ld 0xC050 .unsupported [])
      let op := getLe b 0 1
      let v := getLe b 2 1
      let good := b.length = 4 ∧ op ≤ 4 ∧ tile ≤ 7 ∧ getLe b 3 1 = 0 ∧ (op = 3 → v ≤ 7) ∧ (op = 4 → v ≤ 1) ∧ (op ≤ 2 → v = 0)
      let ends (st : Nat) (t : State) : Prop := exec (.tileService iface ld b) s = say ⟨.success, t.tileOutput st tile, t⟩
      h.holds iface .tileService = true ∧ getLe b 1 1 = tile →
        (¬ good → exec (.tileService iface ld b) s = say ⟨.success, h.tileOutput 1 (tile % 8), h⟩) ∧
        (good ∧ h.tileCount ≤ tile → ends 3 h) ∧
        (good ∧ tile < h.tileCount →
          (op = 0 → ends 0 h) ∧ (op = 1 → if away h then ends 0 (h.isolate tile 1) else ends 2 h) ∧ (op = 2 → if back h then ends 0 (h.startReturn tile) else ends 2 h) ∧
          (op = 3 → ends (if (h.nurseWrite tile v).1 then 0 else 2) (h.nurseWrite tile v).2) ∧ (op = 4 → ends 0 (h.wf (F.WDN_TILE_CTRL_auto_restore tile) v)))))

/-- An isolated tile is drained and its requests reissued; a returning one is verified, rebuilt and moved home (R25, R27, R33, R34, R35). -/
def Obligations.TileReturnStepsTakeEffect : Prop :=
  ∀ (s : State) (tile : Nat) (bad : List Nat),
    (s.tileState tile = 1 ∧ s.rb (F.WDN_TILE_STAT_catch_drained tile) = false →
      (s.nurseOf tile = none → exec (.catchEscrowDrainDone tile bad) s = .next (s.wf (F.WDN_TILE_STAT_catch_drained tile) 1)) ∧
      (∀ u, s.nurseOf tile = some u →
        let q := (s.tile tile).catchQ
        let maps := (s.tile tile).mapOut.filter (fun k => !(s.tile tile).mapQ.contains k) ++ (s.tile tile).mapQ
        let a := s.modTile tile (fun x => { x with catchQ := [], mapQ := [], mapOut := [], litter := x.litter.map (fun h => { h with released := true }) })
        let b := each maps (each q a (fun s e => s.drainEntry tile u bad e)) (fun s k => s.structWrite tile k)
        let c := if b.readOnly then b else each ((q.map (fun e => e.line / 64)).eraseDups) b (fun s n => s.drainLeaf u n)
        exec (.catchEscrowDrainDone tile bad) s = .next (c.wf (F.WDN_TILE_STAT_catch_drained tile) 1))) ∧
    (s.tileState tile ≠ 1 ∨ s.rb (F.WDN_TILE_STAT_catch_drained tile) = true → exec (.catchEscrowDrainDone tile bad) s = .next s) ∧
    (s.tileState tile = 1 ∧ s.rb (F.WDN_TILE_STAT_catch_drained tile) = true →
      let a := (s.wf (F.WDN_TILE_CTRL_isolate tile) 0).setTileState tile 2
      let b := a.releaseHeld (a.server tile)
      exec (.isolationReissue tile) s = .next (if b.rb (F.WDN_TILE_CTRL_restore tile) || (b.rb (F.WDN_TILE_CTRL_auto_restore tile) && b.rf (F.WDN_TILE_STAT_cause tile) != 1)
        then b.startReturn tile else b)) ∧
    (s.tileState tile ≠ 1 ∨ s.rb (F.WDN_TILE_STAT_catch_drained tile) = false → exec (.isolationReissue tile) s = .next s) ∧
    (s.tileState tile = 3 ∧ s.power.railOn (tile + 2) = true →
      exec (.restoreVerifyDone tile false) s = .next (s.failReturn tile) ∧
      (let a := s.modTile tile (fun x => { x with rebuildTotal := (s.rebuildOf tile).length })
       let b : State := { a with fw := { a.fw with running := a.fw.running.set (tile + 1) (a.rf F.WDN_FW_STAT_active_slot), halted := a.fw.halted.filter (· != tile + 1) } }
       exec (.restoreVerifyDone tile true) s = .next ((b.setTileState tile 4).showRebuild tile))) ∧
    (∀ p, s.tileState tile ≠ 3 ∨ s.power.railOn (tile + 2) = false → exec (.restoreVerifyDone tile p) s = .next s) ∧
    ((s.tiles[tile]?.map Tile.depth).getD 0 ≠ 0 → exec (.rebuildStripe tile) s = .next (s.wakeTile tile)) ∧
    ((s.tiles[tile]?.map Tile.depth).getD 0 = 0 →
      let may := (s.tileState tile = 4 ∨ s.tileState tile = 0) ∧ s.coreAway (tile + 1) = false
      (¬ may → exec (.rebuildStripe tile) s = .next s) ∧
      (may ∧ s.rebuildOf tile = [] → exec (.rebuildStripe tile) s = .next (if s.tileState tile = 4 then s.showRebuild tile else s)) ∧
      (∀ x l, may ∧ s.rebuildOf tile = x :: l →
        let done (y : Stripe) : Bool := if x.dense then y.dense && y.group == x.group && y.die == x.die && y.grove == x.grove && y.line / 16 == x.line / 16 else y == x
        let a := s.rebuildStripe tile x
        let b : State := { a with tiles := a.tiles.map (fun y => { y with rebuild := y.rebuild.filter (fun p => !(p.1 == tile && done p.2)) }) }
        exec (.rebuildStripe tile) s = .next ((b.countTile tile 118).showRebuild tile))) ∧
    (let may := s.tileState tile = 4 ∧ s.rebuildOf tile = [] ∧ s.rb (F.TRN_MAP_STAT_stem_resident tile) = true ∧ s.rb (F.TRN_MAP_STAT_filter_ready tile) = true
     (¬ may → exec (.homeMoveBack tile) s = .next s) ∧
     (may ∧ s.nurseLeaves tile ≠ [] → exec (.homeMoveBack tile) s = .next (s.modTile (s.server tile)
       (fun x => { x with urgent := x.urgent ++ (s.nurseLeaves tile).filter (fun k => x.catchQ.any (fun e => e.line / 64 == k) && !x.urgent.contains k) }))) ∧
     (may ∧ s.nurseLeaves tile = [] →
        let a := s.holdServed tile
        let b := a.modTile (s.server tile) (fun x => { x with cache := x.cache.filter (fun l => a.homeOf l.line != tile), victims := x.victims.filter (fun l => a.homeOf l.line != tile), prefetched := x.prefetched.filter (fun l => a.homeOf l != tile) })
        let c := ((b.wf (F.WDN_TILE_CTRL_restore tile) 0).setTileState tile 0).wf (F.WDN_TILE_STAT_rebuild_permille tile) 0
        exec (.homeMoveBack tile) s = .next (c.retireNext.releaseHeld tile)))

/-- What the power input, the rails, the flush and the button do (R211, R212, R462, R467, R468, R472, R473, R475, R476). -/
def Obligations.PowerEventsTakeEffect : Prop :=
  ∀ (s : State) (mv rail : Nat) (unsealed : List Nat),
    let low := s.setVin mv false
    (low.rb F.SEQ_VIN_braced = false ∧ low.powered = true →
      let t : State := { low with power := { low.power with braceFine := low.fine, braceLow := mv } }
      let u := ((t.brace true).braceEvent 0 mv 0).irqEdge irqVinWarn
      exec (.vinWarn mv) s = .next ((each u.tileList u (fun s t => s.closeChecker t)).failApply 5 0 0)) ∧
    (low.rb F.SEQ_VIN_braced = true ∨ low.powered = false → exec (.vinWarn mv) s = .next low) ∧
    (low.phase ≠ 0 → exec (.vinCommit mv) s = .next ((low.irqEdge irqVinCommit).powerOff 13 0 .valid)) ∧
    (low.phase = 0 → exec (.vinCommit mv) s = .next low) ∧
    exec (.vinOff mv) s = .next (if low.powered then low.powerOff 13 0 .valid else low).railsOff.offSeen ∧
    (s.power.flushing = true ∧ s.power.vin < 10400 → exec .commitOffTimeout s = .next s.railsOff.offSeen) ∧
    (let t := s.setVin mv true
     (t.phase = 0 → exec (.vinValid mv) s = .next t.tryPowerUp) ∧
     (t.phase ≠ 0 ∧ t.rb F.SEQ_VIN_braced = true ∧ t.power.flushing = false →
       exec (.vinValid mv) s = .next ((t.brace false).braceEvent 1 t.power.braceLow ((t.fine - t.power.braceFine) / 1000)).shedFailed) ∧
     (t.phase ≠ 0 ∧ (t.rb F.SEQ_VIN_braced = false ∨ t.power.flushing = true) → exec (.vinValid mv) s = .next t)) ∧
    (s.power.flushing = true ∧ s.power.flushed = false ∧ (s.phase = 1 ∨ s.phase = 2) →
      let r := (s.sealTiles unsealed).commitSeal.powerDownRecord
      let t := if r.power.vinValid && r.rootsAccepted then r.saveSealed else r
      exec (.flushDone unsealed) s = .next ({ t with power := { t.power with flushed := true } } : State).startShutdown) ∧
    (s.power.flushing = false ∨ s.power.flushed = true ∨ (s.phase ≠ 1 ∧ s.phase ≠ 2) → exec (.flushDone unsealed) s = .next s) ∧
    (s.power.flushing = false ∨ 10400 ≤ s.power.vin → exec .commitOffTimeout s = .next s) ∧ (s.phase ≠ 0 → exec .minOffTimeEnd s = .next s) ∧
    (s.phase = 0 → exec .minOffTimeEnd s = .next ({ s with power := { s.power with minOff := true } } : State).tryPowerUp) ∧
    (rail = 0 ∨ 16 ≤ rail → exec (.pgChange rail true) s = .next s ∧ exec (.pgChange rail false) s = .next s) ∧
    ((rail = 0 ∨ (s.power.rail rail).en = true ∨ (s.power.rail rail).on = false) → exec (.railOffDone rail) s = .next s) ∧
    (1 ≤ rail ∧ rail < 16 →
      ((s.power.rail rail).en = true → exec (.pgChange rail true) s = .next (s.railUp rail)) ∧
      ((s.power.rail rail).en = false → exec (.pgChange rail true) s = .next (s.setRail rail (fun x => { x with on := true, pg := true }))) ∧
      (let a := s.setRail rail (fun x => { x with pg := false, on := x.on && rail != 14 })
       let b := if rail = 14 then a.vmedOff else a
       let was := (s.power.rail rail).en && (s.power.rail rail).pg
       exec (.pgChange rail false) s = .next (if was && b.phase == 1 then b.seqFault 6 rail
         else if was && b.phase == 2 && (b.power.dep rail).required then b.regulatorFault rail else b)) ∧
      ((s.power.rail rail).en = false ∧ (s.power.rail rail).on = true →
        let a := s.setRail rail (fun x => { x with on := false, pg := false })
        exec (.railOffDone rail) s = .next (if rail = 14 then a.vmedOff else a).seqRecheck)) ∧
    exec .pbtnPress s = .next (if s.phase = 0 then (s.press true).askPowerUp else s.press true) ∧
    exec .pbtnRelease s = .next (if s.power.pressed && s.phase == 2 && !s.power.flushing then ((s.press false).pbtnEvent 0).irqEdge irqPbtn else s.press false) ∧
    (s.power.pressed = false ∨ s.powered = false → exec .pbtnHold8s s = .next s) ∧ (s.power.pressed = false → exec .pbtnHold15s s = .next s) ∧
    (s.power.pressed = true →
      (s.powered = true → exec .pbtnHold8s s = .next ((s.pbtnEvent 1).powerOff 12 0 .press)) ∧
      (let t := s.pbtnEvent 2
       exec .pbtnHold15s s = .next (if t.phase = 0 then t else (if t.powered then t.powerOff 12 0 .press else t).railsOff)))

/-- Resets asked for by a register, the sideband or a pin (R456, R477, R492, R495, R504). -/
def Obligations.ResetRequestsTakeEffect : Prop :=
  ∀ (s : State) (iface n scope : Nat),
    (s.hears iface 0 = true ∧ s.holds iface .reset = true ∧ s.holds iface .mgmtWrite = true →
      let t (code target : Nat) : State := (s.wf F.RST_CTRL_scope code).wf F.RST_CTRL_target target
      let cause : Nat := if iface = 6 ∨ iface = 7 then 8 else 7
      exec (.rstWarm iface) s = .next ((t 1 0).requestReset ⟨3, cause, 0⟩) ∧
      exec (.rstCold iface) s = .next ((t 2 0).requestReset ⟨2, cause, 0⟩) ∧
      exec (.rstHostPort iface n) s = .next ((t 4 (n % 8)).portReset (n % 8) cause) ∧
      exec (.rstPowerOff iface) s = .next ((t 5 0).powerOff cause 0 .press) ∧
      exec (.rstPowerCycle iface) s = .next ((t 6 0).powerOff cause 0 .again) ∧
      (let k := n % 8
       let u := t 3 k
       let v := ((u.resetEvent 4 cause k).noteReset 4 cause k).wf (F.WDN_TILE_CTRL_restore k) 1
       (k < u.tileCount ∧ u.tileState k = 0 ∧ u.tilesOut = [] → exec (.rstTile iface n) s = .next (if v.tileState k = 0 ∧ v.tilesOut.isEmpty = true then v.isolate k 1 else v)) ∧
       (¬ (k < u.tileCount ∧ u.tileState k = 0 ∧ u.tilesOut = []) → exec (.rstTile iface n) s = .next u))) ∧
    (s.wardenUp = false ∨ s.nacking = true ∨ s.rb F.WDN_I3C_STAT_addr_valid = false → exec (.reset scope) s = .next (s.send .nack)) ∧
    (s.wardenUp = true ∧ s.nacking = false ∧ s.rb F.WDN_I3C_STAT_addr_valid = true ∧ (s.irqEdge irqSideband).holds 5 .reset = true →
      let i := s.irqEdge irqSideband
      let ready (t : State) (code : Nat) : Host.Outcome State Fault Refusal := .next { t with sb := { t.sb with response := [], frag := 0, status := code } }
      (scope = 1 ∨ scope = 2 ∨ scope = 5 ∨ scope = 6 → exec (.reset scope) s = ready (i.softReset 5 scope 0) 0) ∧
      (¬ (scope = 1 ∨ scope = 2 ∨ scope = 5 ∨ scope = 6) → exec (.reset scope) s = ready i 4)) ∧
    (let t : State := { s with power := { s.power with pins := { s.power.pins with rst := false } } }
     exec .rstAssert s = .next (if s.phase = 2 then t.requestReset ⟨3, 3, 0⟩ else t)) ∧
    (let t : State := { s with power := { s.power with pins := { s.power.pins with mrst := false } } }
     (s.phase = 2 → exec .mrstAssert s = .next (t.requestReset ⟨2, 4, 0⟩)) ∧
     (s.phase = 0 → exec .mrstAssert s = .next (if s.power.after = .locked ∨ s.power.after = .thermalLocked then t.askPowerUp else t)) ∧
     (s.phase ≠ 2 ∧ s.phase ≠ 0 → exec .mrstAssert s = .next t)) ∧
    exec (.resetPinRelease 0) s = .next { s with power := { s.power with pins := { s.power.pins with rst := true } } } ∧
    exec (.resetPinRelease 1) s = .next ({ s with power := { s.power with pins := { s.power.pins with mrst := true } } } : State).showPending ∧
    exec (.resetPinRelease (n + 2)) s = .next { s with power := { s.power with pins := { s.power.pins with perst := s.power.pins.perst.set n true } } }

/-- What the resets do, how clocks are released and fail, and what the Glade domain's own reset loses (R217, R478, R479, R481, R482, R484, R539). -/
def Obligations.ResetsAndClocksTakeEffect : Prop :=
  ∀ (s : State) (n : Nat) (failed lines : List Nat) (groups : List (Nat × Nat)),
    (exec (.clockGateRelease n) s = .next (if s.mayRelease n then s.releaseDomain n else s)) ∧
    (s.clocks.trimming = true → exec .trimLoadDone s =
      .next ((({ s with clocks := { s.clocks with trimming := false } } : State).wf F.RST_STAT_interrupted_loads 0).wf F.RST_STAT_trim_safe 0).showPending) ∧
    (s.clocks.trimming = false → exec .trimLoadDone s = .next s) ∧
    (let asked (scope : Nat) : Option ResetReq := s.resets.find? (fun r => r.scope == scope)
     let may := s.phase = 2 ∧ s.power.flushing = false ∧ s.clocks.oscFailed = false
     (asked 2 = none ∨ ¬ may → exec .coldReset s = .next s) ∧ (asked 3 = none ∨ ¬ may → exec (.warmReset failed) s = .next s) ∧
     (may → (∀ r, asked 2 = some r → exec .coldReset s = .next (s.coldReset r.cause r.detail)) ∧
      (∀ r, asked 3 = some r →
        (s.clocks.held.contains 1 = true → exec (.warmReset failed) s = .next { s with resets := s.resets.filter (fun q => decide (q.scope < 3)) }) ∧
        (s.clocks.held.contains 1 = false →
          let t := (({ s with resets := [] } : State).resetEvent 3 r.cause r.detail).noteReset 3 r.cause r.detail
          exec (.warmReset failed) s = .next (t.resetFlush.warmShow ((failed.filter (fun u => decide (u < t.tileCount))).eraseDups)).drainGlade)))) ∧
    (let may := s.wardenUp = true ∧ s.clocks.imageChecked = true ∧ s.clocks.taprootsAccepted = true ∧ n < s.tileCount ∧ (s.tile n).replayed = false ∧ (s.tileInService n && (s.tile n).held) = false
     let halves := if s.lifecycle = 3 then [] else (s.tile n).replayHalves
     let newest := halves.getLast?
     let t := each halves (each (mapsLost halves groups) s (fun s k => s.mapBack n k)) (fun s h => s.replayHalf n h (h.skips groups) lines)
     (¬ may → exec (.litterReplay n groups lines) s = .next s) ∧
     (may ∧ newest = none → exec (.litterReplay n groups lines) s = .next ((t.flushStat n none []).undRefreshAll.replayDone n)) ∧
     (∀ h, may ∧ newest = some h → exec (.litterReplay n groups lines) s =
        .next (((if h.sealed_ then t else t.dirtyFlush n (h.skips groups).eraseDups.length).flushStat n (some h) (h.skips groups)).undRefreshAll.replayDone n))) ∧
    (s.phase ≠ 2 ∨ s.clocks.held.contains n = true → exec (.clockFail n) s = .next s) ∧
    (s.phase = 2 ∧ s.clocks.held.contains n = false →
      (n = 0 → exec (.clockFail n) s = .next { (s.clockNote 0) with clocks := { (s.clockNote 0).clocks with oscFailed := true, restarts := 0, held := s.resetDomains } }) ∧
      (n = 1 ∨ n = 2 → exec (.clockFail n) s = .next ((s.clockNote n).requestReset ⟨2, 9, n⟩)) ∧
      (3 ≤ n ∧ n ≤ 6 → exec (.clockFail n) s = .next (if n - 3 < s.portCount then (s.clockNote n).portReset (n - 3) 9 else s)) ∧
      (n = 7 → exec (.clockFail n) s = .next (((((s.clockNote 7).resetInterface 4).resetInterface 7).abortFwOf 4).abortStageOf 4)) ∧
      (n = 8 → exec (.clockFail n) s = .next (s.clockNote 8).resetSideband) ∧
      (10 ≤ n ∧ n - 10 < s.tileCount → exec (.clockFail n) s = .next ((s.clockNote n).tileReset (n - 10) 6 9)) ∧
      (n = 9 ∨ 10 + s.tileCount ≤ n → exec (.clockFail n) s = .next s)) ∧
    (s.clocks.oscFailed = false → ∀ stable, exec (.oscillatorRestartDone stable) s = .next s) ∧
    (s.clocks.oscFailed = true →
      exec (.oscillatorRestartDone true) s = .next (({ s with clocks := { s.clocks with oscFailed := false, held := [] } } : State).requestReset ⟨2, 9, 0⟩) ∧
      (s.clocks.restarts < 2 → exec (.oscillatorRestartDone false) s = .next { s with clocks := { s.clocks with restarts := s.clocks.restarts + 1 } }) ∧
      (2 ≤ s.clocks.restarts → let t := (s.resetEvent 1 9 0).noteReset 1 9 0
        exec (.oscillatorRestartDone false) s = .next (({ t with clocks := { t.clocks with oscFailed := false }, power := { t.power with after := .again } } : State).endWork).railsOff)) ∧
    (let t := s.endWork.railsOff
     let u : State := { t with glade := { Glade.atReset with pwrcyc := 0, lost := true }, hist := [], seqNo := [], power := { t.power with rails := t.power.rails.set 0 Rail.down, program := romProgram t.tileCount, after := .valid, minOff := true, vinValid := false } }
     exec .gladeReset s = .next ((u.resetRegs gladeColumn (fun _ => true)).wf F.SEQ_STAT_phase 0)) ∧
    exec .vgladeFirstPresent s = .next (if s.phase ≠ 0 then s else ((s.setRail 0 (fun _ => Rail.up)).send (.pin (.en 0) true)).tryPowerUp)

/-- Tiles sleep and wake, the part enters and leaves P1 and P2, temperatures are sampled, seconds counted (R402, R403, R406, R417, R489, R490, R491, R496, R503, R507, R508). -/
def Obligations.SleepThermalAndTimeStepsTakeEffect : Prop :=
  ∀ (s : State) (tile sensor d : Nat) (temp : Int),
    (s.maySleep tile 1 = true → exec (.tileIdleT1 tile) s = .next ((s.modTile tile (fun x => { x with depth := 1 })).countTile tile 143)) ∧
    (s.maySleep tile 2 = true → exec (.tileIdleT2 tile) s = .next (s.modTile tile (fun x => { x with entering := some 2 }))) ∧
    (s.maySleep tile 3 = true → exec (.tileIdleT3 tile) s = .next (s.modTile tile (fun x => { x.dropCaches with entering := some 3 }))) ∧
    (s.maySleep tile 1 = false → exec (.tileIdleT1 tile) s = .next s) ∧ (s.maySleep tile 2 = false → exec (.tileIdleT2 tile) s = .next s) ∧
    (s.maySleep tile 3 = false → exec (.tileIdleT3 tile) s = .next s) ∧
    (tile < s.tileCount →
      ((s.tile tile).entering = some d → exec (.tileSleepEntryDone tile) s = .next (((s.modTile tile (fun x => { x with depth := d, entering := none })).countTile tile (142 + d)).idleLinks tile)) ∧
      exec (.tileWake tile) s = .next (s.wakeTile tile) ∧
      ((s.tile tile).waking = true →
        let t := s.modTile tile (fun x => { x with depth := 0, waking := false, entering := none, fineOff := if 2 ≤ x.depth then 0 else x.fineOff })
        exec (.tileWakeDone tile) s = .next ((if 2 ≤ (s.tile tile).depth then t.resumeLinks tile else t).releaseHeld tile))) ∧
    ((s.tile tile).entering = none ∨ s.tileCount ≤ tile → exec (.tileSleepEntryDone tile) s = .next s) ∧
    (s.tileCount ≤ tile → exec (.tileWake tile) s = .next s) ∧ ((s.tile tile).waking = false ∨ s.tileCount ≤ tile → exec (.tileWakeDone tile) s = .next s) ∧
    (let may := s.phase = 2 ∧ s.power.pstate = 0 ∧ s.rb F.SEQ_SLEEP_p1_en = true ∧ s.reqs = []
     (may → exec .p1Enter s = .next ((s.setPstate 1).countHub 48)) ∧ (¬ may → exec .p1Enter s = .next s)) ∧
    (let may := s.phase = 2 ∧ s.power.pstate ≤ 1 ∧ s.rb F.SEQ_SLEEP_p2_en = true ∧ s.links.all (fun l => !l.2.up || l.2.l1) = true ∧ s.usb4 = false ∧ s.parkWork = false ∧
      s.tileList.all (fun t => (s.tile t).depth == 3 || !s.tileInService t) = true
     (may → exec .p2Enter s = .next ((s.setPstate 2).countHub 49)) ∧ (¬ may → exec .p2Enter s = .next s)) ∧
    exec .p2Exit s = .next (if s.power.pstate = 2 then s.setPstate 0 else s) ∧
    (s.sampled sensor = false → exec (.thermalSample sensor temp) s = .next s) ∧
    (s.sampled sensor = true →
      (isZone sensor = true ∧ (temp < -400 ∨ 1500 < temp) → exec (.thermalSample sensor temp) s = .next (s.sensorFault sensor temp)) ∧
      (isZone sensor = false ∨ -400 ≤ temp ∧ temp ≤ 1500 → exec (.thermalSample sensor temp) s = .next (s.goodSample sensor temp))) ∧
    (let may := s.phase = 0 ∧ s.power.after = .thermal ∧ s.power.minOff = true ∧ s.power.vinValid = true ∧ s.coolEnough = true
     (may → exec .thermalRestart s = .next s.startPowerUp) ∧ (¬ may → exec .thermalRestart s = .next s)) ∧
    exec .thermalHistorySave s = .next (if s.phase = 2 ∧ s.power.committed = false then s.saveHist else s) ∧
    ((s.power.rail 0).on = false → exec .gladeSecond s = .next s) ∧
    ((s.power.rail 0).on = true →
      let t : State := { s with glade := { s.glade with elapsed := (s.glade.elapsed + 1) % 2 ^ 32 } }
      exec .gladeSecond s = .next (each ((upto 32).filter (fun z => t.zoneType z != 0xFF)) t.opSecond State.zoneSecond).renewBounds) ∧
    exec .fineTimeResync s = .next { s with tiles := s.tiles.map (fun x => if x.depth ≤ 1 then { x with fineOff := max x.fineOff 0 } else x) } ∧
    (∀ x l, s.evfHand = x :: l → exec .eventFifoTake s = .next (({ s with evfHand := l } : State).handleItem x)) ∧
    (∀ x l, s.evfHand = [] ∧ s.evf = x :: l → exec .eventFifoTake s = .next (({ s with evf := l } : State).handleItem x)) ∧
    (s.evfHand = [] ∧ s.evf = [] → exec .eventFifoTake s = .next s)

/-- Debug line accesses and the performance counters (R379, R513, R514, R519, R522). -/
def Obligations.DebugAndCounterCommandsTakeEffect : Prop :=
  ∀ (s : State) (iface ld dpa enables index value block : Nat) (b : Bytes) (data : HostLine) (ups : List Upset),
    (s.lineHeld (dpa / 64) = true → exec (.lineRead iface dpa ups) s = .next s ∧ exec (.lineWrite iface dpa enables data ups) s = .next s) ∧
    (s.hears iface 0 = true →
     let h := s.heard iface
     let refused (op : Nat) (r : Right) : Answer := dbgRefuse iface op r h
     let say (op : Nat) (a : Answer) : Host.Outcome State Fault Refusal :=
       .next (if carries iface op then a.state.reply iface 0 op a.code a.payload else h.reply iface 0 op .unsupported [])
     (s.lineHeld (dpa / 64) = false →
      (h.debugLine dpa = none → exec (.lineRead iface dpa ups) s = say 0xD100 (refused 0xD100 .mediaRead) ∧ exec (.lineWrite iface dpa enables data ups) s = say 0xD101 (refused 0xD101 .mediaWrite)) ∧
      (∀ c r, h.debugLine dpa = some (c, r) →
        let may (x : Right) : Bool := h.covers iface x c.id
        let m := h.meetAt (dpa / 64) 4 c r ups
        exec (.lineRead iface dpa ups) s = say 0xD100 (if may .mediaRead = false then refused 0xD100 .mediaRead else if may .plaintext then m.readPlain c r (dpa / 64)
          else if c.cipher = 0 then refused 0xD100 .plaintext else m.readMedia c r (dpa / 64)) ∧
        exec (.lineWrite iface dpa enables data ups) s = say 0xD101 (if may .mediaWrite = false then refused 0xD101 .mediaWrite else if may .plaintext = false then refused 0xD101 .plaintext
          else m.debugWrite iface c r (dpa / 64) enables data))) ∧
     (∀ x : Stripe, ∀ member,
      let op := exec (.structureRead iface x.group x.die x.grove x.line member) s
      let good := h.coversAll iface .mediaRead = true ∧ x.grove / 25 < 4096 ∧ x.group < h.groupCount ∧ x.die < 4 ∧ x.line < 16 ∧ member < 16
      (¬ good → op = say 0xD102 (refused 0xD102 .mediaRead)) ∧
      (x.dense = false ∧ good →
        let found := h.stripeRead x member [3, 4]
        let charge (bad : Bool) : State := h.chargeRead x member bad 9 []
        (∀ l e, found = .good l e → op = say 0xD102 (dbg okMedia (lineBytes l) (charge false))) ∧
        (∀ l, found = .recovered l → op = say 0xD102 (dbg okMedia (lineBytes l) (charge true))) ∧
        (found = .lost → let t := charge true
          op = say 0xD102 (dbg dbgPoisoned (zeros 64) (({ t with health := { t.health with uncorrectable := t.health.uncorrectable + 1 } } : State).report (t.spotReport 3 4 x member none none none false false 0))))))) ∧
    (s.hears iface 0 = true →
     let p := pmcBlock block
     (index % 2 = 0 ∧ index < pmcCount p →
        exec (.pmcEvenRead iface block index) s = .next (
          let a := (pmcCnt p index).addr
          let d := s.deny iface a
          if s.holds iface .mgmtRead = false then (d .mgmtRead).send (.regValue iface a 0)
          else if s.holds iface .counterRead = false then (d .counterRead).send (.regValue iface a 0)
          else if s.pmcPresent p then (s.wf (pmcHi p) (s.pmcValue iface p (index + 1))).send (.regValue iface a (s.pmcValue iface p index))
          else s.send (.regValue iface a 0))) ∧
      (s.pmcPresent p = true ∧ 8 * index < pmcCount p →
       let may := s.coversAll iface .counterRead = true ∧ s.holds iface .mgmtWrite = true
       let at0 := (pmcSel p (8 * index)).addr
       (¬ may → exec (.pmcSelWrite iface block index value) s = .next (if s.reg at0 = BitVec.ofNat 32 value then s else s.deny iface at0 .counterRead)) ∧
       (may → exec (.pmcSelWrite iface block index value) s = .next (each (upto 8) s (fun s k =>
          let i := 8 * index + k
          let sel := bits value (4 * k + 2) (4 * k)
          let ch := if i % 2 = 1 then bits value (4 * k + 3) (4 * k + 3) else 0
          let a := if s.rf (pmcSel p i) ≠ sel then
              let t := if s.pmcChained p i then s.wf (pmcSel p i) sel else (s.wf (pmcSel p i) sel).pmcZero p i
              if i % 2 = 0 ∧ t.pmcChained p (i + 1) = true then t.pmcZero p (i + 1) else t
            else s
          if a.rf (pmcChain p i) ≠ ch then ((a.wf (pmcChain p i) ch).pmcZero p i).pmcZero p (i - 1) else a)))) ∧
      (s.pmcPresent p = false ∨ pmcCount p ≤ 8 * index → exec (.pmcSelWrite iface block index value) s = .next s) ∧
      (let comp := bits value 11 0
       let en := bits value 12 12
       let changed := s.pmcPresent p = true ∧ 1 ≤ index ∧ index ≤ 7 ∧ ¬ (comp = s.rf (pmcFiltComp p index) ∧ en = s.rf (pmcFiltEn p index))
       let may := s.holds iface .mgmtWrite = true ∧ s.covers iface .counterRead comp = true ∧ (s.rf (pmcFiltEn p index) = 0 ∨ s.covers iface .counterRead (s.rf (pmcFiltComp p index)) = true)
       (¬ changed → exec (.pmcFiltWrite iface block index value) s = .next s) ∧
       (changed ∧ ¬ may → exec (.pmcFiltWrite iface block index value) s = .next (s.deny iface (pmcFiltComp p index).addr .counterRead)) ∧
       (changed ∧ may → exec (.pmcFiltWrite iface block index value) s = .next (each (upto (pmcCount p)) ((s.wf (pmcFiltComp p index) comp).wf (pmcFiltEn p index) en) (fun s i =>
          if s.rf (pmcSel p (if s.pmcChained p i then i - 1 else i)) = index then s.pmcZero p i else s))))) ∧
    (s.hears iface ld = true →
     let h := s.heard iface
     let p := pmcBlock (getLe b 0 1)
     let good := b.length = 8 ∧ (getLe b 0 1 < 8 ∨ getLe b 0 1 = 0xFF) ∧ getLe b 1 1 ≤ 1 ∧ 1 ≤ getLe b 4 2 ∧ getLe b 4 2 ≤ 224 ∧ allZero (slice b 6 2) = true ∧ getLe b 2 2 + getLe b 4 2 ≤ pmcCount p
     carries iface 0xC041 = true ∧ h.holds iface .counterRead = true →
      exec (.readCounters iface ld b) s = .next (if good then h.reply iface ld 0xC041 .success
        (le 6 h.fine ++ le 2 (getLe b 4 2) ++ ((upto (getLe b 4 2)).map (fun i => h.counterEntry iface p (getLe b 2 2 + i))).flatten) else h.reply iface ld 0xC041 .invalidInput []))

/-- Registers are read and written by processors and interfaces, and the seedbank through its window (R6, R7, R9, R435, R453, R456, R529). -/
def Obligations.RegisterAccessCommandsTakeEffect : Prop :=
  ∀ (s : State) (iface address count value offset : Nat) (values : List Nat),
    (s.hears iface 0 = true ∧ 0x100000 ≤ offset → exec (.seedbankWindowRead iface offset) s = .next s) ∧
    (s.hears iface 0 = true ∧ offset < 0x100000 →
      (s.holds iface .seedbank = true → exec (.seedbankWindowRead iface offset) s = .next ((s.windowWord offset).2.readOut iface (0xA00000 + offset) (s.windowWord offset).1)) ∧
      (s.holds iface .seedbank = false →
        exec (.seedbankWindowRead iface offset) s = .next ((s.deny iface (0xA00000 + offset) .seedbank).readOut iface (0xA00000 + offset) 0))) ∧
    (address % 4 = 0 → exec (.managementRegisterWrite iface address value) s = .next (s.regWriteWord iface address (value % 2 ^ 32))) ∧ (address % 4 ≠ 0 → exec (.managementRegisterWrite iface address value) s = .next s) ∧
    (s.hears iface 0 = true →
      let h := s.heard iface
      let ok (n : Nat) : Prop := address % 4 = 0 ∧ n < 65536 ∧ address < 2 ^ 32
      let bad (op : Nat) : Host.Outcome State Fault Refusal := .next (if carries iface op then h.reply iface 0 op .invalidInput [] else h.reply iface 0 op .unsupported [])
      (carries iface 0xD000 = false → exec (.registerRead iface address count) s = .next (h.reply iface 0 0xD000 .unsupported [])) ∧
      (carries iface 0xD001 = false → exec (.registerWrite iface address values) s = .next (h.reply iface 0 0xD001 .unsupported [])) ∧
      (h.holds iface .mgmtRead = true ∧ ¬ ok count → exec (.registerRead iface address count) s = bad 0xD000) ∧
      (h.holds iface .mgmtWrite = true ∧ ¬ ok values.length → exec (.registerWrite iface address values) s = bad 0xD001) ∧
      (carries iface 0xD000 = true ∧ h.holds iface .mgmtRead = true ∧ ok count → exec (.registerRead iface address count) s =
        .next ((h.readWords iface address count).2.reply iface 0 0xD000 .success (h.readWords iface address count).1)) ∧
      (carries iface 0xD001 = true ∧ h.holds iface .mgmtWrite = true ∧ ok values.length → exec (.registerWrite iface address values) s =
        .next ((h.writeWords iface address values).reply iface 0 0xD001 .success []))) ∧
    (s.wardenUp = false ∨ s.nacking = true ∨ s.rb F.WDN_I3C_STAT_addr_valid = false → exec (.regRead address) s = .next (s.send .nack)) ∧
    (s.wardenUp = true ∧ s.nacking = false ∧ s.rb F.WDN_I3C_STAT_addr_valid = true →
      let i := s.irqEdge irqSideband
      let ready (t : State) (code : Nat) (out : Bytes) : Host.Outcome State Fault Refusal := .next { t with sb := { t.sb with response := out, frag := 0, status := code } }
      (i.holds 5 .mgmtRead = false → exec (.regRead address) s = ready (i.deny 5 3 .mgmtRead) 3 []) ∧
      (i.holds 5 .mgmtRead = true ∧ address % 4 = 0 → exec (.regRead address) s = ready (i.regRead 5 address).2 0 (le 4 (i.regRead 5 address).1)) ∧
      (i.holds 5 .mgmtRead = true ∧ address % 4 ≠ 0 → exec (.regRead address) s = ready i 4 []))

/-- The event FIFO and the clock are read, the ring log is written, frozen and read, the trace runs (R410, R416, R419, R420, R422, R424, R426, R427, R429, R431). -/
def Obligations.LogCommandsTakeEffect : Prop :=
  ∀ (s : State) (iface ld code value : Nat) (b : Bytes),
    (s.fifoEntry = none → exec .evfData0Read s = .next (s.wf F.WDN_EVF_STAT_underrun 1)) ∧
    (∀ e t, s.fifoEntry = some (e, t) → exec .evfData0Read s = .next (t.latchEntry e)) ∧
    (s.hears iface 0 = true ∧ s.holds iface .mgmtRead = false →
      exec (.fineLoRead iface) s = .next ((s.deny iface F.WDN_FINE_LO_fine.addr .mgmtRead).readOut iface F.WDN_FINE_LO_fine.addr 0) ∧
      exec (.traceDataRead iface) s = .next ((s.deny iface (F.RLG_TRC_DATA_word 0).addr .mgmtRead).readOut iface (F.RLG_TRC_DATA_word 0).addr 0)) ∧
    (s.hears iface 0 = true ∧ s.holds iface .mgmtRead = true →
      exec (.fineLoRead iface) s = .next ((s.wf F.WDN_FINE_HI_fine (s.fine / 2 ^ 32)).readOut iface F.WDN_FINE_LO_fine.addr (s.fine % 2 ^ 32)) ∧
      (s.rf F.RLG_TRC_CTRL_owner ≠ iface → exec (.traceDataRead iface) s = .next (s.readOut iface (F.RLG_TRC_DATA_word 0).addr 0)) ∧
      (s.rf F.RLG_TRC_CTRL_owner = iface →
        exec (.traceDataRead iface) s = .next ((s.takeTrace iface).readOut iface (F.RLG_TRC_DATA_word 0).addr ((s.takeTrace iface).rf (F.RLG_TRC_DATA_word 0))))) ∧
    (∀ r, s.log.writing = some r →
      let l := { s.log.place (.held r) r.heart with writing := none, next := (s.log.next + 1) % 2 ^ 32 }
      exec .logRecordWriteDone s = .next ((({ s with log := l.startErase } : State).countHub 37).countHub 53).logKick) ∧
    (s.log.writing = none → exec .logRecordWriteDone s = .next s) ∧ (s.log.erasing = false → exec .logSectorEraseDone s = .next s) ∧
    (s.log.erasing = true → exec .logSectorEraseDone s =
      .next (({ s with log := ({ s.log with sectors := s.log.sectors.tail, first := (s.log.first + 1) % 281, erased := s.log.erased + 1, erasing := false } : RingLog).startErase } : State).countHub 54)) ∧
    (let may := 0 < s.log.dropped ∧ s.log.queue.length < 512 ∧ s.log.frozen = false ∧ s.power.committed = false
     (¬ may → exec .logQueueGapWrite s = .next s) ∧ (may → exec .logQueueGapWrite s = .next (({ s with log := { s.log with dropped := 0 } } : State).writerRecord 0x0002 (le 4 s.log.dropped ++ le 1 0)))) ∧
    (tget s.glade.rates code = none → exec (.rateWindowEnd code) s = .next s) ∧
    (∀ st, tget s.glade.rates code = some st →
      exec (.rateWindowEnd code) s = .next { s with glade := { s.glade with rates := tput s.glade.rates code { st with running := false, count := 0 } } }) ∧
    (s.log.frozen = true → exec (.logFreeze iface) s = .next s) ∧ (s.log.frozen = false → exec (.logThaw iface) s = .next s) ∧
    (s.hears iface 0 = true ∧ s.holds iface .logFreeze = true ∧ s.holds iface .mgmtWrite = true →
      (s.log.frozen = false → exec (.logFreeze iface) s = .next (s.freezeLog iface)) ∧ (s.log.frozen = true → exec (.logThaw iface) s = .next (s.thawLog iface false))) ∧
    exec .freezeLimitExpire s = .next (s.thawLog s.log.freezer true) ∧
    (s.hears iface ld = true ∧ carries iface 0xC040 = true ∧ (s.heard iface).holds iface .logRead = true →
      let a := (s.heard iface).readRingLog iface 0xC040 b 16000
      exec (.readRingLog iface ld b) s = .next (a.state.reply iface ld 0xC040 a.code a.payload)) ∧
    (s.hears iface 0 = true →
      let no : State := s.deny iface F.RLG_TRC_CTRL_enable.addr .trace
      let mayStart := s.holds iface .mgmtWrite = true ∧ (if bits value 1 1 = 1 then s.coversAll iface .trace else s.covers iface .trace (bits value 13 2)) = true
      let mayStop := s.holds iface .mgmtWrite = true ∧ (if s.rb F.RLG_TRC_CTRL_all then s.coversAll iface .trace else s.covers iface .trace (s.rf F.RLG_TRC_CTRL_compartment)) = true
      (s.rb F.RLG_TRC_CTRL_enable = true → exec (.traceStart iface value) s = .next s) ∧ (s.rb F.RLG_TRC_CTRL_enable = false → exec (.traceStop iface) s = .next s) ∧
      (s.rb F.RLG_TRC_CTRL_enable = false ∧ ¬ mayStart → exec (.traceStart iface value) s = .next no) ∧ (s.rb F.RLG_TRC_CTRL_enable = true ∧ ¬ mayStop → exec (.traceStop iface) s = .next no) ∧
      (s.rb F.RLG_TRC_CTRL_enable = true ∧ mayStop → exec (.traceStop iface) s = .next s.stopTrace) ∧
     (s.rb F.RLG_TRC_CTRL_enable = false ∧ mayStart →
      let a := ((({ s with trace := ⟨[], []⟩ } : State).wf F.RLG_TRC_CTRL_enable 1).wf F.RLG_TRC_CTRL_all (bits value 1 1)).wf F.RLG_TRC_CTRL_compartment (bits value 13 2)
      let c := ((a.wf F.RLG_TRC_CTRL_ports (bits value 17 14)).wf F.RLG_TRC_CTRL_wrap (bits value 18 18)).wf F.RLG_TRC_CTRL_sample_log2 (bits value 22 19)
      exec (.traceStart iface value) s = .next ((c.wf F.RLG_TRC_CTRL_owner iface).wf F.RLG_TRC_STAT_full 0)))

/-- Firmware images are transferred and activated, watchdogs act, processors are debugged (R433, R438, R439, R440, R442, R453, R478). -/
def Obligations.FirmwareAndProcessorCommandsTakeEffect : Prop :=
  ∀ (s : State) (iface ld slot offset core address count : Nat) (data : Bytes) (upset : Option Bool) (action : XferAction),
    (s.hears iface ld = true ∧ (s.heard iface).holds iface .firmware = true →
      let h := s.heard iface
      let other := 1 - h.rf F.WDN_FW_STAT_active_slot
      let say (op : Nat) (a : Answer) : Host.Outcome State Fault Refusal :=
        .next (if carries iface op then a.state.reply iface ld op a.code a.payload else h.reply iface ld op .unsupported [])
      let mine (got : Bytes) : Prop := h.fw.xfer = some ⟨iface, got⟩
      let long : Prop := iface < 4 ∧ mailboxSize < 16 + data.length
      let ends (a : Answer) : Prop := exec (.transferFw iface ld action slot offset data) s = say 0x0201 a
      let begun : State := match h.fw.xfer with | some x => if x.iface ≠ iface then h.abortFw else h | none => h
      (long → ends (answer .invalidLength h)) ∧ (¬ long ∧ slot ≠ other → ends (answer .invalidSlot h)) ∧ (¬ long ∧ slot = other ∧ h.fw.act.isSome = true → ends (answer .fwInProgress h)) ∧
      (¬ long ∧ slot = other ∧ h.fw.act = none →
        (action = .full → ends (if offset = 0 then begun.finishFw data else answer .fwOutOfOrder begun)) ∧
        (action = .initiate → ends (if offset ≠ 0 ∨ data.length % 128 ≠ 0 then answer .fwOutOfOrder begun
          else answer .success (({ begun with fw := { begun.fw with xfer := some ⟨iface, data⟩, slots := begun.fw.slots.set other none } } : State).seedProgram.wf F.WDN_FW_STAT_busy 1))) ∧
        (∀ got, mine got →
          (action = .next → ends (if offset * 128 ≠ got.length ∨ data.length % 128 ≠ 0 ∨ 0x200000 < got.length + data.length then answer .fwOutOfOrder h
            else answer .success ({ h with fw := { h.fw with xfer := some ⟨iface, got ++ data⟩ } } : State).seedProgram)) ∧
          (action = .finish → ends (if offset * 128 ≠ got.length then answer .fwOutOfOrder h else h.finishFw (got ++ data))) ∧
          (action = .abort → ends (answer .success h.abortFw))) ∧
        ((∀ got, ¬ mine got) ∧ action ≠ .full ∧ action ≠ .initiate → ends (answer .fwOutOfOrder h))) ∧
      (let does (online : Bool) (a : Answer) : Prop := exec (.activateFw iface ld online slot) s = say 0x0202 a
       let off := (!h.tileList.all h.tileInService) = true ∨ h.applyRunning = true ∨ h.rb F.SEQ_VIN_braced = true ∨ h.rb F.RST_STAT_trim_safe = true ∨ h.rb F.WDN_FW_STAT_trial = true
       let code := h.fwCheck ((h.fwSlot slot).getD [])
       let t := (h.fwCounted ((h.fwSlot slot).getD [])).wf F.WDN_FW_STAT_result code
       (slot ≠ other → ∀ o, does o (answer .invalidSlot h)) ∧ (slot = other ∧ (h.fw.act.isSome = true ∨ h.fw.xfer.isSome = true) → ∀ o, does o (answer .fwInProgress h)) ∧
       (slot = other ∧ h.fw.act = none ∧ h.fw.xfer = none →
         ((h.ld iface ld).bg.isSome = true → does true (answer .busy h)) ∧ (off → does false (answer .coldResetRequired h)) ∧
         ((h.ld iface ld).bg.isSome = false ∧ off → does true (answer .coldResetRequired h)) ∧
         (¬ off → does false (if code ≠ 0 then answer (fwRet code) t else answer .success ({ t with fw := { t.fw with marked := some slot } } : State).seedProgram)) ∧
         ((h.ld iface ld).bg.isSome = false ∧ ¬ off → does true (if code ≠ 0 then answer (fwRet code) t else answer .background
            (((((t.wf F.WDN_FW_STAT_active_slot slot).wf F.WDN_FW_STAT_trial 1).wf F.WDN_FW_STAT_busy 1).wf F.WDN_FW_STAT_failed_core 15).modLd iface ld (fun d => { d with bg := some 0x0202 })
              |>.restartCore ⟨slot, iface, ld, 0, false⟩)))))) ∧
    (∀ m, s.fw.act = none → exec (.processorReady core m) s = .next s ∧ exec (.stewardReadyTimeout core) s = .next s) ∧
    (∀ a, s.fw.act = some a →
      let t : State := { s with fw := { s.fw with running := s.fw.running.set core a.slot } }
      let u := if a.rolling then (if core = 0 then t.endActivation a else t.restartCore { a with core := core - 1 })
        else if core < t.tileCount then t.restartCore { a with core := core + 1 } else t.endActivation a
      (a.core = core → exec (.processorReady core true) s = .next (if u.irqNow core then u.assertLine core else u)) ∧
      (exec (.processorReady core false) s = .next s) ∧ (a.core ≠ core → exec (.processorReady core true) s = .next s) ∧
      (a.core ≠ core + 1 ∨ a.rolling = true → exec (.stewardReadyTimeout core) s = .next s) ∧
      (a.core = core + 1 ∧ a.rolling = false → exec (.stewardReadyTimeout core) s =
        .next ((((s.wf F.WDN_FW_STAT_active_slot (1 - a.slot)).wf F.WDN_FW_STAT_trial 0).wf F.WDN_FW_STAT_failed_core (core + 1)).restartCore { a with slot := 1 - a.slot, rolling := true }))) ∧
    (let may := s.rb F.WDN_FW_STAT_trial = true ∧ s.fw.act = none ∧ s.fw.fault = false ∧ s.fw.trialStart + 60 ≤ s.glade.opsec
     let t := s.wf F.WDN_FW_STAT_trial 0
     (¬ may → exec .fwTrialEnd s = .next s) ∧ (may ∧ t.fwSlot (t.rf F.WDN_FW_STAT_active_slot) = none → exec .fwTrialEnd s = .next t) ∧
     (∀ b, may ∧ t.fwSlot (t.rf F.WDN_FW_STAT_active_slot) = some b → exec .fwTrialEnd s = .next (if getLe b 0x14 4 % 2 = 1
        then { t with fuses := { t.fuses with floor := t.fuses.floor.mapIdx (fun i c => if i < getLe b 0x0C 4 then 3 else c) } } else t))) ∧
    exec .wardenWatchdogExpire s = .next ((s.watchdogEvent 0 0).requestReset ⟨3, 5, 0⟩) ∧
    exec .wardenLockup s = .next ((s.watchdogEvent 0 1).requestReset ⟨3, 10, 0⟩) ∧
    exec (.watchdogKick core) s = .next { s with fw := { s.fw with kicked := tput s.fw.kicked core s.fine } } ∧
    (s.hears iface 0 = true ∧ (s.heard iface).holds iface .coreDebug = true →
      let h := s.heard iface
      let rep (op : Nat) (a : Answer) : Host.Outcome State Fault Refusal :=
        .next (if carries iface op then (if core ≤ h.tileCount then a.state.reply iface 0 op a.code a.payload else h.reply iface 0 op .invalidInput []) else h.reply iface 0 op .unsupported [])
      let u := h.coreWord core upset
      exec (.coreHalt iface core) s = rep 0xD110 (answer .success { h with fw := { h.fw with halted := if h.fw.halted.contains core then h.fw.halted else h.fw.halted ++ [core] } }) ∧
      exec (.coreStep iface core upset) s = rep 0xD111 (if h.fw.halted.contains core then answer .success u else answer .invalidInput h) ∧
      exec (.coreResume iface core) s = rep 0xD112 (answer .success { h with fw := { h.fw with halted := h.fw.halted.filter (fun c => c != core) } }) ∧
      exec (.coreMemoryRead iface core address count upset) s =
        rep 0xD113 (if upset = some true then answer .internalError u else ⟨.success, le (4 * count) (Config.free u.freeCtr), { u with freeCtr := u.freeCtr + 1 }⟩))

/-- Parameters are read, written, deleted and shadowed, from the registers, the channels and the sideband (R448, R449, R450, R451, R452, R453, R456, R458). -/
def Obligations.ParameterStoreCommandsTakeEffect : Prop :=
  ∀ (s : State) (iface key length : Nat) (v : Bytes),
    let look (t : State) (i op : Nat) : Nat × Bytes × State :=
      if t.holds i .paramRead = false then (5, [], t.deny i op .paramRead) else if psArea key = .reserved then (4, [], t) else if key = 0x0010 then (2, [], t)
      else match t.psGet key with | some v => (0, shownRecord key v, t) | none => (1, [], t)
    let start (t : State) (i op : Nat) (val : Option Bytes) : Nat × State :=
      let r : PsRec := ⟨key, ((t.ps.newest key).map (·.gen)).getD 0 + 1, (psArea key).num, val.isNone, val.getD []⟩
      if t.holds i .paramWrite = false then (5, t.deny i op .paramWrite) else if psArea key = .reserved ∨ 2020 < (val.getD []).length then (4, t)
      else if psArea key = .device ∨ (psArea key = .owner ∧ t.power.pins.nvwp = false) then (2, t) else if t.ps.writing.isSome = true ∨ t.power.committed = true then (6, t)
      else if val = none ∧ t.psGet key = none then (1, t) else if t.psOver key (val.getD []).length = true then (3, t) else if t.glade.fallback = none ∧ t.ps.erased = [] then (6, t)
      else (0, (({ t with ps := { t.ps with writing := some r, waiter := some (i, op) } } : State).wf F.WDN_PS_STAT_busy 1).wf F.WDN_PS_CTRL_go 1)
    let go := F.WDN_PS_CTRL_go.addr
    let took (op : Nat) (a : Nat × State) : State := (if a.1 = 5 then a.2 else a.2.psCtrl key op length).wf F.WDN_PS_STAT_result a.1
    (s.hears iface 0 = true ∧ s.holds iface .mgmtWrite = true →
      (let a := look s iface go
       exec (.psRead iface key length) s = .next (if a.1 = 5 then a.2.2.wf F.WDN_PS_STAT_result 5
        else if a.1 = 0 then let t := (a.2.2.psCtrl key 1 a.2.1.length).wf F.WDN_PS_STAT_result 0; { t with ps := { t.ps with buf := fit 2048 a.2.1 } }
        else (a.2.2.psCtrl key 1 length).wf F.WDN_PS_STAT_result a.1)) ∧
      exec (.psWrite iface key length) s = .next (took 2 (start s iface go (some (fit length s.ps.buf)))) ∧
      exec (.psDelete iface key length) s = .next (took 3 (start s iface go none)) ∧
      (s.holds iface .paramWrite = true → exec (.psShadow iface) s = .next (match s.glade.fallback with | some t => { s with ps := { s.ps with shadow := some t } } | none => s))) ∧
    (s.hears iface 0 = true →
      let h := s.heard iface
      let say (op : Nat) (a : Answer) : Host.Outcome State Fault Refusal :=
        .next (if carries iface op then a.state.reply iface 0 op a.code a.payload else h.reply iface 0 op .unsupported [])
      (let a := look h iface 0xD010
       exec (.storeRead iface key) s = say 0xD010 (if a.1 = 5 then answer .invalidSecurityState a.2.2 else ⟨.success, le 1 a.1 ++ a.2.1, a.2.2⟩)) ∧
      (let a := start h iface 0xD011 (some v)
       exec (.storeWrite iface key v) s = say 0xD011 (if a.1 = 5 then answer .invalidSecurityState a.2 else if a.1 = 0 then answer .background a.2 else ⟨.success, le 1 a.1, a.2⟩))) ∧
    (let up := s.wardenUp = true ∧ s.nacking = false ∧ s.rb F.WDN_I3C_STAT_addr_valid = true
     let i := s.irqEdge irqSideband
     let ready (t : State) (code : Nat) (out : Bytes) : Host.Outcome State Fault Refusal := .next { t with sb := { t.sb with response := out, frag := 0, status := code } }
     (¬ up → exec (.paramRead key) s = .next (s.send .nack) ∧ exec (.paramWrite key v) s = .next (s.send .nack)) ∧
     (up → (let a := look i 5 0x05; exec (.paramRead key) s = ready a.2.2 (sbStatus a.1) a.2.1) ∧ (let a := start i 5 0x06 (some v); exec (.paramWrite key v) s = ready a.2 (sbStatus a.1) []))) ∧
    (∀ b, s.ps.writing = none → exec (.psWriteDone b) s = .next s) ∧
    (∀ r b, s.ps.writing = some r →
      let t := ((s.psStored b r).wf F.WDN_PS_STAT_busy 0).wf F.WDN_PS_CTRL_go 0
      exec (.psWriteDone b) s = .next ((t.wf F.WDN_PS_STAT_result 0).countHub 53).psAnswered.psStat.paramFallback) ∧
    (s.ps.sectors = [] → exec .psCompact s = .next s) ∧
    (∀ old rest, s.ps.sectors = old :: rest →
      let keep := old.recs.filter (fun r => s.ps.newest r.key == some r)
      let p := each keep { s.ps with sectors := rest } ParamStore.append
      let may := s.ps.erased.length < 2 ∧ rest ≠ [] ∧ s.ps.erasing = [] ∧ s.ps.writing = none ∧ s.glade.fallback = none ∧ s.power.committed = false ∧
        (rest.map (fun x => x.recs.length)).sum + keep.length ≤ p.recs.length
      (¬ may → exec .psCompact s = .next s) ∧
      (may → exec .psCompact s = .next ({ s with ps := if s.ps.failed.contains old.pos then p else { p with erasing := p.erasing ++ [(old.pos, old.erases)] } } : State).psStat.paramFallback)) ∧
    (∀ b, s.ps.erasing = [] → exec (.psSectorEraseDone b) s = .next s) ∧
    (∀ b e rest, s.ps.erasing = e :: rest →
      let t : State := { s with ps := if b then { s.ps with erasing := rest, erased := s.ps.erased ++ [(e.1, e.2 + 1)] } else { s.ps with erasing := rest, failed := s.ps.failed ++ [e.1] } }
      exec (.psSectorEraseDone b) s = .next (t.countHub 54).psStat.paramFallback)

/-- Interrupts are claimed and ended, USB4 connects, the TAP loads its registers (R363, R365, R443, R445, R446, R453, R530). -/
def Obligations.InterruptTapAndLinkCommandsTakeEffect : Prop :=
  ∀ (s : State) (n target source code : Nat) (b : Bytes),
    exec (.irqSourceEdge n) s = .next (s.irqEdge n) ∧
    (s.pickSource target = none → exec (.irqClaim target) s = .next ((s.wf (F.IRQ_CLAIM_source target) 0x3FF).countHub 47)) ∧
    (∀ src, s.pickSource target = some src →
      let t : State := { s with irq := { s.irq with waiting := s.irq.waiting.filter (fun p => p.1 != src) } }
      let ends (u : State) : State := ((u.wf (F.IRQ_CLAIM_source target) src).countHub 46).dropLines
      (t.rb (F.IRQ_SRC_level src) = true → exec (.irqClaim target) s = .next (ends { t with irq := { t.irq with service := t.irq.service ++ [(target, src)] } })) ∧
      (t.rb (F.IRQ_SRC_level src) = false → exec (.irqClaim target) s = .next (ends (t.wf (F.IRQ_SRC_pending src) 0)))) ∧
    (s.irq.service.contains (target, source) = true → exec (.irqDone target source) s =
      .next (({ s with irq := { s.irq with service := s.irq.service.filter (fun p => p != (target, source)) } } : State).wf (F.IRQ_SRC_pending source) 0)) ∧
    (s.irq.service.contains (target, source) = false → exec (.irqDone target source) s = .next s) ∧
    exec (.irqHoldExpire target) s = .next (s.assertLine target) ∧
    (s.usb4 = true ∨ s.clocks.held.contains 7 = true → exec .usb4Connect s = .next s) ∧
    (s.usb4 = false ∧ s.clocks.held.contains 7 = false → exec .usb4Connect s = .next (({ s with usb4 := true, power := { s.power with pstate := 0 } } : State).irqEdge irqServiceConnect)) ∧
    (s.usb4 = false → exec .usb4Disconnect s = .next s) ∧
    (s.usb4 = true → exec .usb4Disconnect s = .next ((((((({ s with usb4 := false } : State).resetInterface 4).resetInterface 7).abortFwOf 4).abortStageOf 4).forgetSender 4).forgetSender 7)) ∧
    exec .idcode s = .next (s.tapLoad 0x01 (le 4 ((Config.dieRevision % 16) * 2 ^ 28 + s.dev.member.code * 2 ^ 12 + (Config.jedec % 2 ^ 11) * 2 + 1))) ∧
    exec (.samplePreload b) s = .next (({ s with freeCtr := s.freeCtr + 1, tap := { s.tap with boundary := b } } : State).tapLoad 0x02 (le b.length (Config.free s.freeCtr))) ∧
    (s.power.pins.rst = false →
      exec (.extest b) s = .next ((({ s with tap := { s.tap with boundary := b } } : State).tapLoad 0x03 b).send (.pin .statics true)) ∧
      exec .highz s = .next ((s.tapLoad 0x04 (zeros 1)).send (.pin .statics false)) ∧
      exec .clamp s = .next ((s.tapLoad 0x05 (zeros 1)).send (.pin .statics true))) ∧
    (s.power.pins.rst = true → exec (.extest b) s = exec (.bypass code) s ∧ exec .highz s = exec (.bypass code) s ∧ exec .clamp s = exec (.bypass code) s) ∧
    exec (.bypass code) s = .next (s.tapLoad 0x3F (zeros 1)) ∧
    exec .dbgmsg s = .next (s.tapLoad 0x20 []) ∧
    (s.wardenUp = false → exec (.tapWarrant b) s = .next (s.tapLoad 0x21 [])) ∧
    (s.wardenUp = true → exec (.tapWarrant b) s = .next ((s.submitWarrant 6 b).state.tapLoad 0x21 (s.submitWarrant 6 b).payload)) ∧
    exec .tapReset s = .next (({ s with tap := { s.tap with instr := 0x01 } } : State).resetInterface 6)

/-- The sideband's common command codes and its private read (R447, R454, R455, R456). -/
def Obligations.SidebandBusCommandsTakeEffect : Prop :=
  ∀ (s : State) (n : Nat),
    exec (.enec n) s = .next { s with sb := { s.sb with ibi := s.sb.ibi || hasBit n 0 } } ∧
    exec (.disec n) s = .next { s with sb := { s.sb with ibi := s.sb.ibi && !hasBit n 0 } } ∧
    exec (.setmwl n) s = .next { s with sb := { s.sb with mwl := min n 4096 } } ∧
    exec (.setmrl n) s = .next { s with sb := { s.sb with mrl := min n 4096 } } ∧
    (s.power.pins.posnIn = true ∧ s.rb F.WDN_I3C_STAT_addr_valid = false → exec (.entdaa n) s =
      .next (((((s.send (.ccc ((le 6 s.pid).reverse ++ [0x06#8, 0x00#8]))).wf F.WDN_I3C_STAT_dyn_addr n).wf F.WDN_I3C_STAT_addr_valid 1).wf F.WDN_I3C_STAT_posn_out 1).send (.pin .posnOut true))) ∧
    (s.power.pins.posnIn = false ∨ s.rb F.WDN_I3C_STAT_addr_valid = true → exec (.entdaa n) s = .next s) ∧
    exec .rstdaa s = .next ((((s.resetSideband.wf F.WDN_I3C_STAT_dyn_addr 0).wf F.WDN_I3C_STAT_addr_valid 0).wf F.WDN_I3C_STAT_posn_out 0).send (.pin .posnOut false)) ∧
    exec .rstact s = .next s.resetSideband ∧
    (let may := s.ps.writing.isSome = false ∧ s.rb F.WDN_I3C_STAT_addr_valid = true
     let direct : List Instr := [.getpid, .getbcr, .getdcr, .getmwl, .getmrl, .getstatus]
     (¬ may → ∀ c ∈ direct, exec c s = .next (s.send .nack)) ∧
     (may → exec .getpid s = .next (s.send (.ccc (le 6 s.pid).reverse)) ∧
      exec .getbcr s = .next (s.send (.ccc [0x06#8])) ∧
      exec .getdcr s = .next (s.send (.ccc [0x00#8])) ∧
      exec .getmwl s = .next (s.send (.ccc (le 2 s.sb.mwl).reverse)) ∧
      exec .getmrl s = .next (s.send (.ccc (le 2 s.sb.mrl).reverse)) ∧
      exec .getstatus s = .next (({ s with freeCtr := s.freeCtr + 1 } : State).send (.ccc (Config.standardPayload 0x90 [] s.freeCtr))))) ∧
    exec (.unsupportedCcc n) s = .next (s.send .nack) ∧
    (s.nacking = true ∨ s.rb F.WDN_I3C_STAT_addr_valid = false → exec .sidebandPrivateRead s = .next (s.send .nack)) ∧
    (s.nacking = false ∧ s.rb F.WDN_I3C_STAT_addr_valid = true →
      let part := s.sb.response.take (s.sb.mrl - 5)
      let b := le 1 s.sb.status ++ le 1 (b2n (decide (s.sb.mrl - 5 < s.sb.response.length)) + 2 * (s.sb.frag % 128)) ++ le 2 part.length ++ part
      exec .sidebandPrivateRead s =
        .next (({ s with sb := { s.sb with response := s.sb.response.drop (s.sb.mrl - 5), frag := s.sb.frag + 1 } } : State).send (.ccc (b ++ le 1 (crc8 b)))))

/-- The sideband's messages for identity, log, warrant and the legacy bytes (R363, R427, R456, R457). -/
def Obligations.SidebandMessagesTakeEffect : Prop :=
  ∀ (s : State) (address length : Nat) (b pw : Bytes),
    let up := s.wardenUp = true ∧ s.nacking = false ∧ s.rb F.WDN_I3C_STAT_addr_valid = true
    let all : List Instr := [.ident, .logRead b, .warrant b, .lRead address length, .lWrite address b, .lUnlock b, .lLock, .lSetpw b pw]
    (¬ up → ∀ c ∈ all, exec c s = .next (s.send .nack)) ∧ (up →
    let i := s.irqEdge irqSideband
    let ready (t : State) (code : Nat) (out : Bytes) : Host.Outcome State Fault Refusal := .next { t with sb := { t.sb with response := out, frag := 0, status := code } }
    exec .ident s = ready i 0 (le 8 i.dev.serial ++ le 2 i.dev.member.code ++ le 4 Config.romVersion ++ le 4 i.fwVersion ++ le 1 i.lifecycle) ∧
    (i.holds 5 .logRead = false → exec (.logRead b) s = ready (i.deny 5 0x04 .logRead) 3 []) ∧
    (i.holds 5 .logRead = true →
      let a := i.readRingLog 5 0x04 b 16
      exec (.logRead b) s = ready a.state (if a.code = .success then 0 else if a.code = .invalidSecurityState then 3 else 4) a.payload) ∧
    (let a := i.submitWarrant 5 b
     exec (.warrant b) s = ready a.state (if a.code = .success then 0 else 4) a.payload) ∧
    (i.legacyLocked = true → exec (.lRead address length) s = ready i 3 [] ∧ exec (.lWrite address b) s = ready i 3 []) ∧
    (i.legacyLocked = false →
      (1 ≤ length ∧ length ≤ 32 ∧ address + length ≤ 8192 → exec (.lRead address length) s = ready i 0 ((upto length).map (fun k => i.legacyByte (address + k)))) ∧
      (length = 0 ∨ 32 < length ∨ 8192 < address + length → exec (.lRead address length) s = ready i 4 []) ∧
      (let key := 0xC000 + address / 16
       let old := (upto 16).map (fun k => i.legacyByte (address / 16 * 16 + k))
       let r : PsRec := ⟨key, ((i.ps.newest key).map (·.gen)).getD 0 + 1, PsArea.legacy.num, false, old.take (address % 16) ++ b ++ old.drop (address % 16 + b.length)⟩
       exec (.lWrite address b) s = (if b.isEmpty = true ∨ 8192 ≤ address ∨ 16 < address % 16 + b.length then ready i 4 [] else if i.ps.writing.isSome = true ∨ i.power.committed = true then ready i 1 []
         else if i.psOver key 16 = true then ready i 4 [] else if i.glade.fallback.isNone = true ∧ i.ps.erased.isEmpty = true then ready i 1 []
         else ready ((({ i with ps := { i.ps with writing := some r, waiter := none } } : State).wf F.WDN_PS_STAT_busy 1).wf F.WDN_PS_CTRL_go 1) 0 []))) ∧
    (b.length ≠ 8 → exec (.lUnlock b) s = ready i 4 []) ∧
    (b.length = 8 →
      (i.sb.wrong < 8 ∧ i.psGet 0x0010 = none → exec (.lUnlock b) s = ready i 0 []) ∧
      (8 ≤ i.sb.wrong → exec (.lUnlock b) s = ready i 3 []) ∧
      (∀ d, i.sb.wrong < 8 ∧ i.psGet 0x0010 = some d →
        exec (.lUnlock b) s = (if d = i.passwordDigest b then ready (i.wf F.WDN_PS_STAT_unlocked 1) 0 [] else ready { i with sb := { i.sb with wrong := i.sb.wrong + 1 } } 3 []))) ∧
    exec .lLock s = ready (i.wf F.WDN_PS_STAT_unlocked 0) 0 [] ∧
    (i.holds 5 .paramWrite = false → exec (.lSetpw b pw) s = ready (i.deny 5 0x84 .paramWrite) 3 []) ∧
    (i.holds 5 .paramWrite = true ∧ (b.length ≠ 8 ∨ pw.length ≠ 8) → exec (.lSetpw b pw) s = ready i 4 []) ∧
    (∀ d, i.holds 5 .paramWrite = true ∧ b.length = 8 ∧ pw.length = 8 ∧ i.psGet 0x0010 = some d ∧ d ≠ i.passwordDigest b → exec (.lSetpw b pw) s = ready i 3 []) ∧
    (b.length = 8 ∧ pw.length = 8 ∧ i.holds 5 .paramWrite = true ∧ (i.psGet 0x0010 = none ∨ i.psGet 0x0010 = some (i.passwordDigest b)) →
      exec (.lSetpw b pw) s = ready (i.devicePut 0x0010 (if allZero pw then none else some (i.passwordDigest pw))) 0 []))

/-- A step takes the command at the front of the queue and runs it on the queue's rest (R453). -/
def Obligations.StepRunsTheFrontCommand : Prop :=
  ∀ (s : State) (c : Instr) (rest : List Instr), s.pending = c :: rest → step s = exec c { s with pending := rest }

/-- With no command waiting a step lets the fabric clock pass (the model's choice, log 2) (R395, R406, R491, R511). -/
def Obligations.EmptyQueueTicks : Prop :=
  ∀ (s : State), s.pending = [] →
    (s.fabricRuns = false → step s = .next s) ∧
    (s.fabricRuns = true ∧ s.power.pstate = 2 → step s = .next ((s.advance 10).countHub 50)) ∧
    (s.fabricRuns = true ∧ s.power.pstate ≠ 2 → step s = .next ((each s.tileList (s.advance 1) State.tileCycle).countHub 0))

/-- What reset leaves: the spec's reset values of the queues, the store and the interfaces (member and lifecycle: logs 1 and 14) (R237, R242, R319, R416, R420, R454, R466). -/
def Obligations.ResetLeaves : Prop :=
  let s := State.reset
  s.pending = [] ∧ s.evf = [] ∧ s.errs = [] ∧ s.errNext = 1 ∧ s.poison = [] ∧ s.overlay = [] ∧ s.rekeys = [] ∧ s.queues = [] ∧ s.slots = [] ∧ s.deadwood = [] ∧ s.readOnly = false ∧
  s.sb.mwl = 256 ∧ s.sb.mrl = 256 ∧ s.rb F.WDN_I3C_STAT_addr_valid = false ∧ 24 ≤ s.log.erased ∧ s.log.heart = [.held (firstFormat true 2)] ∧ s.active = none ∧ s.phase = 2 ∧ s.spareBase = 62660480 ∧
  s.rb F.WDN_EVF_STAT_empty = true ∧ (∀ t, t < 8 → s.tileInService t = true ∧ (s.tile t).filterAll = true)

/-- Reset meets the invariants: canonical registers, bounded queues (R289, R414, R426). -/
def Obligations.ResetMeetsTheInvariants : Prop :=
  State.reset.regsCanonical ∧ State.reset.bounded

/-- A mailbox command without its right is refused with the rights-denied event; an interface that is not heard is not answered (R141, R358, R477). -/
def Obligations.CommandsNeedTheirRight : Prop :=
  ∀ (s : State) (iface ld slot offset dpa : Nat) (b : Bytes) (on : Bool) (act : XferAction),
    let table : List (Nat × Right × Instr) := [(0xC021, .healthRead, .getHealthReport iface ld), (0xC022, .healthRead, .getMediaErrorRecords iface ld b), (0xC010, .keyAdmin, .createKeySlot iface ld b),
      (0xC011, .keyAdmin, .destroyKeySlot iface ld b), (0xC012, .keyAdmin, .getKeySlotInfo iface ld b), (0xC013, .keyAdmin, .startRekey iface ld b), (0xC030, .imageStage, .stageImage iface ld b),
      (0xC040, .logRead, .readRingLog iface ld b), (0xC041, .counterRead, .readCounters iface ld b), (0xC000, .queue, .createQueuePair iface ld b), (0xC001, .queue, .deleteQueuePair iface ld b),
      (0xC002, .queue, .getQueuePairStatus iface ld b), (0xC020, .retire, .retire iface ld b), (0xC050, .tileService, .tileService iface ld b), (0x0201, .firmware, .transferFw iface ld act slot offset b),
      (0x0202, .firmware, .activateFw iface ld on slot), (0x4301, .test, .injectPoison iface ld dpa)]
    s.lineHeld (dpa / 64) = false → ∀ x ∈ table,
      (s.hears iface ld = true ∧ carries iface x.1 = true ∧ (s.heard iface).holds iface x.2.1 = false →
        exec x.2.2 s = .next (((s.heard iface).deny iface x.1 x.2.1).reply iface ld x.1 .invalidSecurityState [])) ∧
      (s.hears iface ld = true ∧ carries iface x.1 = false → exec x.2.2 s = .next ((s.heard iface).reply iface ld x.1 .unsupported [])) ∧
      (s.hears iface ld = false → exec x.2.2 s = .next (s.unheard iface ld))

/-- A register write is read back, and leaves every other register and the rest of the state alone (R6). -/
def Obligations.RegisterWritesAreLocal : Prop :=
  ∀ (s : State) (a : Nat) (w : Word) (f g : Fld) (v : Nat),
    (s.setReg a w).reg a = w ∧ (∀ b, b ≠ a → (s.setReg a w).reg b = s.reg b) ∧
    (f.lo ≤ f.hi ∧ f.hi < 32 → (s.wf f v).rf f = v % 2 ^ (f.hi - f.lo + 1)) ∧
    (f.lo ≤ f.hi ∧ f.hi < 32 ∧ g.lo ≤ g.hi ∧ g.hi < 32 ∧ (g.addr ≠ f.addr ∨ g.hi < f.lo ∨ f.hi < g.lo) → (s.wf f v).rf g = s.rf g) ∧
    { s.setReg a w with regs := s.regs } = s

/-- Every step keeps the register file in its canonical form (R5, R6). -/
def Obligations.RegistersStayCanonical : Prop :=
  ∀ (s t : State), s.regsCanonical → step s = .next t → t.regsCanonical

/-- Every step keeps the event FIFO, the Glade buffer and the error list within their bounds (R289, R414, R415, R426). -/
def Obligations.QueuesStayBounded : Prop :=
  ∀ (s t : State), s.bounded → step s = .next t → t.bounded

/-- Every step keeps the heartwood, the deadwood and the spare base, and fuses only burn (R242, R257, R367, R368, R420, R437). -/
def Obligations.WhatIsPermanentStays : Prop :=
  ∀ (s t : State), step s = .next t → s.log.heart <+: t.log.heart ∧ s.deadwood <+: t.deadwood ∧ t.spareBase = s.spareBase ∧ fusesLe s t

/-- No command, reset or power event leaves the read-only state (R250). -/
def Obligations.ReadOnlyIsNeverLeft : Prop :=
  ∀ (s t : State), s.readOnly = true → (step s = .next t → t.readOnly = true) ∧ (∀ c, exec c s = .next t → t.readOnly = true)

/-- No command changes the waiting queue, the part's identity or its number of tiles (R2, R3). -/
def Obligations.CommandsLeaveTheQueueAndThePart : Prop :=
  ∀ (s t : State) (c : Instr), exec c s = .next t → t.pending = s.pending ∧ t.dev = s.dev ∧ t.tiles.length = s.tiles.length

/-- A reserved address reads 0 and takes no write, without error on the management path (R9). -/
def Obligations.ReservedAddressesReadZero : Prop :=
  ∀ (s : State) (iface addr value : Nat), s.hears iface 0 = true ∧ (s.heard iface).hears iface 0 = true ∧ (s.heard iface).lostWords.contains (.register, true) = false ∧
      addr % 4 = 0 ∧ addr < 2 ^ 32 ∧ reservedAddr addr = true ∧ inWindow addr = false →
    let h := s.heard iface
    exec (.managementRegisterWrite iface addr value) s = .next s ∧
    (carries iface 0xD000 = true ∧ carries iface 0xD001 = true →
      (h.holds iface .mgmtRead = true → exec (.registerRead iface addr 1) s = .next (h.reply iface 0 0xD000 .success [0#8, 0#8, 0#8, 0#8])) ∧
      (h.holds iface .mgmtWrite = true → exec (.registerWrite iface addr [value]) s = .next (h.reply iface 0 0xD001 .success [])))

/-- The home tile of a leaf follows the compartment's interleave pattern (R93). -/
def Obligations.HomeTileOfALeaf : Prop :=
  ∀ (s : State) (line : Nat) (c : Comp), s.servedAt (lineDpa line) = some c ∧ 12 ≤ (s.patternOf c).granule →
    let p := s.patternOf c
    let a := (lineDpa line - c.lo) / 4096 * 4096
    s.homeOf line = p.tiles.getD (a / 2 ^ p.granule % p.tiles.length) 0

/-- The sideband's codes, interrupts, the TAP and the mailbox queries leave the medium, the tiles, the keys and the fuses alone (R139, R445, R454, R530). -/
def Obligations.ControlCommandsLeaveTheMediumAlone : Prop :=
  ∀ (s : State) (iface ld n m : Nat) (b : Bytes) (c : Instr),
    c ∈ ([.enec n, .disec n, .setmwl n, .setmrl n, .entdaa n, .getpid, .getbcr, .getdcr, .getmwl, .getmrl, .getstatus, .unsupportedCcc n, .irqSourceEdge n, .irqClaim n, .irqDone n m, .irqHoldExpire n,
      .idcode, .samplePreload b, .extest b, .highz, .clamp, .dbgmsg, .bypass n, .getEventRecords iface ld n, .getEventInterruptPolicy iface ld, .getFwInfo iface ld, .getTimestamp iface ld,
      .getSupportedLogs iface ld, .getLog iface ld n, .identifyMemoryDevice iface ld, .getPartitionInfo iface ld, .getLsa iface ld n m, .getHealthInfo iface ld, .getAlertConfig iface ld, .getShutdownState iface ld] : List Instr) →
    let still (x : Tile) : Tile := { x with waking := false, entering := none }
    ∃ t, exec c s = .next t ∧ t.pkgs = s.pkgs ∧ t.tiles.map still = s.tiles.map still ∧ t.slots = s.slots ∧ t.fuses = s.fuses ∧ t.places = s.places ∧ t.active = s.active
end

