-- ==== Sys2Proof/Laws/Commands.lean ====
section
/-! SUPPORT. What a command or a register write of an interface comes to: not heard, not carried, refused for its right, or run. -/
namespace Sys2Proof.Machine

theorem State.command_unheard {s : State} {iface ld op : Nat} {r : Option Right} {f : State → Answer} (h : s.hears iface ld = false) :
    s.command iface ld op r f = s.unheard iface ld := by
  simp only [State.command, h, Bool.not_false, if_true]

theorem State.command_uncarried {s : State} {iface ld op : Nat} {r : Option Right} {f : State → Answer} (h : s.hears iface ld = true) (hc : carries iface op = false) :
    s.command iface ld op r f = (s.heard iface).reply iface ld op .unsupported [] := by
  simp [State.command, h, hc]

theorem State.command_free {s : State} {iface ld op : Nat} {f : State → Answer} (h : s.hears iface ld = true) (hc : carries iface op = true) :
    s.command iface ld op none f = (f (s.heard iface)).state.reply iface ld op (f (s.heard iface)).code (f (s.heard iface)).payload := by
  simp [State.command, h, hc]

theorem State.command_held {s : State} {iface ld op : Nat} {r : Right} {f : State → Answer} (h : s.hears iface ld = true) (hc : carries iface op = true)
    (hr : (s.heard iface).holds iface r = true) :
    s.command iface ld op (some r) f = (f (s.heard iface)).state.reply iface ld op (f (s.heard iface)).code (f (s.heard iface)).payload := by
  simp [State.command, h, hc, hr]

theorem State.command_denied {s : State} {iface ld op : Nat} {r : Right} {f : State → Answer} (h : s.hears iface ld = true) (hc : carries iface op = true)
    (hr : (s.heard iface).holds iface r = false) :
    s.command iface ld op (some r) f = ((s.heard iface).deny iface op r).reply iface ld op .invalidSecurityState [] := by
  simp [State.command, h, hc, hr]

theorem State.regWrite_unheard {s : State} {iface what : Nat} {r : Right} {acts : Bool} {go : State → State} (h : s.hears iface 0 = false) :
    s.regWrite iface what r acts go = s.unheard iface 0 := by
  simp only [State.regWrite, h, Bool.not_false, if_true]

theorem State.regWrite_held {s : State} {iface what : Nat} {r : Right} {acts : Bool} {go : State → State} (h : s.hears iface 0 = true)
    (hr : s.holds iface r = true) (hm : s.holds iface .mgmtWrite = true) : s.regWrite iface what r acts go = go s := by
  simp [State.regWrite, h, hr, hm]

theorem State.regWrite_denied {s : State} {iface what : Nat} {r : Right} {go : State → State} (h : s.hears iface 0 = true)
    (hr : (s.holds iface r && s.holds iface .mgmtWrite) = false) :
    s.regWrite iface what r true go = s.deny iface what (if s.holds iface r then .mgmtWrite else r) := by
  simp [State.regWrite, h, hr]

theorem State.regWrite_idle {s : State} {iface what : Nat} {r : Right} {go : State → State} (h : s.hears iface 0 = true)
    (hr : (s.holds iface r && s.holds iface .mgmtWrite) = false) : s.regWrite iface what r false go = s := by
  simp [State.regWrite, h, hr]

theorem State.under_held {s : State} {iface what : Nat} {r : Right} {go no : State → State} (h : s.hears iface 0 = true) (hr : s.holds iface r = true) :
    s.under iface what r go no = go s := by
  simp [State.under, h, hr]

theorem State.under_denied {s : State} {iface what : Nat} {r : Right} {go no : State → State} (h : s.hears iface 0 = true) (hr : s.holds iface r = false) :
    s.under iface what r go no = no (s.deny iface what r) := by
  simp [State.under, h, hr]

end Sys2Proof.Machine
end

