-- ==== Sys2Proof/Laws/Kept.lean ====
section
/-! SUPPORT. Kept a b: what every operation keeps on the way from a state a to a state b, and how it passes through the forms the meanings are built of. -/
namespace Sys2Proof.Machine

/-- The fields Kept looks at. -/
def State.core (s : State) : Dev × List Instr × Nat × List (Nat × Word) × List FifoItem × List LogRec × Nat × List LogSlot × List Deadwood × Nat × Bool × Fuses :=
  (s.dev, s.pending, s.tiles.length, s.regs, s.evf, s.glade.buffer, s.errs.length, s.log.heart, s.deadwood, s.spareBase, s.readOnly, s.fuses)

/-- The device, the queue and the number of tiles stay; the register file stays canonical, the bounded queues within their bounds; what is permanent stays; fuses only burn. -/
def Kept (a b : State) : Prop :=
  b.dev = a.dev ∧ b.pending = a.pending ∧ b.tiles.length = a.tiles.length ∧ (a.regsCanonical → b.regsCanonical) ∧
  (a.evfLevel ≤ 1024 → b.evfLevel ≤ 1024) ∧ (a.glade.buffer.length ≤ 256 → b.glade.buffer.length ≤ 256) ∧
  (a.errs.length ≤ 65536 → b.errs.length ≤ 65536) ∧ permanent a b ∧ fusesLe a b

/-- A meaning's answer keeps it. -/
def KeptO (a : State) (o : Host.Outcome State Fault Refusal) : Prop := ∀ t, o = .next t → Kept a t

theorem Kept.refl (a : State) : Kept a a :=
  ⟨rfl, rfl, rfl, id, id, id, id, ⟨List.prefix_refl _, List.prefix_refl _, rfl, id⟩, Nat.le_refl _, Nat.le_refl _, Nat.le_refl _, id⟩

theorem Kept.congr {a b c : State} (h : Kept a b) (e : c.core = b.core) : Kept a c := by
  simp only [State.core, Prod.mk.injEq] at e
  obtain ⟨e1, e2, e3, e4, e5, e6, e7, e8, e9, e10, e11, e12⟩ := e
  simpa only [Kept, State.regsCanonical, State.evfLevel, permanent, fusesLe, State.bankCount, State.storageGen, State.fwFloor, e1, e2, e3, e4, e5, e6, e7, e8, e9, e10, e11, e12] using h

theorem Kept.trans {a b c : State} (h : Kept a b) (g : Kept b c) : Kept a c := by
  obtain ⟨a1, a2, a3, a4, a5, a6, a7, ⟨a8, a9, a10, a11⟩, a12, a13, a14, a15⟩ := h
  obtain ⟨b1, b2, b3, b4, b5, b6, b7, ⟨b8, b9, b10, b11⟩, b12, b13, b14, b15⟩ := g
  exact ⟨b1.trans a1, b2.trans a2, b3.trans a3, b4 ∘ a4, b5 ∘ a5, b6 ∘ a6, b7 ∘ a7, ⟨a8.trans b8, a9.trans b9, b10.trans a10, b11 ∘ a11⟩,
    a12.trans b12, a13.trans b13, a14.trans b14, b15 ∘ a15⟩

theorem fusesLe_refl (a : State) : fusesLe a a := ⟨Nat.le_refl _, Nat.le_refl _, Nat.le_refl _, id⟩

/-- An update that keeps it field by field: only what the update touches needs an argument. -/
theorem Kept.of {a s t : State} (h : Kept a s) (dev : t.dev = s.dev := by rfl) (pending : t.pending = s.pending := by rfl)
    (tiles : t.tiles.length = s.tiles.length := by rfl) (regs : s.regsCanonical → t.regsCanonical := by exact id)
    (evf : s.evfLevel ≤ 1024 → t.evfLevel ≤ 1024 := by exact id) (buffer : s.glade.buffer.length ≤ 256 → t.glade.buffer.length ≤ 256 := by exact id)
    (errs : s.errs.length ≤ 65536 → t.errs.length ≤ 65536 := by exact id) (heart : s.log.heart <+: t.log.heart := by exact List.prefix_rfl)
    (dead : s.deadwood <+: t.deadwood := by exact List.prefix_rfl) (spare : t.spareBase = s.spareBase := by rfl)
    (ro : s.readOnly = true → t.readOnly = true := by exact id) (fuses : fusesLe s t := by exact fusesLe_refl _) : Kept a t :=
  h.trans ⟨dev, pending, tiles, regs, evf, buffer, errs, ⟨heart, dead, spare, ro⟩, fuses⟩

theorem Kept.ite {a x y : State} {p : Prop} [Decidable p] (hx : Kept a x) (hy : Kept a y) : Kept a (if p then x else y) := by
  split
  · exact hx
  · exact hy

theorem KeptO.next {a x : State} (h : Kept a x) : KeptO a (.next x) := fun _ e => by cases e; exact h

theorem State.after_kept {a s : State} {o : Host.Outcome State Fault Refusal} (h : Kept a s) (ho : KeptO a o) : Kept a (s.after o) := by
  unfold State.after
  split
  · exact ho _ rfl
  · exact h

theorem Kept.snd {α : Type} {a y : State} {x : α} (h : Kept a y) : Kept a (x, y).2 := h
theorem Kept.fst {α : Type} {a y : State} {x : α} (h : Kept a y) : Kept a (y, x).1 := h
theorem Kept.third {α β : Type} {a z : State} {x : α} {y : β} (h : Kept a z) : Kept a (x, y, z).2.2 := h
theorem Kept.answer {a z : State} {x : Ret} {y : Bytes} (h : Kept a z) : Kept a (Answer.mk x y z).state := h
theorem id_kept {a s : State} (h : Kept a s) : Kept a (id s) := h

/-- A fold keeps what each of its steps keeps. -/
theorem each_keep {α σ : Type} (P : σ → Prop) {l : List α} {s : σ} {f : σ → α → σ} (h : P s) (hf : ∀ s a, P s → P (f s a)) : P (each l s f) := by
  unfold each
  induction l generalizing s with
  | nil => exact h
  | cons x t ih => exact ih (hf s x h)

theorem each_keep_mem {α σ : Type} (P : σ → Prop) {l : List α} {s : σ} {f : σ → α → σ} (h : P s) (hf : ∀ s a, a ∈ l → P s → P (f s a)) : P (each l s f) := by
  unfold each
  induction l generalizing s with
  | nil => exact h
  | cons x t ih => exact ih (hf s x List.mem_cons_self h) (fun s a ha => hf s a (List.mem_cons_of_mem _ ha))

/-! ## The register file -/

theorem regDrop_ok {l : List (Nat × Word)} (h : regsOk l) (q : Nat) : regsOk (regDrop l q) :=
  ⟨h.1.filter _, fun p hp => h.2 p (List.mem_filter.mp hp).1⟩

theorem mem_regPut {l : List (Nat × Word)} {q : Nat} {v : Word} {p : Nat × Word} (h : p ∈ regPut l q v) : p = (q, v) ∨ p ∈ l := by
  induction l with
  | nil => exact Or.inl (List.mem_singleton.mp h)
  | cons x t ih =>
    unfold regPut at h
    split at h
    · rcases List.mem_cons.mp h with h | h
      · exact Or.inl h
      · exact Or.inr h
    · split at h
      · rename_i e
        rcases List.mem_cons.mp h with h | h
        · exact Or.inl (by rw [h, e])
        · exact Or.inr (List.mem_cons_of_mem _ h)
      · rcases List.mem_cons.mp h with h | h
        · exact Or.inr (by rw [h]; exact List.mem_cons_self)
        · exact (ih h).imp id (List.mem_cons_of_mem _)

theorem regPut_ok {l : List (Nat × Word)} (h : regsOk l) {q : Nat} {v : Word} (hv : v ≠ coldValue q) : regsOk (regPut l q v) := by
  refine ⟨?_, fun p hp => ?_⟩
  · induction l with
    | nil => exact List.pairwise_singleton _ _
    | cons x t ih =>
      have ht : regsOk t := ⟨h.1.of_cons, fun p hp => h.2 p (List.mem_cons_of_mem _ hp)⟩
      have hx : ∀ {p}, p ∈ t → x.1 < p.1 := fun hp => List.rel_of_pairwise_cons h.1 hp
      unfold regPut
      split
      · rename_i hlt
        refine List.pairwise_cons.mpr ⟨fun p hp => ?_, h.1⟩
        rcases List.mem_cons.mp hp with hp | hp
        · rw [hp]; exact hlt
        · exact Nat.lt_trans hlt (hx hp)
      · split
        · exact List.pairwise_cons.mpr ⟨fun p hp => hx hp, h.1.of_cons⟩
        · refine List.pairwise_cons.mpr ⟨fun p hp => ?_, ih ht⟩
          rcases mem_regPut hp with hp | hp
          · rw [hp]; simp only; omega
          · exact hx hp
  · rcases mem_regPut hp with hp | hp
    · rw [hp]; exact hv
    · exact h.2 p hp

theorem State.setReg_kept {a s : State} {q : Nat} {w : Word} (h : Kept a s) : Kept a (s.setReg q w) := by
  obtain ⟨h1, h2, h3, h4, h5⟩ := h
  refine ⟨h1, h2, h3, fun ha => ?_, h5⟩
  show regsOk (if w = coldValue q then regDrop s.regs q else regPut s.regs q w)
  split
  · exact regDrop_ok (h4 ha) q
  · rename_i hw
    exact regPut_ok (h4 ha) hw

/-! ## Tiles, logs, fuses -/

theorem State.modTile_kept {a s : State} {t : Nat} {f : Tile → Tile} (h : Kept a s) : Kept a (s.modTile t f) :=
  h.congr (by simp [State.core, State.modTile, lmod])

/-- Tiles replaced by as many others. -/
theorem Kept.withTiles {a s t : State} (h : Kept a s) (e : t.core = ({ s with tiles := t.tiles } : State).core) (l : t.tiles.length = s.tiles.length) : Kept a t :=
  h.congr (by rw [e]; simp only [State.core, l])

theorem Kept.fst_state {a : State} {x : Rerooted} {α : Type} {y : α} (h : Kept a x.state) : Kept a (x, y).1.state := h
theorem Kept.rerooted {a z : State} {n l : Nat} (h : Kept a z) : Kept a (Rerooted.mk z n l).state := h

/-! ## Fuses -/

theorem filter_set_le {α : Type} (p : α → Bool) (l : List α) (n : Nat) (x : α) (hx : p x = true) :
    (l.filter p).length ≤ ((l.take n ++ [x] ++ l.drop (n + 1)).filter p).length := by
  induction l generalizing n with
  | nil => simp
  | cons y t ih =>
    cases n with
    | zero => by_cases hy : p y = true <;> simp [hx, hy]
    | succ n =>
      have := ih n
      by_cases hy : p y = true <;> simp only [List.take_succ_cons, List.drop_succ_cons, List.cons_append, List.filter_cons, hy, if_true, List.length_cons] at this ⊢
      · omega
      · exact this

theorem filter_map_le {α : Type} (p : α → Bool) (l : List α) (f : Nat → α → α) (h : ∀ i x, p x = true → p (f i x) = true) :
    (l.filter p).length ≤ ((l.mapIdx f).filter p).length := by
  induction l generalizing f with
  | nil => simp
  | cons y t ih =>
    have := ih (fun i => f (i + 1)) (fun i x => h (i + 1) x)
    rw [List.mapIdx_cons, List.filter_cons, List.filter_cons]
    by_cases hy : p y = true
    · rw [if_pos hy, if_pos (h 0 y hy)]; exact Nat.succ_le_succ this
    · rw [if_neg hy]; split
      · exact Nat.le_succ_of_le this
      · exact this

theorem filter_modify {α : Type} (p : α → Bool) (l : List α) (n : Nat) (f : α → α) (h : ∀ x, p (f x) = p x) :
    ((l.modify n f).filter p).length = (l.filter p).length := by
  induction l generalizing n with
  | nil => simp
  | cons y t ih =>
    cases n with
    | zero => rw [List.modify_zero_cons, List.filter_cons, List.filter_cons, h]; split <;> rfl
    | succ n => rw [List.modify_succ_cons, List.filter_cons, List.filter_cons]; split <;> simp [ih]

theorem burnNext_le (l : List Nat) : (l.filter burned).length ≤ ((burnNext l).filter burned).length := by
  unfold burnNext
  simp only
  split
  · exact filter_set_le burned l _ 3 rfl
  · rename_i h
    rw [List.take_of_length_le (Nat.le_of_not_lt h), List.filter_append, List.filter_append]
    simp only [List.length_append]
    omega

/-! ## The ring log and the event FIFO -/

theorem startErase_heart (l : RingLog) : l.startErase.heart = l.heart := by
  unfold RingLog.startErase
  split <;> rfl

theorem place_heart (l : RingLog) (x : LogSlot) (b : Bool) : l.heart <+: (l.place x b).heart := by
  unfold RingLog.place
  split
  · exact List.prefix_append _ _
  · split
    · split <;> exact List.prefix_rfl
    · exact List.prefix_rfl

theorem State.fifoEntry_kept {a s t : State} {b : Bytes} (h : Kept a s) (e : s.fifoEntry = some (b, t)) : Kept a t := by
  unfold State.fifoEntry at e
  split at e
  · cases e
  · rename_i f n l he
    cases e
    refine h.of (evf := fun hb => ?_)
    rw [State.evfLevel, he, List.map_cons, List.sum_cons] at hb
    simp only [State.evfLevel]
    omega
  · rename_i x l he
    simp only at e
    split at e
    · cases e
      refine h.of (evf := fun hb => ?_)
      rw [State.evfLevel, he, List.map_cons, List.sum_cons] at hb
      simp only [State.evfLevel]
      omega
    · cases e
      refine h.of (evf := fun hb => ?_)
      rw [State.evfLevel, he, List.map_cons, List.sum_cons] at hb
      simp only [State.evfLevel, List.map_cons, List.sum_cons, FifoItem.left] at hb ⊢
      omega

theorem State.pmcRaise_evf (s : State) (b : Option Nat) (i n : Nat) : (s.pmcRaise b i n).evf = s.evf := by
  unfold State.pmcRaise
  simp only
  split
  · rfl
  · split
    · split <;> rfl
    · rfl

theorem State.count_evf (s : State) (b : Option Nat) (i : Nat) (c : List Nat) (n : Nat) : (s.count b i c n).evf = s.evf := by
  unfold State.count
  cases b <;> simp only <;> split <;> try rfl
  all_goals
    split
    · exact State.pmcRaise_evf _ _ _ _
    · split
      · exact State.pmcRaise_evf _ _ _ _
      · rfl

end Sys2Proof.Machine
end

