-- ==== Sys2Proof/Laws/KeptBase.lean ====
section
/-! SUPPORT. One lemma per operation: it keeps what Kept says, for the register file, flags, the shared operations and the seedbank maps. -/
set_option linter.unusedVariables false
set_option Elab.async false
set_option linter.unusedSimpArgs false
namespace Sys2Proof.Machine

/-! ## Regs -/
theorem State.wf_kept {s₀ : State} {a0} {a1} {a2} (k0 : Kept s₀ a0) : Kept s₀ (State.wf a0 a1 a2) := by
  unfold State.wf
  exact State.setReg_kept k0
theorem State.incSat_kept {s₀ : State} {a0} {a1} {a2} (k0 : Kept s₀ a0) : Kept s₀ (State.incSat a0 a1 a2) := by
  unfold State.incSat
  exact State.wf_kept k0
theorem State.resetRegs_kept {s₀ : State} {a0} {a1} {a2} (k0 : Kept s₀ a0) : Kept s₀ (State.resetRegs a0 a1 a2) := by
  unfold State.resetRegs
  refine each_keep (fun r => Kept s₀ r) ?_ ?_
  · exact k0
  · intro v0 v1 h2
    refine Kept.ite ?_ ?_
    · exact State.setReg_kept h2
    · exact h2

/-! ## Flags -/
theorem State.send_kept {s₀ : State} {a0} {a1} (k0 : Kept s₀ a0) : Kept s₀ (State.send a0 a1) := by
  unfold State.send
  exact k0.congr rfl
theorem State.assertLine_kept {s₀ : State} {a0} {a1} (k0 : Kept s₀ a0) : Kept s₀ (State.assertLine a0 a1) := by
  unfold State.assertLine
  split
  · rename_i m0 m1
    exact k0
  · rename_i m2 m3 m4 m5
    refine Kept.ite ?_ ?_
    · exact k0
    · refine State.send_kept ?_
      exact k0.congr rfl
theorem State.pmcRaise_kept {s₀ : State} {a0} {a1} {a2} {a3} (k0 : Kept s₀ a0) : Kept s₀ (State.pmcRaise a0 a1 a2 a3) := by
  unfold State.pmcRaise
  extract_lets +onlyGivenNames x0; clear_value x0
  extract_lets +onlyGivenNames x1
  have h2 : Kept s₀ x1 := by unfold x1; exact State.wf_kept k0
  clear_value x1
  refine Kept.ite ?_ ?_
  · exact h2
  · refine Kept.ite ?_ ?_
    · extract_lets +onlyGivenNames x3; clear_value x3
      extract_lets +onlyGivenNames x4
      have h5 : Kept s₀ x4 := by unfold x4; exact State.wf_kept h2
      clear_value x4
      refine Kept.ite ?_ ?_
      · exact h5
      · exact State.wf_kept h5
    · exact State.wf_kept h2
theorem State.count_kept {s₀ : State} {a0} {a1} {a2} {a3} {a4} (k0 : Kept s₀ a0) : Kept s₀ (State.count a0 a1 a2 a3 a4) := by
  unfold State.count
  refine Kept.ite ?_ ?_
  · exact k0
  · split
    · rename_i m0 m1
      exact State.pmcRaise_kept k0
    · rename_i m2 m3 m4
      refine Kept.ite ?_ ?_
      · exact State.pmcRaise_kept k0
      · exact k0
theorem State.countHub_kept {s₀ : State} {a0} {a1} {a2} {a3} (k0 : Kept s₀ a0) : Kept s₀ (State.countHub a0 a1 a2 a3) := by
  unfold State.countHub
  exact State.count_kept k0
theorem State.countTile_kept {s₀ : State} {a0} {a1} {a2} {a3} {a4} (k0 : Kept s₀ a0) : Kept s₀ (State.countTile a0 a1 a2 a3 a4) := by
  unfold State.countTile
  exact State.count_kept k0
theorem State.cutRecord_kept {s₀ : State} {a0} (k0 : Kept s₀ a0) : Kept s₀ (State.cutRecord a0) := by
  unfold State.cutRecord
  split
  · rename_i r _
    refine k0.of (heart := ?_)
    show a0.log.heart <+: (a0.log.place .partialSlot r.heart).heart
    unfold RingLog.place
    split
    · exact List.prefix_append _ _
    · repeat' split
      all_goals exact List.prefix_rfl
  · exact k0
theorem State.logKick_kept {s₀ : State} {a0} (k0 : Kept s₀ a0) : Kept s₀ (State.logKick a0) := by
  unfold State.logKick
  refine Kept.ite ?_ ?_
  · exact k0
  · split
    · rename_i m0 m1
      exact k0
    · rename_i m2 m3 m4 m5
      refine Kept.ite ?_ ?_
      · exact k0
      · exact k0.congr rfl
theorem State.logPush_kept {s₀ : State} {a0} {a1} (k0 : Kept s₀ a0) : Kept s₀ (State.logPush a0 a1) := by
  unfold State.logPush
  split
  · split
    · exact k0.of (buffer := fun _ => by simp only [List.length_append, List.length_singleton]; omega)
    · exact k0.congr rfl
  · split
    · exact State.logKick_kept (k0.congr rfl)
    · exact k0.congr rfl
theorem State.record_kept {s₀ : State} {a0} {a1} (k0 : Kept s₀ a0) : Kept s₀ (State.record a0 a1) := by
  unfold State.record
  split
  · rename_i m0 m1
    extract_lets +onlyGivenNames x2; clear_value x2
    refine Kept.ite ?_ ?_
    · refine State.countHub_kept ?_
      exact k0.congr rfl
    · extract_lets +onlyGivenNames x3; clear_value x3
      refine State.logPush_kept ?_
      exact k0.congr rfl
  · rename_i m4 m5
    extract_lets +onlyGivenNames x6; clear_value x6
    refine Kept.ite ?_ ?_
    · refine State.logPush_kept ?_
      exact State.logPush_kept k0
    · exact State.logPush_kept k0
  · rename_i m7 m8
    extract_lets +onlyGivenNames x9; clear_value x9
    refine Kept.ite ?_ ?_
    · refine State.logPush_kept ?_
      exact State.logPush_kept k0
    · exact State.logPush_kept k0
theorem State.notifySource_kept {s₀ : State} {a0} {a1} (k0 : Kept s₀ a0) : Kept s₀ (State.notifySource a0 a1) := by
  unfold State.notifySource
  extract_lets +onlyGivenNames x0; clear_value x0
  extract_lets +onlyGivenNames x1
  have h2 : Kept s₀ x1 := by
    unfold x1
    refine Kept.ite ?_ ?_
    · exact State.send_kept k0
    · exact k0
  clear_value x1
  refine Kept.ite ?_ ?_
  · exact State.send_kept h2
  · exact h2
theorem State.wakeTile_kept {s₀ : State} {a0} {a1} (k0 : Kept s₀ a0) : Kept s₀ (State.wakeTile a0 a1) := by
  unfold State.wakeTile
  split
  · split
    · exact k0
    · exact k0.of (tiles := by simp only [lmod, List.length_modify])
  · exact k0
theorem State.startClocks_kept {s₀ : State} {a0} {a1} (k0 : Kept s₀ a0) : Kept s₀ (State.startClocks a0 a1) := by
  unfold State.startClocks
  extract_lets +onlyGivenNames x0; subst x0
  extract_lets +onlyGivenNames x1
  have h2 : Kept s₀ x1 := by unfold x1; exact k0.congr rfl
  clear_value x1
  extract_lets +onlyGivenNames x3; clear_value x3
  refine each_keep (fun r => Kept s₀ r) ?_ ?_
  · exact h2
  · intro v4 v5 h6
    exact State.wakeTile_kept h6
theorem State.irqEdge_kept {s₀ : State} {a0} {a1} (k0 : Kept s₀ a0) : Kept s₀ (State.irqEdge a0 a1) := by
  unfold State.irqEdge
  refine Kept.ite ?_ ?_
  · exact k0
  · refine Kept.ite ?_ ?_
    · refine Kept.ite ?_ ?_
      · exact k0
      · exact State.wf_kept k0
    · refine Kept.ite ?_ ?_
      · exact k0
      · extract_lets +onlyGivenNames x0; subst x0
        extract_lets +onlyGivenNames x1
        have h2 : Kept s₀ x1 := by unfold x1; exact k0.congr rfl
        clear_value x1
        extract_lets +onlyGivenNames x3
        have h4 : Kept s₀ x3 := by
          unfold x3
          refine State.notifySource_kept ?_
          refine State.startClocks_kept ?_
          exact State.wf_kept h2
        clear_value x3
        refine each_keep (fun r => Kept s₀ r) ?_ ?_
        · exact h4
        · intro v5 v6 h7
          refine Kept.ite ?_ ?_
          · exact State.assertLine_kept h7
          · exact h7
theorem State.fifoPush_kept {s₀ : State} {a0} {a1} (k0 : Kept s₀ a0) : Kept s₀ (State.fifoPush a0 a1) := by
  unfold State.fifoPush
  extract_lets +onlyGivenNames n lvl x s'
  have hx : Kept s₀ x := State.countHub_kept (State.incSat_kept k0)
  have el : x.evf = a0.evf := by
    simp only [x, State.countHub, State.count_evf]
    rfl
  have h : Kept s₀ s' := by
    unfold s'
    clear_value x
    split
    · rename_i hl
      refine State.countHub_kept (k0.of (evf := fun _ => ?_))
      simp only [State.evfLevel, List.map_append, List.sum_append, List.map_cons, List.map_nil, List.sum_cons, List.sum_nil, FifoItem.left]
      simp only [lvl, n, State.evfLevel] at hl
      omega
    · split
      · rename_i f k hg
        refine hx.of (evf := fun hb => ?_)
        have e := List.dropLast_append_getLast? _ hg
        rw [State.evfLevel, ← e] at hb
        simpa only [State.evfLevel, List.map_append, List.sum_append, List.map_cons, List.map_nil, List.sum_cons, List.sum_nil, FifoItem.left] using hb
      · split
        · rename_i hl
          refine State.countHub_kept (hx.of (evf := fun _ => ?_))
          simp only [lvl, State.evfLevel] at hl
          simp only [State.evfLevel, el, List.map_append, List.sum_append, List.map_cons, List.map_nil, List.sum_cons, List.sum_nil, FifoItem.left]
          omega
        · exact hx
  clear_value s'
  extract_lets +onlyGivenNames y
  have hy : Kept s₀ y := State.irqEdge_kept h
  clear_value y
  split
  · exact State.irqEdge_kept hy
  · exact hy
theorem State.emit_kept {s₀ : State} {a0} {a1} {a2} {a3} {a4} (k0 : Kept s₀ a0) : Kept s₀ (State.emit a0 a1 a2 a3 a4) := by
  unfold State.emit
  extract_lets +onlyGivenNames x0; clear_value x0
  extract_lets +onlyGivenNames x1
  have h2 : Kept s₀ x1 := by unfold x1; exact k0.congr rfl
  clear_value x1
  extract_lets +onlyGivenNames x3; clear_value x3
  refine Kept.ite ?_ ?_
  · exact State.record_kept h2
  · exact State.fifoPush_kept h2
theorem State.raise_kept {s₀ : State} {a0} {a1} {a2} {a3} (k0 : Kept s₀ a0) : Kept s₀ (State.raise a0 a1 a2 a3) := by
  unfold State.raise
  exact State.emit_kept k0
theorem State.deny_kept {s₀ : State} {a0} {a1} {a2} {a3} (k0 : Kept s₀ a0) : Kept s₀ (State.deny a0 a1 a2 a3) := by
  unfold State.deny
  refine State.countHub_kept ?_
  exact State.raise_kept k0
theorem State.discardIo_kept {s₀ : State} {a0} {a1} {a2} (k0 : Kept s₀ a0) : Kept s₀ (State.discardIo a0 a1 a2) := by
  unfold State.discardIo
  exact State.emit_kept k0
theorem State.draw_kept {s₀ : State} {a0} (k0 : Kept s₀ a0) : Kept s₀ (State.draw a0).2 := by
  unfold State.draw
  refine Kept.snd ?_
  exact k0.congr rfl
theorem State.onAwake_kept {s₀ : State} {a0} {a1} {a2} (k0 : Kept s₀ a0) (k2 : ∀ y0, Kept s₀ y0 → Kept s₀ (a2 y0)) : Kept s₀ (State.onAwake a0 a1 a2) := by
  unfold State.onAwake
  refine Kept.ite ?_ ?_
  · refine k2 _ ?_
    exact k0
  · exact State.wakeTile_kept k0
theorem State.unheard_kept {s₀ : State} {a0} {a1} {a2} (k0 : Kept s₀ a0) : Kept s₀ (State.unheard a0 a1 a2) := by
  unfold State.unheard
  refine Kept.ite ?_ ?_
  · exact State.discardIo_kept k0
  · exact k0
theorem State.regWrite_kept {s₀ : State} {a0} {a1} {a2} {a3} {a4} {a5} (k0 : Kept s₀ a0) (k5 : ∀ y0, Kept s₀ y0 → Kept s₀ (a5 y0)) : Kept s₀ (State.regWrite a0 a1 a2 a3 a4 a5) := by
  unfold State.regWrite
  refine Kept.ite ?_ ?_
  · exact State.unheard_kept k0
  · refine Kept.ite ?_ ?_
    · refine k5 _ ?_
      exact k0
    · refine Kept.ite ?_ ?_
      · exact State.deny_kept k0
      · exact k0
theorem State.reply_kept {s₀ : State} {a0} {a1} {a2} {a3} {a4} {a5} (k0 : Kept s₀ a0) : Kept s₀ (State.reply a0 a1 a2 a3 a4 a5) := by
  unfold State.reply
  exact State.send_kept k0
theorem State.seedProgram_kept {s₀ : State} {a0} (k0 : Kept s₀ a0) : Kept s₀ (State.seedProgram a0) := by
  unfold State.seedProgram
  exact State.countHub_kept k0
theorem State.seedRead_kept {s₀ : State} {a0} {a1} (k0 : Kept s₀ a0) : Kept s₀ (State.seedRead a0 a1) := by
  unfold State.seedRead
  exact State.countHub_kept k0
theorem State.under_kept {s₀ : State} {a0} {a1} {a2} {a3} {a4} {a5} (k0 : Kept s₀ a0) (k4 : ∀ y0, Kept s₀ y0 → Kept s₀ (a4 y0)) (k5 : ∀ y0, Kept s₀ y0 → Kept s₀ (a5 y0)) : Kept s₀ (State.under a0 a1 a2 a3 a4 a5) := by
  unfold State.under
  refine Kept.ite ?_ ?_
  · exact State.unheard_kept k0
  · refine Kept.ite ?_ ?_
    · refine k4 _ ?_
      exact k0
    · refine k5 _ ?_
      exact State.deny_kept k0

/-! ## Ops -/
theorem State.heard_kept {s₀ : State} {a0} {a1} (k0 : Kept s₀ a0) : Kept s₀ (State.heard a0 a1) := by
  unfold State.heard
  extract_lets +onlyGivenNames x0; subst x0
  extract_lets +onlyGivenNames x1
  have h2 : Kept s₀ x1 := by unfold x1; exact k0.congr rfl
  clear_value x1
  refine Kept.ite ?_ ?_
  · refine State.irqEdge_kept ?_
    exact State.countHub_kept h2
  · refine Kept.ite ?_ ?_
    · exact State.irqEdge_kept h2
    · exact State.irqEdge_kept h2
theorem State.command_kept {s₀ : State} {a0} {a1} {a2} {a3} {a4} {a5} (k0 : Kept s₀ a0) (k5 : ∀ y0, Kept s₀ y0 → Kept s₀ (a5 y0).state) : Kept s₀ (State.command a0 a1 a2 a3 a4 a5) := by
  unfold State.command
  refine Kept.ite ?_ ?_
  · exact State.unheard_kept k0
  · extract_lets +onlyGivenNames x0
    have h1 : Kept s₀ x0 := by unfold x0; exact State.heard_kept k0
    clear_value x0
    refine Kept.ite ?_ ?_
    · exact State.reply_kept h1
    · split
      · rename_i m2 m3
        refine Kept.ite ?_ ?_
        · extract_lets +onlyGivenNames x4
          have h5 : Kept s₀ x4.state := by
            unfold x4
            refine k5 _ ?_
            exact h1
          clear_value x4
          refine State.reply_kept ?_
          exact h5
        · refine State.reply_kept ?_
          exact State.deny_kept h1
      · rename_i m6
        extract_lets +onlyGivenNames x7
        have h8 : Kept s₀ x7.state := by
          unfold x7
          refine k5 _ ?_
          exact h1
        clear_value x7
        refine State.reply_kept ?_
        exact h8
theorem State.gapRecord_kept {s₀ : State} {a0} {a1} (k0 : Kept s₀ a0) : Kept s₀ (State.gapRecord a0 a1).1 := by
  unfold State.gapRecord
  extract_lets +onlyGivenNames x0; clear_value x0
  refine Kept.fst ?_
  exact k0.congr rfl
theorem State.drainGlade_kept {s₀ : State} {a0} (k0 : Kept s₀ a0) : Kept s₀ (State.drainGlade a0) := by
  unfold State.drainGlade
  extract_lets +onlyGivenNames x0; clear_value x0
  extract_lets +onlyGivenNames x1; clear_value x1
  extract_lets +onlyGivenNames x2
  have h3 : Kept s₀ x2.1 := by
    unfold x2
    split
    · refine Kept.fst ?_
      exact k0
    · refine Kept.fst ?_
      exact State.gapRecord_kept k0
  clear_value x2
  extract_lets +onlyGivenNames x4
  have h5 : Kept s₀ x4 := by unfold x4; exact h3
  clear_value x4
  refine State.logKick_kept ?_
  exact h5.of (buffer := fun _ => Nat.zero_le _)
theorem answer_kept {s₀ : State} {a0} {a1} (k1 : Kept s₀ a1) : Kept s₀ (answer a0 a1).state := by
  unfold answer
  refine Kept.answer ?_
  exact k1
theorem State.fits_kept {s₀ : State} {a0} {a1} {a2} {a3} (k0 : Kept s₀ a0) (k3 : ∀ y0, Kept s₀ y0 → Kept s₀ (a3 y0).state) : Kept s₀ (State.fits a0 a1 a2 a3).state := by
  unfold State.fits
  split
  · exact answer_kept k0
  · refine k3 _ ?_
    exact k0
theorem State.freezeLog_kept {s₀ : State} {a0} {a1} (k0 : Kept s₀ a0) : Kept s₀ (State.freezeLog a0 a1) := by
  unfold State.freezeLog
  refine Kept.ite ?_ ?_
  · exact k0
  · refine State.raise_kept ?_
    refine State.wf_kept ?_
    exact k0.congr rfl
theorem State.noteReset_kept {s₀ : State} {a0} {a1} {a2} {a3} (k0 : Kept s₀ a0) : Kept s₀ (State.noteReset a0 a1 a2 a3) := by
  unfold State.noteReset
  extract_lets +onlyGivenNames x0
  have h1 : Kept s₀ x0 := by
    unfold x0
    refine State.wf_kept ?_
    exact State.wf_kept k0
  clear_value x0
  refine Kept.ite ?_ ?_
  · exact h1
  · extract_lets +onlyGivenNames x2
    have h3 : Kept s₀ x2 := by unfold x2; exact State.incSat_kept h1
    clear_value x2
    extract_lets +onlyGivenNames x4
    have h5 : Kept s₀ x4 := by
      unfold x4
      refine each_keep (fun r => Kept s₀ r) ?_ ?_
      · exact h3
      · intro v6 v7 h8
        exact State.setReg_kept h8
    clear_value x4
    refine State.wf_kept ?_
    refine State.wf_kept ?_
    refine State.wf_kept ?_
    exact State.wf_kept h5
theorem State.requestReset_kept {s₀ : State} {a0} {a1} (k0 : Kept s₀ a0) : Kept s₀ (State.requestReset a0 a1) := by
  unfold State.requestReset
  refine Kept.ite ?_ ?_
  · exact k0
  · exact k0.congr rfl
theorem State.resetEvent_kept {s₀ : State} {a0} {a1} {a2} {a3} (k0 : Kept s₀ a0) : Kept s₀ (State.resetEvent a0 a1 a2 a3) := by
  unfold State.resetEvent
  exact State.raise_kept k0
theorem State.stopTrace_kept {s₀ : State} {a0} (k0 : Kept s₀ a0) : Kept s₀ (State.stopTrace a0) := by
  unfold State.stopTrace
  refine State.wf_kept ?_
  exact k0.congr rfl
theorem State.thawLog_kept {s₀ : State} {a0} {a1} {a2} (k0 : Kept s₀ a0) : Kept s₀ (State.thawLog a0 a1 a2) := by
  unfold State.thawLog
  refine Kept.ite ?_ ?_
  · exact k0
  · extract_lets +onlyGivenNames x0; subst x0
    extract_lets +onlyGivenNames x1
    have h2 : Kept s₀ x1 := by
      unfold x1
      refine State.wf_kept ?_
      exact k0.congr rfl
    clear_value x1
    refine State.raise_kept ?_
    exact State.drainGlade_kept h2
theorem State.writerRecord_kept {s₀ : State} {a0} {a1} {a2} (k0 : Kept s₀ a0) : Kept s₀ (State.writerRecord a0 a1 a2) := by
  unfold State.writerRecord
  extract_lets +onlyGivenNames x0; clear_value x0
  refine State.record_kept ?_
  exact k0.congr rfl

/-! ## Package -/
theorem State.setPkg_kept {s₀ : State} {a0} {a1} {a2} (k0 : Kept s₀ a0) : Kept s₀ (State.setPkg a0 a1 a2) := by
  unfold State.setPkg
  exact k0.congr rfl
theorem State.pkgSend_kept {s₀ : State} {a0} {a1} {a2} {a3} {a4} {a5} {a6} {a7} {a8} (k0 : Kept s₀ a0) : Kept s₀ (State.pkgSend a0 a1 a2 a3 a4 a5 a6 a7 a8) := by
  unfold State.pkgSend
  exact State.send_kept k0
theorem State.pkgDone_kept {s₀ : State} {a0} {a1} {a2} {a3} {a4} {a5} (k0 : Kept s₀ a0) : Kept s₀ (State.pkgDone a0 a1 a2 a3 a4 a5) := by
  unfold State.pkgDone
  refine Kept.ite ?_ ?_
  · refine State.pkgSend_kept ?_
    exact State.setPkg_kept k0
  · exact k0
theorem State.resumeNow_kept {s₀ : State} {a0} {a1} {a2} {a3} (k0 : Kept s₀ a0) : Kept s₀ (State.resumeNow a0 a1 a2 a3) := by
  unfold State.resumeNow
  extract_lets +onlyGivenNames x0; clear_value x0
  extract_lets +onlyGivenNames x1
  have h2 : Kept s₀ x1 := by unfold x1; exact State.setPkg_kept k0
  clear_value x1
  refine each_keep (fun r => Kept s₀ r) ?_ ?_
  · exact h2
  · intro v3 v4 h5
    exact State.pkgDone_kept h5
theorem State.pkgBusyRead_kept {s₀ : State} {a0} {a1} {a2} {a3} (k0 : Kept s₀ a0) : Kept s₀ (State.pkgBusyRead a0 a1 a2 a3) := by
  unfold State.pkgBusyRead
  extract_lets +onlyGivenNames x0; clear_value x0
  refine State.pkgDone_kept ?_
  exact State.setPkg_kept k0
theorem State.pkgRead_kept {s₀ : State} {a0} {a1} {a2} {a3} {a4} (k0 : Kept s₀ a0) : Kept s₀ (State.pkgRead a0 a1 a2 a3 a4) := by
  unfold State.pkgRead
  extract_lets +onlyGivenNames x0; clear_value x0
  exact State.setPkg_kept k0
theorem State.pkgNext_kept {s₀ : State} {a0} {a1} {a2} {a3} (k0 : Kept s₀ a0) : Kept s₀ (State.pkgNext a0 a1 a2 a3) := by
  induction' a3 with n ih generalizing a0
  · unfold State.pkgNext
    exact k0
  · unfold State.pkgNext
    extract_lets +onlyGivenNames x0; clear_value x0
    split
    · rename_i m1 m2 m3
      refine Kept.ite ?_ ?_
      · refine Kept.ite ?_ ?_
        · exact k0
        · refine Kept.ite ?_ ?_
          · refine ih ?_
            exact State.resumeNow_kept k0
          · split
            · rename_i m4 m5 m6
              refine Kept.ite ?_ ?_
              · refine ih ?_
                exact State.pkgBusyRead_kept k0
              · exact State.pkgRead_kept k0
            · rename_i m7 m8
              exact k0
      · split
        · rename_i m9 m10
          exact k0
        · rename_i m11 m12 m13 m14
          refine Kept.ite ?_ ?_
          · split
            · rename_i m15 m16 m17 m18
              refine ih ?_
              refine State.pkgDone_kept ?_
              exact State.setPkg_kept k0
          · refine Kept.ite ?_ ?_
            · split
              · rename_i m19 m20 m21
                refine Kept.ite ?_ ?_
                · refine ih ?_
                  exact State.pkgBusyRead_kept k0
                · exact State.setPkg_kept k0
              · rename_i m22 m23
                exact k0
            · exact k0
    · rename_i m24 m25
      refine Kept.ite ?_ ?_
      · exact k0
      · split
        · rename_i m26 m27
          exact k0
        · rename_i m28 m29 m30 m31
          refine Kept.ite ?_ ?_
          · exact State.pkgRead_kept k0
          · refine Kept.ite ?_ ?_
            · refine ih ?_
              exact State.setPkg_kept k0
            · split
              · rename_i m32 m33 m34 m35
                refine ih ?_
                refine State.pkgDone_kept ?_
                exact State.setPkg_kept k0
theorem State.pkgGo_kept {s₀ : State} {a0} {a1} {a2} (k0 : Kept s₀ a0) : Kept s₀ (State.pkgGo a0 a1 a2) := by
  unfold State.pkgGo
  exact State.pkgNext_kept k0
theorem State.abortRun_kept {s₀ : State} {a0} {a1} {a2} {a3} (k0 : Kept s₀ a0) : Kept s₀ (State.abortRun a0 a1 a2 a3) := by
  unfold State.abortRun
  extract_lets +onlyGivenNames x0; clear_value x0
  extract_lets +onlyGivenNames x1
  have h2 : Kept s₀ x1 := by unfold x1; exact State.setPkg_kept k0
  clear_value x1
  extract_lets +onlyGivenNames x3
  have h4 : Kept s₀ x3 := by unfold x3; exact State.pkgDone_kept h2
  clear_value x3
  extract_lets +onlyGivenNames x5; clear_value x5
  extract_lets +onlyGivenNames x6
  have h7 : Kept s₀ x6 := by
    unfold x6
    refine each_keep (fun r => Kept s₀ r) ?_ ?_
    · exact h4
    · intro v8 v9 h10
      exact State.pkgDone_kept h10
  clear_value x6
  extract_lets +onlyGivenNames x11
  have h12 : Kept s₀ x11 := by
    unfold x11
    refine each_keep (fun r => Kept s₀ r) ?_ ?_
    · exact h7
    · intro v13 v14 h15
      exact State.pkgDone_kept h15
  clear_value x11
  refine State.pkgGo_kept ?_
  refine each_keep (fun r => Kept s₀ r) ?_ ?_
  · exact h12
  · intro v16 v17 h18
    exact State.pkgDone_kept h18
theorem State.errNotice_kept {s₀ : State} {a0} {a1} {a2} (k0 : Kept s₀ a0) : Kept s₀ (State.errNotice a0 a1 a2) := by
  unfold State.errNotice
  exact State.pkgSend_kept k0
theorem State.pkgAnswer_kept {s₀ : State} {a0} {a1} {a2} {a3} {a4} {a5} (k0 : Kept s₀ a0) : Kept s₀ (State.pkgAnswer a0 a1 a2 a3 a4 a5) := by
  unfold State.pkgAnswer
  refine State.pkgSend_kept ?_
  exact State.setPkg_kept k0
theorem State.pkgBypass_kept {s₀ : State} {a0} {a1} {a2} {a3} (k0 : Kept s₀ a0) (k3 : ∀ y0, Kept s₀ y0 → Kept s₀ (a3 y0)) : Kept s₀ (State.pkgBypass a0 a1 a2 a3) := by
  unfold State.pkgBypass
  refine Kept.ite ?_ ?_
  · exact State.pkgSend_kept k0
  · refine k3 _ ?_
    exact k0
theorem State.pkgQueue_kept {s₀ : State} {a0} {a1} {a2} (k0 : Kept s₀ a0) : Kept s₀ (State.pkgQueue a0 a1 a2) := by
  unfold State.pkgQueue
  split
  · rename_i m0 m1 m2
    refine Kept.ite ?_ ?_
    · exact State.pkgSend_kept k0
    · exact State.pkgAnswer_kept k0
  · rename_i m3 m4
    extract_lets +onlyGivenNames x5; clear_value x5
    extract_lets +onlyGivenNames x6; clear_value x6
    refine State.pkgGo_kept ?_
    exact State.setPkg_kept k0
theorem State.pkgReceive_kept {s₀ : State} {a0} {a1} {a2} {a3} {a4} {a5} {a6} (k0 : Kept s₀ a0) (k6 : ∀ y0 y1, Kept s₀ y1 → Kept s₀ (a6 y0 y1)) : Kept s₀ (State.pkgReceive a0 a1 a2 a3 a4 a5 a6) := by
  unfold State.pkgReceive
  refine Kept.ite ?_ ?_
  · exact State.errNotice_kept k0
  · extract_lets +onlyGivenNames x0; clear_value x0
    extract_lets +onlyGivenNames x1; clear_value x1
    extract_lets +onlyGivenNames x2
    have h3 : Kept s₀ x2 := by unfold x2; exact State.setPkg_kept k0
    clear_value x2
    refine Kept.ite ?_ ?_
    · refine Kept.ite ?_ ?_
      · exact State.pkgSend_kept h3
      · exact State.pkgAnswer_kept h3
    · refine Kept.ite ?_ ?_
      · refine k6 _ _ ?_
        exact h3
      · exact h3
theorem State.programEnd_kept {s₀ : State} {a0} {a1} {a2} {a3} {a4} {a5} (k0 : Kept s₀ a0) : Kept s₀ (State.programEnd a0 a1 a2 a3 a4 a5) := by
  unfold State.programEnd
  split
  · rename_i m0 m1 m2
    refine Kept.ite ?_ ?_
    · exact k0
    · extract_lets +onlyGivenNames x3; clear_value x3
      extract_lets +onlyGivenNames x4
      have h5 : Kept s₀ x4 := by unfold x4; exact State.setPkg_kept k0
      clear_value x4
      extract_lets +onlyGivenNames x6; clear_value x6
      extract_lets +onlyGivenNames x7
      have h8 : Kept s₀ x7 := by
        unfold x7
        refine each_keep (fun r => Kept s₀ r) ?_ ?_
        · exact h5
        · intro v9 v10 h11
          exact State.pkgDone_kept h11
      clear_value x7
      refine State.pkgGo_kept ?_
      exact State.pkgDone_kept h8
  · rename_i m12 m13
    exact k0
theorem State.setRun_kept {s₀ : State} {a0} {a1} {a2} {a3} (k0 : Kept s₀ a0) : Kept s₀ (State.setRun a0 a1 a2 a3) := by
  unfold State.setRun
  exact State.setPkg_kept k0
theorem State.tagRuns_kept {s₀ : State} {a0} {a1} {a2} (k0 : Kept s₀ a0) : Kept s₀ (State.tagRuns a0 a1 a2) := by
  unfold State.tagRuns
  exact State.setPkg_kept k0
theorem execAbort_kept {s₀ : State} {a0} {a1} {a2} (k2 : Kept s₀ a2) : KeptO s₀ (execAbort a0 a1 a2) := by
  unfold execAbort
  refine KeptO.next ?_
  refine State.pkgReceive_kept k2 ?_
  intro v0 v1 h2
  refine State.pkgBypass_kept h2 ?_
  intro v3 h4
  split
  · rename_i m5 m6 m7
    extract_lets +onlyGivenNames x8; clear_value x8
    extract_lets +onlyGivenNames x9
    have h10 : Kept s₀ x9 := by unfold x9; exact State.tagRuns_kept h4
    clear_value x9
    refine Kept.ite ?_ ?_
    · exact State.abortRun_kept h10
    · exact State.setRun_kept h10
  · rename_i m11 m12
    exact State.pkgAnswer_kept h4
theorem execArrayReadDone_kept {s₀ : State} {a0} {a1} {a2} (k2 : Kept s₀ a2) : KeptO s₀ (execArrayReadDone a0 a1 a2) := by
  unfold execArrayReadDone
  refine KeptO.next ?_
  extract_lets +onlyGivenNames x0; clear_value x0
  split
  · rename_i m1 m2
    exact k2
  · rename_i m3 m4 m5
    extract_lets +onlyGivenNames x6
    have h7 : Kept s₀ x6 := by unfold x6; exact State.setPkg_kept k2
    clear_value x6
    split
    · rename_i m8 m9 m10 m11
      have h12 : Kept s₀ m10 := by
        rw [← show _ = m10 from congrArg Prod.snd (m11)]
        split
        · rename_i m13 m14 m15
          refine Kept.snd ?_
          exact h7
        · rename_i m16 m17
          split
          · rename_i m18 m19 m20 m21
            have h22 : Kept s₀ m20 := by
              rw [← show _ = m20 from congrArg Prod.snd (m21)]
              exact State.draw_kept h7
            refine Kept.snd ?_
            exact h22
      refine State.pkgGo_kept ?_
      exact State.pkgDone_kept h12
theorem execBadBlockReceive_kept {s₀ : State} {a0} {a1} {a2} (k2 : Kept s₀ a2) : KeptO s₀ (execBadBlockReceive a0 a1 a2) := by
  unfold execBadBlockReceive
  refine KeptO.next ?_
  exact State.errNotice_kept k2
theorem execDenseAutoResume_kept {s₀ : State} {a0} {a1} {a2} (k2 : Kept s₀ a2) : KeptO s₀ (execDenseAutoResume a0 a1 a2) := by
  unfold execDenseAutoResume
  refine KeptO.next ?_
  extract_lets +onlyGivenNames x0; clear_value x0
  split
  · rename_i m1 m2 m3
    refine Kept.ite ?_ ?_
    · refine State.pkgGo_kept ?_
      exact State.resumeNow_kept k2
    · exact k2
  · rename_i m4 m5
    exact k2
theorem execDenseProgramDone_kept {s₀ : State} {a0} {a1} {a2} {a3} {a4} (k4 : Kept s₀ a4) : KeptO s₀ (execDenseProgramDone a0 a1 a2 a3 a4) := by
  unfold execDenseProgramDone
  refine KeptO.next ?_
  exact State.programEnd_kept k4
theorem execDenseSuspendReached_kept {s₀ : State} {a0} {a1} {a2} (k2 : Kept s₀ a2) : KeptO s₀ (execDenseSuspendReached a0 a1 a2) := by
  unfold execDenseSuspendReached
  refine KeptO.next ?_
  split
  · rename_i m0 m1 m2
    split
    · rename_i m3 m4 m5
      extract_lets +onlyGivenNames x6
      have h7 : Kept s₀ x6 := by unfold x6; exact State.setRun_kept k2
      clear_value x6
      refine State.pkgGo_kept ?_
      refine each_keep (fun r => Kept s₀ r) ?_ ?_
      · exact h7
      · intro v8 v9 h10
        exact State.pkgDone_kept h10
    · rename_i m11 m12
      exact k2
  · rename_i m13 m14
    exact k2
theorem execEcho_kept {s₀ : State} {a0} {a1} {a2} (k2 : Kept s₀ a2) : KeptO s₀ (execEcho a0 a1 a2) := by
  unfold execEcho
  refine KeptO.next ?_
  refine State.pkgReceive_kept k2 ?_
  intro v0 v1 h2
  refine State.pkgBypass_kept h2 ?_
  intro v3 h4
  exact State.pkgAnswer_kept h4
theorem execFastProgramDone_kept {s₀ : State} {a0} {a1} {a2} {a3} {a4} (k4 : Kept s₀ a4) : KeptO s₀ (execFastProgramDone a0 a1 a2 a3 a4) := by
  unfold execFastProgramDone
  refine KeptO.next ?_
  exact State.programEnd_kept k4
theorem execIdentify_kept {s₀ : State} {a0} {a1} {a2} (k2 : Kept s₀ a2) : KeptO s₀ (execIdentify a0 a1 a2) := by
  unfold execIdentify
  refine KeptO.next ?_
  refine State.pkgReceive_kept k2 ?_
  intro v0 v1 h2
  refine State.pkgBypass_kept h2 ?_
  intro v3 h4
  exact State.pkgAnswer_kept h4
theorem execPackageTs0Receive_kept {s₀ : State} {a0} {a1} (k1 : Kept s₀ a1) : KeptO s₀ (execPackageTs0Receive a0 a1) := by
  unfold execPackageTs0Receive
  refine KeptO.next ?_
  exact State.setPkg_kept k1
theorem execProgDense_kept {s₀ : State} {a0} {a1} {a2} (k2 : Kept s₀ a2) : KeptO s₀ (execProgDense a0 a1 a2) := by
  unfold execProgDense
  refine KeptO.next ?_
  refine State.pkgReceive_kept k2 ?_
  intro v0 v1 h2
  exact State.pkgQueue_kept h2
theorem execProgFast_kept {s₀ : State} {a0} {a1} {a2} {a3} (k3 : Kept s₀ a3) : KeptO s₀ (execProgFast a0 a1 a2 a3) := by
  unfold execProgFast
  refine KeptO.next ?_
  refine State.pkgReceive_kept k3 ?_
  intro v0 v1 h2
  exact State.pkgQueue_kept h2
theorem execProgramAbortDone_kept {s₀ : State} {a0} {a1} {a2} (k2 : Kept s₀ a2) : KeptO s₀ (execProgramAbortDone a0 a1 a2) := by
  unfold execProgramAbortDone
  refine KeptO.next ?_
  split
  · rename_i m0 m1 m2
    refine Kept.ite ?_ ?_
    · exact k2
    · exact State.abortRun_kept k2
  · rename_i m3 m4
    exact k2
theorem execRead_kept {s₀ : State} {a0} {a1} {a2} (k2 : Kept s₀ a2) : KeptO s₀ (execRead a0 a1 a2) := by
  unfold execRead
  refine KeptO.next ?_
  refine State.pkgReceive_kept k2 ?_
  intro v0 v1 h2
  exact State.pkgQueue_kept h2
theorem execRefDefault_kept {s₀ : State} {a0} {a1} {a2} (k2 : Kept s₀ a2) : KeptO s₀ (execRefDefault a0 a1 a2) := by
  unfold execRefDefault
  refine KeptO.next ?_
  refine State.pkgReceive_kept k2 ?_
  intro v0 v1 h2
  exact State.pkgQueue_kept h2
theorem execRefLoad_kept {s₀ : State} {a0} {a1} {a2} (k2 : Kept s₀ a2) : KeptO s₀ (execRefLoad a0 a1 a2) := by
  unfold execRefLoad
  refine KeptO.next ?_
  refine State.pkgReceive_kept k2 ?_
  intro v0 v1 h2
  exact State.pkgQueue_kept h2
theorem execResume_kept {s₀ : State} {a0} {a1} {a2} (k2 : Kept s₀ a2) : KeptO s₀ (execResume a0 a1 a2) := by
  unfold execResume
  refine KeptO.next ?_
  refine State.pkgReceive_kept k2 ?_
  intro v0 v1 h2
  refine State.pkgBypass_kept h2 ?_
  intro v3 h4
  split
  · rename_i m5 m6 m7
    refine Kept.ite ?_ ?_
    · refine State.pkgGo_kept ?_
      refine State.tagRuns_kept ?_
      exact State.setRun_kept h4
    · exact State.pkgAnswer_kept h4
  · rename_i m8 m9
    exact State.pkgAnswer_kept h4
theorem execSheetLoad_kept {s₀ : State} {a0} {a1} {a2} {a3} (k3 : Kept s₀ a3) : KeptO s₀ (execSheetLoad a0 a1 a2 a3) := by
  unfold execSheetLoad
  refine KeptO.next ?_
  refine State.pkgReceive_kept k3 ?_
  intro v0 v1 h2
  exact State.pkgQueue_kept h2
theorem execStatus_kept {s₀ : State} {a0} {a1} {a2} (k2 : Kept s₀ a2) : KeptO s₀ (execStatus a0 a1 a2) := by
  unfold execStatus
  refine KeptO.next ?_
  refine State.pkgReceive_kept k2 ?_
  intro v0 v1 h2
  refine State.pkgBypass_kept h2 ?_
  intro v3 h4
  extract_lets +onlyGivenNames x5; clear_value x5
  exact State.pkgAnswer_kept h4
theorem execSuspend_kept {s₀ : State} {a0} {a1} {a2} (k2 : Kept s₀ a2) : KeptO s₀ (execSuspend a0 a1 a2) := by
  unfold execSuspend
  refine KeptO.next ?_
  refine State.pkgReceive_kept k2 ?_
  intro v0 v1 h2
  refine State.pkgBypass_kept h2 ?_
  intro v3 h4
  split
  · rename_i m5 m6 m7
    refine Kept.ite ?_ ?_
    · exact State.pkgAnswer_kept h4
    · split
      · rename_i m8 m9
        exact State.pkgAnswer_kept h4
      · rename_i m10 m11
        refine State.pkgGo_kept ?_
        refine State.pkgAnswer_kept ?_
        exact State.setRun_kept h4
      · rename_i m12 m13 m14
        refine State.tagRuns_kept ?_
        exact State.setRun_kept h4
  · rename_i m15 m16
    exact State.pkgAnswer_kept h4
theorem execUnannouncedIdleTimeout_kept {s₀ : State} {a0} {a1} (k1 : Kept s₀ a1) : KeptO s₀ (execUnannouncedIdleTimeout a0 a1) := by
  unfold execUnannouncedIdleTimeout
  refine KeptO.next ?_
  exact State.setPkg_kept k1
theorem execVmedLowDetect_kept {s₀ : State} {a0} {a1} (k1 : Kept s₀ a1) : KeptO s₀ (execVmedLowDetect a0 a1) := by
  unfold execVmedLowDetect
  refine KeptO.next ?_
  extract_lets +onlyGivenNames x0; clear_value x0
  exact State.setPkg_kept k1

/-! ## Maps -/
theorem State.hubDirty_kept {s₀ : State} {a0} {a1} (k0 : Kept s₀ a0) : Kept s₀ (State.hubDirty a0 a1) := by
  unfold State.hubDirty
  refine Kept.ite ?_ ?_
  · exact k0
  · exact k0.congr rfl
theorem State.deadwoodAdd_kept {s₀ : State} {a0} {a1} {a2} {a3} {a4} {a5} (k0 : Kept s₀ a0) : Kept s₀ (State.deadwoodAdd a0 a1 a2 a3 a4 a5) := by
  unfold State.deadwoodAdd
  split
  · exact State.hubDirty_kept (k0.of (dead := List.prefix_append _ _))
  · exact k0
theorem State.setPlace_kept {s₀ : State} {a0} {a1} {a2} (k0 : Kept s₀ a0) : Kept s₀ (State.setPlace a0 a1 a2) := by
  unfold State.setPlace
  refine State.hubDirty_kept ?_
  exact k0.congr rfl
theorem State.addFurrow_kept {s₀ : State} {a0} {a1} {a2} (k0 : Kept s₀ a0) : Kept s₀ (State.addFurrow a0 a1 a2) := by
  unfold State.addFurrow
  refine Kept.ite ?_ ?_
  · exact k0
  · refine State.deadwoodAdd_kept ?_
    exact State.setPlace_kept k0
theorem State.deal_kept {s₀ : State} {a0} {a1} (k0 : Kept s₀ a0) : Kept s₀ (State.deal a0 a1) := by
  unfold State.deal
  extract_lets +onlyGivenNames x0
  have h1 : Kept s₀ x0 := by unfold x0; exact State.modTile_kept k0
  clear_value x0
  refine Kept.ite ?_ ?_
  · extract_lets +onlyGivenNames x2; clear_value x2
    exact State.modTile_kept h1
  · exact h1
theorem State.loadRoles_kept {s₀ : State} {a0} {a1} (k0 : Kept s₀ a0) : Kept s₀ (State.loadRoles a0 a1) := by
  unfold State.loadRoles
  refine each_keep (fun r => Kept s₀ r) ?_ ?_
  · exact k0
  · intro v0 v1 h2
    extract_lets +onlyGivenNames x3; clear_value x3
    refine State.wf_kept ?_
    exact State.wf_kept h2
theorem State.placeTo_kept {s₀ : State} {a0} {a1} {a2} (k0 : Kept s₀ a0) : Kept s₀ (State.placeTo a0 a1 a2) := by
  unfold State.placeTo
  exact State.setPlace_kept k0
theorem State.spareEvents_kept {s₀ : State} {a0} {a1} (k0 : Kept s₀ a0) : Kept s₀ (State.spareEvents a0 a1) := by
  unfold State.spareEvents
  refine each_keep (fun r => Kept s₀ r) ?_ ?_
  · exact k0
  · intro v0 v1 h2
    refine State.irqEdge_kept ?_
    exact State.raise_kept h2
theorem State.setReadOnly_kept {s₀ : State} {a0} (k0 : Kept s₀ a0) : Kept s₀ (State.setReadOnly a0) := by
  unfold State.setReadOnly
  split
  · exact k0
  · exact State.spareEvents_kept (k0.of (ro := fun _ => rfl))
theorem State.markDead_kept {s₀ : State} {a0} {a1} {a2} (k0 : Kept s₀ a0) : Kept s₀ (State.markDead a0 a1 a2) := by
  unfold State.markDead
  refine Kept.ite ?_ ?_
  · exact k0
  · extract_lets +onlyGivenNames x0; clear_value x0
    extract_lets +onlyGivenNames x1; clear_value x1
    extract_lets +onlyGivenNames x2
    have h3 : Kept s₀ x2 := by
      unfold x2
      refine State.deadwoodAdd_kept ?_
      exact State.placeTo_kept k0
    clear_value x2
    extract_lets +onlyGivenNames x4
    have h5 : Kept s₀ x4 := by
      unfold x4
      refine Kept.ite ?_ ?_
      · exact State.raise_kept h3
      · exact h3
    clear_value x4
    extract_lets +onlyGivenNames x6
    have h7 : Kept s₀ x6 := by unfold x6; exact State.spareEvents_kept h5
    clear_value x6
    refine Kept.ite ?_ ?_
    · exact State.setReadOnly_kept h7
    · exact h7
theorem State.meter_kept {s₀ : State} {a0} {a1} {a2} {a3} (k0 : Kept s₀ a0) : Kept s₀ (State.meter a0 a1 a2 a3) := by
  unfold State.meter
  extract_lets +onlyGivenNames x0; clear_value x0
  exact State.modTile_kept k0
theorem State.setChan_kept {s₀ : State} {a0} {a1} {a2} (k0 : Kept s₀ a0) : Kept s₀ (State.setChan a0 a1 a2) := by
  unfold State.setChan
  exact k0.congr rfl
theorem State.modChan_kept {s₀ : State} {a0} {a1} {a2} (k0 : Kept s₀ a0) : Kept s₀ (State.modChan a0 a1 a2) := by
  unfold State.modChan
  exact State.setChan_kept k0
theorem State.releasePlace_kept {s₀ : State} {a0} {a1} (k0 : Kept s₀ a0) : Kept s₀ (State.releasePlace a0 a1) := by
  unfold State.releasePlace
  refine Kept.ite ?_ ?_
  · exact k0
  · exact State.placeTo_kept k0
theorem State.setLeaf_kept {s₀ : State} {a0} {a1} {a2} {a3} (k0 : Kept s₀ a0) : Kept s₀ (State.setLeaf a0 a1 a2 a3) := by
  unfold State.setLeaf
  exact State.modTile_kept k0
theorem State.setStem_kept {s₀ : State} {a0} {a1} {a2} {a3} (k0 : Kept s₀ a0) : Kept s₀ (State.setStem a0 a1 a2 a3) := by
  unfold State.setStem
  exact State.modTile_kept k0
theorem State.takePlace_kept {s₀ : State} {a0} {a1} {a2} {a3} (k0 : Kept s₀ a0) : Kept s₀ (State.takePlace a0 a1 a2 a3).1 := by
  unfold State.takePlace
  split
  · refine Kept.fst ?_
    exact k0
  · extract_lets +onlyGivenNames x0
    have h1 : Kept s₀ x0 := by unfold x0; exact State.deal_kept k0
    clear_value x0
    split
    · rename_i m2 m3 m4
      refine Kept.fst ?_
      exact State.modTile_kept h1
    · rename_i m5 m6
      refine Kept.fst ?_
      exact h1
theorem State.trimFilter_kept {s₀ : State} {a0} {a1} {a2} (k0 : Kept s₀ a0) : Kept s₀ (State.trimFilter a0 a1 a2) := by
  unfold State.trimFilter
  exact State.modTile_kept k0
theorem State.undRefresh_kept {s₀ : State} {a0} {a1} (k0 : Kept s₀ a0) : Kept s₀ (State.undRefresh a0 a1) := by
  unfold State.undRefresh
  exact State.wf_kept k0
theorem State.undRefreshAll_kept {s₀ : State} {a0} (k0 : Kept s₀ a0) : Kept s₀ (State.undRefreshAll a0) := by
  unfold State.undRefreshAll
  refine each_keep (fun r => Kept s₀ r) ?_ ?_
  · exact k0
  · intro v0 v1 h2
    exact State.undRefresh_kept h2
theorem State.wearPlace_kept {s₀ : State} {a0} {a1} {a2} (k0 : Kept s₀ a0) : Kept s₀ (State.wearPlace a0 a1 a2) := by
  unfold State.wearPlace
  exact State.setPlace_kept k0

/-! ## MediaErr -/
theorem State.cxlNote_kept {s₀ : State} {a0} {a1} {a2} {a3} {a4} {a5} (k0 : Kept s₀ a0) : Kept s₀ (State.cxlNote a0 a1 a2 a3 a4 a5) := by
  unfold State.cxlNote
  extract_lets +onlyGivenNames x0; clear_value x0
  exact State.raise_kept k0
theorem State.modLd_kept {s₀ : State} {a0} {a1} {a2} {a3} (k0 : Kept s₀ a0) : Kept s₀ (State.modLd a0 a1 a2 a3) := by
  unfold State.modLd
  exact k0.congr rfl
theorem State.msix_kept {s₀ : State} {a0} {a1} {a2} {a3} (k0 : Kept s₀ a0) : Kept s₀ (State.msix a0 a1 a2 a3) := by
  unfold State.msix
  refine Kept.ite ?_ ?_
  · exact State.modLd_kept k0
  · exact State.send_kept k0
theorem State.cxlPut_kept {s₀ : State} {a0} {a1} {a2} {a3} {a4} {a5} {a6} {a7} (k0 : Kept s₀ a0) : Kept s₀ (State.cxlPut a0 a1 a2 a3 a4 a5 a6 a7) := by
  unfold State.cxlPut
  extract_lets +onlyGivenNames x0; clear_value x0
  refine Kept.ite ?_ ?_
  · extract_lets +onlyGivenNames x1; clear_value x1
    extract_lets +onlyGivenNames x2
    have h3 : Kept s₀ x2 := by unfold x2; exact State.modLd_kept k0
    clear_value x2
    split
    · rename_i m4 m5 m6
      exact State.msix_kept h3
    · rename_i m7 m8
      exact h3
  · exact State.modLd_kept k0
theorem State.cxlOfReport_kept {s₀ : State} {a0} {a1} (k0 : Kept s₀ a0) : Kept s₀ (State.cxlOfReport a0 a1) := by
  unfold State.cxlOfReport
  refine Kept.ite ?_ ?_
  · exact k0
  · split
    · rename_i m0 m1
      exact k0
    · rename_i m2 m3 m4 m5
      refine each_keep (fun r => Kept s₀ r) ?_ ?_
      · exact k0
      · intro v6 v7 h8
        exact State.cxlPut_kept h8
theorem State.cxlPutNoted_kept {s₀ : State} {a0} {a1} {a2} {a3} {a4} {a5} {a6} (k0 : Kept s₀ a0) : Kept s₀ (State.cxlPutNoted a0 a1 a2 a3 a4 a5 a6) := by
  unfold State.cxlPutNoted
  refine State.cxlNote_kept ?_
  exact State.cxlPut_kept k0
theorem State.failureHeld_kept {s₀ : State} {a0} {a1} {a2} {a3} {a4} (k0 : Kept s₀ a0) : Kept s₀ (State.failureHeld a0 a1 a2 a3 a4) := by
  unfold State.failureHeld
  extract_lets +onlyGivenNames x0; clear_value x0
  refine Kept.ite ?_ ?_
  · exact k0
  · exact State.cxlPut_kept k0
theorem State.noteUnmapped_kept {s₀ : State} {a0} {a1} {a2} {a3} (k0 : Kept s₀ a0) : Kept s₀ (State.noteUnmapped a0 a1 a2 a3) := by
  unfold State.noteUnmapped
  extract_lets +onlyGivenNames x0
  have h1 : Kept s₀ x0 := by unfold x0; exact State.countHub_kept k0
  clear_value x0
  split
  · rename_i m2 m3 m4
    refine Kept.ite ?_ ?_
    · exact State.modLd_kept h1
    · refine State.emit_kept ?_
      refine State.cxlPut_kept ?_
      exact State.modLd_kept h1
  · rename_i m5 m6
    refine State.emit_kept ?_
    refine State.cxlPut_kept ?_
    exact State.modLd_kept h1
theorem State.noteWriteFail_kept {s₀ : State} {a0} {a1} {a2} {a3} {a4} {a5} (k0 : Kept s₀ a0) : Kept s₀ (State.noteWriteFail a0 a1 a2 a3 a4 a5) := by
  unfold State.noteWriteFail
  extract_lets +onlyGivenNames x0
  have h1 : Kept s₀ x0 := by unfold x0; exact State.incSat_kept k0
  clear_value x0
  extract_lets +onlyGivenNames x2
  have h3 : Kept s₀ x2 := by unfold x2; exact State.countHub_kept h1
  clear_value x2
  refine Kept.ite ?_ ?_
  · exact h3
  · extract_lets +onlyGivenNames x4; clear_value x4
    extract_lets +onlyGivenNames x5
    have h6 : Kept s₀ x5 := by
      unfold x5
      refine State.wf_kept ?_
      refine State.wf_kept ?_
      exact State.wf_kept h3
    clear_value x5
    refine State.wf_kept ?_
    exact State.wf_kept h6
theorem State.poisonAdd_kept {s₀ : State} {a0} {a1} {a2} (k0 : Kept s₀ a0) : Kept s₀ (State.poisonAdd a0 a1 a2) := by
  unfold State.poisonAdd
  refine Kept.ite ?_ ?_
  · exact k0
  · refine Kept.ite ?_ ?_
    · exact k0.congr rfl
    · exact k0.congr rfl
theorem State.poisonDel_kept {s₀ : State} {a0} {a1} (k0 : Kept s₀ a0) : Kept s₀ (State.poisonDel a0 a1) := by
  unfold State.poisonDel
  exact k0.congr rfl
theorem State.report_kept {s₀ : State} {a0} {a1} (k0 : Kept s₀ a0) : Kept s₀ (State.report a0 a1) := by
  unfold State.report
  extract_lets +onlyGivenNames x0; clear_value x0
  extract_lets +onlyGivenNames x1
  have h2 : Kept s₀ x1 := by
    unfold x1
    split
    · split
      · exact State.poisonAdd_kept k0
      · exact k0
    · exact k0
  clear_value x1
  split
  · exact h2.of (errs := fun h => by simpa only [List.length_map] using h)
  · extract_lets +onlyGivenNames e s
    have h : Kept s₀ s := h2.of (errs := fun _ => by
      show (List.take 65536 _).length ≤ 65536
      rw [List.length_take]
      exact Nat.min_le_left _ _)
    clear_value s
    extract_lets +onlyGivenNames y
    have hy : Kept s₀ y := State.emit_kept h
    clear_value y
    extract_lets +onlyGivenNames z
    have hz : Kept s₀ z := by
      unfold z
      split
      · exact State.irqEdge_kept hy
      · exact hy
    clear_value z
    exact State.cxlOfReport_kept hz
theorem State.writeConfig_kept {s₀ : State} {a0} {a1} {a2} {a3} {a4} (k0 : Kept s₀ a0) : Kept s₀ (State.writeConfig a0 a1 a2 a3 a4) := by
  unfold State.writeConfig
  refine Kept.ite ?_ ?_
  · exact k0
  · refine Kept.ite ?_ ?_
    · exact State.modLd_kept k0
    · extract_lets +onlyGivenNames x0
      have h1 : Kept s₀ x0 := by unfold x0; exact State.modLd_kept k0
      clear_value x0
      refine each_keep (fun r => Kept s₀ r) ?_ ?_
      · exact h1
      · intro v2 v3 h4
        refine State.send_kept ?_
        exact State.modLd_kept h4

/-! ## Cipher -/
theorem State.clearKeyCaches_kept {s₀ : State} {a0} (k0 : Kept s₀ a0) : Kept s₀ (State.clearKeyCaches a0) := by
  unfold State.clearKeyCaches
  exact k0.of (tiles := by simp)
theorem State.dropKey_kept {s₀ : State} {a0} {a1} (k0 : Kept s₀ a0) : Kept s₀ (State.dropKey a0 a1) := by
  unfold State.dropKey
  exact k0.of (tiles := by simp)
theorem State.newLease_kept {s₀ : State} {a0} {a1} {a2} (k0 : Kept s₀ a0) : Kept s₀ (State.newLease a0 a1 a2).1 := by
  unfold State.newLease
  extract_lets +onlyGivenNames x0; clear_value x0
  extract_lets +onlyGivenNames x1; subst x1
  extract_lets +onlyGivenNames x2
  have h3 : Kept s₀ x2 := by unfold x2; exact k0.congr rfl
  clear_value x2
  refine Kept.fst ?_
  refine State.countHub_kept ?_
  exact State.modTile_kept h3
theorem State.takeCounter_kept {s₀ : State} {a0} {a1} {a2} (k0 : Kept s₀ a0) : Kept s₀ (State.takeCounter a0 a1 a2).1 := by
  unfold State.takeCounter
  split
  · rename_i m0 m1 m2 m3
    split
    · refine Kept.fst ?_
      exact State.modTile_kept k0
    · exact State.newLease_kept k0
  · rename_i m4 m5
    exact State.newLease_kept k0
theorem State.setNode_kept {s₀ : State} {a0} {a1} {a2} {a3} {a4} {a5} {a6} (k0 : Kept s₀ a0) : Kept s₀ (State.setNode a0 a1 a2 a3 a4 a5 a6) := by
  unfold State.setNode
  extract_lets +onlyGivenNames x0; clear_value x0
  refine Kept.ite ?_ ?_
  · exact State.modTile_kept k0
  · exact State.modTile_kept k0
theorem State.evictNode_kept {s₀ : State} {a0} {a1} (k0 : Kept s₀ a0) : Kept s₀ (State.evictNode a0 a1) := by
  unfold State.evictNode
  extract_lets +onlyGivenNames x0; clear_value x0
  refine Kept.ite ?_ ?_
  · exact k0
  · split
    · rename_i m1 m2
      exact k0
    · rename_i m3 m4 m5
      extract_lets +onlyGivenNames x6
      have h7 : ∀ y0, Kept s₀ y0 → Kept s₀ (x6 y0) := by
        unfold x6
        intro v8 h9
        exact State.modTile_kept h9
      clear_value x6
      refine Kept.ite ?_ ?_
      · refine h7 _ ?_
        exact k0
      · split
        · rename_i m10 m11
          refine h7 _ ?_
          exact k0
        · rename_i m12 m13 m14
          split
          · rename_i m15 m16 m17 m18
            have h19 : Kept s₀ m16 := by
              rw [← show _ = m16 from congrArg Prod.fst (m18)]
              split
              · refine Kept.fst ?_
                exact k0
              · exact State.takeCounter_kept k0
            extract_lets +onlyGivenNames x20
            have h21 : Kept s₀ x20 := by
              unfold x20
              refine State.modTile_kept ?_
              refine h7 _ ?_
              exact h19
            clear_value x20
            refine Kept.ite ?_ ?_
            · exact h21
            · exact State.setNode_kept h21
theorem State.installNode_kept {s₀ : State} {a0} {a1} {a2} {a3} {a4} {a5} (k0 : Kept s₀ a0) : Kept s₀ (State.installNode a0 a1 a2 a3 a4 a5) := by
  unfold State.installNode
  refine State.evictNode_kept ?_
  exact State.modTile_kept k0
theorem State.markBad_kept {s₀ : State} {a0} {a1} {a2} {a3} {a4} {a5} {a6} (k0 : Kept s₀ a0) : Kept s₀ (State.markBad a0 a1 a2 a3 a4 a5 a6) := by
  unfold State.markBad
  refine Kept.ite ?_ ?_
  · exact k0
  · extract_lets +onlyGivenNames x0
    have h1 : Kept s₀ x0 := by unfold x0; exact State.modTile_kept k0
    clear_value x0
    extract_lets +onlyGivenNames x2
    have h3 : Kept s₀ x2 := by
      unfold x2
      refine State.incSat_kept ?_
      exact State.incSat_kept h1
    clear_value x2
    exact State.report_kept h3
theorem State.setMajor_kept {s₀ : State} {a0} {a1} {a2} {a3} {a4} (k0 : Kept s₀ a0) : Kept s₀ (State.setMajor a0 a1 a2 a3 a4) := by
  unfold State.setMajor
  refine State.evictNode_kept ?_
  exact State.setNode_kept k0
theorem State.newMajor_kept {s₀ : State} {a0} {a1} {a2} {a3} (k0 : Kept s₀ a0) : Kept s₀ (State.newMajor a0 a1 a2 a3).1 := by
  unfold State.newMajor
  split
  · rename_i m0 m1 m2 m3
    have h4 : Kept s₀ m1 := by
      rw [← show _ = m1 from congrArg Prod.fst (m3)]
      exact State.takeCounter_kept k0
    refine Kept.fst ?_
    exact State.setMajor_kept h4
theorem State.setSlot_kept {s₀ : State} {a0} {a1} {a2} (k0 : Kept s₀ a0) : Kept s₀ (State.setSlot a0 a1 a2) := by
  unfold State.setSlot
  refine State.hubDirty_kept ?_
  refine State.hubDirty_kept ?_
  exact k0.congr rfl

/-! ## Lines -/
theorem State.cacheAlloc_kept {s₀ : State} {a0} {a1} {a2} {a3} (k0 : Kept s₀ a0) : Kept s₀ (State.cacheAlloc a0 a1 a2 a3) := by
  unfold State.cacheAlloc
  extract_lets +onlyGivenNames x0; clear_value x0
  extract_lets +onlyGivenNames x1; clear_value x1
  extract_lets +onlyGivenNames x2
  have h3 : ∀ y0, Kept s₀ y0 → Kept s₀ (x2 y0) := by
    unfold x2
    intro v4 h5
    refine State.countTile_kept ?_
    exact State.modTile_kept h5
  clear_value x2
  refine Kept.ite ?_ ?_
  · refine h3 _ ?_
    exact k0
  · split
    · rename_i m6 m7 m8
      refine h3 _ ?_
      refine State.countTile_kept ?_
      exact State.modTile_kept k0
    · rename_i m9 m10
      split
      · rename_i m11 m12 m13
        refine Kept.ite ?_ ?_
        · refine h3 _ ?_
          refine State.countTile_kept ?_
          exact State.modTile_kept k0
        · exact State.countTile_kept k0
      · rename_i m14 m15
        exact State.countTile_kept k0
theorem State.cacheFill_kept {s₀ : State} {a0} {a1} {a2} {a3} {a4} {a5} {a6} (k0 : Kept s₀ a0) : Kept s₀ (State.cacheFill a0 a1 a2 a3 a4 a5 a6) := by
  unfold State.cacheFill
  refine Kept.ite ?_ ?_
  · exact k0
  · exact State.cacheAlloc_kept k0
theorem State.cacheWrite_kept {s₀ : State} {a0} {a1} {a2} {a3} {a4} {a5} {a6} (k0 : Kept s₀ a0) : Kept s₀ (State.cacheWrite a0 a1 a2 a3 a4 a5 a6) := by
  unfold State.cacheWrite
  extract_lets +onlyGivenNames x0; clear_value x0
  extract_lets +onlyGivenNames x1; clear_value x1
  extract_lets +onlyGivenNames x2; clear_value x2
  extract_lets +onlyGivenNames x3; clear_value x3
  split
  · rename_i m4 m5 m6
    exact State.modTile_kept k0
  · rename_i m7 m8
    split
    · rename_i m9 m10 m11
      refine Kept.ite ?_ ?_
      · refine State.countTile_kept ?_
        exact State.modTile_kept k0
      · refine State.countTile_kept ?_
        exact State.cacheAlloc_kept k0
    · rename_i m12 m13
      refine Kept.ite ?_ ?_
      · exact k0
      · exact State.cacheAlloc_kept k0
theorem State.refreshEligible_kept {s₀ : State} {a0} {a1} (k0 : Kept s₀ a0) : Kept s₀ (State.refreshEligible a0 a1) := by
  unfold State.refreshEligible
  refine Kept.ite ?_ ?_
  · exact State.modTile_kept k0
  · exact k0
theorem State.catchPut_kept {s₀ : State} {a0} {a1} {a2} {a3} {a4} {a5} {a6} (k0 : Kept s₀ a0) : Kept s₀ (State.catchPut a0 a1 a2 a3 a4 a5 a6) := by
  unfold State.catchPut
  extract_lets +onlyGivenNames x0; clear_value x0
  extract_lets +onlyGivenNames x1; clear_value x1
  extract_lets +onlyGivenNames x2
  have h3 : Kept s₀ x2 := by unfold x2; exact State.modTile_kept k0
  clear_value x2
  refine State.refreshEligible_kept ?_
  exact State.countTile_kept h3
theorem State.countCheck_kept {s₀ : State} {a0} {a1} {a2} {a3} (k0 : Kept s₀ a0) : Kept s₀ (State.countCheck a0 a1 a2 a3) := by
  unfold State.countCheck
  extract_lets +onlyGivenNames x0
  have h1 : Kept s₀ x0 := by
    unfold x0
    refine each_keep (fun r => Kept s₀ r) ?_ ?_
    · exact k0
    · intro v2 v3 h4
      refine Kept.ite ?_ ?_
      · exact State.countTile_kept h4
      · refine Kept.ite ?_ ?_
        · exact State.countTile_kept h4
        · exact h4
  clear_value x0
  extract_lets +onlyGivenNames x5; subst x5
  extract_lets +onlyGivenNames x6
  have h7 : Kept s₀ x6 := by unfold x6; exact h1.congr rfl
  clear_value x6
  refine Kept.ite ?_ ?_
  · exact State.countTile_kept h7
  · exact h7
theorem State.dropStale_kept {s₀ : State} {a0} {a1} {a2} {a3} {a4} (k0 : Kept s₀ a0) : Kept s₀ (State.dropStale a0 a1 a2 a3 a4) := by
  unfold State.dropStale
  extract_lets +onlyGivenNames x0; clear_value x0
  split
  · rename_i m1 m2 m3
    refine Kept.ite ?_ ?_
    · exact k0
    · exact State.modTile_kept k0
  · rename_i m4 m5
    exact k0
theorem State.policyEligible_kept {s₀ : State} {a0} {a1} (k0 : Kept s₀ a0) : Kept s₀ (State.policyEligible a0 a1) := by
  unfold State.policyEligible
  refine Kept.ite ?_ ?_
  · exact k0.of (tiles := by simp)
  · exact k0
theorem State.renewOthers_kept {s₀ : State} {a0} {a1} {a2} {a3} {a4} {a5} {a6} {a7} {a8} (k0 : Kept s₀ a0) : Kept s₀ (State.renewOthers a0 a1 a2 a3 a4 a5 a6 a7 a8) := by
  unfold State.renewOthers
  refine each_keep (fun r => Kept s₀ r) ?_ ?_
  · exact k0
  · intro v0 v1 h2
    refine Kept.ite ?_ ?_
    · exact h2
    · extract_lets +onlyGivenNames x3
      have h4 : ∀ y0 y1 y2, Kept s₀ y0 → Kept s₀ (x3 y0 y1 y2) := by
        unfold x3
        intro v5 v6 v7 h8
        exact State.catchPut_kept h8
      clear_value x3
      extract_lets +onlyGivenNames x9
      have h10 : ∀ y0, Kept s₀ y0 → Kept s₀ (x9 y0) := by
        unfold x9
        intro v11 h12
        exact State.catchPut_kept h12
      clear_value x9
      split
      · rename_i m13 m14
        refine h4 _ _ _ ?_
        exact h2
      · rename_i m15 m16 m17 m18 m19
        split
        · rename_i m20 m21 m22
          split
          · rename_i m23 m24 m25
            refine h4 _ _ _ ?_
            exact h2
          · rename_i m26 m27
            refine State.report_kept ?_
            refine State.countTile_kept ?_
            refine State.incSat_kept ?_
            refine h10 _ ?_
            exact h2
        · rename_i m28 m29
          refine h10 _ ?_
          exact h2
      · rename_i m30 m31
        refine State.report_kept ?_
        refine h10 _ ?_
        exact h2
      · rename_i m32 m33
        refine h10 _ ?_
        exact h2
theorem State.renewLeaf_kept {s₀ : State} {a0} {a1} {a2} {a3} {a4} {a5} {a6} {a7} (k0 : Kept s₀ a0) : Kept s₀ (State.renewLeaf a0 a1 a2 a3 a4 a5 a6 a7) := by
  unfold State.renewLeaf
  extract_lets +onlyGivenNames x0; clear_value x0
  split
  · rename_i m1 m2 m3 m4
    have h5 : Kept s₀ m2 := by
      rw [← show _ = m2 from congrArg Prod.fst (m4)]
      exact State.newMajor_kept k0
    extract_lets +onlyGivenNames x6
    have h7 : Kept s₀ x6 := by
      unfold x6
      refine State.renewOthers_kept ?_
      exact State.countTile_kept h5
    clear_value x6
    exact State.catchPut_kept h7
theorem State.rewriteLine_kept {s₀ : State} {a0} {a1} {a2} {a3} {a4} {a5} {a6} {a7} (k0 : Kept s₀ a0) : Kept s₀ (State.rewriteLine a0 a1 a2 a3 a4 a5 a6 a7) := by
  unfold State.rewriteLine
  refine Kept.ite ?_ ?_
  · exact k0
  · refine Kept.ite ?_ ?_
    · exact State.countTile_kept k0
    · refine State.countTile_kept ?_
      exact State.catchPut_kept k0
theorem State.writeLine_kept {s₀ : State} {a0} {a1} {a2} {a3} {a4} {a5} {a6} {a7} (k0 : Kept s₀ a0) : Kept s₀ (State.writeLine a0 a1 a2 a3 a4 a5 a6 a7) := by
  unfold State.writeLine
  extract_lets +onlyGivenNames x0
  have h1 : Kept s₀ x0 := by unfold x0; exact State.poisonDel_kept k0
  clear_value x0
  refine Kept.ite ?_ ?_
  · exact State.catchPut_kept h1
  · extract_lets +onlyGivenNames x2; clear_value x2
    extract_lets +onlyGivenNames x3; clear_value x3
    refine Kept.ite ?_ ?_
    · split
      · rename_i m4 m5 m6 m7
        have h8 : Kept s₀ m5 := by
          rw [← show _ = m5 from congrArg Prod.fst (m7)]
          exact State.newMajor_kept h1
        refine State.countTile_kept ?_
        exact State.catchPut_kept h8
    · extract_lets +onlyGivenNames x9; clear_value x9
      split
      · rename_i m10 m11 m12
        extract_lets +onlyGivenNames x13; clear_value x13
        refine Kept.ite ?_ ?_
        · refine Kept.ite ?_ ?_
          · exact State.renewLeaf_kept h1
          · refine State.countTile_kept ?_
            exact State.catchPut_kept h1
        · exact State.catchPut_kept h1
      · rename_i m14 m15
        split
        · rename_i m16 m17 m18
          refine Kept.ite ?_ ?_
          · exact State.renewLeaf_kept h1
          · refine State.countTile_kept ?_
            exact State.catchPut_kept h1
        · rename_i m19 m20
          exact State.renewLeaf_kept h1

/-! ## Sched -/
theorem State.charge_kept {s₀ : State} {a0} {a1} {a2} (k0 : Kept s₀ a0) : Kept s₀ (State.charge a0 a1 a2) := by
  unfold State.charge
  extract_lets +onlyGivenNames x0; clear_value x0
  extract_lets +onlyGivenNames x1; clear_value x1
  extract_lets +onlyGivenNames x2
  have h3 : Kept s₀ x2 := by
    unfold x2
    split
    · rename_i m4 m5 m6
      refine State.countTile_kept ?_
      exact State.countTile_kept k0
    · rename_i m7 m8
      refine State.countTile_kept ?_
      exact State.countTile_kept k0
  clear_value x2
  extract_lets +onlyGivenNames x9
  have h10 : Kept s₀ x9 := by unfold x9; exact State.modTile_kept h3
  clear_value x9
  extract_lets +onlyGivenNames x11
  have h12 : Kept s₀ x11 := by
    unfold x11
    refine Kept.ite ?_ ?_
    · refine State.modTile_kept ?_
      exact State.countTile_kept h10
    · exact h10
  clear_value x11
  extract_lets +onlyGivenNames x13
  have h14 : Kept s₀ x13 := by
    unfold x13
    split
    · rename_i m15 m16 m17 m18
      refine Kept.ite ?_ ?_
      · exact State.modTile_kept h12
      · exact h12
    · rename_i m19 m20
      exact h12
  clear_value x13
  refine Kept.ite ?_ ?_
  · exact State.countTile_kept h14
  · refine Kept.ite ?_ ?_
    · exact State.countTile_kept h14
    · exact h14
theorem State.chargeRead_kept {s₀ : State} {a0} {a1} {a2} {a3} {a4} {a5} (k0 : Kept s₀ a0) : Kept s₀ (State.chargeRead a0 a1 a2 a3 a4 a5) := by
  unfold State.chargeRead
  refine each_keep (fun r => Kept s₀ r) ?_ ?_
  · exact k0
  · intro v0 v1 h2
    extract_lets +onlyGivenNames x3
    have h4 : Kept s₀ x3 := by unfold x3; exact State.charge_kept h2
    clear_value x3
    split
    · rename_i m5 m6 m7 m8
      exact State.countCheck_kept h4
    · rename_i m9 m10 m11 m12
      exact h4
theorem State.noteProg_kept {s₀ : State} {a0} {a1} (k0 : Kept s₀ a0) : Kept s₀ (State.noteProg a0 a1) := by
  unfold State.noteProg
  split
  · rename_i m0 m1 m2 m3 m4 m5
    exact State.modTile_kept k0
  · rename_i m6 m7
    exact k0
theorem State.issue_kept {s₀ : State} {a0} {a1} {a2} (k0 : Kept s₀ a0) : Kept s₀ (State.issue a0 a1 a2) := by
  unfold State.issue
  split
  · rename_i m0 m1
    exact k0
  · rename_i m2 m3 m4
    extract_lets +onlyGivenNames x5; clear_value x5
    extract_lets +onlyGivenNames x6; clear_value x6
    extract_lets +onlyGivenNames x7; clear_value x7
    extract_lets +onlyGivenNames x8
    have h9 : Kept s₀ x8 := by
      unfold x8
      refine State.noteProg_kept ?_
      exact State.charge_kept k0
    clear_value x8
    extract_lets +onlyGivenNames x10
    have h11 : Kept s₀ x10 := by
      unfold x10
      refine Kept.ite ?_ ?_
      · exact State.countTile_kept h9
      · exact h9
    clear_value x10
    extract_lets +onlyGivenNames x12
    have h13 : Kept s₀ x12 := by unfold x12; exact State.modChan_kept h11
    clear_value x12
    exact State.send_kept h13
theorem State.loadShares_kept {s₀ : State} {a0} {a1} (k0 : Kept s₀ a0) : Kept s₀ (State.loadShares a0 a1) := by
  unfold State.loadShares
  extract_lets +onlyGivenNames x0
  have h1 : Kept s₀ x0 := by unfold x0; exact State.modTile_kept k0
  clear_value x0
  refine each_keep (fun r => Kept s₀ r) ?_ ?_
  · exact h1
  · intro v2 v3 h4
    exact State.wf_kept h4
theorem State.requote_kept {s₀ : State} {a0} {a1} (k0 : Kept s₀ a0) : Kept s₀ (State.requote a0 a1) := by
  unfold State.requote
  extract_lets +onlyGivenNames x0; clear_value x0
  extract_lets +onlyGivenNames x1; clear_value x1
  extract_lets +onlyGivenNames x2; clear_value x2
  extract_lets +onlyGivenNames x3; clear_value x3
  extract_lets +onlyGivenNames x4; clear_value x4
  extract_lets +onlyGivenNames x5
  have h6 : Kept s₀ x5 := by unfold x5; exact State.modTile_kept k0
  clear_value x5
  extract_lets +onlyGivenNames x7
  have h8 : Kept s₀ x7 := by
    unfold x7
    refine State.wf_kept ?_
    refine State.wf_kept ?_
    refine State.wf_kept ?_
    exact State.wf_kept h6
  clear_value x7
  refine each_keep (fun r => Kept s₀ r) ?_ ?_
  · exact h8
  · intro v9 v10 h11
    exact State.wf_kept h11
theorem State.submit_kept {s₀ : State} {a0} {a1} {a2} (k0 : Kept s₀ a0) : Kept s₀ (State.submit a0 a1 a2) := by
  unfold State.submit
  exact State.modChan_kept k0
theorem State.submitRead_kept {s₀ : State} {a0} {a1} {a2} {a3} {a4} {a5} (k0 : Kept s₀ a0) : Kept s₀ (State.submitRead a0 a1 a2 a3 a4 a5) := by
  unfold State.submitRead
  extract_lets +onlyGivenNames x0; clear_value x0
  extract_lets +onlyGivenNames x1; clear_value x1
  extract_lets +onlyGivenNames x2; clear_value x2
  extract_lets +onlyGivenNames x3
  have h4 : Kept s₀ x3 := by
    unfold x3
    refine Kept.ite ?_ ?_
    · exact State.submit_kept k0
    · exact k0
  clear_value x3
  exact State.submit_kept h4
theorem execQosWindowEnd_kept {s₀ : State} {a0} {a1} (k1 : Kept s₀ a1) : KeptO s₀ (execQosWindowEnd a0 a1) := by
  unfold execQosWindowEnd
  extract_lets +onlyGivenNames x0; clear_value x0
  extract_lets +onlyGivenNames x1; clear_value x1
  extract_lets +onlyGivenNames x2; clear_value x2
  extract_lets +onlyGivenNames x3
  have h4 : Kept s₀ x3 := by
    unfold x3
    refine each_keep (fun r => Kept s₀ r) ?_ ?_
    · exact k1
    · intro v5 v6 h7
      exact State.wf_kept h7
  clear_value x3
  extract_lets +onlyGivenNames x8
  have h9 : Kept s₀ x8 := by
    unfold x8
    refine each_keep (fun r => Kept s₀ r) ?_ ?_
    · exact h4
    · intro v10 v11 h12
      exact State.countTile_kept h12
  clear_value x8
  extract_lets +onlyGivenNames x13
  have h14 : Kept s₀ x13 := by unfold x13; exact State.modTile_kept h9
  clear_value x13
  extract_lets +onlyGivenNames x15
  have h16 : Kept s₀ x15 := by unfold x15; exact State.requote_kept h14
  clear_value x15
  refine KeptO.next ?_
  refine Kept.ite ?_ ?_
  · exact State.countTile_kept h16
  · exact h16
theorem execShortfallSpanEnd_kept {s₀ : State} {a0} {a1} (k1 : Kept s₀ a1) : KeptO s₀ (execShortfallSpanEnd a0 a1) := by
  unfold execShortfallSpanEnd
  extract_lets +onlyGivenNames x0; clear_value x0
  split
  · refine KeptO.next ?_
    exact k1
  · extract_lets +onlyGivenNames x1; clear_value x1
    extract_lets +onlyGivenNames x2
    have h3 : Kept s₀ x2 := by
      unfold x2
      refine each_keep (fun r => Kept s₀ r) ?_ ?_
      · exact k1
      · intro v4 v5 h6
        extract_lets +onlyGivenNames x7
        have h8 : Kept s₀ x7 := by unfold x7; exact State.wf_kept h6
        clear_value x7
        extract_lets +onlyGivenNames x9
        have h10 : Kept s₀ x9 := by unfold x9; exact State.emit_kept h8
        clear_value x9
        refine Kept.ite ?_ ?_
        · exact State.irqEdge_kept h10
        · exact h10
    clear_value x2
    refine KeptO.next ?_
    exact State.modTile_kept h3

/-! ## Struct -/
theorem State.programAt_kept {s₀ : State} {a0} {a1} {a2} {a3} {a4} {a5} {a6} (k0 : Kept s₀ a0) : Kept s₀ (State.programAt a0 a1 a2 a3 a4 a5 a6) := by
  unfold State.programAt
  refine Kept.ite ?_ ?_
  · exact State.submit_kept k0
  · exact k0
theorem State.copyWrite_kept {s₀ : State} {a0} {a1} {a2} (k0 : Kept s₀ a0) : Kept s₀ (State.copyWrite a0 a1 a2) := by
  unfold State.copyWrite
  extract_lets +onlyGivenNames x0; clear_value x0
  refine State.programAt_kept ?_
  refine State.programAt_kept ?_
  exact State.programAt_kept k0
theorem State.hubCopy_kept {s₀ : State} {a0} {a1} {a2} (k0 : Kept s₀ a0) : Kept s₀ (State.hubCopy a0 a1 a2) := by
  unfold State.hubCopy
  exact State.copyWrite_kept k0
theorem State.structCopy_kept {s₀ : State} {a0} {a1} {a2} {a3} (k0 : Kept s₀ a0) : Kept s₀ (State.structCopy a0 a1 a2 a3) := by
  unfold State.structCopy
  extract_lets +onlyGivenNames x0
  have h1 : Kept s₀ x0 := by unfold x0; exact State.copyWrite_kept k0
  clear_value x0
  split
  · rename_i m2 m3 m4 m5
    exact State.modTile_kept h1
  · rename_i m6 m7
    exact h1
theorem State.lineSound_kept {s₀ : State} {a0} {a1} {a2} {a3} (k0 : Kept s₀ a0) : Kept s₀ (State.lineSound a0 a1 a2 a3).1 := by
  unfold State.lineSound
  split
  · refine Kept.fst ?_
    exact k0
  · extract_lets +onlyGivenNames x0; clear_value x0
    extract_lets +onlyGivenNames x1
    have h2 : ∀ y0 y1, Kept s₀ y0 → Kept s₀ (x1 y0 y1) := by
      unfold x1
      intro v3 v4 h5
      extract_lets +onlyGivenNames x6; clear_value x6
      exact State.chargeRead_kept h5
    clear_value x1
    extract_lets +onlyGivenNames x7
    have h8 : Kept s₀ x7 := by
      unfold x7
      refine h2 _ _ ?_
      exact k0
    clear_value x7
    split
    · refine Kept.fst ?_
      exact h8
    · split
      · refine Kept.fst ?_
        refine State.structCopy_kept ?_
        refine h2 _ _ ?_
        exact h8
      · refine Kept.fst ?_
        refine h2 _ _ ?_
        exact h8
theorem State.loadPath_kept {s₀ : State} {a0} {a1} {a2} {a3} {a4} {a5} (k0 : Kept s₀ a0) : Kept s₀ (State.loadPath a0 a1 a2 a3 a4 a5) := by
  unfold State.loadPath
  refine each_keep (fun r => Kept s₀ r) ?_ ?_
  · exact k0
  · intro v0 v1 h2
    split
    · rename_i m3 m4 m5 m6
      refine Kept.ite ?_ ?_
      · exact h2
      · extract_lets +onlyGivenNames x7
        have h8 : Kept s₀ x7.1 := by unfold x7; exact State.lineSound_kept h2
        clear_value x7
        split
        · rename_i m9 m10 m11 m12 m13
          refine State.installNode_kept ?_
          exact h8
        · rename_i m14 m15 m16
          refine State.markBad_kept ?_
          exact h8
    · rename_i m17 m18
      exact h2
theorem State.mapBack_kept {s₀ : State} {a0} {a1} {a2} (k0 : Kept s₀ a0) : Kept s₀ (State.mapBack a0 a1 a2) := by
  unfold State.mapBack
  split
  · rename_i m0 m1
    extract_lets +onlyGivenNames x2; clear_value x2
    exact State.modTile_kept k0
  · rename_i m3 m4
    extract_lets +onlyGivenNames x5; clear_value x5
    exact State.modTile_kept k0
  · rename_i m6 m7 m8 m9
    exact State.modTile_kept k0
theorem State.structWrite_kept {s₀ : State} {a0} {a1} {a2} (k0 : Kept s₀ a0) : Kept s₀ (State.structWrite a0 a1 a2) := by
  unfold State.structWrite
  refine State.structCopy_kept ?_
  exact State.structCopy_kept k0
theorem State.mapRoom_kept {s₀ : State} {a0} {a1} (k0 : Kept s₀ a0) : Kept s₀ (State.mapRoom a0 a1) := by
  unfold State.mapRoom
  extract_lets +onlyGivenNames x0; clear_value x0
  extract_lets +onlyGivenNames x1
  have h2 : Kept s₀ x1 := by
    unfold x1
    refine each_keep (fun r => Kept s₀ r) ?_ ?_
    · exact State.modTile_kept k0
    · intro v3 v4 h5
      exact State.structWrite_kept h5
  clear_value x1
  split
  · rename_i m6 m7 m8 m9
    refine Kept.ite ?_ ?_
    · refine State.structWrite_kept ?_
      exact State.modTile_kept h2
    · exact h2
  · rename_i m10 m11
    exact h2
theorem State.takeSnap_kept {s₀ : State} {a0} {a1} {a2} {a3} (k0 : Kept s₀ a0) : Kept s₀ (State.takeSnap a0 a1 a2 a3) := by
  unfold State.takeSnap
  exact State.modTile_kept k0
theorem State.writeStructures_kept {s₀ : State} {a0} (k0 : Kept s₀ a0) : Kept s₀ (State.writeStructures a0) := by
  unfold State.writeStructures
  extract_lets +onlyGivenNames x0
  have h1 : Kept s₀ x0 := by
    unfold x0
    refine each_keep (fun r => Kept s₀ r) ?_ ?_
    · exact k0
    · intro v2 v3 h4
      refine each_keep (fun r => Kept s₀ r) ?_ ?_
      · exact State.modTile_kept h4
      · intro v5 v6 h7
        exact State.structWrite_kept h7
  clear_value x0
  refine Kept.ite ?_ ?_
  · exact h1
  · refine each_keep (fun r => Kept s₀ r) ?_ ?_
    · exact h1.congr rfl
    · intro v8 v9 h10
      refine State.hubCopy_kept ?_
      exact State.hubCopy_kept h10
theorem execMediaIssue_kept {s₀ : State} {a0} {a1} (k1 : Kept s₀ a1) : KeptO s₀ (execMediaIssue a0 a1) := by
  unfold execMediaIssue
  extract_lets +onlyGivenNames x0
  have h1 : Kept s₀ x0 := by unfold x0; exact State.writeStructures_kept k1
  clear_value x0
  refine KeptO.next ?_
  split
  · rename_i m2 m3
    exact h1
  · rename_i m4 m5 m6
    refine State.issue_kept ?_
    exact State.modChan_kept h1

/-! ## Log -/
theorem State.latchEntry_kept {s₀ : State} {a0} {a1} (k0 : Kept s₀ a0) : Kept s₀ (State.latchEntry a0 a1) := by
  unfold State.latchEntry
  refine each_keep (fun r => Kept s₀ r) ?_ ?_
  · exact k0
  · intro v0 v1 h2
    exact State.wf_kept h2
theorem State.readOut_kept {s₀ : State} {a0} {a1} {a2} {a3} (k0 : Kept s₀ a0) : Kept s₀ (State.readOut a0 a1 a2 a3) := by
  unfold State.readOut
  exact State.send_kept k0
theorem State.readRingLog_kept {s₀ : State} {a0} {a1} {a2} {a3} {a4} (k0 : Kept s₀ a0) : Kept s₀ (State.readRingLog a0 a1 a2 a3 a4).state := by
  unfold State.readRingLog
  extract_lets +onlyGivenNames x0; clear_value x0
  extract_lets +onlyGivenNames x1; clear_value x1
  extract_lets +onlyGivenNames x2; clear_value x2
  split
  · exact answer_kept k0
  · split
    · refine answer_kept ?_
      exact State.deny_kept k0
    · extract_lets +onlyGivenNames x3; clear_value x3
      extract_lets +onlyGivenNames x4
      have h5 : Kept s₀ x4 := by
        unfold x4
        refine Kept.ite ?_ ?_
        · exact State.freezeLog_kept k0
        · exact k0
      clear_value x4
      extract_lets +onlyGivenNames x6; clear_value x6
      extract_lets +onlyGivenNames x7; clear_value x7
      extract_lets +onlyGivenNames x8; clear_value x8
      extract_lets +onlyGivenNames x9; clear_value x9
      extract_lets +onlyGivenNames x10
      have h11 : Kept s₀ x10 := by
        unfold x10
        refine Kept.ite ?_ ?_
        · exact State.thawLog_kept h5
        · exact h5
      clear_value x10
      refine Kept.answer ?_
      exact h11
theorem State.takeTrace_kept {s₀ : State} {a0} {a1} (k0 : Kept s₀ a0) : Kept s₀ (State.takeTrace a0 a1) := by
  unfold State.takeTrace
  extract_lets +onlyGivenNames x0; subst x0
  extract_lets +onlyGivenNames x1
  have h2 : Kept s₀ x1.2 := by
    unfold x1
    split
    · rename_i m3 m4
      refine Kept.snd ?_
      exact k0
    · rename_i m5 m6 m7 m8
      refine Kept.snd ?_
      exact k0.congr rfl
  clear_value x1
  refine each_keep (fun r => Kept s₀ r) ?_ ?_
  · exact h2
  · intro v9 v10 h11
    exact State.wf_kept h11
theorem State.traceSample_kept {s₀ : State} {a0} {a1} {a2} (k0 : Kept s₀ a0) : Kept s₀ (State.traceSample a0 a1 a2).1 := by
  unfold State.traceSample
  split
  · extract_lets +onlyGivenNames x0; clear_value x0
    extract_lets +onlyGivenNames x1; subst x1
    extract_lets +onlyGivenNames x2
    have h3 : Kept s₀ x2 := by unfold x2; exact k0.congr rfl
    clear_value x2
    split
    · extract_lets +onlyGivenNames x4; clear_value x4
      refine Kept.fst ?_
      exact h3.congr rfl
    · refine Kept.fst ?_
      exact h3
  · refine Kept.fst ?_
    exact k0
theorem State.traceStore_kept {s₀ : State} {a0} {a1} (k0 : Kept s₀ a0) : Kept s₀ (State.traceStore a0 a1) := by
  unfold State.traceStore
  refine Kept.ite ?_ ?_
  · exact k0
  · refine Kept.ite ?_ ?_
    · refine State.countHub_kept ?_
      exact State.incSat_kept k0
    · refine Kept.ite ?_ ?_
      · extract_lets +onlyGivenNames x0; subst x0
        extract_lets +onlyGivenNames x1
        have h2 : Kept s₀ x1 := by
          unfold x1
          refine State.countHub_kept ?_
          exact k0.congr rfl
        clear_value x1
        refine Kept.ite ?_ ?_
        · exact State.wf_kept h2
        · exact h2
      · refine State.countHub_kept ?_
        exact k0.congr rfl
theorem execEvfData0Read_kept {s₀ : State} {a0} (k0 : Kept s₀ a0) : KeptO s₀ (execEvfData0Read a0) := by
  unfold execEvfData0Read
  refine KeptO.next ?_
  split
  · exact State.wf_kept k0
  · rename_i b t e
    exact State.latchEntry_kept (State.fifoEntry_kept k0 e)
theorem execFineLoRead_kept {s₀ : State} {a0} {a1} (k1 : Kept s₀ a1) : KeptO s₀ (execFineLoRead a0 a1) := by
  unfold execFineLoRead
  refine KeptO.next ?_
  refine State.under_kept k1 ?_ ?_
  · intro v0 h1
    refine State.readOut_kept ?_
    exact State.wf_kept h1
  · intro v2 h3
    exact State.readOut_kept h3
theorem execFreezeLimitExpire_kept {s₀ : State} {a0} (k0 : Kept s₀ a0) : KeptO s₀ (execFreezeLimitExpire a0) := by
  unfold execFreezeLimitExpire
  refine KeptO.next ?_
  exact State.thawLog_kept k0
theorem execLogFreeze_kept {s₀ : State} {a0} {a1} (k1 : Kept s₀ a1) : KeptO s₀ (execLogFreeze a0 a1) := by
  unfold execLogFreeze
  refine KeptO.next ?_
  refine Kept.ite ?_ ?_
  · exact k1
  · refine State.regWrite_kept k1 ?_
    intro v0 h1
    exact State.freezeLog_kept h1
theorem execLogQueueGapWrite_kept {s₀ : State} {a0} (k0 : Kept s₀ a0) : KeptO s₀ (execLogQueueGapWrite a0) := by
  unfold execLogQueueGapWrite
  refine KeptO.next ?_
  refine Kept.ite ?_ ?_
  · refine State.writerRecord_kept ?_
    exact k0.congr rfl
  · exact k0
theorem execLogRecordWriteDone_kept {s₀ : State} {a0} (k0 : Kept s₀ a0) : KeptO s₀ (execLogRecordWriteDone a0) := by
  unfold execLogRecordWriteDone
  refine KeptO.next ?_
  split
  · exact k0
  · extract_lets +onlyGivenNames l
    refine State.logKick_kept (State.countHub_kept (State.countHub_kept (k0.of (heart := ?_))))
    simp only [l, startErase_heart]
    exact place_heart _ _ _
theorem execLogSectorEraseDone_kept {s₀ : State} {a0} (k0 : Kept s₀ a0) : KeptO s₀ (execLogSectorEraseDone a0) := by
  unfold execLogSectorEraseDone
  refine KeptO.next (Kept.ite (State.countHub_kept (k0.of (heart := ?_))) k0)
  simp only [startErase_heart]
  exact List.prefix_rfl
theorem execLogThaw_kept {s₀ : State} {a0} {a1} (k1 : Kept s₀ a1) : KeptO s₀ (execLogThaw a0 a1) := by
  unfold execLogThaw
  refine KeptO.next ?_
  refine Kept.ite ?_ ?_
  · refine State.regWrite_kept k1 ?_
    intro v0 h1
    exact State.thawLog_kept h1
  · exact k1
theorem execRateWindowEnd_kept {s₀ : State} {a0} {a1} (k1 : Kept s₀ a1) : KeptO s₀ (execRateWindowEnd a0 a1) := by
  unfold execRateWindowEnd
  refine KeptO.next ?_
  split
  · rename_i m0 m1 m2
    exact k1.congr rfl
  · rename_i m3 m4
    exact k1
theorem execReadRingLog_kept {s₀ : State} {a0} {a1} {a2} {a3} (k3 : Kept s₀ a3) : KeptO s₀ (execReadRingLog a0 a1 a2 a3) := by
  unfold execReadRingLog
  refine KeptO.next ?_
  refine State.command_kept k3 ?_
  intro v0 h1
  exact State.readRingLog_kept h1
theorem execTraceDataRead_kept {s₀ : State} {a0} {a1} (k1 : Kept s₀ a1) : KeptO s₀ (execTraceDataRead a0 a1) := by
  unfold execTraceDataRead
  refine KeptO.next ?_
  refine State.under_kept k1 ?_ ?_
  · intro v0 h1
    refine Kept.ite ?_ ?_
    · exact State.readOut_kept h1
    · refine State.readOut_kept ?_
      exact State.takeTrace_kept h1
  · intro v2 h3
    exact State.readOut_kept h3
theorem execTraceStart_kept {s₀ : State} {a0} {a1} {a2} (k2 : Kept s₀ a2) : KeptO s₀ (execTraceStart a0 a1 a2) := by
  unfold execTraceStart
  refine KeptO.next ?_
  refine Kept.ite ?_ ?_
  · exact State.unheard_kept k2
  · refine Kept.ite ?_ ?_
    · exact k2
    · extract_lets +onlyGivenNames x0; clear_value x0
      extract_lets +onlyGivenNames x1; clear_value x1
      refine Kept.ite ?_ ?_
      · extract_lets +onlyGivenNames x2
        have h3 : Kept s₀ x2 := by unfold x2; exact k2.congr rfl
        clear_value x2
        extract_lets +onlyGivenNames x4
        have h5 : Kept s₀ x4 := by
          unfold x4
          refine State.wf_kept ?_
          refine State.wf_kept ?_
          exact State.wf_kept h3
        clear_value x4
        extract_lets +onlyGivenNames x6
        have h7 : Kept s₀ x6 := by
          unfold x6
          refine State.wf_kept ?_
          refine State.wf_kept ?_
          exact State.wf_kept h5
        clear_value x6
        refine State.wf_kept ?_
        exact State.wf_kept h7
      · exact State.deny_kept k2
theorem execTraceStop_kept {s₀ : State} {a0} {a1} (k1 : Kept s₀ a1) : KeptO s₀ (execTraceStop a0 a1) := by
  unfold execTraceStop
  refine KeptO.next ?_
  refine Kept.ite ?_ ?_
  · exact State.unheard_kept k1
  · refine Kept.ite ?_ ?_
    · exact k1
    · refine Kept.ite ?_ ?_
      · exact State.stopTrace_kept k1
      · exact State.deny_kept k1

end Sys2Proof.Machine
end

