-- ==== Sys2Proof/Laws/KeptMedia.lean ====
section
/-! SUPPORT. One lemma per operation: it keeps what Kept says, for requests, media operations, reads, destage, stem copies, retirement, links, scrubbing, the cache. -/
set_option linter.unusedVariables false
set_option Elab.async false
set_option linter.unusedSimpArgs false
namespace Sys2Proof.Machine

/-! ## Requests -/
theorem State.noteLatency_kept {s₀ : State} {a0} {a1} {a2} (k0 : Kept s₀ a0) : Kept s₀ (State.noteLatency a0 a1 a2) := by
  unfold State.noteLatency
  extract_lets +onlyGivenNames x0
  have h1 : Kept s₀ x0 := by unfold x0; exact State.wf_kept k0
  clear_value x0
  refine Kept.ite ?_ ?_
  · exact State.incSat_kept h1
  · exact h1
theorem State.dropReq_kept {s₀ : State} {a0} {a1} (k0 : Kept s₀ a0) : Kept s₀ (State.dropReq a0 a1) := by
  unfold State.dropReq
  exact k0.congr rfl
theorem State.deliver_kept {s₀ : State} {a0} {a1} {a2} (k0 : Kept s₀ a0) : Kept s₀ (State.deliver a0 a1 a2) := by
  unfold State.deliver
  extract_lets +onlyGivenNames x0; clear_value x0
  extract_lets +onlyGivenNames x1
  have h2 : Kept s₀ x1 := by
    unfold x1
    split
    · rename_i m3 m4
      exact State.send_kept k0
    · rename_i m5
      refine State.send_kept ?_
      refine State.countTile_kept ?_
      exact State.countHub_kept k0
    · rename_i m6
      exact State.send_kept k0
    · rename_i m7
      exact State.send_kept k0
  clear_value x1
  extract_lets +onlyGivenNames x8
  have h9 : Kept s₀ x8 := by
    unfold x8
    refine Kept.ite ?_ ?_
    · exact State.noteLatency_kept h2
    · exact h2
  clear_value x8
  extract_lets +onlyGivenNames x10
  have h11 : Kept s₀ x10 := by
    unfold x10
    split
    · rename_i m12 m13 m14 m15 m16
      exact State.traceStore_kept h9
    · rename_i m17 m18
      exact h9
  clear_value x10
  exact State.dropReq_kept h11
theorem State.modReq_kept {s₀ : State} {a0} {a1} {a2} (k0 : Kept s₀ a0) : Kept s₀ (State.modReq a0 a1 a2) := by
  unfold State.modReq
  exact k0.congr rfl
theorem State.freeLine_kept {s₀ : State} {a0} {a1} (k0 : Kept s₀ a0) : Kept s₀ (State.freeLine a0 a1) := by
  unfold State.freeLine
  split
  · rename_i m0 m1 m2
    exact State.modReq_kept k0
  · rename_i m3 m4
    exact k0
theorem State.respond_kept {s₀ : State} {a0} {a1} {a2} {a3} (k0 : Kept s₀ a0) : Kept s₀ (State.respond a0 a1 a2 a3) := by
  unfold State.respond
  extract_lets +onlyGivenNames x0; clear_value x0
  extract_lets +onlyGivenNames x1
  have h2 : Kept s₀ x1 := by
    unfold x1
    split
    · rename_i m3 m4 m5 m6 m7
      exact State.countTile_kept k0
    · rename_i m8 m9 m10
      exact k0
  clear_value x1
  refine Kept.ite ?_ ?_
  · refine State.freeLine_kept ?_
    exact State.modReq_kept h2
  · refine State.freeLine_kept ?_
    exact State.deliver_kept h2
theorem State.refuse_kept {s₀ : State} {a0} {a1} {a2} (k0 : Kept s₀ a0) : Kept s₀ (State.refuse a0 a1 a2) := by
  unfold State.refuse
  extract_lets +onlyGivenNames x0
  have h1 : Kept s₀ x0 := by
    unfold x0
    refine Kept.ite ?_ ?_
    · exact State.cxlPutNoted_kept k0
    · refine Kept.ite ?_ ?_
      · exact State.cxlPutNoted_kept k0
      · refine Kept.ite ?_ ?_
        · exact State.cxlPutNoted_kept k0
        · refine Kept.ite ?_ ?_
          · exact State.cxlPut_kept k0
          · exact k0
  clear_value x0
  refine Kept.ite ?_ ?_
  · exact State.respond_kept h1
  · refine State.respond_kept ?_
    exact State.noteWriteFail_kept h1
theorem execLevelTimingRelease_kept {s₀ : State} {a0} {a1} {a2} (k2 : Kept s₀ a2) : KeptO s₀ (execLevelTimingRelease a0 a1 a2) := by
  unfold execLevelTimingRelease
  refine KeptO.next ?_
  split
  · rename_i m0 m1
    exact k2
  · rename_i m2 m3 m4
    split
    · rename_i m5 m6 m7
      refine State.deliver_kept ?_
      refine Kept.ite ?_ ?_
      · exact State.incSat_kept k2
      · exact k2
    · rename_i m8 m9
      refine Kept.ite ?_ ?_
      · exact State.modReq_kept k2
      · exact k2

/-! ## MediaOps -/
theorem State.putOp_kept {s₀ : State} {a0} {a1} (k0 : Kept s₀ a0) : Kept s₀ (State.putOp a0 a1) := by
  unfold State.putOp
  exact k0.congr rfl
theorem State.gather_kept {s₀ : State} {a0} {a1} (k0 : Kept s₀ a0) : Kept s₀ (State.gather a0 a1) := by
  unfold State.gather
  extract_lets +onlyGivenNames x0
  have h1 : Kept s₀ x0 := by unfold x0; exact k0.congr rfl
  clear_value x0
  extract_lets +onlyGivenNames x2
  have h3 : Kept s₀ x2 := by
    unfold x2
    refine State.putOp_kept ?_
    exact State.countTile_kept h1
  clear_value x2
  refine each_keep (fun r => Kept s₀ r) ?_ ?_
  · exact h3
  · intro v4 v5 h6
    refine Kept.ite ?_ ?_
    · extract_lets +onlyGivenNames x7; clear_value x7
      extract_lets +onlyGivenNames x8
      have h9 : Kept s₀ x8 := by
        unfold x8
        refine State.submitRead_kept ?_
        exact State.countTile_kept h6
      clear_value x8
      refine Kept.ite ?_ ?_
      · exact State.countTile_kept h9
      · exact h9
    · split
      · rename_i m10 m11 m12
        exact State.putOp_kept h6
      · rename_i m13 m14
        exact h6
theorem State.countAround_kept {s₀ : State} {a0} {a1} (k0 : Kept s₀ a0) : Kept s₀ (State.countAround a0 a1) := by
  unfold State.countAround
  extract_lets +onlyGivenNames x0; subst x0
  extract_lets +onlyGivenNames x1
  have h2 : Kept s₀ x1 := by unfold x1; exact k0.congr rfl
  clear_value x1
  refine Kept.ite ?_ ?_
  · exact State.modTile_kept h2
  · exact h2
theorem State.aroundNow_kept {s₀ : State} {a0} {a1} (k0 : Kept s₀ a0) : Kept s₀ (State.aroundNow a0 a1) := by
  unfold State.aroundNow
  extract_lets +onlyGivenNames x0; clear_value x0
  refine State.gather_kept ?_
  refine State.putOp_kept ?_
  exact State.countAround_kept k0
theorem State.dropOp_kept {s₀ : State} {a0} {a1} (k0 : Kept s₀ a0) : Kept s₀ (State.dropOp a0 a1) := by
  unfold State.dropOp
  exact k0.congr rfl
theorem State.sweepTake_kept {s₀ : State} {a0} {a1} {a2} (k0 : Kept s₀ a0) : Kept s₀ (State.sweepTake a0 a1 a2) := by
  unfold State.sweepTake
  exact State.modTile_kept k0
theorem State.reread_kept {s₀ : State} {a0} {a1} {a2} {a3} (k0 : Kept s₀ a0) : Kept s₀ (State.reread a0 a1 a2 a3) := by
  unfold State.reread
  extract_lets +onlyGivenNames x0; clear_value x0
  refine State.submitRead_kept ?_
  exact State.putOp_kept k0
theorem State.rereadStart_kept {s₀ : State} {a0} {a1} (k0 : Kept s₀ a0) : Kept s₀ (State.rereadStart a0 a1).1 := by
  unfold State.rereadStart
  split
  · refine Kept.fst ?_
    exact k0
  · split
    · refine Kept.fst ?_
      exact State.reread_kept k0
    · split
      · refine Kept.fst ?_
        exact State.reread_kept k0
      · refine Kept.fst ?_
        exact k0
theorem State.opFail_kept {s₀ : State} {a0} {a1} (k0 : Kept s₀ a0) : Kept s₀ (State.opFail a0 a1).1 := by
  unfold State.opFail
  split
  · refine Kept.fst ?_
    exact k0
  · split
    · rename_i m0 m1
      split
      · extract_lets +onlyGivenNames x2; clear_value x2
        refine Kept.fst ?_
        refine State.gather_kept ?_
        refine State.putOp_kept ?_
        exact State.countAround_kept k0
      · exact State.rereadStart_kept k0
    · rename_i m3 m4 m5
      split
      · extract_lets +onlyGivenNames x6; clear_value x6
        refine Kept.fst ?_
        refine State.gather_kept ?_
        refine State.putOp_kept ?_
        exact State.countAround_kept k0
      · exact State.rereadStart_kept k0
    · rename_i m7 m8
      split
      · extract_lets +onlyGivenNames x9; clear_value x9
        refine Kept.fst ?_
        refine State.submitRead_kept ?_
        exact State.putOp_kept k0
      · refine Kept.fst ?_
        exact k0
    · rename_i m10 m11
      exact State.rereadStart_kept k0
    · rename_i m12 m13
      split
      · refine Kept.fst ?_
        exact State.reread_kept k0
      · refine Kept.fst ?_
        exact k0
    · rename_i m14 m15
      refine Kept.fst ?_
      exact k0
theorem State.opRetry_kept {s₀ : State} {a0} {a1} (k0 : Kept s₀ a0) : Kept s₀ (State.opRetry a0 a1).1 := by
  unfold State.opRetry
  extract_lets +onlyGivenNames x0
  have h1 : Kept s₀ x0.1 := by unfold x0; exact State.opFail_kept k0
  clear_value x0
  refine Kept.fst ?_
  exact h1
theorem State.opSweep_kept {s₀ : State} {a0} {a1} {a2} {a3} (k0 : Kept s₀ a0) : Kept s₀ (State.opSweep a0 a1 a2 a3).1 := by
  unfold State.opSweep
  extract_lets +onlyGivenNames x0; clear_value x0
  extract_lets +onlyGivenNames x1; clear_value x1
  split
  · refine Kept.fst ?_
    exact State.sweepTake_kept k0
  · split
    · extract_lets +onlyGivenNames x2; clear_value x2
      refine Kept.fst ?_
      refine State.submitRead_kept ?_
      exact State.putOp_kept k0
    · split
      · rename_i m3 m4 m5
        refine Kept.fst ?_
        exact State.sweepTake_kept k0
      · rename_i m6 m7
        exact State.opRetry_kept k0
theorem State.opGather_kept {s₀ : State} {a0} {a1} (k0 : Kept s₀ a0) : Kept s₀ (State.opGather a0 a1).1 := by
  unfold State.opGather
  extract_lets +onlyGivenNames x0; clear_value x0
  split
  · split
    · rename_i m1 m2 m3
      refine Kept.fst ?_
      exact k0
    · rename_i m4 m5
      exact State.opRetry_kept k0
  · split
    · exact State.opRetry_kept k0
    · refine Kept.fst ?_
      exact k0
theorem State.opArrive_kept {s₀ : State} {a0} {a1} {a2} {a3} (k0 : Kept s₀ a0) : Kept s₀ (State.opArrive a0 a1 a2 a3).1 := by
  unfold State.opArrive
  extract_lets +onlyGivenNames x0; clear_value x0
  extract_lets +onlyGivenNames x1
  have h2 : Kept s₀ x1 := by
    unfold x1
    split
    · rename_i m3 m4
      exact State.countCheck_kept k0
    · rename_i m5
      exact k0
  clear_value x1
  extract_lets +onlyGivenNames x6; clear_value x6
  split
  · split
    · rename_i m7 m8 m9 m10 m11
      exact State.opSweep_kept h2
    · rename_i m12 m13 m14 m15
      split
      · exact State.opRetry_kept h2
      · refine Kept.fst ?_
        exact h2
    · rename_i m16 m17 m18 m19 m20
      split
      · exact State.opRetry_kept h2
      · refine Kept.fst ?_
        exact h2
    · rename_i m21 m22 m23 m24
      refine Kept.fst ?_
      exact h2
    · rename_i m25 m26 m27 m28
      refine Kept.fst ?_
      exact h2
    · rename_i m29 m30 m31 m32
      exact State.opRetry_kept h2
  · split
    · rename_i m33 m34
      extract_lets +onlyGivenNames x35; clear_value x35
      refine State.opGather_kept ?_
      exact State.putOp_kept h2
    · rename_i m36 m37
      extract_lets +onlyGivenNames x38; clear_value x38
      refine State.opGather_kept ?_
      exact State.putOp_kept h2
    · rename_i m39 m40 m41
      refine Kept.fst ?_
      exact h2
theorem State.opKick_kept {s₀ : State} {a0} {a1} (k0 : Kept s₀ a0) : Kept s₀ (State.opKick a0 a1).1 := by
  unfold State.opKick
  split
  · rename_i m0 m1 m2
    split
    · rename_i m3 m4
      exact State.opGather_kept k0
    · rename_i m5 m6
      refine Kept.fst ?_
      exact k0
  · rename_i m7 m8
    refine Kept.fst ?_
    exact k0
theorem State.wakeMembers_kept {s₀ : State} {a0} {a1} (k0 : Kept s₀ a0) : Kept s₀ (State.wakeMembers a0 a1) := by
  unfold State.wakeMembers
  refine each_keep (fun r => Kept s₀ r) ?_ ?_
  · exact k0
  · intro v0 v1 h2
    exact State.wakeTile_kept h2
theorem State.windowCount_kept {s₀ : State} {a0} {a1} {a2} (k0 : Kept s₀ a0) : Kept s₀ (State.windowCount a0 a1 a2) := by
  unfold State.windowCount
  extract_lets +onlyGivenNames x0
  have h1 : Kept s₀ x0 := by
    unfold x0
    refine Kept.ite ?_ ?_
    · exact State.modTile_kept k0
    · exact k0
  clear_value x0
  refine Kept.ite ?_ ?_
  · exact State.countAround_kept h1
  · exact h1
theorem State.startOp_kept {s₀ : State} {a0} {a1} {a2} {a3} {a4} {a5} {a6} {a7} {a8} {a9} {a10} {a11} (k0 : Kept s₀ a0) : Kept s₀ (State.startOp a0 a1 a2 a3 a4 a5 a6 a7 a8 a9 a10 a11).1 := by
  unfold State.startOp
  extract_lets +onlyGivenNames x0; clear_value x0
  extract_lets +onlyGivenNames x1; clear_value x1
  extract_lets +onlyGivenNames x2; clear_value x2
  extract_lets +onlyGivenNames x3; clear_value x3
  extract_lets +onlyGivenNames x4
  have h5 : Kept s₀ x4 := by
    unfold x4
    refine State.wakeMembers_kept ?_
    exact k0.congr rfl
  clear_value x4
  split
  · extract_lets +onlyGivenNames x6; clear_value x6
    refine Kept.fst ?_
    refine State.gather_kept ?_
    refine State.putOp_kept ?_
    exact State.windowCount_kept h5
  · split
    · extract_lets +onlyGivenNames x7; clear_value x7
      refine Kept.fst ?_
      refine State.submitRead_kept ?_
      refine State.putOp_kept ?_
      exact State.windowCount_kept h5
    · extract_lets +onlyGivenNames x8; clear_value x8
      extract_lets +onlyGivenNames x9; clear_value x9
      extract_lets +onlyGivenNames x10
      have h11 : Kept s₀ x10 := by
        unfold x10
        refine State.putOp_kept ?_
        exact State.windowCount_kept h5
      clear_value x10
      refine Kept.fst ?_
      refine Kept.ite ?_ ?_
      · exact State.gather_kept h11
      · exact State.submitRead_kept h11

/-! ## Read -/
theorem State.linkAwake_kept {s₀ : State} {a0} {a1} {a2} (k0 : Kept s₀ a0) : Kept s₀ (State.linkAwake a0 a1 a2) := by
  unfold State.linkAwake
  extract_lets +onlyGivenNames x0; clear_value x0
  exact k0.congr rfl
theorem State.takeReq_kept {s₀ : State} {a0} {a1} {a2} {a3} {a4} {a5} {a6} {a7} {a8} (k0 : Kept s₀ a0) : Kept s₀ (State.takeReq a0 a1 a2 a3 a4 a5 a6 a7 a8).1 := by
  unfold State.takeReq
  extract_lets +onlyGivenNames x0; clear_value x0
  split
  · rename_i m1 m2 m3 m4
    have h5 : Kept s₀ m2 := by
      rw [← show _ = m2 from congrArg Prod.fst (m4)]
      exact State.traceSample_kept k0
    extract_lets +onlyGivenNames x6; clear_value x6
    extract_lets +onlyGivenNames x7; clear_value x7
    extract_lets +onlyGivenNames x8
    have h9 : Kept s₀ x8 := by unfold x8; exact h5.congr rfl
    clear_value x8
    refine Kept.fst ?_
    refine Kept.ite ?_ ?_
    · refine State.countTile_kept ?_
      exact State.wakeTile_kept h9
    · exact h9
theorem State.countLookups_kept {s₀ : State} {a0} {a1} {a2} {a3} {a4} {a5} (k0 : Kept s₀ a0) : Kept s₀ (State.countLookups a0 a1 a2 a3 a4 a5) := by
  unfold State.countLookups
  refine Kept.ite ?_ ?_
  · exact k0
  · extract_lets +onlyGivenNames x0; clear_value x0
    extract_lets +onlyGivenNames x1; clear_value x1
    extract_lets +onlyGivenNames x2
    have h3 : Kept s₀ x2 := by unfold x2; exact State.modReq_kept k0
    clear_value x2
    extract_lets +onlyGivenNames x4; clear_value x4
    extract_lets +onlyGivenNames x5; clear_value x5
    extract_lets +onlyGivenNames x6
    have h7 : Kept s₀ x6 := by
      unfold x6
      refine State.meter_kept ?_
      refine State.meter_kept ?_
      refine State.countTile_kept ?_
      exact State.countTile_kept h3
    clear_value x6
    extract_lets +onlyGivenNames x8
    have h9 : Kept s₀ x8 := by
      unfold x8
      refine Kept.ite ?_ ?_
      · exact State.modTile_kept h7
      · exact h7
    clear_value x8
    extract_lets +onlyGivenNames x10; clear_value x10
    extract_lets +onlyGivenNames x11
    have h12 : Kept s₀ x11 := by
      unfold x11
      refine Kept.ite ?_ ?_
      · exact h3
      · refine Kept.ite ?_ ?_
        · exact State.modTile_kept h9
        · exact h9
    clear_value x11
    split
    · rename_i m13 m14
      exact h12
    · rename_i m15 m16
      exact h12
    · rename_i m17 m18 m19
      refine Kept.ite ?_ ?_
      · extract_lets +onlyGivenNames x20; clear_value x20
        extract_lets +onlyGivenNames x21
        have h22 : Kept s₀ x21 := by
          unfold x21
          refine State.meter_kept ?_
          refine State.countTile_kept ?_
          exact State.countTile_kept h12
        clear_value x21
        extract_lets +onlyGivenNames x23
        have h24 : Kept s₀ x23 := by
          unfold x23
          refine Kept.ite ?_ ?_
          · exact State.modTile_kept h22
          · exact h22
        clear_value x23
        extract_lets +onlyGivenNames x25; clear_value x25
        refine Kept.ite ?_ ?_
        · exact State.countTile_kept h24
        · exact h24
      · exact State.countTile_kept h12
theorem State.resolve_kept {s₀ : State} {a0} {a1} (k0 : Kept s₀ a0) : Kept s₀ (State.resolve a0 a1) := by
  unfold State.resolve
  exact k0.congr rfl
theorem State.installLine_kept {s₀ : State} {a0} {a1} {a2} (k0 : Kept s₀ a0) : Kept s₀ (State.installLine a0 a1 a2) := by
  unfold State.installLine
  split
  · rename_i m0 m1
    exact State.modTile_kept k0
  · rename_i m2 m3
    exact State.modTile_kept k0
  · rename_i m4 m5 m6 m7
    split
    · rename_i m8 m9 m10
      split
      · rename_i m11 m12 m13
        exact State.installNode_kept k0
      · rename_i m14 m15
        exact k0
    · rename_i m16 m17
      exact k0
theorem State.fetchCopy_kept {s₀ : State} {a0} {a1} {a2} {a3} {a4} (k0 : Kept s₀ a0) : Kept s₀ (State.fetchCopy a0 a1 a2 a3 a4) := by
  unfold State.fetchCopy
  extract_lets +onlyGivenNames x0; clear_value x0
  split
  · rename_i m1 m2 m3 m4
    have h5 : Kept s₀ m2 := by
      rw [← show _ = m2 from congrArg Prod.fst (m4)]
      exact State.startOp_kept k0
    extract_lets +onlyGivenNames x6
    have h7 : Kept s₀ x6.1 := by unfold x6; exact State.opKick_kept h5
    clear_value x6
    split
    · rename_i m8 m9
      refine State.modTile_kept ?_
      exact h7
    · rename_i m10 m11
      refine State.modTile_kept ?_
      refine State.dropOp_kept ?_
      exact h7
theorem State.startCensus_kept {s₀ : State} {a0} {a1} {a2} (k0 : Kept s₀ a0) : Kept s₀ (State.startCensus a0 a1 a2) := by
  unfold State.startCensus
  extract_lets +onlyGivenNames x0
  have h1 : Kept s₀ x0 := by unfold x0; exact State.modTile_kept k0
  clear_value x0
  extract_lets +onlyGivenNames x2
  have h3 : Kept s₀ x2 := by
    unfold x2
    refine Kept.ite ?_ ?_
    · exact h1
    · exact State.emit_kept h1
  clear_value x2
  exact State.wf_kept h3
theorem State.lineLost_kept {s₀ : State} {a0} {a1} {a2} (k0 : Kept s₀ a0) : Kept s₀ (State.lineLost a0 a1 a2) := by
  unfold State.lineLost
  extract_lets +onlyGivenNames x0; clear_value x0
  extract_lets +onlyGivenNames x1
  have h2 : ∀ y0, Kept s₀ y0 → Kept s₀ (x1 y0) := by
    unfold x1
    intro v3 h4
    exact State.report_kept h4
  clear_value x1
  split
  · rename_i m5 m6
    refine State.installLine_kept ?_
    refine h2 _ ?_
    refine each_keep (fun r => Kept s₀ r) ?_ ?_
    · exact k0
    · intro v7 v8 h9
      refine State.setLeaf_kept ?_
      exact State.mapRoom_kept h9
  · rename_i m10 m11
    refine State.installLine_kept ?_
    refine h2 _ ?_
    exact State.startCensus_kept k0
  · rename_i m12 m13 m14 m15
    split
    · rename_i m16 m17 m18
      exact State.markBad_kept k0
    · rename_i m19 m20
      exact k0
theorem State.settleOne_kept {s₀ : State} {a0} {a1} {a2} (k0 : Kept s₀ a0) : Kept s₀ (State.settleOne a0 a1 a2) := by
  unfold State.settleOne
  refine Kept.ite ?_ ?_
  · extract_lets +onlyGivenNames x0
    have h1 : Kept s₀ x0 := by
      unfold x0
      refine State.resolve_kept ?_
      refine State.modTile_kept ?_
      exact State.installLine_kept k0
    clear_value x0
    refine Kept.ite ?_ ?_
    · exact State.structCopy_kept h1
    · exact h1
  · refine Kept.ite ?_ ?_
    · exact State.fetchCopy_kept k0
    · refine State.resolve_kept ?_
      refine State.modTile_kept ?_
      exact State.lineLost_kept k0
theorem State.settleFetches_kept {s₀ : State} {a0} {a1} {a2} (k0 : Kept s₀ a0) : Kept s₀ (State.settleFetches a0 a1 a2) := by
  induction' a2 with n ih generalizing a0
  · unfold State.settleFetches
    exact k0
  · unfold State.settleFetches
    split
    · rename_i m0 m1 m2
      refine ih ?_
      exact State.settleOne_kept k0
    · rename_i m3 m4
      exact k0
theorem State.settleTile_kept {s₀ : State} {a0} {a1} (k0 : Kept s₀ a0) : Kept s₀ (State.settleTile a0 a1) := by
  unfold State.settleTile
  exact State.settleFetches_kept k0
theorem State.startFetch_kept {s₀ : State} {a0} {a1} {a2} {a3} (k0 : Kept s₀ a0) : Kept s₀ (State.startFetch a0 a1 a2 a3) := by
  unfold State.startFetch
  refine Kept.ite ?_ ?_
  · exact k0
  · refine Kept.ite ?_ ?_
    · exact State.modTile_kept k0
    · exact State.fetchCopy_kept k0
theorem State.await_kept {s₀ : State} {a0} {a1} {a2} {a3} {a4} (k0 : Kept s₀ a0) : Kept s₀ (State.await a0 a1 a2 a3 a4) := by
  unfold State.await
  extract_lets +onlyGivenNames x0; clear_value x0
  extract_lets +onlyGivenNames x1
  have h2 : Kept s₀ x1 := by unfold x1; exact State.modReq_kept k0
  clear_value x1
  refine State.settleTile_kept ?_
  refine each_keep (fun r => Kept s₀ r) ?_ ?_
  · exact h2
  · intro v3 v4 h5
    split
    · rename_i m6 m7
      refine Kept.ite ?_ ?_
      · exact h5
      · extract_lets +onlyGivenNames x8; clear_value x8
        refine State.modTile_kept ?_
        exact State.chargeRead_kept h5
    · rename_i m9 m10
      refine State.startFetch_kept ?_
      split
      · rename_i m11 m12
        exact State.countTile_kept h5
      · rename_i m13 m14
        exact h5
    · rename_i m15 m16 m17
      exact h5
theorem State.commitWrite_kept {s₀ : State} {a0} {a1} {a2} {a3} {a4} {a5} (k0 : Kept s₀ a0) : Kept s₀ (State.commitWrite a0 a1 a2 a3 a4 a5) := by
  unfold State.commitWrite
  refine Kept.ite ?_ ?_
  · refine State.modReq_kept ?_
    exact State.countTile_kept k0
  · extract_lets +onlyGivenNames x0; clear_value x0
    extract_lets +onlyGivenNames x1
    have h2 : Kept s₀ x1 := by unfold x1; exact State.writeLine_kept k0
    clear_value x1
    extract_lets +onlyGivenNames x3
    have h4 : Kept s₀ x3 := by
      unfold x3
      refine State.countTile_kept ?_
      exact State.cacheWrite_kept h2
    clear_value x3
    exact State.respond_kept h4
theorem State.haveData_kept {s₀ : State} {a0} {a1} {a2} {a3} {a4} {a5} {a6} (k0 : Kept s₀ a0) : Kept s₀ (State.haveData a0 a1 a2 a3 a4 a5 a6) := by
  unfold State.haveData
  refine Kept.ite ?_ ?_
  · exact State.respond_kept k0
  · exact State.commitWrite_kept k0
theorem State.noData_kept {s₀ : State} {a0} {a1} {a2} {a3} (k0 : Kept s₀ a0) : Kept s₀ (State.noData a0 a1 a2 a3) := by
  unfold State.noData
  refine Kept.ite ?_ ?_
  · exact State.respond_kept k0
  · refine State.respond_kept ?_
    exact State.noteWriteFail_kept k0
theorem State.fromCache_kept {s₀ : State} {a0} {a1} {a2} {a3} {a4} {a5} (k0 : Kept s₀ a0) : Kept s₀ (State.fromCache a0 a1 a2 a3 a4 a5) := by
  unfold State.fromCache
  extract_lets +onlyGivenNames x0; clear_value x0
  extract_lets +onlyGivenNames x1
  have h2 : Kept s₀ x1 := by
    unfold x1
    refine Kept.ite ?_ ?_
    · exact State.countTile_kept k0
    · exact k0
  clear_value x1
  extract_lets +onlyGivenNames x3
  have h4 : Kept s₀ x3 := by
    unfold x3
    refine Kept.ite ?_ ?_
    · exact State.countTile_kept h2
    · exact h2
  clear_value x3
  refine State.haveData_kept ?_
  exact State.modTile_kept h4
theorem State.countRegen_kept {s₀ : State} {a0} {a1} {a2} {a3} (k0 : Kept s₀ a0) : Kept s₀ (State.countRegen a0 a1 a2 a3) := by
  unfold State.countRegen
  refine Kept.ite ?_ ?_
  · refine State.countTile_kept ?_
    exact State.incSat_kept k0
  · exact k0
theorem State.failureFor_kept {s₀ : State} {a0} {a1} (k0 : Kept s₀ a0) : Kept s₀ (State.failureFor a0 a1) := by
  unfold State.failureFor
  refine Kept.ite ?_ ?_
  · exact k0
  · exact State.failureHeld_kept k0
theorem State.tagLost_kept {s₀ : State} {a0} {a1} {a2} {a3} {a4} {a5} {a6} (k0 : Kept s₀ a0) : Kept s₀ (State.tagLost a0 a1 a2 a3 a4 a5 a6) := by
  unfold State.tagLost
  extract_lets +onlyGivenNames x0
  have h1 : Kept s₀ x0 := by
    unfold x0
    refine State.countTile_kept ?_
    exact State.incSat_kept k0
  clear_value x0
  extract_lets +onlyGivenNames x2
  have h3 : Kept s₀ x2 := by unfold x2; exact State.report_kept h1
  clear_value x2
  refine Kept.ite ?_ ?_
  · exact State.respond_kept h3
  · extract_lets +onlyGivenNames x4
    have h5 : Kept s₀ x4 := by
      unfold x4
      refine State.countTile_kept ?_
      exact State.catchPut_kept h3
    clear_value x4
    refine State.noData_kept ?_
    exact State.failureFor_kept h5
theorem State.fromCatch_kept {s₀ : State} {a0} {a1} {a2} {a3} {a4} {a5} (k0 : Kept s₀ a0) : Kept s₀ (State.fromCatch a0 a1 a2 a3 a4 a5) := by
  unfold State.fromCatch
  refine Kept.ite ?_ ?_
  · exact State.noData_kept k0
  · split
    · rename_i m0 m1 m2 m3
      refine State.haveData_kept ?_
      exact State.countRegen_kept k0
    · rename_i m4 m5
      exact State.refuse_kept k0
    · rename_i m6 m7
      exact State.tagLost_kept k0
theorem State.prefetchNext_kept {s₀ : State} {a0} {a1} {a2} {a3} {a4} (k0 : Kept s₀ a0) : Kept s₀ (State.prefetchNext a0 a1 a2 a3 a4) := by
  unfold State.prefetchNext
  extract_lets +onlyGivenNames x0; clear_value x0
  extract_lets +onlyGivenNames x1; clear_value x1
  refine Kept.ite ?_ ?_
  · exact k0
  · split
    · rename_i m2 m3 m4 m5
      extract_lets +onlyGivenNames x6; clear_value x6
      extract_lets +onlyGivenNames x7; clear_value x7
      refine Kept.ite ?_ ?_
      · refine State.startOp_kept ?_
        exact State.countTile_kept k0
      · exact State.countTile_kept k0
    · rename_i m8 m9 m10
      exact State.countTile_kept k0
    · rename_i m11 m12 m13
      exact k0
theorem State.reqLost_kept {s₀ : State} {a0} {a1} {a2} (k0 : Kept s₀ a0) : Kept s₀ (State.reqLost a0 a1 a2) := by
  unfold State.reqLost
  extract_lets +onlyGivenNames x0
  have h1 : Kept s₀ x0 := by unfold x0; exact State.dropOp_kept k0
  clear_value x0
  split
  · rename_i m2 m3
    exact h1
  · rename_i m4 m5 m6
    split
    · rename_i m7 m8 m9 m10 m11 m12
      extract_lets +onlyGivenNames x13; clear_value x13
      refine Kept.ite ?_ ?_
      · exact State.tagLost_kept h1
      · refine State.noData_kept ?_
        refine State.failureFor_kept ?_
        exact State.report_kept h1
    · rename_i m14 m15 m16
      exact State.refuse_kept h1
theorem State.reqLine_kept {s₀ : State} {a0} {a1} {a2} {a3} {a4} (k0 : Kept s₀ a0) : Kept s₀ (State.reqLine a0 a1 a2 a3 a4) := by
  unfold State.reqLine
  split
  · rename_i m0 m1
    exact State.dropOp_kept k0
  · rename_i m2 m3 m4
    split
    · rename_i m5 m6 m7 m8 m9 m10
      extract_lets +onlyGivenNames x11; clear_value x11
      extract_lets +onlyGivenNames x12; clear_value x12
      extract_lets +onlyGivenNames x13
      have h14 : ∀ y0, Kept s₀ y0 → Kept s₀ (x13 y0) := by
        unfold x13
        intro v15 h16
        extract_lets +onlyGivenNames x17
        have h18 : Kept s₀ x17 := by
          unfold x17
          refine Kept.ite ?_ ?_
          · exact State.report_kept h16
          · refine Kept.ite ?_ ?_
            · exact State.report_kept h16
            · exact h16
        clear_value x17
        refine Kept.ite ?_ ?_
        · exact State.rewriteLine_kept h18
        · exact h18
      clear_value x13
      refine Kept.ite ?_ ?_
      · refine State.noData_kept ?_
        refine h14 _ ?_
        exact State.dropOp_kept k0
      · split
        · rename_i m19 m20
          refine State.refuse_kept ?_
          exact State.dropOp_kept k0
        · rename_i m21 m22 m23 m24
          extract_lets +onlyGivenNames x25
          have h26 : Kept s₀ x25 := by
            unfold x25
            refine h14 _ ?_
            refine State.countRegen_kept ?_
            exact State.dropOp_kept k0
          clear_value x25
          extract_lets +onlyGivenNames x27; clear_value x27
          refine Kept.ite ?_ ?_
          · extract_lets +onlyGivenNames x28
            have h29 : Kept s₀ x28 := by unfold x28; exact State.cacheFill_kept h26
            clear_value x28
            refine State.haveData_kept ?_
            refine Kept.ite ?_ ?_
            · exact State.prefetchNext_kept h29
            · exact h29
          · exact State.haveData_kept h26
        · rename_i m30 m31
          extract_lets +onlyGivenNames x32
          have h33 : Kept s₀ x32.1 := by unfold x32; exact State.opRetry_kept k0
          clear_value x32
          split
          · rename_i m34 m35 m36
            refine State.reqLost_kept ?_
            exact h33
          · rename_i m37 m38
            exact h33
    · rename_i m39 m40 m41
      refine State.refuse_kept ?_
      exact State.dropOp_kept k0
theorem State.prefetchLine_kept {s₀ : State} {a0} {a1} {a2} {a3} {a4} {a5} (k0 : Kept s₀ a0) : Kept s₀ (State.prefetchLine a0 a1 a2 a3 a4 a5) := by
  unfold State.prefetchLine
  extract_lets +onlyGivenNames x0
  have h1 : Kept s₀ x0 := by unfold x0; exact State.dropOp_kept k0
  clear_value x0
  extract_lets +onlyGivenNames x2; clear_value x2
  split
  · rename_i m3 m4 m5 m6 m7 m8
    extract_lets +onlyGivenNames x9; clear_value x9
    extract_lets +onlyGivenNames x10
    have h11 : Kept s₀ x10 := by
      unfold x10
      refine Kept.ite ?_ ?_
      · refine State.rewriteLine_kept ?_
        exact State.report_kept h1
      · exact h1
    clear_value x10
    refine Kept.ite ?_ ?_
    · exact h11
    · split
      · rename_i m12 m13 m14
        extract_lets +onlyGivenNames x15; clear_value x15
        refine State.modTile_kept ?_
        exact State.cacheFill_kept h11
      · rename_i m16 m17
        exact h11
  · rename_i m18 m19 m20
    exact h1
theorem State.fetched_kept {s₀ : State} {a0} {a1} {a2} {a3} {a4} (k0 : Kept s₀ a0) : Kept s₀ (State.fetched a0 a1 a2 a3 a4) := by
  unfold State.fetched
  split
  · rename_i m0 m1 m2
    refine Kept.ite ?_ ?_
    · refine State.settleTile_kept ?_
      exact State.modTile_kept k0
    · exact k0
  · rename_i m3 m4
    exact k0
theorem State.opEnded_kept {s₀ : State} {a0} {a1} (k0 : Kept s₀ a0) : Kept s₀ (State.opEnded a0 a1) := by
  unfold State.opEnded
  split
  · rename_i m0
    exact k0
  · rename_i m1 m2 m3 m4
    split
    · rename_i m5 m6 m7
      exact State.reqLine_kept k0
    · rename_i m8 m9 m10 m11 m12
      exact State.prefetchLine_kept k0
    · rename_i m13 m14 m15 m16 m17
      extract_lets +onlyGivenNames x18; clear_value x18
      extract_lets +onlyGivenNames x19
      have h20 : Kept s₀ x19 := by
        unfold x19
        refine Kept.ite ?_ ?_
        · exact State.report_kept k0
        · exact k0
      clear_value x19
      extract_lets +onlyGivenNames x21
      have h22 : Kept s₀ x21 := by
        unfold x21
        refine State.fetched_kept ?_
        exact State.dropOp_kept h20
      clear_value x21
      refine Kept.ite ?_ ?_
      · exact State.structCopy_kept h22
      · exact h22
  · rename_i m23 m24
    split
    · rename_i m25 m26 m27
      exact State.reqLost_kept k0
    · rename_i m28 m29 m30 m31 m32
      exact State.dropOp_kept k0
    · rename_i m33 m34 m35 m36 m37
      refine State.fetched_kept ?_
      exact State.dropOp_kept k0
theorem State.runRead_kept {s₀ : State} {a0} {a1} {a2} {a3} {a4} (k0 : Kept s₀ a0) : Kept s₀ (State.runRead a0 a1 a2 a3 a4) := by
  unfold State.runRead
  refine Kept.ite ?_ ?_
  · exact State.refuse_kept k0
  · refine Kept.ite ?_ ?_
    · exact State.refuse_kept k0
    · extract_lets +onlyGivenNames x0
      have h1 : Kept s₀ x0 := by unfold x0; exact State.dropStale_kept k0
      clear_value x0
      extract_lets +onlyGivenNames x2; clear_value x2
      extract_lets +onlyGivenNames x3
      have h4 : Kept s₀ x3 := by unfold x3; exact State.countLookups_kept h1
      clear_value x3
      extract_lets +onlyGivenNames x5; clear_value x5
      extract_lets +onlyGivenNames x6; clear_value x6
      extract_lets +onlyGivenNames x7; clear_value x7
      split
      · rename_i m8 m9
        exact State.await_kept h4
      · rename_i m10
        refine Kept.ite ?_ ?_
        · exact State.respond_kept h4
        · refine Kept.ite ?_ ?_
          · exact State.haveData_kept h4
          · exact State.await_kept h4
      · rename_i m11
        exact State.noData_kept h4
      · rename_i m12 m13
        refine Kept.ite ?_ ?_
        · exact State.fromCache_kept h4
        · exact State.await_kept h4
      · rename_i m14 m15
        refine Kept.ite ?_ ?_
        · exact State.fromCatch_kept h4
        · exact State.await_kept h4
      · rename_i m16 m17 m18
        refine Kept.ite ?_ ?_
        · exact State.await_kept h4
        · extract_lets +onlyGivenNames x19
          have h20 : Kept s₀ x19.1 := by unfold x19; exact State.startOp_kept h4
          clear_value x19
          extract_lets +onlyGivenNames x21
          have h22 : Kept s₀ x21.1 := by
            unfold x21
            refine State.opKick_kept ?_
            refine State.modReq_kept ?_
            exact h20
          clear_value x21
          refine State.opEnded_kept ?_
          exact h22
theorem State.runWrite_kept {s₀ : State} {a0} {a1} {a2} {a3} {a4} (k0 : Kept s₀ a0) : Kept s₀ (State.runWrite a0 a1 a2 a3 a4) := by
  unfold State.runWrite
  extract_lets +onlyGivenNames x0; clear_value x0
  refine Kept.ite ?_ ?_
  · refine State.commitWrite_kept ?_
    exact State.countLookups_kept k0
  · exact State.await_kept k0
theorem State.runReq_kept {s₀ : State} {a0} {a1} (k0 : Kept s₀ a0) : Kept s₀ (State.runReq a0 a1) := by
  unfold State.runReq
  refine Kept.ite ?_ ?_
  · exact State.refuse_kept k0
  · refine Kept.ite ?_ ?_
    · exact State.modReq_kept k0
    · split
      · rename_i m0 m1 m2 m3 m4 m5
        extract_lets +onlyGivenNames x6; clear_value x6
        refine Kept.ite ?_ ?_
        · exact State.runRead_kept k0
        · split
          · rename_i m7 m8 m9
            exact State.refuse_kept k0
          · rename_i m10 m11
            refine Kept.ite ?_ ?_
            · exact State.runWrite_kept k0
            · exact State.runRead_kept k0
      · rename_i m12 m13 m14
        exact State.refuse_kept k0
theorem State.settle_kept {s₀ : State} {a0} {a1} (k0 : Kept s₀ a0) : Kept s₀ (State.settle a0 a1) := by
  induction' a1 with n ih generalizing a0
  · unfold State.settle
    exact k0
  · unfold State.settle
    split
    · rename_i m0 m1 m2
      refine ih ?_
      exact State.runReq_kept k0
    · rename_i m3 m4
      exact k0
theorem State.run_kept {s₀ : State} {a0} (k0 : Kept s₀ a0) : Kept s₀ (State.run a0) := by
  unfold State.run
  exact State.settle_kept k0
theorem State.release_kept {s₀ : State} {a0} {a1} (k0 : Kept s₀ a0) : Kept s₀ (State.release a0 a1) := by
  unfold State.release
  exact State.modReq_kept k0
theorem State.startReq_kept {s₀ : State} {a0} {a1} (k0 : Kept s₀ a0) : Kept s₀ (State.startReq a0 a1) := by
  unfold State.startReq
  extract_lets +onlyGivenNames x0; clear_value x0
  refine Kept.ite ?_ ?_
  · refine State.run_kept ?_
    exact State.release_kept k0
  · refine Kept.ite ?_ ?_
    · refine State.countTile_kept ?_
      exact State.countHub_kept k0
    · refine Kept.ite ?_ ?_
      · exact k0
      · exact State.countHub_kept k0
theorem State.sramBad_kept {s₀ : State} {a0} {a1} (k0 : Kept s₀ a0) : Kept s₀ (State.sramBad a0 a1) := by
  unfold State.sramBad
  refine State.countTile_kept ?_
  exact State.incSat_kept k0
theorem State.sramCorrected_kept {s₀ : State} {a0} {a1} (k0 : Kept s₀ a0) : Kept s₀ (State.sramCorrected a0 a1) := by
  unfold State.sramCorrected
  refine State.countTile_kept ?_
  exact State.incSat_kept k0
theorem State.sramMet_kept {s₀ : State} {a0} {a1} {a2} {a3} {a4} (k0 : Kept s₀ a0) (k4 : ∀ y0, Kept s₀ y0 → Kept s₀ (a4 y0)) : Kept s₀ (State.sramMet a0 a1 a2 a3 a4) := by
  unfold State.sramMet
  refine Kept.ite ?_ ?_
  · exact k0
  · refine Kept.ite ?_ ?_
    · refine k4 _ ?_
      exact State.sramBad_kept k0
    · exact State.sramCorrected_kept k0
theorem State.sramParity_kept {s₀ : State} {a0} {a1} (k0 : Kept s₀ a0) : Kept s₀ (State.sramParity a0 a1) := by
  unfold State.sramParity
  refine State.countTile_kept ?_
  exact State.incSat_kept k0
theorem State.tagMet_kept {s₀ : State} {a0} {a1} {a2} {a3} (k0 : Kept s₀ a0) (k3 : ∀ y0, Kept s₀ y0 → Kept s₀ (a3 y0)) : Kept s₀ (State.tagMet a0 a1 a2 a3) := by
  unfold State.tagMet
  refine Kept.ite ?_ ?_
  · refine k3 _ ?_
    exact State.sramParity_kept k0
  · exact k0
theorem State.dropBadLine_kept {s₀ : State} {a0} {a1} {a2} {a3} (k0 : Kept s₀ a0) : Kept s₀ (State.dropBadLine a0 a1 a2 a3) := by
  unfold State.dropBadLine
  extract_lets +onlyGivenNames x0; clear_value x0
  extract_lets +onlyGivenNames x1
  have h2 : Kept s₀ x1 := by unfold x1; exact State.modTile_kept k0
  clear_value x1
  refine Kept.ite ?_ ?_
  · refine State.emit_kept ?_
    exact State.incSat_kept h2
  · exact h2
theorem State.meetUpset_kept {s₀ : State} {a0} {a1} {a2} {a3} {a4} {a5} {a6} {a7} (k0 : Kept s₀ a0) : Kept s₀ (State.meetUpset a0 a1 a2 a3 a4 a5 a6 a7) := by
  unfold State.meetUpset
  extract_lets +onlyGivenNames x0; clear_value x0
  extract_lets +onlyGivenNames x1; clear_value x1
  extract_lets +onlyGivenNames x2; clear_value x2
  extract_lets +onlyGivenNames x3; clear_value x3
  extract_lets +onlyGivenNames x4
  have h5 : ∀ y0 y1, Kept s₀ y1 → Kept s₀ (x4 y0 y1) := by
    unfold x4
    intro v6 v7 h8
    exact State.report_kept h8
  clear_value x4
  extract_lets +onlyGivenNames x9
  have h10 : ∀ y0 y1, Kept s₀ y1 → Kept s₀ (x9 y0 y1) := by
    unfold x9
    intro v11 v12 h13
    exact State.lineLost_kept h13
  clear_value x9
  extract_lets +onlyGivenNames x14
  have h15 : ∀ y0 y1, Kept s₀ y1 → Kept s₀ (x14 y0 y1) := by
    unfold x14
    intro v16 v17 h18
    exact State.modTile_kept h18
  clear_value x14
  extract_lets +onlyGivenNames x19; clear_value x19
  split
  · rename_i m20 m21
    refine State.sramMet_kept k0 ?_
    intro v22 h23
    refine h5 _ _ ?_
    exact State.modTile_kept h23
  · rename_i m24 m25
    refine State.sramMet_kept k0 ?_
    intro v26 h27
    refine h10 _ _ ?_
    exact h27
  · rename_i m28 m29
    refine State.sramMet_kept k0 ?_
    intro v30 h31
    refine h10 _ _ ?_
    exact h31
  · rename_i m32 m33 m34
    refine State.sramMet_kept k0 ?_
    intro v35 h36
    refine h10 _ _ ?_
    exact h36
  · rename_i m37 m38
    refine State.tagMet_kept k0 ?_
    intro v39 h40
    exact State.dropBadLine_kept h40
  · rename_i m41 m42
    refine State.sramMet_kept k0 ?_
    intro v43 h44
    exact State.dropBadLine_kept h44
  · rename_i m45 m46
    refine State.tagMet_kept k0 ?_
    intro v47 h48
    exact State.modTile_kept h48
  · rename_i m49 m50
    refine State.sramMet_kept k0 ?_
    intro v51 h52
    exact State.modTile_kept h52
  · rename_i m53 m54
    refine State.sramMet_kept k0 ?_
    intro v55 h56
    refine State.settleTile_kept ?_
    refine State.startFetch_kept ?_
    exact State.modTile_kept h56
  · rename_i m57 m58
    refine State.tagMet_kept k0 ?_
    intro v59 h60
    exact State.modTile_kept h60
  · rename_i m61 m62
    refine State.sramMet_kept k0 ?_
    intro v63 h64
    exact State.modTile_kept h64
  · rename_i m65 m66 m67
    refine State.tagMet_kept k0 ?_
    intro v68 h69
    refine h15 _ _ ?_
    exact h69
  · rename_i m70 m71 m72
    refine State.sramMet_kept k0 ?_
    intro v73 h74
    refine Kept.ite ?_ ?_
    · refine State.markBad_kept ?_
      refine h15 _ _ ?_
      exact h74
    · refine h15 _ _ ?_
      exact h74
  · rename_i m75 m76
    refine State.sramMet_kept k0 ?_
    intro v77 h78
    refine h5 _ _ ?_
    exact State.modTile_kept h78
  · rename_i m79 m80
    refine State.sramMet_kept k0 ?_
    intro v81 h82
    exact State.markBad_kept h82
  · rename_i m83 m84
    refine Kept.ite ?_ ?_
    · refine h5 _ _ ?_
      exact State.countHub_kept k0
    · exact State.countHub_kept k0
  · rename_i m85 m86 m87
    refine Kept.ite ?_ ?_
    · exact k0
    · refine Kept.ite ?_ ?_
      · exact State.countHub_kept k0
      · extract_lets +onlyGivenNames x88
        have h89 : Kept s₀ x88 := by unfold x88; exact State.countHub_kept k0
        clear_value x88
        refine Kept.ite ?_ ?_
        · refine each_keep (fun r => Kept s₀ r) ?_ ?_
          · exact h89
          · intro v90 v91 h92
            refine Kept.ite ?_ ?_
            · exact State.markBad_kept h92
            · exact h92
        · exact h89
theorem State.meetUpsets_kept {s₀ : State} {a0} {a1} {a2} {a3} (k0 : Kept s₀ a0) : Kept s₀ (State.meetUpsets a0 a1 a2 a3) := by
  unfold State.meetUpsets
  split
  · rename_i m0 m1 m2
    refine each_keep (fun r => Kept s₀ r) ?_ ?_
    · exact k0
    · intro v3 v4 h5
      exact State.meetUpset_kept h5
  · rename_i m6 m7
    exact k0
theorem State.arrive_kept {s₀ : State} {a0} {a1} {a2} {a3} {a4} {a5} {a6} {a7} {a8} (k0 : Kept s₀ a0) : Kept s₀ (State.arrive a0 a1 a2 a3 a4 a5 a6 a7 a8) := by
  unfold State.arrive
  refine Kept.ite ?_ ?_
  · exact k0
  · refine Kept.ite ?_ ?_
    · exact State.emit_kept k0
    · extract_lets +onlyGivenNames x0; clear_value x0
      extract_lets +onlyGivenNames x1; clear_value x1
      extract_lets +onlyGivenNames x2; clear_value x2
      extract_lets +onlyGivenNames x3
      have h4 : Kept s₀ x3 := by unfold x3; exact State.linkAwake_kept k0
      clear_value x3
      extract_lets +onlyGivenNames x5; clear_value x5
      extract_lets +onlyGivenNames x6
      have h7 : Kept s₀ x6 := by unfold x6; exact State.countHub_kept h4
      clear_value x6
      split
      · rename_i m8
        extract_lets +onlyGivenNames x9
        have h10 : Kept s₀ x9 := by unfold x9; exact State.noteUnmapped_kept h7
        clear_value x9
        refine Kept.ite ?_ ?_
        · refine State.send_kept ?_
          exact State.countHub_kept h10
        · refine State.send_kept ?_
          exact State.noteWriteFail_kept h10
      · rename_i m11 m12
        extract_lets +onlyGivenNames x13
        have h14 : Kept s₀ x13.1 := by unfold x13; exact State.takeReq_kept h7
        clear_value x13
        refine State.startReq_kept ?_
        refine State.meetUpsets_kept ?_
        exact h14
theorem State.coreWord_kept {s₀ : State} {a0} {a1} {a2} (k0 : Kept s₀ a0) : Kept s₀ (State.coreWord a0 a1 a2) := by
  unfold State.coreWord
  split
  · rename_i m0
    exact k0
  · rename_i m1 m2
    extract_lets +onlyGivenNames x3
    have h4 : Kept s₀ x3 := by
      unfold x3
      refine Kept.ite ?_ ?_
      · exact State.countHub_kept k0
      · refine Kept.ite ?_ ?_
        · exact State.sramBad_kept k0
        · exact State.sramCorrected_kept k0
    clear_value x3
    refine Kept.ite ?_ ?_
    · exact State.report_kept h4
    · exact h4
theorem State.meetAt_kept {s₀ : State} {a0} {a1} {a2} {a3} {a4} {a5} (k0 : Kept s₀ a0) : Kept s₀ (State.meetAt a0 a1 a2 a3 a4 a5) := by
  unfold State.meetAt
  refine each_keep (fun r => Kept s₀ r) ?_ ?_
  · exact k0
  · intro v0 v1 h2
    exact State.meetUpset_kept h2
theorem State.releaseAll_kept {s₀ : State} {a0} {a1} {a2} (k0 : Kept s₀ a0) : Kept s₀ (State.releaseAll a0 a1 a2) := by
  induction' a2 with n ih generalizing a0
  · unfold State.releaseAll
    exact k0
  · unfold State.releaseAll
    split
    · rename_i m0 m1 m2
      refine Kept.ite ?_ ?_
      · refine ih ?_
        refine State.run_kept ?_
        exact State.release_kept k0
      · exact k0
    · rename_i m3 m4
      exact k0
theorem State.releaseHeld_kept {s₀ : State} {a0} {a1} (k0 : Kept s₀ a0) : Kept s₀ (State.releaseHeld a0 a1) := by
  unfold State.releaseHeld
  exact State.releaseAll_kept k0
theorem execCxlMemPartialWrite_kept {s₀ : State} {a0} {a1} {a2} {a3} {a4} {a5} {a6} {a7} (k7 : Kept s₀ a7) : KeptO s₀ (execCxlMemPartialWrite a0 a1 a2 a3 a4 a5 a6 a7) := by
  unfold execCxlMemPartialWrite
  refine KeptO.next ?_
  exact State.arrive_kept k7
theorem execCxlMemRead_kept {s₀ : State} {a0} {a1} {a2} {a3} {a4} {a5} (k5 : Kept s₀ a5) : KeptO s₀ (execCxlMemRead a0 a1 a2 a3 a4 a5) := by
  unfold execCxlMemRead
  refine KeptO.next ?_
  exact State.arrive_kept k5
theorem execCxlMemWrite_kept {s₀ : State} {a0} {a1} {a2} {a3} {a4} {a5} {a6} (k6 : Kept s₀ a6) : KeptO s₀ (execCxlMemWrite a0 a1 a2 a3 a4 a5 a6) := by
  unfold execCxlMemWrite
  refine KeptO.next ?_
  exact State.arrive_kept k6
theorem execHeldRequestRelease_kept {s₀ : State} {a0} {a1} (k1 : Kept s₀ a1) : KeptO s₀ (execHeldRequestRelease a0 a1) := by
  unfold execHeldRequestRelease
  refine KeptO.next ?_
  split
  · rename_i m0 m1 m2
    refine Kept.ite ?_ ?_
    · refine State.run_kept ?_
      exact State.release_kept k1
    · exact k1
  · rename_i m3 m4
    exact k1
theorem execKeyUnwrapDone_kept {s₀ : State} {a0} {a1} {a2} (k2 : Kept s₀ a2) : KeptO s₀ (execKeyUnwrapDone a0 a1 a2) := by
  unfold execKeyUnwrapDone
  refine KeptO.next ?_
  refine Kept.ite ?_ ?_
  · exact k2
  · extract_lets +onlyGivenNames x0
    have h1 : Kept s₀ x0 := by
      unfold x0
      refine State.countHub_kept ?_
      exact State.modTile_kept k2
    clear_value x0
    extract_lets +onlyGivenNames x2
    have h3 : Kept s₀ x2 := by
      unfold x2
      refine Kept.ite ?_ ?_
      · exact State.modTile_kept h1
      · exact h1
    clear_value x2
    refine State.run_kept ?_
    exact State.resolve_kept h3
theorem execMemSpecRd_kept {s₀ : State} {a0} {a1} {a2} {a3} {a4} (k4 : Kept s₀ a4) : KeptO s₀ (execMemSpecRd a0 a1 a2 a3 a4) := by
  unfold execMemSpecRd
  refine KeptO.next ?_
  exact k4
theorem execReadPatienceExpire_kept {s₀ : State} {a0} {a1} (k1 : Kept s₀ a1) : KeptO s₀ (execReadPatienceExpire a0 a1) := by
  unfold execReadPatienceExpire
  refine KeptO.next ?_
  split
  · rename_i m0 m1 m2
    refine Kept.ite ?_ ?_
    · refine Kept.ite ?_ ?_
      · refine State.aroundNow_kept ?_
        exact State.countTile_kept k1
      · exact k1
    · extract_lets +onlyGivenNames x3
      have h4 : Kept s₀ x3.1 := by unfold x3; exact State.opRetry_kept k1
      clear_value x3
      refine State.run_kept ?_
      refine State.opEnded_kept ?_
      exact h4
  · rename_i m5 m6
    exact k1
theorem execWriteAdmitResume_kept {s₀ : State} {a0} {a1} (k1 : Kept s₀ a1) : KeptO s₀ (execWriteAdmitResume a0 a1) := by
  unfold execWriteAdmitResume
  refine KeptO.next ?_
  exact State.releaseHeld_kept k1
theorem execYieldWindowEnd_kept {s₀ : State} {a0} {a1} (k1 : Kept s₀ a1) : KeptO s₀ (execYieldWindowEnd a0 a1) := by
  unfold execYieldWindowEnd
  extract_lets +onlyGivenNames x0; clear_value x0
  extract_lets +onlyGivenNames x1; clear_value x1
  extract_lets +onlyGivenNames x2; clear_value x2
  extract_lets +onlyGivenNames x3; clear_value x3
  extract_lets +onlyGivenNames x4; clear_value x4
  extract_lets +onlyGivenNames x5; clear_value x5
  extract_lets +onlyGivenNames x6
  have h7 : Kept s₀ x6 := by
    unfold x6
    refine State.wf_kept ?_
    exact State.modTile_kept k1
  clear_value x6
  extract_lets +onlyGivenNames x8
  have h9 : Kept s₀ x8 := by
    unfold x8
    refine Kept.ite ?_ ?_
    · exact State.countTile_kept h7
    · exact h7
  clear_value x8
  extract_lets +onlyGivenNames x10
  have h11 : Kept s₀ x10 := by
    unfold x10
    refine Kept.ite ?_ ?_
    · exact State.countTile_kept h9
    · exact h9
  clear_value x10
  extract_lets +onlyGivenNames x12
  have h13 : Kept s₀ x12 := by unfold x12; exact State.wf_kept h11
  clear_value x12
  extract_lets +onlyGivenNames x14
  have h15 : ∀ y0, Kept s₀ y0 → Kept s₀ (x14 y0) := by
    unfold x14
    intro v16 h17
    refine State.irqEdge_kept ?_
    exact State.emit_kept h17
  clear_value x14
  refine KeptO.next ?_
  refine Kept.ite ?_ ?_
  · refine h15 _ ?_
    refine State.countTile_kept ?_
    refine State.incSat_kept ?_
    exact h13.congr rfl
  · refine Kept.ite ?_ ?_
    · refine h15 _ ?_
      exact h13
    · exact h13

/-! ## Destage -/
theorem State.lend_kept {s₀ : State} {a0} {a1} (k0 : Kept s₀ a0) : Kept s₀ (State.lend a0 a1).1 := by
  unfold State.lend
  extract_lets +onlyGivenNames x0
  have h1 : Kept s₀ x0.1 := by unfold x0; exact State.takePlace_kept k0
  clear_value x0
  split
  · rename_i m2 m3 m4
    refine Kept.fst ?_
    refine State.modTile_kept ?_
    refine State.wearPlace_kept ?_
    refine State.placeTo_kept ?_
    exact h1
  · rename_i m5 m6
    refine Kept.fst ?_
    exact h1
theorem State.addFrond_kept {s₀ : State} {a0} {a1} (k0 : Kept s₀ a0) : Kept s₀ (State.addFrond a0 a1).1 := by
  unfold State.addFrond
  split
  · rename_i m0 m1 m2
    split
    · refine Kept.fst ?_
      exact State.modTile_kept k0
    · exact State.lend_kept k0
  · rename_i m3 m4
    exact State.lend_kept k0
theorem State.advanceTail_kept {s₀ : State} {a0} {a1} (k0 : Kept s₀ a0) : Kept s₀ (State.advanceTail a0 a1) := by
  unfold State.advanceTail
  extract_lets +onlyGivenNames x0; clear_value x0
  extract_lets +onlyGivenNames x1; clear_value x1
  extract_lets +onlyGivenNames x2; clear_value x2
  extract_lets +onlyGivenNames x3; clear_value x3
  extract_lets +onlyGivenNames x4; clear_value x4
  extract_lets +onlyGivenNames x5
  have h6 : Kept s₀ x5 := by unfold x5; exact State.modTile_kept k0
  clear_value x5
  extract_lets +onlyGivenNames x7; clear_value x7
  refine State.undRefreshAll_kept ?_
  refine each_keep (fun r => Kept s₀ r) ?_ ?_
  · exact h6
  · intro v8 v9 h10
    exact State.releasePlace_kept h10
theorem State.mediumLine_kept {s₀ : State} {a0} {a1} {a2} {a3} {a4} {a5} {a6} {a7} (k0 : Kept s₀ a0) : Kept s₀ (State.mediumLine a0 a1 a2 a3 a4 a5 a6 a7).2 := by
  unfold State.mediumLine
  split
  · rename_i m0 m1 m2 m3
    extract_lets +onlyGivenNames x4
    have h5 : Kept s₀ x4 := by
      unfold x4
      refine State.countCheck_kept ?_
      exact State.chargeRead_kept k0
    clear_value x4
    refine Kept.snd ?_
    refine Kept.ite ?_ ?_
    · exact State.report_kept h5
    · exact h5
  · rename_i m6 m7 m8
    extract_lets +onlyGivenNames x9
    have h10 : Kept s₀ x9 := by unfold x9; exact State.chargeRead_kept k0
    clear_value x9
    refine Kept.snd ?_
    refine State.report_kept ?_
    exact h10.congr rfl
  · rename_i m11 m12
    extract_lets +onlyGivenNames x13
    have h14 : Kept s₀ x13 := by unfold x13; exact State.chargeRead_kept k0
    clear_value x13
    refine Kept.snd ?_
    refine State.report_kept ?_
    exact h14.congr rfl
theorem State.destageLine_kept {s₀ : State} {a0} {a1} {a2} {a3} {a4} {a5} (k0 : Kept s₀ a0) : Kept s₀ (State.destageLine a0 a1 a2 a3 a4 a5).2 := by
  unfold State.destageLine
  split
  · rename_i m0 m1 m2
    refine Kept.snd ?_
    exact k0
  · rename_i m3 m4
    split
    · rename_i m5 m6
      refine Kept.snd ?_
      exact k0
    · rename_i m7 m8
      refine Kept.snd ?_
      exact k0
    · rename_i m9 m10 m11 m12 m13
      exact State.mediumLine_kept k0
theorem State.noteRebuild_kept {s₀ : State} {a0} {a1} (k0 : Kept s₀ a0) : Kept s₀ (State.noteRebuild a0 a1) := by
  unfold State.noteRebuild
  refine each_keep (fun r => Kept s₀ r) ?_ ?_
  · exact k0
  · intro v0 v1 h2
    refine State.wf_kept ?_
    exact State.modTile_kept h2
theorem State.programStripe_kept {s₀ : State} {a0} {a1} {a2} (k0 : Kept s₀ a0) : Kept s₀ (State.programStripe a0 a1 a2) := by
  unfold State.programStripe
  split
  · rename_i m0 m1
    exact k0
  · rename_i m2 m3 m4
    extract_lets +onlyGivenNames x5; clear_value x5
    extract_lets +onlyGivenNames x6; clear_value x6
    extract_lets +onlyGivenNames x7; clear_value x7
    extract_lets +onlyGivenNames x8; clear_value x8
    extract_lets +onlyGivenNames x9; clear_value x9
    extract_lets +onlyGivenNames x10
    have h11 : Kept s₀ x10 := by unfold x10; exact State.modTile_kept k0
    clear_value x10
    extract_lets +onlyGivenNames x12
    have h13 : Kept s₀ x12 := by
      unfold x12
      refine each_keep (fun r => Kept s₀ r) ?_ ?_
      · exact h11
      · intro v14 v15 h16
        exact State.submit_kept h16
    clear_value x12
    refine State.countTile_kept ?_
    exact State.noteRebuild_kept h13
theorem State.logPut_kept {s₀ : State} {a0} {a1} {a2} {a3} {a4} {a5} (k0 : Kept s₀ a0) : Kept s₀ (State.logPut a0 a1 a2 a3 a4 a5) := by
  unfold State.logPut
  extract_lets +onlyGivenNames x0; clear_value x0
  extract_lets +onlyGivenNames x1; clear_value x1
  extract_lets +onlyGivenNames x2; clear_value x2
  refine Kept.ite ?_ ?_
  · exact State.programStripe_kept k0
  · exact State.modTile_kept k0
theorem State.appendLeaf_kept {s₀ : State} {a0} {a1} {a2} {a3} {a4} {a5} {a6} (k0 : Kept s₀ a0) : Kept s₀ (State.appendLeaf a0 a1 a2 a3 a4 a5 a6) := by
  unfold State.appendLeaf
  refine each_keep (fun r => Kept s₀ r) ?_ ?_
  · exact k0
  · intro v0 v1 h2
    extract_lets +onlyGivenNames x3
    have h4 : Kept s₀ x3.2 := by unfold x3; exact State.destageLine_kept h2
    clear_value x3
    refine State.logPut_kept ?_
    exact h4
theorem State.logSkip_kept {s₀ : State} {a0} {a1} {a2} {a3} (k0 : Kept s₀ a0) : Kept s₀ (State.logSkip a0 a1 a2 a3) := by
  unfold State.logSkip
  extract_lets +onlyGivenNames x0; clear_value x0
  refine each_keep (fun r => Kept s₀ r) ?_ ?_
  · exact k0
  · intro v1 v2 h3
    refine Kept.ite ?_ ?_
    · split
      · rename_i m4 m5 m6
        refine Kept.ite ?_ ?_
        · exact h3
        · exact State.programStripe_kept h3
      · rename_i m7 m8
        refine Kept.ite ?_ ?_
        · exact State.programStripe_kept h3
        · exact h3
    · exact h3
theorem State.destageAt_kept {s₀ : State} {a0} {a1} {a2} {a3} {a4} {a5} (k0 : Kept s₀ a0) : Kept s₀ (State.destageAt a0 a1 a2 a3 a4 a5) := by
  unfold State.destageAt
  extract_lets +onlyGivenNames x0; clear_value x0
  extract_lets +onlyGivenNames x1; clear_value x1
  extract_lets +onlyGivenNames x2; clear_value x2
  extract_lets +onlyGivenNames x3
  have h4 : Kept s₀ x3 := by
    unfold x3
    refine State.modTile_kept ?_
    exact State.logSkip_kept k0
  clear_value x3
  extract_lets +onlyGivenNames x5
  have h6 : Kept s₀ x5 := by unfold x5; exact State.appendLeaf_kept h4
  clear_value x5
  extract_lets +onlyGivenNames x7
  have h8 : Kept s₀ x7 := by unfold x7; exact State.modTile_kept h6
  clear_value x7
  refine State.undRefresh_kept ?_
  refine State.countTile_kept ?_
  refine State.countTile_kept ?_
  exact State.countTile_kept h8
theorem State.heldFail_kept {s₀ : State} {a0} {a1} (k0 : Kept s₀ a0) : Kept s₀ (State.heldFail a0 a1) := by
  unfold State.heldFail
  refine Kept.ite ?_ ?_
  · refine each_keep (fun r => Kept s₀ r) ?_ ?_
    · exact k0
    · intro v0 v1 h2
      exact State.releaseHeld_kept h2
  · exact k0
theorem State.enterReadOnly_kept {s₀ : State} {a0} (k0 : Kept s₀ a0) : Kept s₀ (State.enterReadOnly a0) := by
  unfold State.enterReadOnly
  refine State.heldFail_kept ?_
  exact State.setReadOnly_kept k0
theorem State.killPlace_kept {s₀ : State} {a0} {a1} {a2} (k0 : Kept s₀ a0) : Kept s₀ (State.killPlace a0 a1 a2) := by
  unfold State.killPlace
  refine State.heldFail_kept ?_
  exact State.markDead_kept k0
theorem State.logDone_kept {s₀ : State} {a0} {a1} {a2} {a3} (k0 : Kept s₀ a0) : Kept s₀ (State.logDone a0 a1 a2 a3) := by
  unfold State.logDone
  exact State.modTile_kept k0
theorem State.reappend_kept {s₀ : State} {a0} {a1} (k0 : Kept s₀ a0) : Kept s₀ (State.reappend a0 a1) := by
  unfold State.reappend
  refine each_keep (fun r => Kept s₀ r) ?_ ?_
  · exact k0
  · intro v0 v1 h2
    split
    · rename_i m3 m4 m5
      exact State.modTile_kept h2
    · rename_i m6 m7
      exact h2
theorem State.logFailed_kept {s₀ : State} {a0} {a1} {a2} (k0 : Kept s₀ a0) : Kept s₀ (State.logFailed a0 a1 a2) := by
  unfold State.logFailed
  split
  · rename_i m0 m1
    exact k0
  · rename_i m2 m3 m4
    extract_lets +onlyGivenNames x5; clear_value x5
    extract_lets +onlyGivenNames x6; clear_value x6
    extract_lets +onlyGivenNames x7; clear_value x7
    extract_lets +onlyGivenNames x8
    have h9 : Kept s₀ x8 := by unfold x8; exact State.modTile_kept k0
    clear_value x8
    extract_lets +onlyGivenNames x10; subst x10
    extract_lets +onlyGivenNames x11
    have h12 : Kept s₀ x11 := by unfold x11; exact h9.congr rfl
    clear_value x11
    extract_lets +onlyGivenNames x13; clear_value x13
    extract_lets +onlyGivenNames x14
    have h15 : Kept s₀ x14 := by unfold x14; exact State.report_kept h12
    clear_value x14
    refine State.reappend_kept ?_
    exact State.killPlace_kept h15
theorem State.logSpot_kept {s₀ : State} {a0} {a1} {a2} {a3} (k0 : Kept s₀ a0) : Kept s₀ (State.logSpot a0 a1 a2 a3).1 := by
  induction' a2 with n ih generalizing a0 a3
  · unfold State.logSpot
    refine Kept.fst ?_
    exact k0
  · unfold State.logSpot
    extract_lets +onlyGivenNames x0; clear_value x0
    split
    · rename_i m1 m2 m3
      extract_lets +onlyGivenNames x4
      have h5 : Kept s₀ x4.1 := by unfold x4; exact State.addFrond_kept k0
      clear_value x4
      split
      · refine ih ?_
        exact h5
      · refine Kept.fst ?_
        exact h5
    · rename_i m6 m7 m8 m9 m10
      split
      · extract_lets +onlyGivenNames x11
        have h12 : Kept s₀ x11.1 := by unfold x11; exact State.addFrond_kept k0
        clear_value x11
        split
        · refine ih ?_
          exact h12
        · refine Kept.fst ?_
          exact h12
      · exact ih k0
    · rename_i m13 m14 m15 m16 m17 m18
      split
      · exact ih k0
      · split
        · rename_i m19 m20 m21
          exact ih k0
        · rename_i m22 m23
          refine Kept.fst ?_
          exact k0
theorem execDestageLeaf_kept {s₀ : State} {a0} {a1} {a2} (k2 : Kept s₀ a2) : KeptO s₀ (execDestageLeaf a0 a1 a2) := by
  unfold execDestageLeaf
  refine KeptO.next ?_
  refine State.onAwake_kept k2 ?_
  intro v0 h1
  refine Kept.ite ?_ ?_
  · exact h1
  · split
    · rename_i m2 m3
      exact h1
    · rename_i m4 m5 m6
      split
      · rename_i m7 m8
        exact State.modTile_kept h1
      · rename_i m9 m10 m11
        split
        · rename_i m12 m13
          exact h1
        · rename_i m14 m15 m16
          extract_lets +onlyGivenNames x17
          have h18 : Kept s₀ x17 := by
            unfold x17
            refine each_keep (fun r => Kept s₀ r) ?_ ?_
            · exact State.loadPath_kept h1
            · intro v19 v20 h21
              exact State.meetAt_kept h21
          clear_value x17
          extract_lets +onlyGivenNames x22
          have h23 : Kept s₀ x22.1 := by unfold x22; exact State.logSpot_kept h18
          clear_value x22
          split
          · rename_i m24 m25 m26
            refine State.destageAt_kept ?_
            exact h23
          · rename_i m27 m28
            exact h23
theorem execLeafSwitch_kept {s₀ : State} {a0} {a1} {a2} (k2 : Kept s₀ a2) : KeptO s₀ (execLeafSwitch a0 a1 a2) := by
  unfold execLeafSwitch
  refine KeptO.next ?_
  split
  · rename_i m0 m1
    exact k2
  · rename_i m2 m3 m4
    refine Kept.ite ?_ ?_
    · exact k2
    · extract_lets +onlyGivenNames x5
      have h6 : ∀ y0, Kept s₀ y0 → Kept s₀ (x5 y0) := by
        unfold x5
        intro v7 h8
        exact State.modTile_kept h8
      clear_value x5
      split
      · rename_i m9 m10
        refine State.advanceTail_kept ?_
        refine h6 _ ?_
        exact k2
      · rename_i m11 m12 m13
        extract_lets +onlyGivenNames x14; clear_value x14
        refine Kept.ite ?_ ?_
        · refine State.advanceTail_kept ?_
          refine State.countTile_kept ?_
          refine h6 _ ?_
          exact k2
        · extract_lets +onlyGivenNames x15
          have h16 : Kept s₀ x15 := by
            unfold x15
            refine State.setLeaf_kept ?_
            exact State.mapRoom_kept k2
          clear_value x15
          extract_lets +onlyGivenNames x17
          have h18 : Kept s₀ x17 := by unfold x17; exact State.modTile_kept h16
          clear_value x17
          extract_lets +onlyGivenNames x19
          have h20 : Kept s₀ x19 := by unfold x19; exact State.modTile_kept h18
          clear_value x19
          refine State.advanceTail_kept ?_
          refine h6 _ ?_
          exact h20
theorem execLineStripeFillTimeout_kept {s₀ : State} {a0} {a1} (k1 : Kept s₀ a1) : KeptO s₀ (execLineStripeFillTimeout a0 a1) := by
  unfold execLineStripeFillTimeout
  extract_lets +onlyGivenNames x0; clear_value x0
  refine KeptO.next ?_
  split
  · rename_i m1 m2 m3
    refine State.undRefresh_kept ?_
    refine State.modTile_kept ?_
    exact State.programStripe_kept k1
  · rename_i m4 m5
    exact k1
theorem execLingerExpire_kept {s₀ : State} {a0} {a1} {a2} (k2 : Kept s₀ a2) : KeptO s₀ (execLingerExpire a0 a1 a2) := by
  unfold execLingerExpire
  refine KeptO.next ?_
  refine State.wakeTile_kept ?_
  exact State.modTile_kept k2

/-! ## StemCopy -/
theorem State.ageFlag_kept {s₀ : State} {a0} {a1} (k0 : Kept s₀ a0) : Kept s₀ (State.ageFlag a0 a1) := by
  unfold State.ageFlag
  exact State.wf_kept k0
theorem State.freeSource_kept {s₀ : State} {a0} {a1} (k0 : Kept s₀ a0) : Kept s₀ (State.freeSource a0 a1) := by
  unfold State.freeSource
  refine Kept.ite ?_ ?_
  · exact k0
  · refine Kept.ite ?_ ?_
    · exact State.releasePlace_kept k0
    · extract_lets +onlyGivenNames x0; clear_value x0
      extract_lets +onlyGivenNames x1
      have h2 : Kept s₀ x1 := by unfold x1; exact State.killPlace_kept k0
      clear_value x1
      refine Kept.ite ?_ ?_
      · exact h2.congr rfl
      · exact h2
theorem State.dropCopied_kept {s₀ : State} {a0} {a1} {a2} (k0 : Kept s₀ a0) : Kept s₀ (State.dropCopied a0 a1 a2) := by
  unfold State.dropCopied
  refine each_keep (fun r => Kept s₀ r) ?_ ?_
  · exact k0
  · intro v0 v1 h2
    extract_lets +onlyGivenNames x3; clear_value x3
    extract_lets +onlyGivenNames x4; clear_value x4
    extract_lets +onlyGivenNames x5; clear_value x5
    split
    · rename_i m6 m7 m8
      refine Kept.ite ?_ ?_
      · refine State.trimFilter_kept ?_
        refine State.setLeaf_kept ?_
        exact State.mapRoom_kept h2
      · exact h2
    · rename_i m9 m10
      exact h2
    · rename_i m11 m12
      refine Kept.ite ?_ ?_
      · refine State.setLeaf_kept ?_
        exact State.mapRoom_kept h2
      · exact h2
theorem State.emptyStem_kept {s₀ : State} {a0} {a1} {a2} (k0 : Kept s₀ a0) : Kept s₀ (State.emptyStem a0 a1 a2) := by
  unfold State.emptyStem
  extract_lets +onlyGivenNames x0; clear_value x0
  extract_lets +onlyGivenNames x1
  have h2 : Kept s₀ x1 := by
    unfold x1
    refine State.setStem_kept ?_
    exact State.mapRoom_kept k0
  clear_value x1
  refine State.advanceTail_kept ?_
  refine State.ageFlag_kept ?_
  refine State.countTile_kept ?_
  refine State.freeSource_kept ?_
  exact State.dropCopied_kept h2
theorem State.bumpSpareBlocks_kept {s₀ : State} {a0} {a1} (k0 : Kept s₀ a0) : Kept s₀ (State.bumpSpareBlocks a0 a1) := by
  unfold State.bumpSpareBlocks
  exact k0.congr rfl
theorem State.spareOut_kept {s₀ : State} {a0} {a1} (k0 : Kept s₀ a0) : Kept s₀ (State.spareOut a0 a1) := by
  unfold State.spareOut
  extract_lets +onlyGivenNames x0
  have h1 : Kept s₀ x0 := by
    unfold x0
    refine Kept.ite ?_ ?_
    · exact k0
    · refine State.bumpSpareBlocks_kept ?_
      refine State.irqEdge_kept ?_
      refine State.emit_kept ?_
      exact State.wf_kept k0
  clear_value x0
  refine Kept.ite ?_ ?_
  · exact State.enterReadOnly_kept h1
  · exact h1
theorem State.reappendStem_kept {s₀ : State} {a0} {a1} {a2} (k0 : Kept s₀ a0) : Kept s₀ (State.reappendStem a0 a1 a2) := by
  unfold State.reappendStem
  extract_lets +onlyGivenNames x0; clear_value x0
  refine each_keep (fun r => Kept s₀ r) ?_ ?_
  · exact k0
  · intro v1 v2 h3
    split
    · rename_i m4 m5 m6
      exact State.modTile_kept h3
    · rename_i m7 m8
      exact h3
theorem State.copyMajors_kept {s₀ : State} {a0} {a1} {a2} {a3} (k0 : Kept s₀ a0) : Kept s₀ (State.copyMajors a0 a1 a2 a3) := by
  unfold State.copyMajors
  refine Kept.ite ?_ ?_
  · exact k0
  · refine each_keep (fun r => Kept s₀ r) ?_ ?_
    · exact k0
    · intro v0 v1 h2
      extract_lets +onlyGivenNames x3; clear_value x3
      extract_lets +onlyGivenNames x4; clear_value x4
      refine Kept.ite ?_ ?_
      · refine State.newMajor_kept ?_
        exact State.loadPath_kept h2
      · exact h2
theorem State.copyHostLine_kept {s₀ : State} {a0} {a1} {a2} {a3} {a4} (k0 : Kept s₀ a0) : Kept s₀ (State.copyHostLine a0 a1 a2 a3 a4).2 := by
  unfold State.copyHostLine
  extract_lets +onlyGivenNames x0; clear_value x0
  extract_lets +onlyGivenNames x1; clear_value x1
  extract_lets +onlyGivenNames x2; clear_value x2
  extract_lets +onlyGivenNames x3
  have h4 : Kept s₀ x3 := by unfold x3; exact k0.congr rfl
  clear_value x3
  extract_lets +onlyGivenNames x5; clear_value x5
  extract_lets +onlyGivenNames x6
  have h7 : ∀ y0 y1, Kept s₀ (x6 y0 y1).2 := by
    unfold x6
    intro v8 v9
    split
    · refine Kept.snd ?_
      exact State.report_kept h4
    · extract_lets +onlyGivenNames x10; clear_value x10
      extract_lets +onlyGivenNames x11
      have h12 : Kept s₀ x11 := by unfold x11; exact State.chargeRead_kept h4
      clear_value x11
      split
      · rename_i m13 m14 m15
        refine Kept.snd ?_
        refine State.countCheck_kept ?_
        refine Kept.ite ?_ ?_
        · refine State.rewriteLine_kept ?_
          exact State.report_kept h12
        · exact h12
      · rename_i m16 m17
        refine Kept.snd ?_
        refine State.rewriteLine_kept ?_
        refine State.report_kept ?_
        exact h12.congr rfl
      · rename_i m18
        refine Kept.snd ?_
        refine State.report_kept ?_
        exact h12.congr rfl
  clear_value x6
  split
  · rename_i m19 m20
    refine Kept.snd ?_
    exact k0
  · rename_i m21 m22
    extract_lets +onlyGivenNames x23; clear_value x23
    refine h7 _ _
  · rename_i m24 m25 m26
    split
    · refine Kept.snd ?_
      exact k0
    · split
      · refine Kept.snd ?_
        exact k0
      · extract_lets +onlyGivenNames x27; clear_value x27
        refine h7 _ _
theorem State.copyLine_kept {s₀ : State} {a0} {a1} {a2} {a3} {a4} (k0 : Kept s₀ a0) : Kept s₀ (State.copyLine a0 a1 a2 a3 a4).2 := by
  unfold State.copyLine
  extract_lets +onlyGivenNames x0; clear_value x0
  split
  · split
    · refine Kept.snd ?_
      exact k0
    · exact State.copyHostLine_kept k0
  · split
    · refine Kept.snd ?_
      exact k0
    · split
      · refine Kept.snd ?_
        exact k0
      · split
        · rename_i m1 m2 m3
          exact State.copyHostLine_kept k0
        · rename_i m4 m5
          refine Kept.snd ?_
          exact k0
theorem State.copyMember_kept {s₀ : State} {a0} {a1} {a2} {a3} {a4} {a5} {a6} (k0 : Kept s₀ a0) : Kept s₀ (State.copyMember a0 a1 a2 a3 a4 a5 a6).2 := by
  unfold State.copyMember
  split
  · exact State.copyLine_kept k0
  · extract_lets +onlyGivenNames x0
    have h1 : Kept s₀ x0.2 := by
      unfold x0
      refine each_keep (fun (r : List (ℕ × List ℕ) × State) => Kept s₀ r.2) ?_ ?_
      · refine Kept.snd ?_
        exact k0
      · intro v2 v3 h4
        extract_lets +onlyGivenNames x5
        have h6 : Kept s₀ x5.2 := by
          unfold x5
          refine State.copyLine_kept ?_
          exact h4
        clear_value x5
        refine Kept.snd ?_
        exact h6
    clear_value x0
    extract_lets +onlyGivenNames x7; clear_value x7
    refine Kept.snd ?_
    exact h1
theorem State.putCopy_kept {s₀ : State} {a0} {a1} {a2} (k0 : Kept s₀ a0) : Kept s₀ (State.putCopy a0 a1 a2) := by
  unfold State.putCopy
  exact State.modTile_kept k0
theorem State.startSheet_kept {s₀ : State} {a0} {a1} {a2} {a3} {a4} {a5} (k0 : Kept s₀ a0) : Kept s₀ (State.startSheet a0 a1 a2 a3 a4 a5) := by
  unfold State.startSheet
  extract_lets +onlyGivenNames x0; clear_value x0
  extract_lets +onlyGivenNames x1; clear_value x1
  extract_lets +onlyGivenNames x2; clear_value x2
  extract_lets +onlyGivenNames x3; clear_value x3
  extract_lets +onlyGivenNames x4
  have h5 : Kept s₀ x4 := by
    unfold x4
    refine each_keep (fun r => Kept s₀ r) ?_ ?_
    · exact k0
    · intro v6 v7 h8
      extract_lets +onlyGivenNames x9
      have h10 : Kept s₀ x9.2 := by unfold x9; exact State.copyMember_kept h8
      clear_value x9
      refine State.submit_kept ?_
      exact h10
  clear_value x4
  refine State.putCopy_kept ?_
  exact State.submit_kept h5
theorem State.sheetGo_kept {s₀ : State} {a0} {a1} {a2} {a3} {a4} (k0 : Kept s₀ a0) : Kept s₀ (State.sheetGo a0 a1 a2 a3 a4) := by
  unfold State.sheetGo
  extract_lets +onlyGivenNames x0; clear_value x0
  extract_lets +onlyGivenNames x1
  have h2 : Kept s₀ x1 := by
    unfold x1
    refine Kept.ite ?_ ?_
    · exact k0
    · refine each_keep (fun r => Kept s₀ r) ?_ ?_
      · exact k0
      · intro v3 v4 h5
        exact State.noteRebuild_kept h5
  clear_value x1
  extract_lets +onlyGivenNames x6; clear_value x6
  refine Kept.ite ?_ ?_
  · exact State.startSheet_kept h2
  · refine State.countTile_kept ?_
    exact State.putCopy_kept h2
theorem State.copyAdvance_kept {s₀ : State} {a0} {a1} {a2} (k0 : Kept s₀ a0) : Kept s₀ (State.copyAdvance a0 a1 a2) := by
  unfold State.copyAdvance
  refine Kept.ite ?_ ?_
  · exact k0
  · refine each_keep (fun r => Kept s₀ r) ?_ ?_
    · exact k0
    · intro v0 v1 h2
      split
      · rename_i m3 m4
        exact h2
      · rename_i m5 m6 m7
        split
        · rename_i m8 m9
          exact h2
        · rename_i m10 m11 m12
          refine Kept.ite ?_ ?_
          · refine Kept.ite ?_ ?_
            · exact State.sheetGo_kept h2
            · exact h2
          · refine Kept.ite ?_ ?_
            · exact State.sheetGo_kept h2
            · exact h2
theorem State.beginCopy_kept {s₀ : State} {a0} {a1} {a2} {a3} (k0 : Kept s₀ a0) : Kept s₀ (State.beginCopy a0 a1 a2 a3) := by
  unfold State.beginCopy
  extract_lets +onlyGivenNames x0; clear_value x0
  extract_lets +onlyGivenNames x1
  have h2 : Kept s₀ x1 := by unfold x1; exact State.modTile_kept k0
  clear_value x1
  split
  · rename_i m3 m4
    exact h2
  · rename_i m5 m6 m7
    extract_lets +onlyGivenNames x8; clear_value x8
    extract_lets +onlyGivenNames x9; clear_value x9
    refine Kept.ite ?_ ?_
    · exact State.emptyStem_kept h2
    · extract_lets +onlyGivenNames x10
      have h11 : Kept s₀ x10.1 := by unfold x10; exact State.takePlace_kept h2
      clear_value x10
      split
      · rename_i m12 m13
        extract_lets +onlyGivenNames x14
        have h15 : Kept s₀ x14 := by
          unfold x14
          refine State.spareOut_kept ?_
          exact h11
        clear_value x14
        refine Kept.ite ?_ ?_
        · exact State.reappendStem_kept h15
        · refine Kept.ite ?_ ?_
          · exact h15
          · refine Kept.ite ?_ ?_
            · exact State.modTile_kept h15
            · exact State.modTile_kept h15
      · rename_i m16 m17 m18
        extract_lets +onlyGivenNames x19
        have h20 : Kept s₀ x19 := by
          unfold x19
          refine State.wf_kept ?_
          refine State.wearPlace_kept ?_
          refine State.placeTo_kept ?_
          exact h11
        clear_value x19
        extract_lets +onlyGivenNames x21; clear_value x21
        extract_lets +onlyGivenNames x22
        have h23 : Kept s₀ x22 := by
          unfold x22
          split
          · rename_i m24 m25 m26
            exact State.copyMajors_kept h20
          · rename_i m27 m28
            exact h20
        clear_value x22
        refine State.copyAdvance_kept ?_
        exact State.modTile_kept h23
theorem State.dropCopy_kept {s₀ : State} {a0} {a1} {a2} (k0 : Kept s₀ a0) : Kept s₀ (State.dropCopy a0 a1 a2) := by
  unfold State.dropCopy
  exact State.modTile_kept k0
theorem State.stopCopy_kept {s₀ : State} {a0} {a1} {a2} (k0 : Kept s₀ a0) : Kept s₀ (State.stopCopy a0 a1 a2) := by
  unfold State.stopCopy
  extract_lets +onlyGivenNames x0
  have h1 : Kept s₀ x0 := by
    unfold x0
    refine each_keep (fun r => Kept s₀ r) ?_ ?_
    · exact k0
    · intro v2 v3 h4
      extract_lets +onlyGivenNames x5; clear_value x5
      extract_lets +onlyGivenNames x6
      have h7 : Kept s₀ x6 := by unfold x6; exact State.modChan_kept h4
      clear_value x6
      refine Kept.ite ?_ ?_
      · exact State.submit_kept h7
      · exact h7
  clear_value x0
  exact State.dropCopy_kept h1
theorem State.copyFail_kept {s₀ : State} {a0} {a1} {a2} {a3} {a4} {a5} (k0 : Kept s₀ a0) : Kept s₀ (State.copyFail a0 a1 a2 a3 a4 a5) := by
  unfold State.copyFail
  extract_lets +onlyGivenNames x0
  have h1 : Kept s₀ x0 := by unfold x0; exact State.stopCopy_kept k0
  clear_value x0
  extract_lets +onlyGivenNames x2; subst x2
  extract_lets +onlyGivenNames x3
  have h4 : Kept s₀ x3 := by
    unfold x3
    refine Kept.ite ?_ ?_
    · exact h1.congr rfl
    · exact h1.congr rfl
  clear_value x3
  extract_lets +onlyGivenNames x5; clear_value x5
  extract_lets +onlyGivenNames x6; clear_value x6
  extract_lets +onlyGivenNames x7
  have h8 : Kept s₀ x7 := by unfold x7; exact State.report_kept h4
  clear_value x7
  extract_lets +onlyGivenNames x9
  have h10 : Kept s₀ x9 := by
    unfold x9
    refine Kept.ite ?_ ?_
    · exact State.countTile_kept h8
    · exact h8
  clear_value x9
  refine State.beginCopy_kept ?_
  refine State.countTile_kept ?_
  exact State.killPlace_kept h10
theorem State.rebuildEntry_kept {s₀ : State} {a0} {a1} {a2} (k0 : Kept s₀ a0) : Kept s₀ (State.rebuildEntry a0 a1 a2) := by
  unfold State.rebuildEntry
  split
  · rename_i m0 m1 m2 m3
    extract_lets +onlyGivenNames x4; clear_value x4
    refine State.setStem_kept ?_
    exact State.mapRoom_kept k0
  · rename_i m5 m6
    refine Kept.ite ?_ ?_
    · refine State.setStem_kept ?_
      exact State.mapRoom_kept k0
    · exact k0
theorem State.sheetDone_kept {s₀ : State} {a0} {a1} {a2} {a3} {a4} {a5} {a6} (k0 : Kept s₀ a0) : Kept s₀ (State.sheetDone a0 a1 a2 a3 a4 a5 a6) := by
  unfold State.sheetDone
  split
  · rename_i m0 m1
    exact k0
  · rename_i m2 m3 m4
    refine Kept.ite ?_ ?_
    · exact k0
    · refine Kept.ite ?_ ?_
      · exact State.putCopy_kept k0
      · exact State.copyFail_kept k0
theorem execCensusEnd_kept {s₀ : State} {a0} {a1} (k1 : Kept s₀ a1) : KeptO s₀ (execCensusEnd a0 a1) := by
  unfold execCensusEnd
  refine KeptO.next ?_
  refine Kept.ite ?_ ?_
  · extract_lets +onlyGivenNames x0; clear_value x0
    extract_lets +onlyGivenNames x1
    have h2 : Kept s₀ x1 := by
      unfold x1
      refine State.modTile_kept ?_
      refine each_keep (fun r => Kept s₀ r) ?_ ?_
      · exact k1
      · intro v3 v4 h5
        exact State.rebuildEntry_kept h5
    clear_value x1
    refine State.undRefreshAll_kept ?_
    refine State.emit_kept ?_
    exact State.wf_kept h2
  · exact k1
theorem execFilterRebuildDone_kept {s₀ : State} {a0} {a1} (k1 : Kept s₀ a1) : KeptO s₀ (execFilterRebuildDone a0 a1) := by
  unfold execFilterRebuildDone
  refine KeptO.next ?_
  refine State.wf_kept ?_
  exact State.modTile_kept k1
theorem execRefreshDue_kept {s₀ : State} {a0} {a1} {a2} (k2 : Kept s₀ a2) : KeptO s₀ (execRefreshDue a0 a1 a2) := by
  unfold execRefreshDue
  extract_lets +onlyGivenNames x0; clear_value x0
  refine KeptO.next ?_
  refine Kept.ite ?_ ?_
  · refine State.wakeTile_kept ?_
    exact State.modTile_kept k2
  · exact k2
theorem execSheetReadback_kept {s₀ : State} {a0} {a1} {a2} (k2 : Kept s₀ a2) : KeptO s₀ (execSheetReadback a0 a1 a2) := by
  unfold execSheetReadback
  refine KeptO.next ?_
  split
  · rename_i m0 m1
    exact k2
  · rename_i m2 m3 m4
    split
    · rename_i m5 m6
      exact k2
    · rename_i m7 m8 m9 m10 m11
      extract_lets +onlyGivenNames x12; clear_value x12
      refine Kept.ite ?_ ?_
      · extract_lets +onlyGivenNames x13; clear_value x13
        extract_lets +onlyGivenNames x14
        have h15 : Kept s₀ x14 := by
          unfold x14
          refine Kept.ite ?_ ?_
          · exact State.countTile_kept k2
          · exact k2
        clear_value x14
        refine State.copyAdvance_kept ?_
        exact State.putCopy_kept h15
      · exact State.copyFail_kept k2
theorem execStemCopyAbandon_kept {s₀ : State} {a0} {a1} {a2} (k2 : Kept s₀ a2) : KeptO s₀ (execStemCopyAbandon a0 a1 a2) := by
  unfold execStemCopyAbandon
  refine KeptO.next ?_
  split
  · rename_i m0 m1
    exact k2
  · rename_i m2 m3 m4
    refine Kept.ite ?_ ?_
    · exact k2
    · extract_lets +onlyGivenNames x5
      have h6 : Kept s₀ x5 := by
        unfold x5
        refine State.countTile_kept ?_
        refine State.releasePlace_kept ?_
        exact State.stopCopy_kept k2
      clear_value x5
      split
      · rename_i m7 m8
        exact State.modTile_kept h6
      · rename_i m9 m10
        exact h6
      · rename_i m11 m12
        exact h6
      · rename_i m13 m14 m15 m16
        exact State.modTile_kept h6
theorem execStemCopyStart_kept {s₀ : State} {a0} {a1} (k1 : Kept s₀ a1) : KeptO s₀ (execStemCopyStart a0 a1) := by
  unfold execStemCopyStart
  refine KeptO.next ?_
  refine State.onAwake_kept k1 ?_
  intro v0 h1
  refine Kept.ite ?_ ?_
  · exact h1
  · extract_lets +onlyGivenNames x2
    have h3 : Kept s₀ x2 := by
      unfold x2
      refine each_keep (fun r => Kept s₀ r) ?_ ?_
      · exact h1
      · intro v4 v5 h6
        exact State.copyAdvance_kept h6
    clear_value x2
    split
    · rename_i m7 m8 m9
      exact State.beginCopy_kept h3
    · rename_i m10 m11
      exact h3
theorem execStemMapResident_kept {s₀ : State} {a0} {a1} (k1 : Kept s₀ a1) : KeptO s₀ (execStemMapResident a0 a1) := by
  unfold execStemMapResident
  refine KeptO.next ?_
  refine Kept.ite ?_ ?_
  · exact k1
  · exact State.wf_kept k1
theorem execStemSwitch_kept {s₀ : State} {a0} {a1} {a2} (k2 : Kept s₀ a2) : KeptO s₀ (execStemSwitch a0 a1 a2) := by
  unfold execStemSwitch
  refine KeptO.next ?_
  split
  · rename_i m0 m1
    exact k2
  · rename_i m2 m3 m4
    refine Kept.ite ?_ ?_
    · exact k2
    · extract_lets +onlyGivenNames x5; clear_value x5
      extract_lets +onlyGivenNames x6
      have h7 : Kept s₀ x6 := by
        unfold x6
        refine State.setStem_kept ?_
        exact State.mapRoom_kept k2
      clear_value x6
      extract_lets +onlyGivenNames x8
      have h9 : Kept s₀ x8 := by
        unfold x8
        refine State.dropCopy_kept ?_
        refine State.freeSource_kept ?_
        exact State.dropCopied_kept h7
      clear_value x8
      extract_lets +onlyGivenNames x10
      have h11 : Kept s₀ x10 := by
        unfold x10
        refine State.ageFlag_kept ?_
        exact State.modTile_kept h9
      clear_value x10
      refine State.advanceTail_kept ?_
      exact State.countTile_kept h11
theorem execWearLevelTick_kept {s₀ : State} {a0} {a1} (k1 : Kept s₀ a1) : KeptO s₀ (execWearLevelTick a0 a1) := by
  unfold execWearLevelTick
  refine KeptO.next ?_
  refine Kept.ite ?_ ?_
  · exact k1
  · extract_lets +onlyGivenNames x0; clear_value x0
    extract_lets +onlyGivenNames x1; clear_value x1
    extract_lets +onlyGivenNames x2; clear_value x2
    extract_lets +onlyGivenNames x3
    have h4 : Kept s₀ x3 := by unfold x3; exact State.modTile_kept k1
    clear_value x3
    split
    · rename_i m5 m6
      refine Kept.ite ?_ ?_
      · exact State.modTile_kept h4
      · exact h4
    · rename_i m7
      exact h4

/-! ## Retire -/
theorem State.appendAgain_kept {s₀ : State} {a0} {a1} {a2} (k0 : Kept s₀ a0) : Kept s₀ (State.appendAgain a0 a1 a2) := by
  unfold State.appendAgain
  split
  · rename_i m0 m1 m2
    exact State.modTile_kept k0
  · rename_i m3 m4
    exact k0
theorem State.bumpLeaf_kept {s₀ : State} {a0} {a1} {a2} (k0 : Kept s₀ a0) : Kept s₀ (State.bumpLeaf a0 a1 a2) := by
  unfold State.bumpLeaf
  refine State.setLeaf_kept ?_
  exact State.mapRoom_kept k0
theorem State.endBackground_kept {s₀ : State} {a0} {a1} {a2} {a3} {a4} {a5} (k0 : Kept s₀ a0) : Kept s₀ (State.endBackground a0 a1 a2 a3 a4 a5) := by
  unfold State.endBackground
  refine Kept.ite ?_ ?_
  · exact k0
  · refine State.send_kept ?_
    exact State.modLd_kept k0
theorem State.killDie_kept {s₀ : State} {a0} {a1} {a2} (k0 : Kept s₀ a0) : Kept s₀ (State.killDie a0 a1 a2) := by
  unfold State.killDie
  extract_lets +onlyGivenNames x0; clear_value x0
  extract_lets +onlyGivenNames x1; clear_value x1
  extract_lets +onlyGivenNames x2; clear_value x2
  extract_lets +onlyGivenNames x3; clear_value x3
  extract_lets +onlyGivenNames x4; clear_value x4
  extract_lets +onlyGivenNames x5; clear_value x5
  extract_lets +onlyGivenNames x6; clear_value x6
  extract_lets +onlyGivenNames x7
  have h8 : Kept s₀ x7 := by unfold x7; exact State.modChan_kept k0
  clear_value x7
  extract_lets +onlyGivenNames x9
  have h10 : Kept s₀ x9 := by unfold x9; exact State.wf_kept h8
  clear_value x9
  extract_lets +onlyGivenNames x11
  have h12 : Kept s₀ x11 := by
    unfold x11
    refine each_keep (fun r => Kept s₀ r) ?_ ?_
    · exact h10
    · intro v13 v14 h15
      exact State.structCopy_kept h15
  clear_value x11
  extract_lets +onlyGivenNames x16
  have h17 : Kept s₀ x16 := by
    unfold x16
    refine each_keep (fun r => Kept s₀ r) ?_ ?_
    · exact h12
    · intro v18 v19 h20
      exact State.hubCopy_kept h20
  clear_value x16
  extract_lets +onlyGivenNames x21
  have h22 : Kept s₀ x21 := by unfold x21; exact State.spareEvents_kept h17
  clear_value x21
  refine State.heldFail_kept ?_
  refine Kept.ite ?_ ?_
  · exact State.setReadOnly_kept h22
  · exact h22
theorem State.linkOff_kept {s₀ : State} {a0} {a1} (k0 : Kept s₀ a0) : Kept s₀ (State.linkOff a0 a1) := by
  unfold State.linkOff
  extract_lets +onlyGivenNames x0; clear_value x0
  refine State.send_kept ?_
  refine State.wf_kept ?_
  exact State.wf_kept k0
theorem State.moveCopies_kept {s₀ : State} {a0} {a1} (k0 : Kept s₀ a0) : Kept s₀ (State.moveCopies a0 a1) := by
  unfold State.moveCopies
  refine each_keep (fun r => Kept s₀ r) ?_ ?_
  · exact k0
  · intro v0 v1 h2
    refine each_keep (fun r => Kept s₀ r) ?_ ?_
    · exact h2
    · intro v3 v4 h5
      refine State.beginCopy_kept ?_
      refine State.releasePlace_kept ?_
      exact State.stopCopy_kept h5
theorem State.renewMember_kept {s₀ : State} {a0} {a1} {a2} {a3} {a4} {a5} (k0 : Kept s₀ a0) : Kept s₀ (State.renewMember a0 a1 a2 a3 a4 a5) := by
  unfold State.renewMember
  refine Kept.ite ?_ ?_
  · exact k0
  · split
    · rename_i m0 m1 m2 m3
      extract_lets +onlyGivenNames x4; clear_value x4
      extract_lets +onlyGivenNames x5
      have h6 : Kept s₀ x5 := by unfold x5; exact State.rewriteLine_kept k0
      clear_value x5
      refine Kept.ite ?_ ?_
      · exact h6
      · refine State.countTile_kept ?_
        exact h6.congr rfl
    · rename_i m7 m8
      extract_lets +onlyGivenNames x9; clear_value x9
      split
      · rename_i m10 m11
        split
        · rename_i m12 m13 m14 m15
          refine Kept.ite ?_ ?_
          · exact k0
          · exact State.modTile_kept k0
        · rename_i m16 m17
          exact k0
      · rename_i m18 m19
        refine each_keep (fun r => Kept s₀ r) ?_ ?_
        · exact k0
        · intro v20 v21 h22
          exact State.appendAgain_kept h22
      · rename_i m23 m24
        split
        · rename_i m25 m26 m27 m28 m29
          exact State.structCopy_kept k0
        · rename_i m30 m31
          refine Kept.ite ?_ ?_
          · extract_lets +onlyGivenNames x32; clear_value x32
            exact State.programAt_kept k0
          · exact k0
      · rename_i m33 m34 m35 m36
        exact k0
theorem State.renewRead_kept {s₀ : State} {a0} {a1} {a2} {a3} (k0 : Kept s₀ a0) : Kept s₀ (State.renewRead a0 a1 a2 a3) := by
  unfold State.renewRead
  split
  · rename_i m0 m1 m2 m3
    extract_lets +onlyGivenNames x4; clear_value x4
    refine Kept.ite ?_ ?_
    · exact k0
    · extract_lets +onlyGivenNames x5; clear_value x5
      extract_lets +onlyGivenNames x6; clear_value x6
      refine State.renewMember_kept ?_
      exact State.report_kept k0
  · rename_i m7 m8 m9 m10
    exact k0
theorem State.retireMoves_kept {s₀ : State} {a0} {a1} {a2} (k0 : Kept s₀ a0) : Kept s₀ (State.retireMoves a0 a1 a2) := by
  unfold State.retireMoves
  extract_lets +onlyGivenNames x0
  have h1 : Kept s₀ x0 := by
    unfold x0
    refine each_keep (fun r => Kept s₀ r) ?_ ?_
    · exact k0
    · intro v2 v3 h4
      exact State.addFurrow_kept h4
  clear_value x0
  extract_lets +onlyGivenNames x5
  have h6 : Kept s₀ x5 := by
    unfold x5
    refine each_keep (fun r => Kept s₀ r) ?_ ?_
    · exact h1
    · intro v7 v8 h9
      exact State.bumpLeaf_kept h9
  clear_value x5
  extract_lets +onlyGivenNames x10
  have h11 : Kept s₀ x10 := by
    unfold x10
    refine each_keep (fun r => Kept s₀ r) ?_ ?_
    · exact h6
    · intro v12 v13 h14
      refine each_keep (fun r => Kept s₀ r) ?_ ?_
      · exact h14
      · intro v15 v16 h17
        exact State.bumpLeaf_kept h17
  clear_value x10
  extract_lets +onlyGivenNames x18
  have h19 : Kept s₀ x18 := by unfold x18; exact State.moveCopies_kept h11
  clear_value x18
  extract_lets +onlyGivenNames x20
  have h21 : Kept s₀ x20 := by
    unfold x20
    refine each_keep (fun r => Kept s₀ r) ?_ ?_
    · exact h19
    · intro v22 v23 h24
      split
      · rename_i m25 m26 m27
        exact State.putCopy_kept h24
      · rename_i m28 m29
        exact State.modTile_kept h24
  clear_value x20
  refine each_keep (fun r => Kept s₀ r) ?_ ?_
  · exact h21
  · intro v30 v31 h32
    exact State.appendAgain_kept h32
theorem State.retireEvent_kept {s₀ : State} {a0} {a1} {a2} {a3} (k0 : Kept s₀ a0) : Kept s₀ (State.retireEvent a0 a1 a2 a3) := by
  unfold State.retireEvent
  exact State.raise_kept k0
theorem State.startRetire_kept {s₀ : State} {a0} {a1} {a2} (k0 : Kept s₀ a0) : Kept s₀ (State.startRetire a0 a1 a2) := by
  unfold State.startRetire
  refine State.retireMoves_kept ?_
  refine State.retireEvent_kept ?_
  exact k0.congr rfl
theorem State.retire_kept {s₀ : State} {a0} {a1} {a2} {a3} (k0 : Kept s₀ a0) : Kept s₀ (State.retire a0 a1 a2 a3).state := by
  unfold State.retire
  extract_lets +onlyGivenNames x0; clear_value x0
  extract_lets +onlyGivenNames x1; clear_value x1
  extract_lets +onlyGivenNames x2; clear_value x2
  split
  · refine Kept.answer ?_
    exact k0
  · split
    · refine answer_kept ?_
      exact State.deny_kept k0
    · split
      · rename_i m3 m4
        refine Kept.answer ?_
        exact k0
      · rename_i m5 m6 m7
        extract_lets +onlyGivenNames x8; clear_value x8
        extract_lets +onlyGivenNames x9; clear_value x9
        extract_lets +onlyGivenNames x10; clear_value x10
        split
        · refine Kept.answer ?_
          exact k0
        · split
          · exact answer_kept k0
          · extract_lets +onlyGivenNames x11; clear_value x11
            refine Kept.answer ?_
            refine State.startRetire_kept ?_
            exact State.modLd_kept k0
theorem State.retireDestaged_kept {s₀ : State} {a0} {a1} {a2} (k0 : Kept s₀ a0) : Kept s₀ (State.retireDestaged a0 a1 a2) := by
  unfold State.retireDestaged
  split
  · rename_i m0 m1
    exact k0.congr rfl
  · rename_i m2 m3 m4
    extract_lets +onlyGivenNames x5; clear_value x5
    refine Kept.ite ?_ ?_
    · exact State.appendAgain_kept k0
    · extract_lets +onlyGivenNames x6; clear_value x6
      extract_lets +onlyGivenNames x7; clear_value x7
      refine State.retireMoves_kept ?_
      exact k0.congr rfl
theorem State.unitEntry_kept {s₀ : State} {a0} {a1} (k0 : Kept s₀ a0) : Kept s₀ (State.unitEntry a0 a1) := by
  unfold State.unitEntry
  refine Kept.ite ?_ ?_
  · exact State.deadwoodAdd_kept k0
  · refine Kept.ite ?_ ?_
    · exact State.deadwoodAdd_kept k0
    · exact k0
theorem State.retireNext_kept {s₀ : State} {a0} (k0 : Kept s₀ a0) : Kept s₀ (State.retireNext a0) := by
  unfold State.retireNext
  refine Kept.ite ?_ ?_
  · exact k0
  · split
    · rename_i m0 m1
      exact k0
    · rename_i m2 m3 m4 m5 m6
      extract_lets +onlyGivenNames x7
      have h8 : Kept s₀ x7 := by unfold x7; exact k0.congr rfl
      clear_value x7
      extract_lets +onlyGivenNames x9; clear_value x9
      extract_lets +onlyGivenNames x10; clear_value x10
      extract_lets +onlyGivenNames x11; clear_value x11
      extract_lets +onlyGivenNames x12; clear_value x12
      extract_lets +onlyGivenNames x13
      have h14 : Kept s₀ x13 := by
        unfold x13
        refine State.killDie_kept ?_
        exact State.unitEntry_kept h8
      clear_value x13
      exact State.startRetire_kept h14
theorem State.retireDie_kept {s₀ : State} {a0} {a1} {a2} (k0 : Kept s₀ a0) : Kept s₀ (State.retireDie a0 a1 a2) := by
  unfold State.retireDie
  refine Kept.ite ?_ ?_
  · exact k0
  · refine State.retireNext_kept ?_
    exact k0.congr rfl
theorem execRetire_kept {s₀ : State} {a0} {a1} {a2} {a3} (k3 : Kept s₀ a3) : KeptO s₀ (execRetire a0 a1 a2 a3) := by
  unfold execRetire
  refine KeptO.next ?_
  refine State.command_kept k3 ?_
  intro v0 h1
  exact State.retire_kept h1
theorem execRetireDone_kept {s₀ : State} {a0} (k0 : Kept s₀ a0) : KeptO s₀ (execRetireDone a0) := by
  unfold execRetireDone
  refine KeptO.next ?_
  split
  · rename_i m0 m1
    exact k0
  · rename_i m2 m3 m4
    refine Kept.ite ?_ ?_
    · exact k0
    · split
      · rename_i m5 m6 m7
        exact State.retireDestaged_kept k0
      · rename_i m8 m9
        extract_lets +onlyGivenNames x10; clear_value x10
        extract_lets +onlyGivenNames x11
        have h12 : Kept s₀ x11 := by
          unfold x11
          refine Kept.ite ?_ ?_
          · exact k0
          · exact State.unitEntry_kept k0
        clear_value x11
        extract_lets +onlyGivenNames x13
        have h14 : Kept s₀ x13 := by
          unfold x13
          refine each_keep (fun r => Kept s₀ r) ?_ ?_
          · exact h12
          · intro v15 v16 h17
            exact State.killDie_kept h17
        clear_value x13
        extract_lets +onlyGivenNames x18
        have h19 : Kept s₀ x18 := by
          unfold x18
          refine Kept.ite ?_ ?_
          · exact h12
          · refine Kept.ite ?_ ?_
            · exact State.killDie_kept h12
            · refine Kept.ite ?_ ?_
              · refine State.linkOff_kept ?_
                exact h14.congr rfl
              · refine each_keep (fun r => Kept s₀ r) ?_ ?_
                · exact h12
                · intro v20 v21 h22
                  exact State.killPlace_kept h22
        clear_value x18
        extract_lets +onlyGivenNames x23; clear_value x23
        extract_lets +onlyGivenNames x24
        have h25 : Kept s₀ x24 := by
          unfold x24
          refine State.retireEvent_kept ?_
          exact h19.congr rfl
        clear_value x24
        extract_lets +onlyGivenNames x26
        have h27 : Kept s₀ x26 := by
          unfold x26
          refine Kept.ite ?_ ?_
          · exact State.endBackground_kept h25
          · exact h25
        clear_value x26
        exact State.retireNext_kept h27

/-! ## Link -/
theorem State.aroundLost_kept {s₀ : State} {a0} {a1} (k0 : Kept s₀ a0) : Kept s₀ (State.aroundLost a0 a1) := by
  unfold State.aroundLost
  refine each_keep (fun r => Kept s₀ r) ?_ ?_
  · exact k0
  · intro v0 v1 h2
    split
    · rename_i m3 m4 m5 m6
      split
      · rename_i m7 m8 m9
        refine Kept.ite ?_ ?_
        · exact State.aroundNow_kept h2
        · exact h2
      · rename_i m10 m11
        exact h2
    · rename_i m12 m13
      exact h2
theorem State.askTag_kept {s₀ : State} {a0} {a1} {a2} (k0 : Kept s₀ a0) : Kept s₀ (State.askTag a0 a1 a2) := by
  unfold State.askTag
  refine State.submit_kept ?_
  exact State.modChan_kept k0
theorem State.askAll_kept {s₀ : State} {a0} {a1} {a2} (k0 : Kept s₀ a0) : Kept s₀ (State.askAll a0 a1 a2) := by
  unfold State.askAll
  refine each_keep (fun r => Kept s₀ r) ?_ ?_
  · exact k0
  · intro v0 v1 h2
    exact State.askTag_kept h2
theorem State.badResponse_kept {s₀ : State} {a0} {a1} (k0 : Kept s₀ a0) : Kept s₀ (State.badResponse a0 a1) := by
  unfold State.badResponse
  extract_lets +onlyGivenNames x0; clear_value x0
  refine State.aroundLost_kept ?_
  refine State.askAll_kept ?_
  refine State.countTile_kept ?_
  exact State.incSat_kept k0
theorem State.readArrived_kept {s₀ : State} {a0} {a1} {a2} {a3} (k0 : Kept s₀ a0) : Kept s₀ (State.readArrived a0 a1 a2 a3) := by
  unfold State.readArrived
  refine Kept.ite ?_ ?_
  · extract_lets +onlyGivenNames x0
    have h1 : Kept s₀ x0 := by
      unfold x0
      refine Kept.ite ?_ ?_
      · exact State.countHub_kept k0
      · exact k0
    clear_value x0
    refine Kept.ite ?_ ?_
    · exact h1
    · exact h1.congr rfl
  · split
    · rename_i m2 m3
      exact k0
    · rename_i m4 m5 m6
      extract_lets +onlyGivenNames x7; clear_value x7
      extract_lets +onlyGivenNames x8
      have h9 : Kept s₀ x8 := by
        unfold x8
        refine Kept.ite ?_ ?_
        · exact k0.congr rfl
        · exact k0
      clear_value x8
      extract_lets +onlyGivenNames x10; clear_value x10
      extract_lets +onlyGivenNames x11
      have h12 : Kept s₀ x11.1 := by
        unfold x11
        refine State.opArrive_kept ?_
        exact State.renewRead_kept h9
      clear_value x11
      refine State.run_kept ?_
      refine State.opEnded_kept ?_
      exact h12
theorem State.checkerEnd_kept {s₀ : State} {a0} {a1} {a2} (k0 : Kept s₀ a0) : Kept s₀ (State.checkerEnd a0 a1 a2) := by
  unfold State.checkerEnd
  exact State.modTile_kept k0
theorem State.cmdGone_kept {s₀ : State} {a0} {a1} (k0 : Kept s₀ a0) : Kept s₀ (State.cmdGone a0 a1) := by
  unfold State.cmdGone
  split
  · rename_i m0 m1 m2 m3
    exact State.readArrived_kept k0
  · rename_i m4 m5 m6 m7 m8
    exact State.logDone_kept k0
  · rename_i m9 m10 m11 m12 m13 m14
    split
    · rename_i m15 m16 m17
      refine Kept.ite ?_ ?_
      · refine State.copyAdvance_kept ?_
        exact State.putCopy_kept k0
      · exact k0
    · rename_i m18 m19
      exact k0
  · rename_i m20 m21 m22
    exact State.checkerEnd_kept k0
  · rename_i m23 m24 m25 m26 m27
    exact k0
theorem State.lostOnTile_kept {s₀ : State} {a0} {a1} {a2} (k0 : Kept s₀ a0) : Kept s₀ (State.lostOnTile a0 a1 a2) := by
  unfold State.lostOnTile
  extract_lets +onlyGivenNames x0
  have h1 : Kept s₀ x0 := by
    unfold x0
    split
    · rename_i m2 m3 m4 m5 m6 m7 m8 m9 m10
      refine each_keep (fun r => Kept s₀ r) ?_ ?_
      · exact k0
      · intro v11 v12 h13
        exact State.noteRebuild_kept h13
    · rename_i m14 m15 m16 m17 m18 m19 m20 m21
      exact State.noteRebuild_kept k0
    · rename_i m22 m23 m24 m25 m26
      exact State.noteRebuild_kept k0
    · rename_i m27 m28 m29 m30 m31
      exact State.noteRebuild_kept k0
    · rename_i m32 m33 m34 m35 m36 m37
      exact k0
  clear_value x0
  exact State.cmdGone_kept h1
theorem State.chanOff_kept {s₀ : State} {a0} {a1} (k0 : Kept s₀ a0) : Kept s₀ (State.chanOff a0 a1) := by
  unfold State.chanOff
  extract_lets +onlyGivenNames x0; clear_value x0
  extract_lets +onlyGivenNames x1
  have h2 : Kept s₀ x1 := by
    unfold x1
    refine State.linkOff_kept ?_
    exact State.modChan_kept k0
  clear_value x1
  refine each_keep (fun r => Kept s₀ r) ?_ ?_
  · exact h2
  · intro v3 v4 h5
    exact State.lostOnTile_kept h5
theorem State.setLink_kept {s₀ : State} {a0} {a1} {a2} (k0 : Kept s₀ a0) : Kept s₀ (State.setLink a0 a1 a2) := by
  unfold State.setLink
  extract_lets +onlyGivenNames x0; clear_value x0
  extract_lets +onlyGivenNames x1; clear_value x1
  extract_lets +onlyGivenNames x2
  have h3 : Kept s₀ x2 := by unfold x2; exact State.wf_kept k0
  clear_value x2
  extract_lets +onlyGivenNames x4
  have h5 : Kept s₀ x4 := by
    unfold x4
    refine Kept.ite ?_ ?_
    · exact State.wf_kept h3
    · exact h3
  clear_value x4
  extract_lets +onlyGivenNames x6
  have h7 : Kept s₀ x6 := by
    unfold x6
    refine Kept.ite ?_ ?_
    · exact State.irqEdge_kept h5
    · exact h5
  clear_value x6
  refine Kept.ite ?_ ?_
  · exact State.emit_kept h7
  · exact h7
theorem State.dieReport_kept {s₀ : State} {a0} {a1} {a2} (k0 : Kept s₀ a0) : Kept s₀ (State.dieReport a0 a1 a2) := by
  unfold State.dieReport
  exact State.report_kept k0
theorem State.showDies_kept {s₀ : State} {a0} {a1} (k0 : Kept s₀ a0) : Kept s₀ (State.showDies a0 a1) := by
  unfold State.showDies
  extract_lets +onlyGivenNames x0; clear_value x0
  refine State.wf_kept ?_
  exact State.wf_kept k0
theorem State.dieLost_kept {s₀ : State} {a0} {a1} {a2} (k0 : Kept s₀ a0) : Kept s₀ (State.dieLost a0 a1 a2) := by
  unfold State.dieLost
  refine Kept.ite ?_ ?_
  · exact k0
  · extract_lets +onlyGivenNames x0; clear_value x0
    extract_lets +onlyGivenNames x1; clear_value x1
    extract_lets +onlyGivenNames x2; clear_value x2
    extract_lets +onlyGivenNames x3
    have h4 : Kept s₀ x3 := by unfold x3; exact State.setChan_kept k0
    clear_value x3
    extract_lets +onlyGivenNames x5
    have h6 : Kept s₀ x5 := by
      unfold x5
      refine State.dieReport_kept ?_
      refine State.emit_kept ?_
      exact State.showDies_kept h4
    clear_value x5
    extract_lets +onlyGivenNames x7
    have h8 : Kept s₀ x7 := by
      unfold x7
      refine each_keep (fun r => Kept s₀ r) ?_ ?_
      · exact h6
      · intro v9 v10 h11
        exact State.cmdGone_kept h11
    clear_value x7
    exact State.retireDie_kept h8
theorem State.channelDead_kept {s₀ : State} {a0} {a1} (k0 : Kept s₀ a0) : Kept s₀ (State.channelDead a0 a1) := by
  unfold State.channelDead
  refine each_keep (fun r => Kept s₀ r) ?_ ?_
  · exact State.setLink_kept k0
  · intro v0 v1 h2
    exact State.dieLost_kept h2
theorem State.channelDown_kept {s₀ : State} {a0} {a1} (k0 : Kept s₀ a0) : Kept s₀ (State.channelDown a0 a1) := by
  unfold State.channelDown
  extract_lets +onlyGivenNames x0
  have h1 : Kept s₀ x0 := by unfold x0; exact State.setLink_kept k0
  clear_value x0
  refine Kept.ite ?_ ?_
  · exact h1
  · refine each_keep (fun r => Kept s₀ r) ?_ ?_
    · exact State.modChan_kept h1
    · intro v2 v3 h4
      exact State.dieReport_kept h4
theorem State.submitAgain_kept {s₀ : State} {a0} {a1} {a2} {a3} (k0 : Kept s₀ a0) : Kept s₀ (State.submitAgain a0 a1 a2 a3) := by
  unfold State.submitAgain
  exact State.submit_kept k0
theorem State.copyBack_kept {s₀ : State} {a0} {a1} {a2} (k0 : Kept s₀ a0) : Kept s₀ (State.copyBack a0 a1 a2) := by
  unfold State.copyBack
  split
  · rename_i m0 m1 m2
    extract_lets +onlyGivenNames x3
    have h4 : Kept s₀ x3 := by
      unfold x3
      refine State.releasePlace_kept ?_
      exact State.stopCopy_kept k0
    clear_value x3
    refine Kept.ite ?_ ?_
    · exact h4
    · refine Kept.ite ?_ ?_
      · exact State.modTile_kept h4
      · exact State.modTile_kept h4
  · rename_i m5 m6
    exact k0
theorem State.programReport_kept {s₀ : State} {a0} {a1} {a2} (k0 : Kept s₀ a0) : Kept s₀ (State.programReport a0 a1 a2) := by
  unfold State.programReport
  exact State.report_kept k0
theorem State.cmdEnded_kept {s₀ : State} {a0} {a1} {a2} {a3} {a4} {a5} (k0 : Kept s₀ a0) : Kept s₀ (State.cmdEnded a0 a1 a2 a3 a4 a5) := by
  unfold State.cmdEnded
  extract_lets +onlyGivenNames x0; clear_value x0
  split
  · rename_i m1 m2 m3 m4
    refine Kept.ite ?_ ?_
    · exact State.submitAgain_kept k0
    · exact State.readArrived_kept k0
  · rename_i m5 m6 m7 m8 m9
    refine Kept.ite ?_ ?_
    · exact State.logDone_kept k0
    · refine Kept.ite ?_ ?_
      · refine State.logFailed_kept ?_
        exact State.countTile_kept k0
      · exact State.submitAgain_kept k0
  · rename_i m10 m11 m12 m13 m14 m15
    refine Kept.ite ?_ ?_
    · exact k0
    · exact State.submitAgain_kept k0
  · rename_i m16 m17 m18 m19 m20 m21
    refine Kept.ite ?_ ?_
    · refine State.sheetDone_kept ?_
      refine State.countTile_kept ?_
      exact State.countTile_kept k0
    · refine Kept.ite ?_ ?_
      · refine State.sheetDone_kept ?_
        exact State.countTile_kept k0
      · split
        · rename_i m22 m23 m24
          refine Kept.ite ?_ ?_
          · exact State.copyBack_kept k0
          · exact k0
        · rename_i m25 m26
          exact k0
  · rename_i m27 m28
    refine Kept.ite ?_ ?_
    · exact k0
    · refine Kept.ite ?_ ?_
      · refine State.programReport_kept ?_
        exact State.countTile_kept k0
      · exact State.submitAgain_kept k0
  · rename_i m29 m30
    refine Kept.ite ?_ ?_
    · exact k0
    · refine Kept.ite ?_ ?_
      · refine State.programReport_kept ?_
        exact State.countTile_kept k0
      · exact State.submitAgain_kept k0
  · rename_i m31 m32 m33
    refine Kept.ite ?_ ?_
    · exact State.submitAgain_kept k0
    · exact State.checkerEnd_kept k0
  · rename_i m34 m35
    exact k0
theorem State.enterRecovery_kept {s₀ : State} {a0} {a1} (k0 : Kept s₀ a0) : Kept s₀ (State.enterRecovery a0 a1) := by
  unfold State.enterRecovery
  refine Kept.ite ?_ ?_
  · exact k0
  · extract_lets +onlyGivenNames x0; clear_value x0
    extract_lets +onlyGivenNames x1; subst x1
    extract_lets +onlyGivenNames x2
    have h3 : Kept s₀ x2 := by unfold x2; exact k0.congr rfl
    clear_value x2
    extract_lets +onlyGivenNames x4
    have h5 : Kept s₀ x4 := by
      unfold x4
      refine State.countTile_kept ?_
      refine State.incSat_kept ?_
      exact State.modChan_kept h3
    clear_value x4
    refine Kept.ite ?_ ?_
    · exact State.channelDead_kept h5
    · exact State.setLink_kept h5
theorem State.loadRefs_kept {s₀ : State} {a0} {a1} (k0 : Kept s₀ a0) : Kept s₀ (State.loadRefs a0 a1) := by
  unfold State.loadRefs
  split
  · rename_i m0 m1
    exact k0
  · rename_i m2 m3 m4
    extract_lets +onlyGivenNames x5
    have h6 : Kept s₀ x5 := by
      unfold x5
      refine each_keep (fun r => Kept s₀ r) ?_ ?_
      · exact k0
      · intro v7 v8 h9
        refine each_keep (fun r => Kept s₀ r) ?_ ?_
        · exact h9
        · intro v10 v11 h12
          exact State.submit_kept h12
    clear_value x5
    exact State.modChan_kept h6
theorem State.reissue_kept {s₀ : State} {a0} {a1} {a2} (k0 : Kept s₀ a0) : Kept s₀ (State.reissue a0 a1 a2) := by
  unfold State.reissue
  extract_lets +onlyGivenNames x0
  have h1 : Kept s₀ x0 := by
    unfold x0
    refine State.countTile_kept ?_
    refine State.countTile_kept ?_
    exact State.incSat_kept k0
  clear_value x0
  refine State.send_kept ?_
  exact State.modChan_kept h1
theorem State.lostSending_kept {s₀ : State} {a0} {a1} {a2} (k0 : Kept s₀ a0) : Kept s₀ (State.lostSending a0 a1 a2) := by
  unfold State.lostSending
  extract_lets +onlyGivenNames x0
  have h1 : Kept s₀ x0 := by unfold x0; exact State.modChan_kept k0
  clear_value x0
  refine Kept.ite ?_ ?_
  · exact h1
  · exact State.reissue_kept h1
theorem State.refsDue_kept {s₀ : State} {a0} {a1} (k0 : Kept s₀ a0) : Kept s₀ (State.refsDue a0 a1) := by
  unfold State.refsDue
  refine each_keep (fun r => Kept s₀ r) ?_ ?_
  · exact k0
  · intro v0 v1 h2
    extract_lets +onlyGivenNames x3
    have h4 : Kept s₀ x3 := by
      unfold x3
      refine Kept.ite ?_ ?_
      · exact State.modChan_kept h2
      · exact h2
    clear_value x3
    refine Kept.ite ?_ ?_
    · exact State.loadRefs_kept h4
    · exact h4
theorem State.response_kept {s₀ : State} {a0} {a1} {a2} {a3} (k0 : Kept s₀ a0) (k3 : ∀ y0 y1, Kept s₀ y1 → Kept s₀ (a3 y0 y1)) : Kept s₀ (State.response a0 a1 a2 a3) := by
  unfold State.response
  refine Kept.ite ?_ ?_
  · exact State.badResponse_kept k0
  · extract_lets +onlyGivenNames x0; clear_value x0
    extract_lets +onlyGivenNames x1; clear_value x1
    extract_lets +onlyGivenNames x2
    have h3 : Kept s₀ x2 := by unfold x2; exact State.modChan_kept k0
    clear_value x2
    split
    · rename_i m4 m5
      exact h3
    · rename_i m6 m7 m8
      refine k3 _ _ ?_
      exact State.modChan_kept h3
theorem State.trainStep_kept {s₀ : State} {a0} {a1} {a2} {a3} (k0 : Kept s₀ a0) : Kept s₀ (State.trainStep a0 a1 a2 a3) := by
  unfold State.trainStep
  refine Kept.ite ?_ ?_
  · exact State.setLink_kept k0
  · exact k0
theorem State.trainTile_kept {s₀ : State} {a0} {a1} (k0 : Kept s₀ a0) : Kept s₀ (State.trainTile a0 a1) := by
  unfold State.trainTile
  refine each_keep (fun r => Kept s₀ r) ?_ ?_
  · exact k0
  · intro v0 v1 h2
    exact State.setLink_kept h2
theorem State.unanswered_kept {s₀ : State} {a0} {a1} {a2} {a3} (k0 : Kept s₀ a0) : Kept s₀ (State.unanswered a0 a1 a2 a3) := by
  unfold State.unanswered
  extract_lets +onlyGivenNames x0; clear_value x0
  extract_lets +onlyGivenNames x1; clear_value x1
  extract_lets +onlyGivenNames x2; clear_value x2
  extract_lets +onlyGivenNames x3
  have h4 : Kept s₀ x3 := by unfold x3; exact State.setChan_kept k0
  clear_value x3
  refine Kept.ite ?_ ?_
  · exact State.dieLost_kept h4
  · refine Kept.ite ?_ ?_
    · exact h4
    · refine Kept.ite ?_ ?_
      · refine Kept.ite ?_ ?_
        · exact State.reissue_kept h4
        · exact h4
      · refine State.enterRecovery_kept ?_
        exact State.modChan_kept h4
theorem execBadResponseReceive_kept {s₀ : State} {a0} {a1} (k1 : Kept s₀ a1) : KeptO s₀ (execBadResponseReceive a0 a1) := by
  unfold execBadResponseReceive
  refine KeptO.next ?_
  exact State.badResponse_kept k1
theorem execBitLockAchieved_kept {s₀ : State} {a0} {a1} (k1 : Kept s₀ a1) : KeptO s₀ (execBitLockAchieved a0 a1) := by
  unfold execBitLockAchieved
  refine KeptO.next ?_
  exact State.trainStep_kept k1
theorem execBlockLockAchieved_kept {s₀ : State} {a0} {a1} (k1 : Kept s₀ a1) : KeptO s₀ (execBlockLockAchieved a0 a1) := by
  unfold execBlockLockAchieved
  refine KeptO.next ?_
  exact State.trainStep_kept k1
theorem execBlockLockLoss_kept {s₀ : State} {a0} {a1} (k1 : Kept s₀ a1) : KeptO s₀ (execBlockLockLoss a0 a1) := by
  unfold execBlockLockLoss
  refine KeptO.next ?_
  exact State.enterRecovery_kept k1
theorem execCommandResponseTimeout_kept {s₀ : State} {a0} {a1} {a2} (k2 : Kept s₀ a2) : KeptO s₀ (execCommandResponseTimeout a0 a1 a2) := by
  unfold execCommandResponseTimeout
  refine KeptO.next ?_
  split
  · rename_i m0 m1
    exact k2
  · rename_i m2 m3 m4
    extract_lets +onlyGivenNames x5
    have h6 : Kept s₀ x5 := by unfold x5; exact State.countTile_kept k2
    clear_value x5
    refine Kept.ite ?_ ?_
    · exact State.modChan_kept h6
    · refine Kept.ite ?_ ?_
      · refine State.askTag_kept ?_
        exact State.modChan_kept h6
      · refine State.unanswered_kept ?_
        exact State.modChan_kept h6
theorem execCompletion_kept {s₀ : State} {a0} {a1} {a2} (k2 : Kept s₀ a2) : KeptO s₀ (execCompletion a0 a1 a2) := by
  unfold execCompletion
  refine KeptO.next ?_
  refine State.response_kept k2 ?_
  intro v0 v1 h2
  exact State.cmdEnded_kept h2
theorem execConfigTs2Matched_kept {s₀ : State} {a0} {a1} (k1 : Kept s₀ a1) : KeptO s₀ (execConfigTs2Matched a0 a1) := by
  unfold execConfigTs2Matched
  refine KeptO.next ?_
  refine Kept.ite ?_ ?_
  · extract_lets +onlyGivenNames x0; clear_value x0
    extract_lets +onlyGivenNames x1
    have h2 : Kept s₀ x1 := by
      unfold x1
      refine State.modChan_kept ?_
      exact State.setLink_kept k1
    clear_value x1
    extract_lets +onlyGivenNames x3; clear_value x3
    extract_lets +onlyGivenNames x4
    have h5 : Kept s₀ x4 := by
      unfold x4
      refine each_keep (fun r => Kept s₀ r) ?_ ?_
      · exact State.showDies_kept h2
      · intro v6 v7 h8
        exact State.submit_kept h8
    clear_value x4
    refine Kept.ite ?_ ?_
    · exact State.loadRefs_kept h5
    · exact h5
  · exact k1
theorem execDetectTerminationSensed_kept {s₀ : State} {a0} {a1} (k1 : Kept s₀ a1) : KeptO s₀ (execDetectTerminationSensed a0 a1) := by
  unfold execDetectTerminationSensed
  refine KeptO.next ?_
  refine Kept.ite ?_ ?_
  · refine State.setLink_kept ?_
    exact State.modChan_kept k1
  · exact k1
theorem execEchoData_kept {s₀ : State} {a0} {a1} {a2} {a3} (k3 : Kept s₀ a3) : KeptO s₀ (execEchoData a0 a1 a2 a3) := by
  unfold execEchoData
  refine KeptO.next ?_
  refine State.response_kept k3 ?_
  intro v0 v1 h2
  exact h2
theorem execErrNotice_kept {s₀ : State} {a0} {a1} {a2} (k2 : Kept s₀ a2) : KeptO s₀ (execErrNotice a0 a1 a2) := by
  unfold execErrNotice
  refine KeptO.next ?_
  refine Kept.ite ?_ ?_
  · exact State.badResponse_kept k2
  · extract_lets +onlyGivenNames x0
    have h1 : Kept s₀ x0 := by unfold x0; exact State.modChan_kept k2
    clear_value x0
    extract_lets +onlyGivenNames x2
    have h3 : Kept s₀ x2 := by
      unfold x2
      refine State.countTile_kept ?_
      exact State.incSat_kept h1
    clear_value x2
    extract_lets +onlyGivenNames x4; clear_value x4
    extract_lets +onlyGivenNames x5; clear_value x5
    exact State.askAll_kept h3
theorem execIdentData_kept {s₀ : State} {a0} {a1} {a2} {a3} (k3 : Kept s₀ a3) : KeptO s₀ (execIdentData a0 a1 a2 a3) := by
  unfold execIdentData
  refine KeptO.next ?_
  refine State.response_kept k3 ?_
  intro v0 v1 h2
  refine Kept.ite ?_ ?_
  · refine State.showDies_kept ?_
    exact State.modChan_kept h2
  · exact h2
theorem execLinkCrcErrorLimit_kept {s₀ : State} {a0} {a1} (k1 : Kept s₀ a1) : KeptO s₀ (execLinkCrcErrorLimit a0 a1) := by
  unfold execLinkCrcErrorLimit
  refine KeptO.next ?_
  exact State.enterRecovery_kept k1
theorem execLnkDisable_kept {s₀ : State} {a0} {a1} {a2} {a3} (k3 : Kept s₀ a3) : KeptO s₀ (execLnkDisable a0 a1 a2 a3) := by
  unfold execLnkDisable
  refine KeptO.next ?_
  extract_lets +onlyGivenNames x0; clear_value x0
  refine Kept.ite ?_ ?_
  · exact k3
  · refine State.regWrite_kept k3 ?_
    intro v1 h2
    refine Kept.ite ?_ ?_
    · exact State.chanOff_kept h2
    · refine State.setLink_kept ?_
      exact State.wf_kept h2
theorem execLnkErrClear_kept {s₀ : State} {a0} {a1} {a2} (k2 : Kept s₀ a2) : KeptO s₀ (execLnkErrClear a0 a1 a2) := by
  unfold execLnkErrClear
  refine KeptO.next ?_
  extract_lets +onlyGivenNames x0; clear_value x0
  refine Kept.ite ?_ ?_
  · exact k2
  · refine State.regWrite_kept k2 ?_
    intro v1 h2
    refine State.wf_kept ?_
    exact State.wf_kept h2
theorem execLnkRetrain_kept {s₀ : State} {a0} {a1} {a2} (k2 : Kept s₀ a2) : KeptO s₀ (execLnkRetrain a0 a1 a2) := by
  unfold execLnkRetrain
  refine KeptO.next ?_
  extract_lets +onlyGivenNames x0; clear_value x0
  refine Kept.ite ?_ ?_
  · exact k2
  · refine State.regWrite_kept k2 ?_
    intro v1 h2
    refine Kept.ite ?_ ?_
    · refine State.enterRecovery_kept ?_
      exact State.wf_kept h2
    · refine State.wf_kept ?_
      exact State.setLink_kept h2
theorem execReadData_kept {s₀ : State} {a0} {a1} {a2} {a3} (k3 : Kept s₀ a3) : KeptO s₀ (execReadData a0 a1 a2 a3) := by
  unfold execReadData
  refine KeptO.next ?_
  refine State.response_kept k3 ?_
  intro v0 v1 h2
  extract_lets +onlyGivenNames x3; clear_value x3
  extract_lets +onlyGivenNames x4
  have h5 : Kept s₀ x4 := by
    unfold x4
    refine Kept.ite ?_ ?_
    · exact State.countTile_kept h2
    · exact h2
  clear_value x4
  exact State.cmdEnded_kept h5
theorem execRecoveryDone_kept {s₀ : State} {a0} {a1} (k1 : Kept s₀ a1) : KeptO s₀ (execRecoveryDone a0 a1) := by
  unfold execRecoveryDone
  refine KeptO.next ?_
  refine Kept.ite ?_ ?_
  · refine State.setLink_kept ?_
    exact State.modChan_kept k1
  · exact k1
theorem execStatusData_kept {s₀ : State} {a0} {a1} {a2} {a3} (k3 : Kept s₀ a3) : KeptO s₀ (execStatusData a0 a1 a2 a3) := by
  unfold execStatusData
  refine KeptO.next ?_
  refine State.response_kept k3 ?_
  intro v0 v1 h2
  extract_lets +onlyGivenNames x3; clear_value x3
  extract_lets +onlyGivenNames x4; clear_value x4
  extract_lets +onlyGivenNames x5
  have h6 : Kept s₀ x5 := by
    unfold x5
    refine Kept.ite ?_ ?_
    · exact State.modChan_kept h2
    · exact h2
  clear_value x5
  split
  · rename_i m7 m8
    exact h6
  · rename_i m9 m10 m11
    refine Kept.ite ?_ ?_
    · refine State.cmdEnded_kept ?_
      exact State.modChan_kept h6
    · refine Kept.ite ?_ ?_
      · refine Kept.ite ?_ ?_
        · exact State.unanswered_kept h6
        · exact State.lostSending_kept h6
      · extract_lets +onlyGivenNames x12
        have h13 : Kept s₀ x12 := by unfold x12; exact State.modChan_kept h6
        clear_value x12
        refine Kept.ite ?_ ?_
        · refine State.unanswered_kept ?_
          exact State.modChan_kept h13
        · exact h13
theorem execStatusPollTimeout_kept {s₀ : State} {a0} {a1} (k1 : Kept s₀ a1) : KeptO s₀ (execStatusPollTimeout a0 a1) := by
  unfold execStatusPollTimeout
  refine KeptO.next ?_
  refine Kept.ite ?_ ?_
  · exact k1
  · exact State.submit_kept k1
theorem execTrainPresetsDone_kept {s₀ : State} {a0} {a1} {a2} (k2 : Kept s₀ a2) : KeptO s₀ (execTrainPresetsDone a0 a1 a2) := by
  unfold execTrainPresetsDone
  refine KeptO.next ?_
  refine Kept.ite ?_ ?_
  · refine State.setLink_kept ?_
    exact State.wf_kept k2
  · exact k2
theorem execTrainingStateTimeout_kept {s₀ : State} {a0} {a1} (k1 : Kept s₀ a1) : KeptO s₀ (execTrainingStateTimeout a0 a1) := by
  unfold execTrainingStateTimeout
  refine KeptO.next ?_
  extract_lets +onlyGivenNames x0; clear_value x0
  refine Kept.ite ?_ ?_
  · exact State.channelDown_kept k1
  · refine Kept.ite ?_ ?_
    · exact State.setLink_kept k1
    · refine Kept.ite ?_ ?_
      · extract_lets +onlyGivenNames x1; clear_value x1
        extract_lets +onlyGivenNames x2
        have h3 : Kept s₀ x2 := by unfold x2; exact State.modChan_kept k1
        clear_value x2
        refine Kept.ite ?_ ?_
        · exact State.channelDead_kept h3
        · exact State.setLink_kept h3
      · exact k1

/-! ## Scrub -/
theorem State.chkOutcome_kept {s₀ : State} {a0} {a1} {a2} (k0 : Kept s₀ a0) : Kept s₀ (State.chkOutcome a0 a1 a2) := by
  unfold State.chkOutcome
  exact State.wf_kept k0
theorem State.chkFound_kept {s₀ : State} {a0} {a1} {a2} {a3} (k0 : Kept s₀ a0) : Kept s₀ (State.chkFound a0 a1 a2 a3) := by
  unfold State.chkFound
  extract_lets +onlyGivenNames x0; clear_value x0
  refine State.chkOutcome_kept ?_
  refine State.wf_kept ?_
  exact State.wf_kept k0
theorem State.chkProgram_kept {s₀ : State} {a0} {a1} {a2} {a3} {a4} {a5} (k0 : Kept s₀ a0) : Kept s₀ (State.chkProgram a0 a1 a2 a3 a4 a5) := by
  unfold State.chkProgram
  refine Kept.ite ?_ ?_
  · refine State.modTile_kept ?_
    exact State.submit_kept k0
  · exact k0
theorem State.chkReport_kept {s₀ : State} {a0} {a1} {a2} {a3} {a4} {a5} (k0 : Kept s₀ a0) : Kept s₀ (State.chkReport a0 a1 a2 a3 a4 a5) := by
  unfold State.chkReport
  exact State.report_kept k0
theorem State.chkShow_kept {s₀ : State} {a0} {a1} {a2} (k0 : Kept s₀ a0) : Kept s₀ (State.chkShow a0 a1 a2) := by
  unfold State.chkShow
  refine each_keep (fun r => Kept s₀ r) ?_ ?_
  · exact k0
  · intro v0 v1 h2
    exact State.wf_kept h2
theorem State.chkResult_kept {s₀ : State} {a0} {a1} {a2} (k0 : Kept s₀ a0) : Kept s₀ (State.chkResult a0 a1 a2) := by
  unfold State.chkResult
  extract_lets +onlyGivenNames x0; clear_value x0
  extract_lets +onlyGivenNames x1; clear_value x1
  split
  · rename_i m2 m3
    exact State.chkOutcome_kept k0
  · rename_i m4 m5 m6
    extract_lets +onlyGivenNames x7; clear_value x7
    extract_lets +onlyGivenNames x8; clear_value x8
    split
    · rename_i m9 m10
      refine State.chkFound_kept ?_
      exact State.chkShow_kept k0
    · rename_i m11 m12
      extract_lets +onlyGivenNames x13
      have h14 : Kept s₀ x13 := by
        unfold x13
        refine State.chkFound_kept ?_
        exact State.chkShow_kept k0
      clear_value x13
      refine Kept.ite ?_ ?_
      · exact State.chkReport_kept h14
      · exact h14
    · rename_i m15 m16
      split
      · rename_i m17 m18 m19
        refine State.chkReport_kept ?_
        refine State.chkFound_kept ?_
        exact State.chkShow_kept k0
      · rename_i m20 m21
        refine State.chkReport_kept ?_
        refine State.chkFound_kept ?_
        exact State.chkShow_kept k0
theorem State.chkUnder_kept {s₀ : State} {a0} {a1} {a2} {a3} {a4} (k0 : Kept s₀ a0) (k4 : ∀ y0, Kept s₀ y0 → Kept s₀ (a4 y0)) : Kept s₀ (State.chkUnder a0 a1 a2 a3 a4) := by
  unfold State.chkUnder
  refine Kept.ite ?_ ?_
  · exact k0
  · exact State.regWrite_kept k0 k4
theorem State.setChecker_kept {s₀ : State} {a0} {a1} {a2} (k0 : Kept s₀ a0) : Kept s₀ (State.setChecker a0 a1 a2) := by
  unfold State.setChecker
  exact State.modTile_kept k0
theorem State.closeChecker_kept {s₀ : State} {a0} {a1} (k0 : Kept s₀ a0) : Kept s₀ (State.closeChecker a0 a1) := by
  unfold State.closeChecker
  extract_lets +onlyGivenNames x0
  have h1 : Kept s₀ x0 := by
    unfold x0
    split
    · rename_i m2 m3 m4
      exact State.releasePlace_kept k0
    · rename_i m5 m6
      exact k0
  clear_value x0
  extract_lets +onlyGivenNames x7
  have h8 : Kept s₀ x7 := by
    unfold x7
    refine State.wf_kept ?_
    exact State.setChecker_kept h1
  clear_value x7
  extract_lets +onlyGivenNames x9
  have h10 : Kept s₀ x9 := by
    unfold x9
    refine State.setReg_kept ?_
    exact State.wf_kept h8
  clear_value x9
  refine each_keep (fun r => Kept s₀ r) ?_ ?_
  · exact h10
  · intro v11 v12 h13
    exact State.wf_kept h13
theorem State.wordLost_kept {s₀ : State} {a0} {a1} (k0 : Kept s₀ a0) : Kept s₀ (State.wordLost a0 a1) := by
  unfold State.wordLost
  extract_lets +onlyGivenNames x0; clear_value x0
  extract_lets +onlyGivenNames x1
  have h2 : Kept s₀ x1 := by unfold x1; exact State.report_kept k0
  clear_value x1
  extract_lets +onlyGivenNames x3
  have h4 : Kept s₀ x3 := by
    unfold x3
    refine each_keep (fun r => Kept s₀ r) ?_ ?_
    · exact h2
    · intro v5 v6 h7
      exact State.dropOp_kept h7
  clear_value x3
  refine State.run_kept ?_
  refine State.noData_kept ?_
  exact State.failureFor_kept h4
theorem State.loseWord_kept {s₀ : State} {a0} {a1} (k0 : Kept s₀ a0) : Kept s₀ (State.loseWord a0 a1) := by
  unfold State.loseWord
  split
  · rename_i m0 m1
    split
    · rename_i m2 m3 m4
      exact State.wordLost_kept k0
    · rename_i m5 m6
      exact k0
  · rename_i m7 m8 m9
    exact k0.congr rfl
  · rename_i m10 m11 m12
    exact k0.congr rfl
theorem State.scrubReport_kept {s₀ : State} {a0} {a1} {a2} {a3} {a4} {a5} {a6} {a7} (k0 : Kept s₀ a0) : Kept s₀ (State.scrubReport a0 a1 a2 a3 a4 a5 a6 a7) := by
  unfold State.scrubReport
  extract_lets +onlyGivenNames x0; clear_value x0
  exact State.report_kept k0
theorem State.scrubBad_kept {s₀ : State} {a0} {a1} {a2} {a3} (k0 : Kept s₀ a0) : Kept s₀ (State.scrubBad a0 a1 a2 a3).1 := by
  unfold State.scrubBad
  split
  · rename_i m0 m1 m2
    extract_lets +onlyGivenNames x3; subst x3
    extract_lets +onlyGivenNames x4
    have h5 : Kept s₀ x4 := by
      unfold x4
      refine State.scrubReport_kept ?_
      exact k0.congr rfl
    clear_value x4
    refine Kept.fst ?_
    exact State.renewMember_kept h5
  · rename_i m6 m7
    refine Kept.fst ?_
    refine State.scrubReport_kept ?_
    exact k0.congr rfl
theorem State.scrubMember_kept {s₀ : State} {a0} {a1} {a2} {a3} (k0 : Kept s₀ a0) : Kept s₀ (State.scrubMember a0 a1 a2 a3).1 := by
  unfold State.scrubMember
  split
  · rename_i m0 m1
    refine Kept.fst ?_
    exact k0
  · rename_i m2 m3 m4
    extract_lets +onlyGivenNames x5; clear_value x5
    extract_lets +onlyGivenNames x6
    have h7 : Kept s₀ x6 := by
      unfold x6
      refine State.countCheck_kept ?_
      exact State.chargeRead_kept k0
    clear_value x6
    split
    · refine Kept.fst ?_
      exact State.scrubBad_kept h7
    · split
      · refine Kept.fst ?_
        refine State.renewMember_kept ?_
        exact State.scrubReport_kept h7
      · refine Kept.fst ?_
        exact h7
theorem State.scanLine_kept {s₀ : State} {a0} {a1} (k0 : Kept s₀ a0) : Kept s₀ (State.scanLine a0 a1).1 := by
  unfold State.scanLine
  split
  · rename_i m0 m1
    refine Kept.fst ?_
    exact k0
  · rename_i m2 m3 m4
    split
    · rename_i m5 m6 m7 m8 m9
      extract_lets +onlyGivenNames x10
      have h11 : Kept s₀ x10.1 := by unfold x10; exact State.scrubMember_kept k0
      clear_value x10
      refine Kept.fst ?_
      exact h11
    · rename_i m12 m13
      refine Kept.fst ?_
      exact k0
theorem State.scrubParity_kept {s₀ : State} {a0} {a1} {a2} (k0 : Kept s₀ a0) : Kept s₀ (State.scrubParity a0 a1 a2) := by
  unfold State.scrubParity
  extract_lets +onlyGivenNames x0; clear_value x0
  extract_lets +onlyGivenNames x1; clear_value x1
  extract_lets +onlyGivenNames x2; clear_value x2
  extract_lets +onlyGivenNames x3; clear_value x3
  extract_lets +onlyGivenNames x4; clear_value x4
  refine Kept.ite ?_ ?_
  · exact k0
  · split
    · rename_i m5 m6 m7
      exact State.scrubBad_kept k0
    · rename_i m8 m9
      refine State.countTile_kept ?_
      exact State.scrubReport_kept k0
theorem State.scrubStripe_kept {s₀ : State} {a0} {a1} {a2} (k0 : Kept s₀ a0) : Kept s₀ (State.scrubStripe a0 a1 a2) := by
  unfold State.scrubStripe
  refine Kept.ite ?_ ?_
  · exact k0
  · extract_lets +onlyGivenNames x0
    have h1 : Kept s₀ x0.1 := by
      unfold x0
      refine each_keep (fun (r : State × Bool) => Kept s₀ r.1) ?_ ?_
      · refine Kept.fst ?_
        exact k0
      · intro v2 v3 h4
        extract_lets +onlyGivenNames x5
        have h6 : Kept s₀ x5.1 := by
          unfold x5
          refine State.scrubMember_kept ?_
          exact h4
        clear_value x5
        refine Kept.fst ?_
        exact h6
    clear_value x0
    extract_lets +onlyGivenNames x7; clear_value x7
    extract_lets +onlyGivenNames x8
    have h9 : Kept s₀ x8 := by
      unfold x8
      refine Kept.ite ?_ ?_
      · refine State.scrubParity_kept ?_
        exact h1
      · exact h1
    clear_value x8
    exact State.countTile_kept h9
theorem execCheckerClose_kept {s₀ : State} {a0} {a1} {a2} (k2 : Kept s₀ a2) : KeptO s₀ (execCheckerClose a0 a1 a2) := by
  unfold execCheckerClose
  refine KeptO.next ?_
  refine State.chkUnder_kept k2 ?_
  intro v0 h1
  exact State.closeChecker_kept h1
theorem execCheckerOpDone_kept {s₀ : State} {a0} {a1} (k1 : Kept s₀ a1) : KeptO s₀ (execCheckerOpDone a0 a1) := by
  unfold execCheckerOpDone
  refine KeptO.next ?_
  split
  · rename_i m0 m1
    exact k1
  · rename_i m2 m3 m4
    extract_lets +onlyGivenNames x5; clear_value x5
    refine Kept.ite ?_ ?_
    · exact k1
    · refine Kept.ite ?_ ?_
      · refine State.chkOutcome_kept ?_
        refine State.closeChecker_kept ?_
        exact State.killPlace_kept k1
      · extract_lets +onlyGivenNames x6
        have h7 : Kept s₀ x6 := by
          unfold x6
          refine Kept.ite ?_ ?_
          · exact State.chkResult_kept k1
          · refine Kept.ite ?_ ?_
            · exact State.wf_kept k1
            · exact State.chkOutcome_kept k1
        clear_value x6
        extract_lets +onlyGivenNames x8
        have h9 : Kept s₀ x8 := by
          unfold x8
          refine State.wf_kept ?_
          exact State.setChecker_kept h7
        clear_value x8
        refine each_keep (fun r => Kept s₀ r) ?_ ?_
        · exact h9
        · intro v10 v11 h12
          exact State.wf_kept h12
theorem execCheckerOpen_kept {s₀ : State} {a0} {a1} {a2} (k2 : Kept s₀ a2) : KeptO s₀ (execCheckerOpen a0 a1 a2) := by
  unfold execCheckerOpen
  refine KeptO.next ?_
  refine State.chkUnder_kept k2 ?_
  intro v0 h1
  refine Kept.ite ?_ ?_
  · exact State.chkOutcome_kept h1
  · extract_lets +onlyGivenNames x2
    have h3 : Kept s₀ x2.1 := by unfold x2; exact State.takePlace_kept h1
    clear_value x2
    split
    · rename_i m4 m5
      refine State.chkOutcome_kept ?_
      exact h3
    · rename_i m6 m7 m8
      extract_lets +onlyGivenNames x9
      have h10 : Kept s₀ x9 := by
        unfold x9
        refine State.setChecker_kept ?_
        refine State.wearPlace_kept ?_
        refine State.placeTo_kept ?_
        exact h3
      clear_value x9
      extract_lets +onlyGivenNames x11
      have h12 : Kept s₀ x11 := by
        unfold x11
        refine State.wf_kept ?_
        refine State.wf_kept ?_
        refine State.wf_kept ?_
        exact State.wf_kept h10
      clear_value x11
      extract_lets +onlyGivenNames x13
      have h14 : Kept s₀ x13 := by
        unfold x13
        refine State.chkOutcome_kept ?_
        refine State.wf_kept ?_
        exact State.wf_kept h12
      clear_value x13
      extract_lets +onlyGivenNames x15; clear_value x15
      extract_lets +onlyGivenNames x16; clear_value x16
      refine each_keep (fun r => Kept s₀ r) ?_ ?_
      · exact h14
      · intro v17 v18 h19
        refine each_keep (fun r => Kept s₀ r) ?_ ?_
        · exact h19
        · intro v20 v21 h22
          exact State.chkProgram_kept h22
theorem execCheckerRead_kept {s₀ : State} {a0} {a1} {a2} (k2 : Kept s₀ a2) : KeptO s₀ (execCheckerRead a0 a1 a2) := by
  unfold execCheckerRead
  refine KeptO.next ?_
  refine State.chkUnder_kept k2 ?_
  intro v0 h1
  split
  · rename_i m2 m3
    exact State.chkOutcome_kept h1
  · rename_i m4 m5 m6
    refine State.chkOutcome_kept ?_
    refine State.wf_kept ?_
    refine State.wf_kept ?_
    exact State.setChecker_kept h1
theorem execCheckerWrite_kept {s₀ : State} {a0} {a1} {a2} (k2 : Kept s₀ a2) : KeptO s₀ (execCheckerWrite a0 a1 a2) := by
  unfold execCheckerWrite
  refine KeptO.next ?_
  refine State.chkUnder_kept k2 ?_
  intro v0 h1
  split
  · rename_i m2 m3
    exact State.chkOutcome_kept h1
  · rename_i m4 m5 m6
    extract_lets +onlyGivenNames x7; clear_value x7
    extract_lets +onlyGivenNames x8; clear_value x8
    extract_lets +onlyGivenNames x9; clear_value x9
    extract_lets +onlyGivenNames x10; clear_value x10
    extract_lets +onlyGivenNames x11; clear_value x11
    extract_lets +onlyGivenNames x12
    have h13 : Kept s₀ x12 := by
      unfold x12
      refine State.wf_kept ?_
      exact State.setChecker_kept h1
    clear_value x12
    extract_lets +onlyGivenNames x14
    have h15 : Kept s₀ x14 := by
      unfold x14
      refine State.chkProgram_kept ?_
      refine State.chkOutcome_kept ?_
      exact State.wf_kept h13
    clear_value x14
    refine Kept.ite ?_ ?_
    · refine State.chkProgram_kept ?_
      exact State.chkProgram_kept h15
    · exact h15
theorem execFabricWordReceive_kept {s₀ : State} {a0} {a1} {a2} {a3} {a4} (k4 : Kept s₀ a4) : KeptO s₀ (execFabricWordReceive a0 a1 a2 a3 a4) := by
  unfold execFabricWordReceive
  refine KeptO.next ?_
  split
  · rename_i m0 m1 m2
    exact k4
  · rename_i m3 m4 m5
    exact State.countHub_kept k4
  · rename_i m6 m7
    refine State.loseWord_kept ?_
    exact State.countHub_kept k4
theorem execScrubLineStripe_kept {s₀ : State} {a0} {a1} (k1 : Kept s₀ a1) : KeptO s₀ (execScrubLineStripe a0 a1) := by
  unfold execScrubLineStripe
  refine KeptO.next ?_
  refine State.onAwake_kept k1 ?_
  intro v0 h1
  refine Kept.ite ?_ ?_
  · exact h1
  · extract_lets +onlyGivenNames x2; clear_value x2
    extract_lets +onlyGivenNames x3; clear_value x3
    extract_lets +onlyGivenNames x4
    have h5 : Kept s₀ x4 := by
      unfold x4
      split
      · rename_i m6 m7 m8
        exact State.scrubStripe_kept h1
      · rename_i m9 m10
        exact h1
    clear_value x4
    extract_lets +onlyGivenNames x11; clear_value x11
    extract_lets +onlyGivenNames x12
    have h13 : Kept s₀ x12 := by
      unfold x12
      refine Kept.ite ?_ ?_
      · refine State.incSat_kept ?_
        exact State.modTile_kept h5
      · exact State.modTile_kept h5
    clear_value x12
    extract_lets +onlyGivenNames x14; clear_value x14
    extract_lets +onlyGivenNames x15; clear_value x15
    extract_lets +onlyGivenNames x16; clear_value x16
    extract_lets +onlyGivenNames x17
    have h18 : Kept s₀ x17 := by
      unfold x17
      refine State.wf_kept ?_
      exact State.wf_kept h13
    clear_value x17
    refine Kept.ite ?_ ?_
    · exact State.emit_kept h18
    · exact h18
theorem execScrubPositionPersist_kept {s₀ : State} {a0} {a1} (k1 : Kept s₀ a1) : KeptO s₀ (execScrubPositionPersist a0 a1) := by
  unfold execScrubPositionPersist
  refine KeptO.next ?_
  exact State.modTile_kept k1
theorem execSramClear_kept {s₀ : State} {a0} {a1} {a2} (k2 : Kept s₀ a2) : KeptO s₀ (execSramClear a0 a1 a2) := by
  unfold execSramClear
  refine KeptO.next ?_
  refine Kept.ite ?_ ?_
  · exact k2
  · refine State.regWrite_kept k2 ?_
    intro v0 h1
    refine State.wf_kept ?_
    refine State.wf_kept ?_
    exact State.wf_kept h1

/-! ## CacheOps -/
theorem State.countSkip_kept {s₀ : State} {a0} {a1} {a2} {a3} (k0 : Kept s₀ a0) : Kept s₀ (State.countSkip a0 a1 a2 a3) := by
  unfold State.countSkip
  refine State.countTile_kept ?_
  exact State.wf_kept k0
theorem State.engineOpen_kept {s₀ : State} {a0} {a1} {a2} {a3} {a4} {a5} {a6} {a7} {a8} (k0 : Kept s₀ a0) : Kept s₀ (State.engineOpen a0 a1 a2 a3 a4 a5 a6 a7 a8).2 := by
  unfold State.engineOpen
  split
  · rename_i m0 m1 m2 m3
    refine Kept.snd ?_
    exact State.countRegen_kept k0
  · rename_i m4 m5
    refine Kept.snd ?_
    exact k0
  · rename_i m6 m7
    extract_lets +onlyGivenNames x8; clear_value x8
    refine Kept.snd ?_
    refine State.report_kept ?_
    refine State.countTile_kept ?_
    exact State.incSat_kept k0
theorem State.engineReadAt_kept {s₀ : State} {a0} {a1} {a2} {a3} {a4} {a5} {a6} (k0 : Kept s₀ a0) : Kept s₀ (State.engineReadAt a0 a1 a2 a3 a4 a5 a6).2 := by
  unfold State.engineReadAt
  extract_lets +onlyGivenNames x0; clear_value x0
  split
  · refine Kept.snd ?_
    exact k0
  · split
    · refine Kept.snd ?_
      refine State.report_kept ?_
      exact k0.congr rfl
    · extract_lets +onlyGivenNames x1
      have h2 : Kept s₀ x1 := by unfold x1; exact k0.congr rfl
      clear_value x1
      extract_lets +onlyGivenNames x3
      have h4 : Kept s₀ x3 := by unfold x3; exact State.loadPath_kept h2
      clear_value x3
      split
      · refine Kept.snd ?_
        exact h4
      · split
        · rename_i m5 m6 m7
          split
          · refine Kept.snd ?_
            exact h4
          · exact State.engineOpen_kept h4
        · rename_i m8 m9
          extract_lets +onlyGivenNames x10
          have h11 : Kept s₀ x10 := by
            unfold x10
            refine Kept.ite ?_ ?_
            · exact State.dropStale_kept h4
            · exact h4
          clear_value x10
          split
          · rename_i m12 m13 m14
            refine Kept.snd ?_
            exact h11
          · rename_i m15 m16
            split
            · rename_i m17 m18
              refine Kept.snd ?_
              exact h11
            · rename_i m19 m20
              refine Kept.snd ?_
              exact h11
            · rename_i m21 m22 m23 m24 m25
              split
              · rename_i m26 m27 m28 m29
                extract_lets +onlyGivenNames x30
                have h31 : Kept s₀ x30 := by
                  unfold x30
                  refine State.countCheck_kept ?_
                  exact State.chargeRead_kept h11
                clear_value x30
                extract_lets +onlyGivenNames x32
                have h33 : Kept s₀ x32 := by
                  unfold x32
                  refine Kept.ite ?_ ?_
                  · refine State.rewriteLine_kept ?_
                    exact State.report_kept h31
                  · exact h31
                clear_value x32
                split
                · refine Kept.snd ?_
                  exact h33
                · exact State.engineOpen_kept h33
              · rename_i m34 m35 m36
                extract_lets +onlyGivenNames x37
                have h38 : Kept s₀ x37 := by unfold x37; exact State.chargeRead_kept h11
                clear_value x37
                extract_lets +onlyGivenNames x39; subst x39
                extract_lets +onlyGivenNames x40
                have h41 : Kept s₀ x40 := by
                  unfold x40
                  refine State.report_kept ?_
                  exact h38.congr rfl
                clear_value x40
                extract_lets +onlyGivenNames x42
                have h43 : Kept s₀ x42 := by unfold x42; exact State.rewriteLine_kept h41
                clear_value x42
                split
                · refine Kept.snd ?_
                  exact h43
                · exact State.engineOpen_kept h43
              · rename_i m44 m45
                extract_lets +onlyGivenNames x46
                have h47 : Kept s₀ x46 := by unfold x46; exact State.chargeRead_kept h11
                clear_value x46
                refine Kept.snd ?_
                refine State.report_kept ?_
                exact h47.congr rfl
theorem State.engineRead_kept {s₀ : State} {a0} {a1} {a2} {a3} {a4} {a5} (k0 : Kept s₀ a0) : Kept s₀ (State.engineRead a0 a1 a2 a3 a4 a5).2 := by
  unfold State.engineRead
  exact State.engineReadAt_kept k0
theorem State.lockCached_kept {s₀ : State} {a0} {a1} {a2} (k0 : Kept s₀ a0) : Kept s₀ (State.lockCached a0 a1 a2) := by
  unfold State.lockCached
  exact State.modTile_kept k0
theorem State.lockLine_kept {s₀ : State} {a0} {a1} {a2} {a3} {a4} (k0 : Kept s₀ a0) : Kept s₀ (State.lockLine a0 a1 a2 a3 a4) := by
  unfold State.lockLine
  extract_lets +onlyGivenNames x0
  have h1 : ∀ y0, Kept s₀ y0 → Kept s₀ (x0 y0) := by
    unfold x0
    intro v2 h3
    refine State.modTile_kept ?_
    exact State.countSkip_kept h3
  clear_value x0
  split
  · rename_i m4 m5
    exact k0
  · rename_i m6 m7 m8
    extract_lets +onlyGivenNames x9; clear_value x9
    extract_lets +onlyGivenNames x10
    have h11 : Kept s₀ x10 := by
      unfold x10
      refine Kept.ite ?_ ?_
      · exact State.modTile_kept k0
      · exact k0
    clear_value x10
    extract_lets +onlyGivenNames x12; clear_value x12
    extract_lets +onlyGivenNames x13
    have h14 : Kept s₀ x13 := by
      unfold x13
      split
      · rename_i m15 m16
        refine Kept.ite ?_ ?_
        · exact h11
        · exact State.modTile_kept h11
      · rename_i m17
        exact h11
    clear_value x13
    split
    · rename_i m18 m19 m20
      refine Kept.ite ?_ ?_
      · exact h14
      · refine Kept.ite ?_ ?_
        · refine h1 _ ?_
          exact h14
        · exact State.lockCached_kept h14
    · rename_i m21 m22
      refine Kept.ite ?_ ?_
      · refine h1 _ ?_
        exact h14
      · split
        · rename_i m23 m24 m25 m26
          have h27 : Kept s₀ m25 := by
            rw [← show _ = m25 from congrArg Prod.snd (m26)]
            exact State.engineRead_kept h14
          extract_lets +onlyGivenNames x28
          have h29 : Kept s₀ x28 := by unfold x28; exact State.cacheAlloc_kept h27
          clear_value x28
          refine Kept.ite ?_ ?_
          · exact h29
          · refine h1 _ ?_
            exact h29
        · rename_i m30 m31 m32 m33 m34
          have h35 : Kept s₀ m32 := by
            rw [← show _ = m32 from congrArg Prod.snd (m34)]
            exact State.engineRead_kept h14
          refine h1 _ ?_
          exact h35
theorem State.rangeClean_kept {s₀ : State} {a0} {a1} {a2} (k0 : Kept s₀ a0) : Kept s₀ (State.rangeClean a0 a1 a2) := by
  unfold State.rangeClean
  exact State.modTile_kept k0
theorem State.rangeTake_kept {s₀ : State} {a0} {a1} {a2} {a3} (k0 : Kept s₀ a0) : Kept s₀ (State.rangeTake a0 a1 a2 a3) := by
  unfold State.rangeTake
  exact State.modTile_kept k0
theorem State.rangeDrop_kept {s₀ : State} {a0} {a1} {a2} (k0 : Kept s₀ a0) : Kept s₀ (State.rangeDrop a0 a1 a2) := by
  unfold State.rangeDrop
  extract_lets +onlyGivenNames x0; clear_value x0
  refine State.countSkip_kept ?_
  exact State.rangeTake_kept k0
theorem State.rangeGo_kept {s₀ : State} {a0} {a1} {a2} {a3} {a4} (k0 : Kept s₀ a0) (k4 : ∀ y0 y1, Kept s₀ y0 → Kept s₀ (a4 y0 y1)) : Kept s₀ (State.rangeGo a0 a1 a2 a3 a4) := by
  unfold State.rangeGo
  refine Kept.ite ?_ ?_
  · exact k0
  · refine State.regWrite_kept k0 ?_
    intro v0 h1
    refine Kept.ite ?_ ?_
    · exact State.wf_kept h1
    · extract_lets +onlyGivenNames x2; clear_value x2
      extract_lets +onlyGivenNames x3
      have h4 : Kept s₀ x3 := by
        unfold x3
        refine State.wf_kept ?_
        exact State.wf_kept h1
      clear_value x3
      split
      · rename_i m5 m6
        exact State.wf_kept h4
      · rename_i m7 m8 m9
        extract_lets +onlyGivenNames x10; clear_value x10
        refine Kept.ite ?_ ?_
        · exact State.wf_kept h4
        · extract_lets +onlyGivenNames x11; clear_value x11
          extract_lets +onlyGivenNames x12
          have h13 : Kept s₀ x12 := by
            unfold x12
            refine State.wf_kept ?_
            exact State.modTile_kept h4
          clear_value x12
          refine k4 _ _ ?_
          refine State.countTile_kept ?_
          refine State.wf_kept ?_
          exact State.wf_kept h13
theorem State.rangeLock_kept {s₀ : State} {a0} {a1} {a2} (k0 : Kept s₀ a0) : Kept s₀ (State.rangeLock a0 a1 a2) := by
  unfold State.rangeLock
  split
  · rename_i m0 m1 m2
    refine each_keep (fun r => Kept s₀ r) ?_ ?_
    · exact k0
    · intro v3 v4 h5
      exact State.lockLine_kept h5
  · rename_i m6 m7
    exact k0
theorem State.rangeUnlock_kept {s₀ : State} {a0} {a1} {a2} (k0 : Kept s₀ a0) : Kept s₀ (State.rangeUnlock a0 a1 a2) := by
  unfold State.rangeUnlock
  exact State.modTile_kept k0
theorem execClean_kept {s₀ : State} {a0} {a1} {a2} (k2 : Kept s₀ a2) : KeptO s₀ (execClean a0 a1 a2) := by
  unfold execClean
  refine KeptO.next ?_
  refine State.rangeGo_kept k2 ?_
  intro v0 v1 h2
  exact State.rangeClean_kept h2
theorem execCleanAndInvalidate_kept {s₀ : State} {a0} {a1} {a2} (k2 : Kept s₀ a2) : KeptO s₀ (execCleanAndInvalidate a0 a1 a2) := by
  unfold execCleanAndInvalidate
  refine KeptO.next ?_
  refine State.rangeGo_kept k2 ?_
  intro v0 v1 h2
  exact State.rangeClean_kept h2
theorem execInvalidate_kept {s₀ : State} {a0} {a1} {a2} (k2 : Kept s₀ a2) : KeptO s₀ (execInvalidate a0 a1 a2) := by
  unfold execInvalidate
  refine KeptO.next ?_
  refine State.rangeGo_kept k2 ?_
  intro v0 v1 h2
  refine Kept.ite ?_ ?_
  · exact State.rangeDrop_kept h2
  · refine State.rangeClean_kept ?_
    exact State.rangeTake_kept h2
theorem execLock_kept {s₀ : State} {a0} {a1} {a2} (k2 : Kept s₀ a2) : KeptO s₀ (execLock a0 a1 a2) := by
  unfold execLock
  refine KeptO.next ?_
  refine State.rangeGo_kept k2 ?_
  intro v0 v1 h2
  exact State.rangeLock_kept h2
theorem execRangeOpDone_kept {s₀ : State} {a0} {a1} (k1 : Kept s₀ a1) : KeptO s₀ (execRangeOpDone a0 a1) := by
  unfold execRangeOpDone
  refine KeptO.next ?_
  split
  · rename_i m0 m1
    exact k1
  · rename_i m2 m3 m4
    extract_lets +onlyGivenNames x5; clear_value x5
    refine Kept.ite ?_ ?_
    · exact k1
    · extract_lets +onlyGivenNames x6
      have h7 : Kept s₀ x6 := by
        unfold x6
        refine Kept.ite ?_ ?_
        · exact State.rangeDrop_kept k1
        · exact k1
      clear_value x6
      extract_lets +onlyGivenNames x8
      have h9 : Kept s₀ x8 := by
        unfold x8
        refine State.wf_kept ?_
        exact State.modTile_kept h7
      clear_value x8
      refine State.wf_kept ?_
      exact State.wf_kept h9
theorem execUnlock_kept {s₀ : State} {a0} {a1} {a2} (k2 : Kept s₀ a2) : KeptO s₀ (execUnlock a0 a1 a2) := by
  unfold execUnlock
  refine KeptO.next ?_
  refine State.rangeGo_kept k2 ?_
  intro v0 v1 h2
  exact State.rangeUnlock_kept h2

end Sys2Proof.Machine
end

