-- ==== Sys2Proof/Laws/KeptHost.lean ====
section
/-! SUPPORT. One lemma per operation: it keeps what Kept says, for keys, rights, images, management, host and queue commands. -/
set_option linter.unusedVariables false
set_option Elab.async false
set_option linter.unusedSimpArgs false
namespace Sys2Proof.Machine

/-! ## Keys -/
theorem Rerooted.leaf_kept {s₀ : State} {a0} {a1} {a2} {a3} {a4} (k0 : Kept s₀ a0.state) : Kept s₀ (Rerooted.leaf a0 a1 a2 a3 a4).state := by
  unfold Rerooted.leaf
  extract_lets +onlyGivenNames x0; clear_value x0
  refine each_keep (fun (r : Rerooted) => Kept s₀ r.state) ?_ ?_
  · exact k0
  · intro v1 v2 h3
    extract_lets +onlyGivenNames x4
    have h5 : Kept s₀ x4 := by unfold x4; exact h3
    clear_value x4
    extract_lets +onlyGivenNames x6; clear_value x6
    extract_lets +onlyGivenNames x7; clear_value x7
    extract_lets +onlyGivenNames x8
    have h9 : Kept s₀ x8 := by
      unfold x8
      split
      · rename_i m10 m11 m12 m13 m14
        exact State.chargeRead_kept h5
      · rename_i m15 m16
        exact h5
    clear_value x8
    extract_lets +onlyGivenNames x17; clear_value x17
    split
    · refine Kept.rerooted ?_
      refine State.poisonAdd_kept ?_
      exact State.catchPut_kept h9
    · refine Kept.rerooted ?_
      exact h9
theorem State.putTwig_kept {s₀ : State} {a0} {a1} {a2} {a3} {a4} (k0 : Kept s₀ a0) : Kept s₀ (State.putTwig a0 a1 a2 a3 a4) := by
  unfold State.putTwig
  exact State.modTile_kept k0
theorem State.writeNode_kept {s₀ : State} {a0} {a1} {a2} {a3} {a4} {a5} (k0 : Kept s₀ a0) : Kept s₀ (State.writeNode a0 a1 a2 a3 a4 a5).1 := by
  unfold State.writeNode
  extract_lets +onlyGivenNames x0
  have h1 : Kept s₀ x0.1 := by
    unfold x0
    split
    · refine Kept.fst ?_
      exact k0
    · exact State.takeCounter_kept k0
  clear_value x0
  extract_lets +onlyGivenNames x2
  have h3 : Kept s₀ x2 := by
    unfold x2
    refine State.modTile_kept ?_
    exact h1
  clear_value x2
  split
  · extract_lets +onlyGivenNames x4
    have h5 : Kept s₀ x4 := by unfold x4; exact State.modTile_kept h3
    clear_value x4
    refine Kept.fst ?_
    exact h5.congr rfl
  · extract_lets +onlyGivenNames x6
    have h7 : Kept s₀ x6 := by unfold x6; exact State.modTile_kept h3
    clear_value x6
    refine Kept.fst ?_
    exact State.structWrite_kept h7
theorem Rerooted.node_kept {s₀ : State} {a0} {a1} {a2} {a3} {a4} {a5} (k0 : Kept s₀ a0.state) : Kept s₀ (Rerooted.node a0 a1 a2 a3 a4 a5).1.state := by
  induction' a4 with n ih generalizing a0 a5
  · unfold Rerooted.node
    extract_lets +onlyGivenNames x0; clear_value x0
    extract_lets +onlyGivenNames x1; clear_value x1
    extract_lets +onlyGivenNames x2
    have h3 : Kept s₀ x2.1 := by
      unfold x2
      refine each_keep (fun (r : State × List ℕ) => Kept s₀ r.1) ?_ ?_
      · refine Kept.fst ?_
        exact k0
      · intro v4 v5 h6
        split
        · exact h6
        · extract_lets +onlyGivenNames x7
          have h8 : Kept s₀ x7.1 := by
            unfold x7
            refine State.takeCounter_kept ?_
            exact h6
          clear_value x7
          refine Kept.fst ?_
          exact h8
    clear_value x2
    extract_lets +onlyGivenNames x9
    have h10 : Kept s₀ x9 := by
      unfold x9
      refine State.putTwig_kept ?_
      exact h3
    clear_value x9
    extract_lets +onlyGivenNames x11
    have h12 : Kept s₀ x11.state := by
      unfold x11
      refine each_keep (fun (r : Rerooted) => Kept s₀ r.state) ?_ ?_
      · refine Kept.rerooted ?_
        exact h10
      · intro v13 v14 h15
        exact Rerooted.leaf_kept h15
    clear_value x11
    extract_lets +onlyGivenNames x16
    have h17 : Kept s₀ x16.1 := by
      unfold x16
      refine State.writeNode_kept ?_
      exact h12
    clear_value x16
    refine Kept.fst_state ?_
    refine Kept.rerooted ?_
    exact h17
  · unfold Rerooted.node
    extract_lets +onlyGivenNames x18; clear_value x18
    extract_lets +onlyGivenNames x19
    have h20 : Kept s₀ x19.1.state := by
      unfold x19
      refine each_keep (fun (r : Rerooted × List ℕ) => Kept s₀ r.1.state) ?_ ?_
      · refine Kept.fst_state ?_
        exact k0
      · intro v21 v22 h23
        extract_lets +onlyGivenNames x24
        have h25 : Kept s₀ x24.1.state := by
          unfold x24
          refine ih ?_
          exact h23
        clear_value x24
        refine Kept.fst_state ?_
        exact h25
    clear_value x19
    extract_lets +onlyGivenNames x26
    have h27 : Kept s₀ x26.1 := by
      unfold x26
      refine State.writeNode_kept ?_
      exact h20
    clear_value x26
    refine Kept.fst_state ?_
    refine Kept.rerooted ?_
    exact h27
theorem State.allUnverifiable_kept {s₀ : State} {a0} (k0 : Kept s₀ a0) : Kept s₀ (State.allUnverifiable a0) := by
  unfold State.allUnverifiable
  refine each_keep (fun r => Kept s₀ r) ?_ ?_
  · exact k0
  · intro v0 v1 h2
    refine each_keep (fun r => Kept s₀ r) ?_ ?_
    · exact h2
    · intro v3 v4 h5
      refine Kept.ite ?_ ?_
      · exact h5
      · exact State.markBad_kept h5
theorem State.chainUp_kept {s₀ : State} {a0} {a1} {a2} {a3} {a4} {a5} {a6} (k0 : Kept s₀ a0) : Kept s₀ (State.chainUp a0 a1 a2 a3 a4 a5 a6) := by
  induction' a3 with n ih generalizing a0 a4 a5 a6
  · unfold State.chainUp
    exact k0
  · unfold State.chainUp
    refine Kept.ite ?_ ?_
    · exact k0
    · extract_lets +onlyGivenNames x0; clear_value x0
      extract_lets +onlyGivenNames x1
      have h2 : Kept s₀ x1.1 := by unfold x1; exact State.writeNode_kept k0
      clear_value x1
      refine ih ?_
      exact h2
theorem State.commitSeal_kept {s₀ : State} {a0} (k0 : Kept s₀ a0) : Kept s₀ (State.commitSeal a0) := by
  unfold State.commitSeal
  split
  · rename_i m0 m1
    exact k0
  · rename_i m2 m3 m4
    extract_lets +onlyGivenNames x5; clear_value x5
    refine State.wf_kept ?_
    exact k0.congr rfl
theorem State.keyEvent_kept {s₀ : State} {a0} {a1} {a2} {a3} (k0 : Kept s₀ a0) : Kept s₀ (State.keyEvent a0 a1 a2 a3) := by
  unfold State.keyEvent
  exact State.raise_kept k0
theorem State.createSlot_kept {s₀ : State} {a0} {a1} {a2} {a3} (k0 : Kept s₀ a0) : Kept s₀ (State.createSlot a0 a1 a2 a3).state := by
  unfold State.createSlot
  extract_lets +onlyGivenNames x0; clear_value x0
  extract_lets +onlyGivenNames x1; clear_value x1
  extract_lets +onlyGivenNames x2
  have h3 : ∀ y0, Kept s₀ (x2 y0).state := by
    unfold x2
    intro v4
    refine Kept.answer ?_
    exact k0
  clear_value x2
  split
  · refine Kept.answer ?_
    exact k0
  · split
    · refine h3 _
    · split
      · refine h3 _
      · split
        · refine h3 _
        · extract_lets +onlyGivenNames x5; clear_value x5
          extract_lets +onlyGivenNames x6; clear_value x6
          extract_lets +onlyGivenNames x7
          have h8 : Kept s₀ x7 := by
            unfold x7
            refine State.setSlot_kept ?_
            exact k0.congr rfl
          clear_value x7
          refine Kept.answer ?_
          exact State.keyEvent_kept h8
theorem State.destroySlot_kept {s₀ : State} {a0} {a1} {a2} {a3} (k0 : Kept s₀ a0) : Kept s₀ (State.destroySlot a0 a1 a2 a3).state := by
  unfold State.destroySlot
  extract_lets +onlyGivenNames x0; clear_value x0
  extract_lets +onlyGivenNames x1; clear_value x1
  extract_lets +onlyGivenNames x2
  have h3 : ∀ y0, Kept s₀ (x2 y0).state := by
    unfold x2
    intro v4
    refine Kept.answer ?_
    exact k0
  clear_value x2
  split
  · refine Kept.answer ?_
    exact k0
  · split
    · refine h3 _
    · split
      · refine h3 _
      · split
        · refine h3 _
        · split
          · refine h3 _
          · split
            · refine h3 _
            · refine Kept.answer ?_
              refine State.keyEvent_kept ?_
              refine State.writeStructures_kept ?_
              refine State.dropKey_kept ?_
              exact State.setSlot_kept k0
theorem State.loadBole_kept {s₀ : State} {a0} {a1} {a2} (k0 : Kept s₀ a0) : Kept s₀ (State.loadBole a0 a1 a2) := by
  unfold State.loadBole
  extract_lets +onlyGivenNames x0; clear_value x0
  extract_lets +onlyGivenNames x1; clear_value x1
  refine Kept.ite ?_ ?_
  · exact k0
  · refine Kept.ite ?_ ?_
    · exact State.modTile_kept k0
    · extract_lets +onlyGivenNames x2
      have h3 : Kept s₀ x2.1 := by unfold x2; exact State.lineSound_kept k0
      clear_value x2
      split
      · rename_i m4 m5 m6 m7 m8 m9
        refine Kept.ite ?_ ?_
        · refine State.modTile_kept ?_
          exact h3
        · refine State.markBad_kept ?_
          exact h3
      · rename_i m10 m11 m12
        refine State.markBad_kept ?_
        exact h3
theorem State.loadBoles_kept {s₀ : State} {a0} (k0 : Kept s₀ a0) : Kept s₀ (State.loadBoles a0) := by
  unfold State.loadBoles
  refine each_keep (fun r => Kept s₀ r) ?_ ?_
  · exact k0
  · intro v0 v1 h2
    refine each_keep (fun r => Kept s₀ r) ?_ ?_
    · exact h2
    · intro v3 v4 h5
      exact State.loadBole_kept h5
theorem State.passLine_kept {s₀ : State} {a0} {a1} {a2} (k0 : Kept s₀ a0) : Kept s₀ (State.passLine a0 a1 a2) := by
  unfold State.passLine
  extract_lets +onlyGivenNames x0; clear_value x0
  extract_lets +onlyGivenNames x1
  have h2 : Kept s₀ x1 := by unfold x1; exact State.modTile_kept k0
  clear_value x1
  exact State.wf_kept h2
theorem State.rekeyEvent_kept {s₀ : State} {a0} {a1} (k0 : Kept s₀ a0) : Kept s₀ (State.rekeyEvent a0 a1) := by
  unfold State.rekeyEvent
  exact State.raise_kept k0
theorem State.rekeyBegin_kept {s₀ : State} {a0} {a1} (k0 : Kept s₀ a0) : Kept s₀ (State.rekeyBegin a0 a1) := by
  unfold State.rekeyBegin
  extract_lets +onlyGivenNames x0; subst x0
  extract_lets +onlyGivenNames x1
  have h2 : Kept s₀ x1 := by
    unfold x1
    refine State.modLd_kept ?_
    exact k0.of (tiles := by simp)
  clear_value x1
  extract_lets +onlyGivenNames x3
  have h4 : Kept s₀ x3 := by
    unfold x3
    refine State.wf_kept ?_
    refine State.wf_kept ?_
    refine State.wf_kept ?_
    exact State.wf_kept h2
  clear_value x3
  exact State.rekeyEvent_kept h4
theorem State.rekeyFinish_kept {s₀ : State} {a0} {a1} (k0 : Kept s₀ a0) : Kept s₀ (State.rekeyFinish a0 a1) := by
  unfold State.rekeyFinish
  extract_lets +onlyGivenNames x0; subst x0
  extract_lets +onlyGivenNames x1
  have h2 : Kept s₀ x1 := by unfold x1; exact k0.of (tiles := by simp)
  clear_value x1
  refine State.rekeyEvent_kept ?_
  exact State.wf_kept h2
theorem State.rekeyPut_kept {s₀ : State} {a0} {a1} {a2} {a3} {a4} (k0 : Kept s₀ a0) : Kept s₀ (State.rekeyPut a0 a1 a2 a3 a4) := by
  unfold State.rekeyPut
  refine State.countTile_kept ?_
  refine State.catchPut_kept ?_
  exact State.modTile_kept k0
theorem State.rekeyLine_kept {s₀ : State} {a0} {a1} {a2} {a3} {a4} {a5} (k0 : Kept s₀ a0) : Kept s₀ (State.rekeyLine a0 a1 a2 a3 a4 a5) := by
  unfold State.rekeyLine
  extract_lets +onlyGivenNames x0; clear_value x0
  extract_lets +onlyGivenNames x1; clear_value x1
  extract_lets +onlyGivenNames x2; clear_value x2
  refine Kept.ite ?_ ?_
  · exact k0
  · split
    · rename_i m3 m4 m5 m6
      have h7 : Kept s₀ m5 := by
        rw [← show _ = m5 from congrArg Prod.snd (m6)]
        exact State.engineRead_kept k0
      exact State.rekeyPut_kept h7
    · rename_i m8 m9 m10 m11 m12
      have h13 : Kept s₀ m10 := by
        rw [← show _ = m10 from congrArg Prod.snd (m12)]
        exact State.engineRead_kept k0
      refine State.poisonAdd_kept ?_
      exact State.rekeyPut_kept h13
theorem State.rerootTile_kept {s₀ : State} {a0} {a1} {a2} (k0 : Kept s₀ a0) : Kept s₀ (State.rerootTile a0 a1 a2).state := by
  unfold State.rerootTile
  extract_lets +onlyGivenNames x0; clear_value x0
  refine each_keep (fun (r : Rerooted) => Kept s₀ r.state) ?_ ?_
  · refine Kept.rerooted ?_
    exact k0
  · intro v1 v2 h3
    split
    · extract_lets +onlyGivenNames x4
      have h5 : Kept s₀ x4 := by
        unfold x4
        refine State.loadPath_kept ?_
        exact h3
      clear_value x4
      extract_lets +onlyGivenNames x6
      have h7 : Kept s₀ x6.1.state := by
        unfold x6
        refine Rerooted.node_kept ?_
        refine Kept.rerooted ?_
        exact h5
      clear_value x6
      refine Kept.rerooted ?_
      refine State.chainUp_kept ?_
      exact h7
    · exact h3
theorem State.resumeAllocs_kept {s₀ : State} {a0} {a1} (k0 : Kept s₀ a0) : Kept s₀ (State.resumeAllocs a0 a1) := by
  unfold State.resumeAllocs
  extract_lets +onlyGivenNames x0; clear_value x0
  extract_lets +onlyGivenNames x1; clear_value x1
  extract_lets +onlyGivenNames x2; clear_value x2
  extract_lets +onlyGivenNames x3; clear_value x3
  refine State.wf_kept ?_
  exact k0.congr rfl
theorem State.saveSealed_kept {s₀ : State} {a0} (k0 : Kept s₀ a0) : Kept s₀ (State.saveSealed a0) := by
  unfold State.saveSealed
  split
  · rename_i m0 m1 m2
    refine Kept.ite ?_ ?_
    · exact k0
    · exact k0.congr rfl
  · rename_i m3 m4
    exact k0
theorem State.sealBole_kept {s₀ : State} {a0} {a1} {a2} (k0 : Kept s₀ a0) : Kept s₀ (State.sealBole a0 a1 a2) := by
  unfold State.sealBole
  extract_lets +onlyGivenNames x0
  have h1 : Kept s₀ x0.1 := by unfold x0; exact State.takeCounter_kept k0
  clear_value x0
  extract_lets +onlyGivenNames x2; clear_value x2
  extract_lets +onlyGivenNames x3
  have h4 : Kept s₀ x3 := by
    unfold x3
    refine State.modTile_kept ?_
    exact h1
  clear_value x3
  exact h4.congr rfl
theorem State.sealNode_kept {s₀ : State} {a0} {a1} {a2} (k0 : Kept s₀ a0) : Kept s₀ (State.sealNode a0 a1 a2) := by
  unfold State.sealNode
  split
  · rename_i m0 m1
    exact k0
  · rename_i m2 m3 m4
    extract_lets +onlyGivenNames x5; clear_value x5
    extract_lets +onlyGivenNames x6
    have h7 : Kept s₀ x6.1 := by
      unfold x6
      split
      · refine Kept.fst ?_
        exact k0
      · exact State.takeCounter_kept k0
    clear_value x6
    extract_lets +onlyGivenNames x8
    have h9 : Kept s₀ x8 := by
      unfold x8
      refine State.modTile_kept ?_
      exact h7
    clear_value x8
    refine Kept.ite ?_ ?_
    · exact h9
    · exact State.setNode_kept h9
theorem State.sealTile_kept {s₀ : State} {a0} {a1} (k0 : Kept s₀ a0) : Kept s₀ (State.sealTile a0 a1) := by
  unfold State.sealTile
  extract_lets +onlyGivenNames x0
  have h1 : Kept s₀ x0 := by
    unfold x0
    refine each_keep (fun r => Kept s₀ r) ?_ ?_
    · exact k0
    · intro v2 v3 h4
      refine each_keep (fun r => Kept s₀ r) ?_ ?_
      · exact h4
      · intro v5 v6 h7
        exact State.sealNode_kept h7
  clear_value x0
  refine each_keep (fun r => Kept s₀ r) ?_ ?_
  · exact State.modTile_kept h1
  · intro v8 v9 h10
    exact State.sealBole_kept h10
theorem State.sealTaproots_kept {s₀ : State} {a0} (k0 : Kept s₀ a0) : Kept s₀ (State.sealTaproots a0) := by
  unfold State.sealTaproots
  extract_lets +onlyGivenNames x0
  have h1 : Kept s₀ x0 := by
    unfold x0
    refine each_keep (fun r => Kept s₀ r) ?_ ?_
    · exact k0
    · intro v2 v3 h4
      refine Kept.ite ?_ ?_
      · exact h4
      · exact State.sealTile_kept h4
  clear_value x0
  extract_lets +onlyGivenNames x5
  have h6 : Kept s₀ x5 := by unfold x5; exact h1.of (tiles := by simp)
  clear_value x5
  extract_lets +onlyGivenNames x7; subst x7
  refine State.wf_kept ?_
  refine State.countHub_kept ?_
  exact h6.congr rfl
theorem State.startRekey_kept {s₀ : State} {a0} {a1} {a2} {a3} (k0 : Kept s₀ a0) : Kept s₀ (State.startRekey a0 a1 a2 a3).state := by
  unfold State.startRekey
  extract_lets +onlyGivenNames x0; clear_value x0
  extract_lets +onlyGivenNames x1; clear_value x1
  extract_lets +onlyGivenNames x2; clear_value x2
  extract_lets +onlyGivenNames x3; clear_value x3
  split
  · exact answer_kept k0
  · extract_lets +onlyGivenNames x4; clear_value x4
    split
    · refine answer_kept ?_
      exact State.deny_kept k0
    · extract_lets +onlyGivenNames x5; clear_value x5
      split
      · refine Kept.answer ?_
        exact k0
      · split
        · exact answer_kept k0
        · extract_lets +onlyGivenNames x6; clear_value x6
          refine Kept.answer ?_
          exact State.rekeyBegin_kept k0
theorem State.takeSet_kept {s₀ : State} {a0} {a1} (k0 : Kept s₀ a0) : Kept s₀ (State.takeSet a0 a1) := by
  unfold State.takeSet
  exact k0.congr rfl
theorem execCreateKeySlot_kept {s₀ : State} {a0} {a1} {a2} {a3} (k3 : Kept s₀ a3) : KeptO s₀ (execCreateKeySlot a0 a1 a2 a3) := by
  unfold execCreateKeySlot
  refine KeptO.next ?_
  refine State.command_kept k3 ?_
  intro v0 h1
  exact State.createSlot_kept h1
theorem execDestroyKeySlot_kept {s₀ : State} {a0} {a1} {a2} {a3} (k3 : Kept s₀ a3) : KeptO s₀ (execDestroyKeySlot a0 a1 a2 a3) := by
  unfold execDestroyKeySlot
  refine KeptO.next ?_
  refine State.command_kept k3 ?_
  intro v0 h1
  exact State.destroySlot_kept h1
theorem execGetKeySlotInfo_kept {s₀ : State} {a0} {a1} {a2} {a3} (k3 : Kept s₀ a3) : KeptO s₀ (execGetKeySlotInfo a0 a1 a2 a3) := by
  unfold execGetKeySlotInfo
  refine KeptO.next ?_
  refine State.command_kept k3 ?_
  intro v0 h1
  refine Kept.answer ?_
  exact h1
theorem execRekeyEnd_kept {s₀ : State} {a0} {a1} (k1 : Kept s₀ a1) : KeptO s₀ (execRekeyEnd a0 a1) := by
  unfold execRekeyEnd
  refine KeptO.next ?_
  split
  · rename_i m0 m1
    exact k1
  · rename_i m2 m3 m4
    refine Kept.ite ?_ ?_
    · refine State.endBackground_kept ?_
      exact State.rekeyFinish_kept k1
    · exact k1
theorem execRekeyLine_kept {s₀ : State} {a0} {a1} {a2} {a3} (k3 : Kept s₀ a3) : KeptO s₀ (execRekeyLine a0 a1 a2 a3) := by
  unfold execRekeyLine
  refine KeptO.next ?_
  refine State.onAwake_kept k3 ?_
  intro v0 h1
  split
  · rename_i m2 m3
    exact h1
  · rename_i m4 m5 m6
    extract_lets +onlyGivenNames x7; clear_value x7
    split
    · rename_i m8 m9
      exact h1
    · rename_i m10 m11 m12
      refine Kept.ite ?_ ?_
      · exact h1
      · extract_lets +onlyGivenNames x13; clear_value x13
        extract_lets +onlyGivenNames x14; clear_value x14
        extract_lets +onlyGivenNames x15; clear_value x15
        refine Kept.ite ?_ ?_
        · exact h1
        · refine State.passLine_kept ?_
          refine State.rekeyLine_kept ?_
          exact State.meetAt_kept h1
theorem execReroot_kept {s₀ : State} {a0} {a1} {a2} (k2 : Kept s₀ a2) : KeptO s₀ (execReroot a0 a1 a2) := by
  unfold execReroot
  refine KeptO.next ?_
  refine State.regWrite_kept k2 ?_
  intro v0 h1
  refine Kept.ite ?_ ?_
  · exact h1
  · refine Kept.ite ?_ ?_
    · exact State.deny_kept h1
    · extract_lets +onlyGivenNames x2
      have h3 : Kept s₀ x2 := by
        unfold x2
        refine State.wf_kept ?_
        refine State.wf_kept ?_
        refine State.wf_kept ?_
        exact State.wf_kept h1
      clear_value x2
      refine Kept.ite ?_ ?_
      · refine State.wf_kept ?_
        refine State.wf_kept ?_
        exact State.wf_kept h3
      · exact State.wf_kept h3
theorem execRerootDone_kept {s₀ : State} {a0} {a1} (k1 : Kept s₀ a1) : KeptO s₀ (execRerootDone a0 a1) := by
  unfold execRerootDone
  refine KeptO.next ?_
  extract_lets +onlyGivenNames x0; clear_value x0
  refine Kept.ite ?_ ?_
  · exact k1
  · extract_lets +onlyGivenNames x1; clear_value x1
    extract_lets +onlyGivenNames x2
    have h3 : Kept s₀ x2.state := by
      unfold x2
      split
      · rename_i m4 m5 m6
        exact State.rerootTile_kept k1
      · rename_i m7 m8
        refine Kept.rerooted ?_
        exact State.modTile_kept k1
    clear_value x2
    extract_lets +onlyGivenNames x9
    have h10 : Kept s₀ x9 := by unfold x9; exact h3
    clear_value x9
    extract_lets +onlyGivenNames x11
    have h12 : Kept s₀ x11 := by unfold x11; exact State.wf_kept h10
    clear_value x11
    extract_lets +onlyGivenNames x13
    have h14 : Kept s₀ x13 := by
      unfold x13
      refine State.incSat_kept ?_
      exact h12.congr rfl
    clear_value x13
    extract_lets +onlyGivenNames x15
    have h16 : Kept s₀ x15 := by unfold x15; exact State.raise_kept h14
    clear_value x15
    refine Kept.ite ?_ ?_
    · exact h16
    · refine State.wf_kept ?_
      refine State.wf_kept ?_
      exact State.wf_kept h16
theorem execSealedSetSave_kept {s₀ : State} {a0} (k0 : Kept s₀ a0) : KeptO s₀ (execSealedSetSave a0) := by
  unfold execSealedSetSave
  refine KeptO.next ?_
  refine Kept.ite ?_ ?_
  · exact k0
  · exact State.saveSealed_kept k0
theorem execStartRekey_kept {s₀ : State} {a0} {a1} {a2} {a3} (k3 : Kept s₀ a3) : KeptO s₀ (execStartRekey a0 a1 a2 a3) := by
  unfold execStartRekey
  refine KeptO.next ?_
  refine State.command_kept k3 ?_
  intro v0 h1
  exact State.startRekey_kept h1
theorem execTaprootAccept_kept {s₀ : State} {a0} (k0 : Kept s₀ a0) : KeptO s₀ (execTaprootAccept a0) := by
  unfold execTaprootAccept
  refine KeptO.next ?_
  refine Kept.ite ?_ ?_
  · exact k0
  · extract_lets +onlyGivenNames x0; clear_value x0
    extract_lets +onlyGivenNames x1; clear_value x1
    extract_lets +onlyGivenNames x2; clear_value x2
    extract_lets +onlyGivenNames x3; clear_value x3
    extract_lets +onlyGivenNames x4
    have h5 : Kept s₀ x4 := by
      unfold x4
      refine State.resumeAllocs_kept ?_
      refine State.wf_kept ?_
      exact k0.congr rfl
    clear_value x4
    extract_lets +onlyGivenNames x6
    have h7 : Kept s₀ x6 := by
      unfold x6
      split
      · rename_i m8 m9 m10
        refine State.loadBoles_kept ?_
        exact State.takeSet_kept h5
      · rename_i m11 m12
        exact h5
    clear_value x6
    extract_lets +onlyGivenNames x13
    have h14 : Kept s₀ x13 := by
      unfold x13
      refine Kept.ite ?_ ?_
      · exact State.allUnverifiable_kept h7
      · exact h7
    clear_value x13
    extract_lets +onlyGivenNames x15
    have h16 : Kept s₀ x15 := by
      unfold x15
      refine Kept.ite ?_ ?_
      · exact State.raise_kept h14
      · exact h14
    clear_value x15
    exact h16.congr rfl

/-! ## Rights0 -/
theorem State.abortFw_kept {s₀ : State} {a0} (k0 : Kept s₀ a0) : Kept s₀ (State.abortFw a0) := by
  unfold State.abortFw
  split
  · rename_i m0 m1 m2
    refine State.wf_kept ?_
    exact k0.congr rfl
  · rename_i m3 m4
    exact k0
theorem State.abortFwOf_kept {s₀ : State} {a0} {a1} (k0 : Kept s₀ a0) : Kept s₀ (State.abortFwOf a0 a1) := by
  unfold State.abortFwOf
  split
  · rename_i m0 m1 m2
    refine Kept.ite ?_ ?_
    · exact State.abortFw_kept k0
    · exact k0
  · rename_i m3 m4
    exact k0
theorem State.abortStage_kept {s₀ : State} {a0} (k0 : Kept s₀ a0) : Kept s₀ (State.abortStage a0) := by
  unfold State.abortStage
  split
  · rename_i m0 m1 m2
    refine State.wf_kept ?_
    exact k0.congr rfl
  · rename_i m3 m4
    exact k0
theorem State.abortStageOf_kept {s₀ : State} {a0} {a1} (k0 : Kept s₀ a0) : Kept s₀ (State.abortStageOf a0 a1) := by
  unfold State.abortStageOf
  split
  · rename_i m0 m1 m2
    refine Kept.ite ?_ ?_
    · exact State.abortStage_kept k0
    · exact k0
  · rename_i m3 m4
    exact k0
theorem State.psStat_kept {s₀ : State} {a0} (k0 : Kept s₀ a0) : Kept s₀ (State.psStat a0) := by
  unfold State.psStat
  refine State.wf_kept ?_
  refine State.wf_kept ?_
  exact State.wf_kept k0
theorem State.devicePut_kept {s₀ : State} {a0} {a1} {a2} (k0 : Kept s₀ a0) : Kept s₀ (State.devicePut a0 a1 a2) := by
  unfold State.devicePut
  split
  · rename_i m0 m1 m2
    extract_lets +onlyGivenNames x3; clear_value x3
    exact k0.congr rfl
  · rename_i m4 m5
    extract_lets +onlyGivenNames x6; clear_value x6
    refine State.psStat_kept ?_
    exact k0.congr rfl
theorem State.dropWarrants_kept {s₀ : State} {a0} {a1} (k0 : Kept s₀ a0) : Kept s₀ (State.dropWarrants a0 a1) := by
  unfold State.dropWarrants
  exact k0.congr rfl
theorem State.newChallenge_kept {s₀ : State} {a0} {a1} (k0 : Kept s₀ a0) : Kept s₀ (State.newChallenge a0 a1) := by
  unfold State.newChallenge
  exact k0.congr rfl
theorem State.resetInterface_kept {s₀ : State} {a0} {a1} (k0 : Kept s₀ a0) : Kept s₀ (State.resetInterface a0 a1) := by
  unfold State.resetInterface
  extract_lets +onlyGivenNames x0
  have h1 : Kept s₀ x0 := by
    unfold x0
    refine State.newChallenge_kept ?_
    exact State.dropWarrants_kept k0
  clear_value x0
  refine Kept.ite ?_ ?_
  · exact State.stopTrace_kept h1
  · exact h1

/-! ## Rights -/
theorem State.storeOwnerSet_kept {s₀ : State} {a0} {a1} (k0 : Kept s₀ a0) : Kept s₀ (State.storeOwnerSet a0 a1) := by
  unfold State.storeOwnerSet
  refine State.devicePut_kept ?_
  exact k0.congr rfl
theorem State.lifecycleEvent_kept {s₀ : State} {a0} {a1} (k0 : Kept s₀ a0) : Kept s₀ (State.lifecycleEvent a0 a1) := by
  unfold State.lifecycleEvent
  exact State.raise_kept k0
theorem State.noteLifecycle_kept {s₀ : State} {a0} (k0 : Kept s₀ a0) : Kept s₀ (State.noteLifecycle a0) := by
  unfold State.noteLifecycle
  exact k0.congr rfl
theorem State.act1_kept {s₀ : State} {a0} {a1} (k0 : Kept s₀ a0) : Kept s₀ (State.act1 a0 a1) := by
  unfold State.act1
  extract_lets +onlyGivenNames x0; clear_value x0
  extract_lets +onlyGivenNames f x1; subst f
  have h1 : Kept s₀ x1 := by
    unfold x1
    refine k0.of (fuses := ⟨?_, Nat.le_refl _, Nat.le_refl _, id⟩)
    exact filter_set_le (fun (b : Bank) => burned b.cells) a0.fuses.banks _ _ rfl
  clear_value x1
  extract_lets +onlyGivenNames x2
  have h2 : Kept s₀ x2 := State.storeOwnerSet_kept h1
  clear_value x2
  extract_lets +onlyGivenNames x3
  have h3 : Kept s₀ x3 := each_keep (fun r => Kept s₀ r) h2 (fun s a h => State.dropWarrants_kept h)
  clear_value x3
  extract_lets +onlyGivenNames f x4; subst f
  have h4 : Kept s₀ x4 := by
    unfold x4
    exact Kept.ite (h3.congr rfl) h3
  clear_value x4
  exact State.lifecycleEvent_kept h4
theorem State.act2_kept {s₀ : State} {a0} (k0 : Kept s₀ a0) : Kept s₀ (State.act2 a0) := by
  unfold State.act2
  extract_lets +onlyGivenNames f x1; subst f
  have h1 : Kept s₀ x1 := k0.congr rfl
  clear_value x1
  extract_lets +onlyGivenNames f x2; subst f
  have h2 : Kept s₀ x2 := by
    unfold x2
    refine h1.of (fuses := ⟨?_, ?_, Nat.le_refl _, id⟩)
    · refine Nat.le_of_eq (Eq.symm (filter_modify (fun (b : Bank) => burned b.cells) x1.fuses.banks _ _ (fun b => rfl)))
    · exact burnNext_le _
  clear_value x2
  extract_lets +onlyGivenNames x3
  have h3 : Kept s₀ x3 := each_keep (fun r => Kept s₀ r) h2 (fun s a h => State.dropWarrants_kept h)
  clear_value x3
  extract_lets +onlyGivenNames r4 x4
  have h4 : Kept s₀ x4 := h3.congr rfl
  clear_value x4
  exact State.requestReset_kept (State.lifecycleEvent_kept (State.noteLifecycle_kept h4))
theorem State.act3_kept {s₀ : State} {a0} (k0 : Kept s₀ a0) : Kept s₀ (State.act3 a0) := by
  unfold State.act3
  extract_lets +onlyGivenNames f x1; subst f
  have h1 : Kept s₀ x1 := k0.congr rfl
  clear_value x1
  extract_lets +onlyGivenNames x2
  have h2 : Kept s₀ x2 := State.clearKeyCaches_kept h1
  clear_value x2
  extract_lets +onlyGivenNames f v x3; subst f
  have h3 : Kept s₀ x3 := h2.of (fuses := ⟨Nat.le_refl _, Nat.le_refl _, Nat.le_refl _, fun _ => rfl⟩)
  clear_value x3
  exact State.requestReset_kept (State.lifecycleEvent_kept (State.noteLifecycle_kept h3))
theorem State.finishActs_kept {s₀ : State} {a0} (k0 : Kept s₀ a0) : Kept s₀ (State.finishActs a0) := by
  unfold State.finishActs
  extract_lets +onlyGivenNames x0
  have h1 : Kept s₀ x0 := by
    have hw : ∀ n : Nat, burned (if burned n then 3 else n) = burned n := fun n => by cases h : burned n <;> simp [h] <;> rfl
    have hm : ∀ l : List Nat, ((l.map (fun n => if burned n then 3 else n)).filter burned).length = (l.filter burned).length := fun l => by
      induction l with
      | nil => rfl
      | cons n l ih => simp only [List.map_cons, List.filter_cons, hw]; split <;> simp [ih]
    have hb : ∀ l : List Bank, ((l.map (fun b : Bank => { b with cells := if burned b.cells then 3 else b.cells, released := if burned b.released then 3 else b.released })).filter (fun b => burned b.cells)).length = (l.filter (fun b => burned b.cells)).length := fun l => by
      induction l with
      | nil => rfl
      | cons n l ih => simp only [List.map_cons, List.filter_cons, hw]; split <;> simp [ih]
    refine k0.of (fuses := ⟨?_, ?_, ?_, ?_⟩)
    · exact Nat.le_of_eq (hb _).symm
    · exact Nat.le_of_eq (hm _).symm
    · exact Nat.le_of_eq (hm _).symm
    · exact fun h => (hw _).trans h
  clear_value x0
  extract_lets +onlyGivenNames x2; clear_value x2
  extract_lets +onlyGivenNames x3; subst x3
  extract_lets +onlyGivenNames x4; subst x4
  extract_lets +onlyGivenNames x5
  have h6 : Kept s₀ x5 := by
    unfold x5
    refine Kept.ite ?_ ?_
    · exact h1.congr rfl
    · exact h1
  clear_value x5
  extract_lets +onlyGivenNames x7; subst x7
  extract_lets +onlyGivenNames x8
  have h9 : Kept s₀ x8 := by
    unfold x8
    refine Kept.ite ?_ ?_
    · exact h6.congr rfl
    · exact h6
  clear_value x8
  extract_lets +onlyGivenNames x10; subst x10
  extract_lets +onlyGivenNames x11; subst x11
  extract_lets +onlyGivenNames x12
  have h13 : Kept s₀ x12 := by
    unfold x12
    refine Kept.ite ?_ ?_
    · exact h9.of (fuses := ⟨Nat.le_refl _, Nat.le_refl _, Nat.le_refl _, id⟩)
    · exact h9
  clear_value x12
  exact h13.congr rfl
theorem State.holdWarrant_kept {s₀ : State} {a0} {a1} {a2} (k0 : Kept s₀ a0) : Kept s₀ (State.holdWarrant a0 a1 a2) := by
  unfold State.holdWarrant
  extract_lets +onlyGivenNames x0; clear_value x0
  extract_lets +onlyGivenNames x1; subst x1
  extract_lets +onlyGivenNames x2
  have h3 : Kept s₀ x2 := by unfold x2; exact k0.congr rfl
  clear_value x2
  extract_lets +onlyGivenNames x4; subst x4
  extract_lets +onlyGivenNames x5
  have h6 : Kept s₀ x5 := by
    unfold x5
    refine Kept.ite ?_ ?_
    · exact h3.congr rfl
    · exact h3
  clear_value x5
  refine Kept.ite ?_ ?_
  · exact State.newChallenge_kept h6
  · exact h6
theorem State.report388_kept {s₀ : State} {a0} {a1} (k0 : Kept s₀ a0) : Kept s₀ (State.report388 a0 a1).state := by
  unfold State.report388
  split
  · refine Kept.answer ?_
    exact k0
  · exact answer_kept k0
theorem State.warrantEvent_kept {s₀ : State} {a0} {a1} {a2} {a3} (k0 : Kept s₀ a0) : Kept s₀ (State.warrantEvent a0 a1 a2 a3) := by
  unfold State.warrantEvent
  extract_lets +onlyGivenNames x0
  have h1 : Kept s₀ x0 := by
    unfold x0
    refine State.wf_kept ?_
    exact State.wf_kept k0
  clear_value x0
  extract_lets +onlyGivenNames x2
  have h3 : Kept s₀ x2 := by
    unfold x2
    refine Kept.ite ?_ ?_
    · exact State.incSat_kept h1
    · exact State.incSat_kept h1
  clear_value x2
  refine State.countHub_kept ?_
  exact State.raise_kept h3
theorem State.submitWarrant_kept {s₀ : State} {a0} {a1} {a2} (k0 : Kept s₀ a0) : Kept s₀ (State.submitWarrant a0 a1 a2).state := by
  unfold State.submitWarrant
  extract_lets +onlyGivenNames x0; clear_value x0
  extract_lets +onlyGivenNames x1; clear_value x1
  extract_lets +onlyGivenNames x2; clear_value x2
  extract_lets +onlyGivenNames x3; clear_value x3
  extract_lets +onlyGivenNames x4; clear_value x4
  extract_lets +onlyGivenNames x5
  have h6 : ∀ y0 y1, Kept s₀ y1 → Kept s₀ (x5 y0 y1).state := by
    unfold x5
    intro v7 v8 h9
    refine Kept.answer ?_
    exact h9
  clear_value x5
  split
  · exact answer_kept k0
  · split
    · refine h6 _ _ ?_
      exact k0
    · split
      · refine h6 _ _ ?_
        exact State.dropWarrants_kept k0
      · split
        · refine h6 _ _ ?_
          exact State.storeOwnerSet_kept k0
        · extract_lets +onlyGivenNames x10; clear_value x10
          extract_lets +onlyGivenNames x11; clear_value x11
          split
          · refine h6 _ _ ?_
            exact State.warrantEvent_kept k0
          · split
            · refine h6 _ _ ?_
              refine State.warrantEvent_kept ?_
              exact State.holdWarrant_kept k0
            · extract_lets +onlyGivenNames x12
              have h13 : Kept s₀ x12 := by
                unfold x12
                refine Kept.ite ?_ ?_
                · exact State.newChallenge_kept k0
                · exact k0
              clear_value x12
              extract_lets +onlyGivenNames x14
              have h15 : Kept s₀ x14 := by unfold x14; exact State.warrantEvent_kept h13
              clear_value x14
              refine h6 _ _ ?_
              refine Kept.ite ?_ ?_
              · exact State.act1_kept h15
              · refine Kept.ite ?_ ?_
                · exact State.act2_kept h15
                · exact State.act3_kept h15
theorem execAttestationReport_kept {s₀ : State} {a0} {a1} {a2} {a3} {a4} (k4 : Kept s₀ a4) : KeptO s₀ (execAttestationReport a0 a1 a2 a3 a4) := by
  unfold execAttestationReport
  refine KeptO.next ?_
  refine Kept.ite ?_ ?_
  · refine State.command_kept k4 ?_
    intro v0 h1
    exact State.report388_kept h1
  · refine Kept.ite ?_ ?_
    · refine State.command_kept k4 ?_
      intro v2 h3
      exact State.report388_kept h3
    · refine Kept.ite ?_ ?_
      · exact State.unheard_kept k4
      · extract_lets +onlyGivenNames x4
        have h5 : Kept s₀ x4 := by
          unfold x4
          refine State.irqEdge_kept ?_
          exact State.countHub_kept k4
        clear_value x4
        refine Kept.ite ?_ ?_
        · exact State.reply_kept h5
        · refine Kept.ite ?_ ?_
          · refine State.reply_kept ?_
            exact State.deny_kept h5
          · extract_lets +onlyGivenNames x6
            have h7 : Kept s₀ x6.state := by unfold x6; exact State.report388_kept h5
            clear_value x6
            refine State.reply_kept ?_
            exact h7
theorem execSubmitWarrant_kept {s₀ : State} {a0} {a1} {a2} {a3} (k3 : Kept s₀ a3) : KeptO s₀ (execSubmitWarrant a0 a1 a2 a3) := by
  unfold execSubmitWarrant
  refine KeptO.next ?_
  refine State.command_kept k3 ?_
  intro v0 h1
  exact State.submitWarrant_kept h1
theorem execWarrantLapse_kept {s₀ : State} {a0} {a1} (k1 : Kept s₀ a1) : KeptO s₀ (execWarrantLapse a0 a1) := by
  unfold execWarrantLapse
  refine KeptO.next ?_
  extract_lets +onlyGivenNames x0; clear_value x0
  extract_lets +onlyGivenNames x1; clear_value x1
  extract_lets +onlyGivenNames x2; subst x2
  extract_lets +onlyGivenNames x3
  have h4 : Kept s₀ x3 := by unfold x3; exact k1.congr rfl
  clear_value x3
  refine each_keep (fun r => Kept s₀ r) ?_ ?_
  · exact h4
  · intro v5 v6 h7
    exact State.raise_kept h7

/-! ## Mgmt -/
theorem State.ccc_kept {s₀ : State} {a0} {a1} (k0 : Kept s₀ a0) : Kept s₀ (State.ccc a0 a1) := by
  unfold State.ccc
  exact State.send_kept k0
theorem State.coreOp_kept {s₀ : State} {a0} {a1} {a2} {a3} {a4} (k0 : Kept s₀ a0) (k4 : ∀ y0, Kept s₀ y0 → Kept s₀ (a4 y0).state) : Kept s₀ (State.coreOp a0 a1 a2 a3 a4) := by
  unfold State.coreOp
  refine State.command_kept k0 ?_
  intro v0 h1
  split
  · refine k4 _ ?_
    exact h1
  · exact answer_kept h1
theorem State.directCcc_kept {s₀ : State} {a0} {a1} (k0 : Kept s₀ a0) (k1 : ∀ y0, Kept s₀ y0 → Kept s₀ (a1 y0)) : Kept s₀ (State.directCcc a0 a1) := by
  unfold State.directCcc
  refine Kept.ite ?_ ?_
  · exact State.send_kept k0
  · refine k1 _ ?_
    exact k0
theorem State.dropLines_kept {s₀ : State} {a0} (k0 : Kept s₀ a0) : Kept s₀ (State.dropLines a0) := by
  unfold State.dropLines
  exact k0.congr rfl
theorem State.dropWaiter_kept {s₀ : State} {a0} {a1} (k0 : Kept s₀ a0) : Kept s₀ (State.dropWaiter a0 a1) := by
  unfold State.dropWaiter
  exact k0.congr rfl
theorem State.firmwareEvent_kept {s₀ : State} {a0} {a1} (k0 : Kept s₀ a0) : Kept s₀ (State.firmwareEvent a0 a1) := by
  unfold State.firmwareEvent
  exact State.raise_kept k0
theorem State.endActivation_kept {s₀ : State} {a0} {a1} (k0 : Kept s₀ a0) : Kept s₀ (State.endActivation a0 a1) := by
  unfold State.endActivation
  extract_lets +onlyGivenNames x0; subst x0
  extract_lets +onlyGivenNames x1
  have h2 : Kept s₀ x1 := by
    unfold x1
    refine State.wf_kept ?_
    exact k0.congr rfl
  clear_value x1
  refine State.endBackground_kept ?_
  exact State.firmwareEvent_kept h2
theorem State.fwCounted_kept {s₀ : State} {a0} {a1} (k0 : Kept s₀ a0) : Kept s₀ (State.fwCounted a0 a1) := by
  unfold State.fwCounted
  refine State.seedRead_kept ?_
  refine Kept.ite ?_ ?_
  · exact State.countHub_kept k0
  · exact k0
theorem State.finishFw_kept {s₀ : State} {a0} {a1} (k0 : Kept s₀ a0) : Kept s₀ (State.finishFw a0 a1).state := by
  unfold State.finishFw
  extract_lets +onlyGivenNames x0; clear_value x0
  extract_lets +onlyGivenNames x1; clear_value x1
  extract_lets +onlyGivenNames x2
  have h3 : Kept s₀ x2 := by
    unfold x2
    refine State.seedProgram_kept ?_
    exact State.fwCounted_kept k0
  clear_value x2
  extract_lets +onlyGivenNames x4; subst x4
  extract_lets +onlyGivenNames x5
  have h6 : Kept s₀ x5 := by unfold x5; exact h3.congr rfl
  clear_value x5
  refine answer_kept ?_
  refine State.wf_kept ?_
  exact State.wf_kept h6
theorem State.forgetSender_kept {s₀ : State} {a0} {a1} (k0 : Kept s₀ a0) : Kept s₀ (State.forgetSender a0 a1) := by
  unfold State.forgetSender
  refine State.dropWaiter_kept ?_
  exact State.modLd_kept k0
theorem State.paramFallback_kept {s₀ : State} {a0} (k0 : Kept s₀ a0) : Kept s₀ (State.paramFallback a0) := by
  unfold State.paramFallback
  refine Kept.ite ?_ ?_
  · exact k0
  · extract_lets +onlyGivenNames x0; clear_value x0
    refine State.raise_kept ?_
    refine State.wf_kept ?_
    exact k0.congr rfl
theorem State.psAnswered_kept {s₀ : State} {a0} (k0 : Kept s₀ a0) : Kept s₀ (State.psAnswered a0) := by
  unfold State.psAnswered
  split
  · rename_i m0 m1 m2 m3
    refine State.send_kept ?_
    exact k0.congr rfl
  · rename_i m4 m5
    exact k0
theorem State.psCtrl_kept {s₀ : State} {a0} {a1} {a2} {a3} (k0 : Kept s₀ a0) : Kept s₀ (State.psCtrl a0 a1 a2 a3) := by
  unfold State.psCtrl
  refine State.wf_kept ?_
  refine State.wf_kept ?_
  exact State.wf_kept k0
theorem State.psGo_kept {s₀ : State} {a0} {a1} {a2} (k0 : Kept s₀ a0) (k2 : ∀ y0, Kept s₀ y0 → Kept s₀ (a2 y0)) : Kept s₀ (State.psGo a0 a1 a2) := by
  unfold State.psGo
  exact State.regWrite_kept k0 k2
theorem State.psRead_kept {s₀ : State} {a0} {a1} {a2} {a3} (k0 : Kept s₀ a0) : Kept s₀ (State.psRead a0 a1 a2 a3).2.2 := by
  unfold State.psRead
  split
  · refine Kept.third ?_
    exact State.deny_kept k0
  · split
    · refine Kept.third ?_
      exact k0
    · split
      · refine Kept.third ?_
        exact k0
      · split
        · rename_i m0 m1 m2
          refine Kept.third ?_
          exact k0
        · rename_i m3 m4
          refine Kept.third ?_
          exact k0
theorem State.psStart_kept {s₀ : State} {a0} {a1} {a2} {a3} {a4} (k0 : Kept s₀ a0) : Kept s₀ (State.psStart a0 a1 a2 a3 a4).2 := by
  unfold State.psStart
  extract_lets +onlyGivenNames x0; clear_value x0
  extract_lets +onlyGivenNames x1; clear_value x1
  split
  · refine Kept.snd ?_
    exact State.deny_kept k0
  · split
    · refine Kept.snd ?_
      exact k0
    · split
      · refine Kept.snd ?_
        exact k0
      · split
        · refine Kept.snd ?_
          exact k0
        · split
          · refine Kept.snd ?_
            exact k0
          · split
            · refine Kept.snd ?_
              exact k0
            · extract_lets +onlyGivenNames x2; clear_value x2
              split
              · refine Kept.snd ?_
                exact k0
              · split
                · refine Kept.snd ?_
                  exact k0
                · extract_lets +onlyGivenNames x3; subst x3
                  extract_lets +onlyGivenNames x4
                  have h5 : Kept s₀ x4 := by unfold x4; exact k0.congr rfl
                  clear_value x4
                  refine Kept.snd ?_
                  refine State.wf_kept ?_
                  exact State.wf_kept h5
theorem State.psStored_kept {s₀ : State} {a0} {a1} {a2} (k0 : Kept s₀ a0) : Kept s₀ (State.psStored a0 a1 a2) := by
  unfold State.psStored
  split
  · rename_i m0 m1 m2
    extract_lets +onlyGivenNames x3; clear_value x3
    exact k0.congr rfl
  · rename_i m4 m5
    extract_lets +onlyGivenNames x6; subst x6
    extract_lets +onlyGivenNames x7; clear_value x7
    refine Kept.ite ?_ ?_
    · exact k0.congr rfl
    · refine Kept.ite ?_ ?_
      · exact k0.congr rfl
      · exact k0.congr rfl
theorem State.resetSideband_kept {s₀ : State} {a0} (k0 : Kept s₀ a0) : Kept s₀ (State.resetSideband a0) := by
  unfold State.resetSideband
  extract_lets +onlyGivenNames x0
  have h1 : Kept s₀ x0 := by
    unfold x0
    refine State.wf_kept ?_
    exact State.resetInterface_kept k0
  clear_value x0
  exact h1.congr rfl
theorem State.restartCore_kept {s₀ : State} {a0} {a1} (k0 : Kept s₀ a0) : Kept s₀ (State.restartCore a0 a1) := by
  unfold State.restartCore
  refine State.logKick_kept ?_
  exact k0.congr rfl
theorem State.sideband_kept {s₀ : State} {a0} {a1} (k0 : Kept s₀ a0) (k1 : ∀ y0, Kept s₀ y0 → Kept s₀ (a1 y0).2.2) : Kept s₀ (State.sideband a0 a1) := by
  unfold State.sideband
  refine Kept.ite ?_ ?_
  · exact State.send_kept k0
  · split
    · rename_i m0 m1 m2 m3 m4
      have h5 : Kept s₀ m3 := by
        rw [← show _ = m3 from congrArg Prod.snd (congrArg Prod.snd (m4))]
        refine k1 _ ?_
        exact State.irqEdge_kept k0
      exact h5.congr rfl
theorem State.sidebandUnder_kept {s₀ : State} {a0} {a1} {a2} {a3} (k0 : Kept s₀ a0) (k3 : ∀ y0, Kept s₀ y0 → Kept s₀ (a3 y0).2.2) : Kept s₀ (State.sidebandUnder a0 a1 a2 a3) := by
  unfold State.sidebandUnder
  refine State.sideband_kept k0 ?_
  intro v0 h1
  split
  · refine k3 _ ?_
    exact h1
  · refine Kept.third ?_
    exact State.deny_kept h1
theorem State.tapLoad_kept {s₀ : State} {a0} {a1} {a2} (k0 : Kept s₀ a0) : Kept s₀ (State.tapLoad a0 a1 a2) := by
  unfold State.tapLoad
  refine State.send_kept ?_
  exact k0.congr rfl
theorem State.trialFault_kept {s₀ : State} {a0} (k0 : Kept s₀ a0) : Kept s₀ (State.trialFault a0) := by
  unfold State.trialFault
  refine Kept.ite ?_ ?_
  · exact k0.congr rfl
  · exact k0
theorem State.watchdogEvent_kept {s₀ : State} {a0} {a1} {a2} (k0 : Kept s₀ a0) : Kept s₀ (State.watchdogEvent a0 a1 a2) := by
  unfold State.watchdogEvent
  refine State.trialFault_kept ?_
  exact State.raise_kept k0
theorem execActivateFw_kept {s₀ : State} {a0} {a1} {a2} {a3} {a4} (k4 : Kept s₀ a4) : KeptO s₀ (execActivateFw a0 a1 a2 a3 a4) := by
  unfold execActivateFw
  refine KeptO.next ?_
  refine State.command_kept k4 ?_
  intro v0 h1
  split
  · exact answer_kept h1
  · split
    · exact answer_kept h1
    · split
      · exact answer_kept h1
      · split
        · exact answer_kept h1
        · extract_lets +onlyGivenNames x2; clear_value x2
          extract_lets +onlyGivenNames x3
          have h4 : Kept s₀ x3 := by
            unfold x3
            refine State.wf_kept ?_
            exact State.fwCounted_kept h1
          clear_value x3
          split
          · exact answer_kept h4
          · split
            · refine answer_kept ?_
              refine State.seedProgram_kept ?_
              exact h4.congr rfl
            · extract_lets +onlyGivenNames x5
              have h6 : Kept s₀ x5 := by
                unfold x5
                refine State.wf_kept ?_
                refine State.wf_kept ?_
                refine State.wf_kept ?_
                exact State.wf_kept h4
              clear_value x5
              refine answer_kept ?_
              refine State.restartCore_kept ?_
              exact State.modLd_kept h6
theorem execBypass_kept {s₀ : State} {a0} {a1} (k1 : Kept s₀ a1) : KeptO s₀ (execBypass a0 a1) := by
  unfold execBypass
  refine KeptO.next ?_
  exact State.tapLoad_kept k1
theorem execClamp_kept {s₀ : State} {a0} (k0 : Kept s₀ a0) : KeptO s₀ (execClamp a0) := by
  unfold execClamp
  refine KeptO.next ?_
  refine Kept.ite ?_ ?_
  · refine State.send_kept ?_
    exact State.tapLoad_kept k0
  · exact State.tapLoad_kept k0
theorem execCoreHalt_kept {s₀ : State} {a0} {a1} {a2} (k2 : Kept s₀ a2) : KeptO s₀ (execCoreHalt a0 a1 a2) := by
  unfold execCoreHalt
  refine KeptO.next ?_
  refine State.coreOp_kept k2 ?_
  intro v0 h1
  refine answer_kept ?_
  exact h1.congr rfl
theorem execCoreMemoryRead_kept {s₀ : State} {a0} {a1} {a2} {a3} {a4} {a5} (k5 : Kept s₀ a5) : KeptO s₀ (execCoreMemoryRead a0 a1 a2 a3 a4 a5) := by
  unfold execCoreMemoryRead
  refine KeptO.next ?_
  refine State.coreOp_kept k5 ?_
  intro v0 h1
  extract_lets +onlyGivenNames x2
  have h3 : Kept s₀ x2 := by unfold x2; exact State.coreWord_kept h1
  clear_value x2
  split
  · exact answer_kept h3
  · split
    · rename_i m4 m5 m6 m7
      have h8 : Kept s₀ m6 := by
        rw [← show _ = m6 from congrArg Prod.snd (m7)]
        exact State.draw_kept h3
      refine Kept.answer ?_
      exact h8
theorem execCoreResume_kept {s₀ : State} {a0} {a1} {a2} (k2 : Kept s₀ a2) : KeptO s₀ (execCoreResume a0 a1 a2) := by
  unfold execCoreResume
  refine KeptO.next ?_
  refine State.coreOp_kept k2 ?_
  intro v0 h1
  refine answer_kept ?_
  exact h1.congr rfl
theorem execCoreStep_kept {s₀ : State} {a0} {a1} {a2} {a3} (k3 : Kept s₀ a3) : KeptO s₀ (execCoreStep a0 a1 a2 a3) := by
  unfold execCoreStep
  refine KeptO.next ?_
  refine State.coreOp_kept k3 ?_
  intro v0 h1
  split
  · refine answer_kept ?_
    exact State.coreWord_kept h1
  · exact answer_kept h1
theorem execDbgmsg_kept {s₀ : State} {a0} (k0 : Kept s₀ a0) : KeptO s₀ (execDbgmsg a0) := by
  unfold execDbgmsg
  refine KeptO.next ?_
  exact State.tapLoad_kept k0
theorem execDisec_kept {s₀ : State} {a0} {a1} (k1 : Kept s₀ a1) : KeptO s₀ (execDisec a0 a1) := by
  unfold execDisec
  refine KeptO.next ?_
  exact k1.congr rfl
theorem execEnec_kept {s₀ : State} {a0} {a1} (k1 : Kept s₀ a1) : KeptO s₀ (execEnec a0 a1) := by
  unfold execEnec
  refine KeptO.next ?_
  exact k1.congr rfl
theorem execEntdaa_kept {s₀ : State} {a0} {a1} (k1 : Kept s₀ a1) : KeptO s₀ (execEntdaa a0 a1) := by
  unfold execEntdaa
  refine KeptO.next ?_
  refine Kept.ite ?_ ?_
  · extract_lets +onlyGivenNames x0
    have h1 : Kept s₀ x0 := by unfold x0; exact State.ccc_kept k1
    clear_value x0
    refine State.send_kept ?_
    refine State.wf_kept ?_
    refine State.wf_kept ?_
    exact State.wf_kept h1
  · exact k1
theorem execExtest_kept {s₀ : State} {a0} {a1} (k1 : Kept s₀ a1) : KeptO s₀ (execExtest a0 a1) := by
  unfold execExtest
  refine KeptO.next ?_
  refine Kept.ite ?_ ?_
  · refine State.send_kept ?_
    refine State.tapLoad_kept ?_
    exact k1.congr rfl
  · exact State.tapLoad_kept k1
theorem execFwTrialEnd_kept {s₀ : State} {a0} (k0 : Kept s₀ a0) : KeptO s₀ (execFwTrialEnd a0) := by
  unfold execFwTrialEnd
  refine KeptO.next (Kept.ite k0 ?_)
  extract_lets +onlyGivenNames x
  have h : Kept s₀ x := State.wf_kept k0
  clear_value x
  split
  · refine Kept.ite (h.of (fuses := ⟨Nat.le_refl _, Nat.le_refl _, filter_map_le _ _ _ (fun i y hy => ?_), id⟩)) h
    split
    · rfl
    · exact hy
  · exact h
theorem execGetbcr_kept {s₀ : State} {a0} (k0 : Kept s₀ a0) : KeptO s₀ (execGetbcr a0) := by
  unfold execGetbcr
  refine KeptO.next ?_
  refine State.directCcc_kept k0 ?_
  intro v0 h1
  exact State.ccc_kept h1
theorem execGetdcr_kept {s₀ : State} {a0} (k0 : Kept s₀ a0) : KeptO s₀ (execGetdcr a0) := by
  unfold execGetdcr
  refine KeptO.next ?_
  refine State.directCcc_kept k0 ?_
  intro v0 h1
  exact State.ccc_kept h1
theorem execGetmrl_kept {s₀ : State} {a0} (k0 : Kept s₀ a0) : KeptO s₀ (execGetmrl a0) := by
  unfold execGetmrl
  refine KeptO.next ?_
  refine State.directCcc_kept k0 ?_
  intro v0 h1
  exact State.ccc_kept h1
theorem execGetmwl_kept {s₀ : State} {a0} (k0 : Kept s₀ a0) : KeptO s₀ (execGetmwl a0) := by
  unfold execGetmwl
  refine KeptO.next ?_
  refine State.directCcc_kept k0 ?_
  intro v0 h1
  exact State.ccc_kept h1
theorem execGetpid_kept {s₀ : State} {a0} (k0 : Kept s₀ a0) : KeptO s₀ (execGetpid a0) := by
  unfold execGetpid
  refine KeptO.next ?_
  refine State.directCcc_kept k0 ?_
  intro v0 h1
  exact State.ccc_kept h1
theorem execGetstatus_kept {s₀ : State} {a0} (k0 : Kept s₀ a0) : KeptO s₀ (execGetstatus a0) := by
  unfold execGetstatus
  refine KeptO.next ?_
  exact State.directCcc_kept k0 (fun s h => State.ccc_kept (h.congr rfl))
theorem execHighz_kept {s₀ : State} {a0} (k0 : Kept s₀ a0) : KeptO s₀ (execHighz a0) := by
  unfold execHighz
  refine KeptO.next ?_
  refine Kept.ite ?_ ?_
  · refine State.send_kept ?_
    exact State.tapLoad_kept k0
  · exact State.tapLoad_kept k0
theorem execIdcode_kept {s₀ : State} {a0} (k0 : Kept s₀ a0) : KeptO s₀ (execIdcode a0) := by
  unfold execIdcode
  refine KeptO.next ?_
  exact State.tapLoad_kept k0
theorem execIdent_kept {s₀ : State} {a0} (k0 : Kept s₀ a0) : KeptO s₀ (execIdent a0) := by
  unfold execIdent
  refine KeptO.next ?_
  refine State.sideband_kept k0 ?_
  intro v0 h1
  refine Kept.third ?_
  exact h1
theorem execIrqClaim_kept {s₀ : State} {a0} {a1} (k1 : Kept s₀ a1) : KeptO s₀ (execIrqClaim a0 a1) := by
  unfold execIrqClaim
  refine KeptO.next ?_
  split
  · rename_i m0 m1
    refine State.countHub_kept ?_
    exact State.wf_kept k1
  · rename_i m2 m3 m4
    extract_lets +onlyGivenNames x5; subst x5
    extract_lets +onlyGivenNames x6
    have h7 : Kept s₀ x6 := by unfold x6; exact k1.congr rfl
    clear_value x6
    extract_lets +onlyGivenNames x8; subst x8
    extract_lets +onlyGivenNames x9
    have h10 : Kept s₀ x9 := by
      unfold x9
      refine Kept.ite ?_ ?_
      · exact h7.congr rfl
      · exact State.wf_kept h7
    clear_value x9
    refine State.dropLines_kept ?_
    refine State.countHub_kept ?_
    exact State.wf_kept h10
theorem execIrqDone_kept {s₀ : State} {a0} {a1} {a2} (k2 : Kept s₀ a2) : KeptO s₀ (execIrqDone a0 a1 a2) := by
  unfold execIrqDone
  refine KeptO.next ?_
  refine Kept.ite ?_ ?_
  · refine State.wf_kept ?_
    exact k2.congr rfl
  · exact k2
theorem execIrqHoldExpire_kept {s₀ : State} {a0} {a1} (k1 : Kept s₀ a1) : KeptO s₀ (execIrqHoldExpire a0 a1) := by
  unfold execIrqHoldExpire
  refine KeptO.next ?_
  exact State.assertLine_kept k1
theorem execIrqSourceEdge_kept {s₀ : State} {a0} {a1} (k1 : Kept s₀ a1) : KeptO s₀ (execIrqSourceEdge a0 a1) := by
  unfold execIrqSourceEdge
  refine KeptO.next ?_
  exact State.irqEdge_kept k1
theorem execLLock_kept {s₀ : State} {a0} (k0 : Kept s₀ a0) : KeptO s₀ (execLLock a0) := by
  unfold execLLock
  refine KeptO.next ?_
  refine State.sideband_kept k0 ?_
  intro v0 h1
  refine Kept.third ?_
  exact State.wf_kept h1
theorem execLRead_kept {s₀ : State} {a0} {a1} {a2} (k2 : Kept s₀ a2) : KeptO s₀ (execLRead a0 a1 a2) := by
  unfold execLRead
  refine KeptO.next ?_
  refine State.sideband_kept k2 ?_
  intro v0 h1
  split
  · refine Kept.third ?_
    exact h1
  · split
    · refine Kept.third ?_
      exact h1
    · refine Kept.third ?_
      exact h1
theorem execLSetpw_kept {s₀ : State} {a0} {a1} {a2} (k2 : Kept s₀ a2) : KeptO s₀ (execLSetpw a0 a1 a2) := by
  unfold execLSetpw
  refine KeptO.next ?_
  refine State.sidebandUnder_kept k2 ?_
  intro v0 h1
  split
  · refine Kept.third ?_
    exact h1
  · split
    · split
      · refine Kept.third ?_
        exact h1
      · refine Kept.third ?_
        exact State.devicePut_kept h1
    · split
      · refine Kept.third ?_
        exact h1
      · refine Kept.third ?_
        exact State.devicePut_kept h1
theorem execLUnlock_kept {s₀ : State} {a0} {a1} (k1 : Kept s₀ a1) : KeptO s₀ (execLUnlock a0 a1) := by
  unfold execLUnlock
  refine KeptO.next ?_
  refine State.sideband_kept k1 ?_
  intro v0 h1
  split
  · refine Kept.third ?_
    exact h1
  · split
    · refine Kept.third ?_
      exact h1
    · split
      · rename_i m2 m3
        refine Kept.third ?_
        exact h1
      · rename_i m4 m5 m6
        split
        · refine Kept.third ?_
          exact State.wf_kept h1
        · refine Kept.third ?_
          exact h1.congr rfl
theorem execLWrite_kept {s₀ : State} {a0} {a1} {a2} (k2 : Kept s₀ a2) : KeptO s₀ (execLWrite a0 a1 a2) := by
  unfold execLWrite
  refine KeptO.next ?_
  refine State.sideband_kept k2 ?_
  intro v0 h1
  extract_lets +onlyGivenNames x2; clear_value x2
  split
  · refine Kept.third ?_
    exact h1
  · split
    · refine Kept.third ?_
      exact h1
    · split
      · refine Kept.third ?_
        exact h1
      · extract_lets +onlyGivenNames x3; clear_value x3
        extract_lets +onlyGivenNames x4; clear_value x4
        extract_lets +onlyGivenNames x5; clear_value x5
        extract_lets +onlyGivenNames x6; clear_value x6
        split
        · refine Kept.third ?_
          exact h1
        · split
          · refine Kept.third ?_
            exact h1
          · extract_lets +onlyGivenNames x7; subst x7
            extract_lets +onlyGivenNames x8
            have h9 : Kept s₀ x8 := by unfold x8; exact h1.congr rfl
            clear_value x8
            refine Kept.third ?_
            refine State.wf_kept ?_
            exact State.wf_kept h9
theorem execLogRead_kept {s₀ : State} {a0} {a1} (k1 : Kept s₀ a1) : KeptO s₀ (execLogRead a0 a1) := by
  unfold execLogRead
  refine KeptO.next ?_
  refine State.sidebandUnder_kept k1 ?_
  intro v0 h1
  extract_lets +onlyGivenNames x2
  have h3 : Kept s₀ x2.state := by unfold x2; exact State.readRingLog_kept h1
  clear_value x2
  refine Kept.third ?_
  exact h3
theorem execParamRead_kept {s₀ : State} {a0} {a1} (k1 : Kept s₀ a1) : KeptO s₀ (execParamRead a0 a1) := by
  unfold execParamRead
  refine KeptO.next ?_
  refine State.sideband_kept k1 ?_
  intro v0 h1
  split
  · rename_i m2 m3 m4 m5 m6
    have h7 : Kept s₀ m5 := by
      rw [← show _ = m5 from congrArg Prod.snd (congrArg Prod.snd (m6))]
      exact State.psRead_kept h1
    refine Kept.third ?_
    exact h7
theorem execParamWrite_kept {s₀ : State} {a0} {a1} {a2} (k2 : Kept s₀ a2) : KeptO s₀ (execParamWrite a0 a1 a2) := by
  unfold execParamWrite
  refine KeptO.next ?_
  refine State.sideband_kept k2 ?_
  intro v0 h1
  split
  · rename_i m2 m3 m4 m5
    have h6 : Kept s₀ m4 := by
      rw [← show _ = m4 from congrArg Prod.snd (m5)]
      exact State.psStart_kept h1
    refine Kept.third ?_
    exact h6
theorem execProcessorReady_kept {s₀ : State} {a0} {a1} {a2} (k2 : Kept s₀ a2) : KeptO s₀ (execProcessorReady a0 a1 a2) := by
  unfold execProcessorReady
  refine KeptO.next ?_
  split
  · rename_i m0 m1 m2
    refine Kept.ite ?_ ?_
    · exact k2
    · extract_lets +onlyGivenNames x3; subst x3
      extract_lets +onlyGivenNames x4
      have h5 : Kept s₀ x4 := by unfold x4; exact k2.congr rfl
      clear_value x4
      extract_lets +onlyGivenNames x6
      have h7 : Kept s₀ x6 := by
        unfold x6
        refine Kept.ite ?_ ?_
        · refine Kept.ite ?_ ?_
          · exact State.endActivation_kept h5
          · exact State.restartCore_kept h5
        · refine Kept.ite ?_ ?_
          · exact State.restartCore_kept h5
          · exact State.endActivation_kept h5
      clear_value x6
      refine Kept.ite ?_ ?_
      · exact State.assertLine_kept h7
      · exact h7
  · rename_i m8 m9
    exact k2
theorem execPsCompact_kept {s₀ : State} {a0} (k0 : Kept s₀ a0) : KeptO s₀ (execPsCompact a0) := by
  unfold execPsCompact
  refine KeptO.next ?_
  split
  · rename_i m0 m1 m2 m3
    extract_lets +onlyGivenNames x4; clear_value x4
    extract_lets +onlyGivenNames x5; subst x5
    extract_lets +onlyGivenNames x6; clear_value x6
    refine Kept.ite ?_ ?_
    · exact k0
    · extract_lets +onlyGivenNames x7
      have h8 : Kept s₀ x7 := by unfold x7; exact k0.congr rfl
      clear_value x7
      refine State.paramFallback_kept ?_
      exact State.psStat_kept h8
  · rename_i m9 m10
    exact k0
theorem execPsDelete_kept {s₀ : State} {a0} {a1} {a2} {a3} (k3 : Kept s₀ a3) : KeptO s₀ (execPsDelete a0 a1 a2 a3) := by
  unfold execPsDelete
  refine KeptO.next ?_
  refine State.psGo_kept k3 ?_
  intro v0 h1
  split
  · rename_i m2 m3 m4 m5
    have h6 : Kept s₀ m4 := by
      rw [← show _ = m4 from congrArg Prod.snd (m5)]
      exact State.psStart_kept h1
    refine State.wf_kept ?_
    refine Kept.ite ?_ ?_
    · exact h6
    · exact State.psCtrl_kept h6
theorem execPsRead_kept {s₀ : State} {a0} {a1} {a2} {a3} (k3 : Kept s₀ a3) : KeptO s₀ (execPsRead a0 a1 a2 a3) := by
  unfold execPsRead
  refine KeptO.next ?_
  refine State.psGo_kept k3 ?_
  intro v0 h1
  split
  · rename_i m2 m3 m4 m5 m6
    have h7 : Kept s₀ m5 := by
      rw [← show _ = m5 from congrArg Prod.snd (congrArg Prod.snd (m6))]
      exact State.psRead_kept h1
    refine Kept.ite ?_ ?_
    · exact State.wf_kept h7
    · extract_lets +onlyGivenNames x8
      have h9 : Kept s₀ x8 := by
        unfold x8
        refine State.wf_kept ?_
        exact State.psCtrl_kept h7
      clear_value x8
      refine Kept.ite ?_ ?_
      · exact h9.congr rfl
      · exact h9
theorem execPsSectorEraseDone_kept {s₀ : State} {a0} {a1} (k1 : Kept s₀ a1) : KeptO s₀ (execPsSectorEraseDone a0 a1) := by
  unfold execPsSectorEraseDone
  refine KeptO.next ?_
  split
  · rename_i m0 m1
    exact k1
  · rename_i m2 m3 m4 m5
    extract_lets +onlyGivenNames x6; subst x6
    extract_lets +onlyGivenNames x7; clear_value x7
    extract_lets +onlyGivenNames x8
    have h9 : Kept s₀ x8 := by unfold x8; exact k1.congr rfl
    clear_value x8
    refine State.paramFallback_kept ?_
    refine State.psStat_kept ?_
    exact State.countHub_kept h9
theorem execPsShadow_kept {s₀ : State} {a0} {a1} (k1 : Kept s₀ a1) : KeptO s₀ (execPsShadow a0 a1) := by
  unfold execPsShadow
  refine KeptO.next ?_
  refine State.regWrite_kept k1 ?_
  intro v0 h1
  split
  · rename_i m2 m3 m4
    exact h1.congr rfl
  · rename_i m5 m6
    exact h1
theorem execPsWrite_kept {s₀ : State} {a0} {a1} {a2} {a3} (k3 : Kept s₀ a3) : KeptO s₀ (execPsWrite a0 a1 a2 a3) := by
  unfold execPsWrite
  refine KeptO.next ?_
  refine State.psGo_kept k3 ?_
  intro v0 h1
  split
  · rename_i m2 m3 m4 m5
    have h6 : Kept s₀ m4 := by
      rw [← show _ = m4 from congrArg Prod.snd (m5)]
      exact State.psStart_kept h1
    refine State.wf_kept ?_
    refine Kept.ite ?_ ?_
    · exact h6
    · exact State.psCtrl_kept h6
theorem execPsWriteDone_kept {s₀ : State} {a0} {a1} (k1 : Kept s₀ a1) : KeptO s₀ (execPsWriteDone a0 a1) := by
  unfold execPsWriteDone
  refine KeptO.next ?_
  split
  · rename_i m0 m1
    exact k1
  · rename_i m2 m3 m4
    extract_lets +onlyGivenNames x5
    have h6 : Kept s₀ x5 := by
      unfold x5
      refine State.wf_kept ?_
      refine State.wf_kept ?_
      exact State.psStored_kept k1
    clear_value x5
    refine State.paramFallback_kept ?_
    refine State.psStat_kept ?_
    refine State.psAnswered_kept ?_
    refine State.countHub_kept ?_
    exact State.wf_kept h6
theorem execRstact_kept {s₀ : State} {a0} (k0 : Kept s₀ a0) : KeptO s₀ (execRstact a0) := by
  unfold execRstact
  refine KeptO.next ?_
  exact State.resetSideband_kept k0
theorem execRstdaa_kept {s₀ : State} {a0} (k0 : Kept s₀ a0) : KeptO s₀ (execRstdaa a0) := by
  unfold execRstdaa
  refine KeptO.next ?_
  refine State.send_kept ?_
  refine State.wf_kept ?_
  refine State.wf_kept ?_
  refine State.wf_kept ?_
  exact State.resetSideband_kept k0
theorem execSamplePreload_kept {s₀ : State} {a0} {a1} (k1 : Kept s₀ a1) : KeptO s₀ (execSamplePreload a0 a1) := by
  unfold execSamplePreload
  refine KeptO.next ?_
  split
  · rename_i m0 m1 m2 m3
    have h4 : Kept s₀ m2 := by
      rw [← show _ = m2 from congrArg Prod.snd (m3)]
      exact State.draw_kept k1
    refine State.tapLoad_kept ?_
    exact h4.congr rfl
theorem execSetmrl_kept {s₀ : State} {a0} {a1} (k1 : Kept s₀ a1) : KeptO s₀ (execSetmrl a0 a1) := by
  unfold execSetmrl
  refine KeptO.next ?_
  exact k1.congr rfl
theorem execSetmwl_kept {s₀ : State} {a0} {a1} (k1 : Kept s₀ a1) : KeptO s₀ (execSetmwl a0 a1) := by
  unfold execSetmwl
  refine KeptO.next ?_
  exact k1.congr rfl
theorem execSidebandPrivateRead_kept {s₀ : State} {a0} (k0 : Kept s₀ a0) : KeptO s₀ (execSidebandPrivateRead a0) := by
  unfold execSidebandPrivateRead
  refine KeptO.next ?_
  refine Kept.ite ?_ ?_
  · exact State.send_kept k0
  · extract_lets +onlyGivenNames x0; clear_value x0
    extract_lets +onlyGivenNames x1; clear_value x1
    extract_lets +onlyGivenNames x2; clear_value x2
    extract_lets +onlyGivenNames x3; clear_value x3
    refine State.ccc_kept ?_
    exact k0.congr rfl
theorem execStewardReadyTimeout_kept {s₀ : State} {a0} {a1} (k1 : Kept s₀ a1) : KeptO s₀ (execStewardReadyTimeout a0 a1) := by
  unfold execStewardReadyTimeout
  refine KeptO.next ?_
  split
  · rename_i m0 m1 m2
    refine Kept.ite ?_ ?_
    · exact k1
    · extract_lets +onlyGivenNames x3; clear_value x3
      extract_lets +onlyGivenNames x4
      have h5 : Kept s₀ x4 := by
        unfold x4
        refine State.wf_kept ?_
        refine State.wf_kept ?_
        exact State.wf_kept k1
      clear_value x4
      exact State.restartCore_kept h5
  · rename_i m6 m7
    exact k1
theorem execStoreRead_kept {s₀ : State} {a0} {a1} {a2} (k2 : Kept s₀ a2) : KeptO s₀ (execStoreRead a0 a1 a2) := by
  unfold execStoreRead
  refine KeptO.next ?_
  refine State.command_kept k2 ?_
  intro v0 h1
  split
  · rename_i m2 m3 m4 m5 m6
    have h7 : Kept s₀ m5 := by
      rw [← show _ = m5 from congrArg Prod.snd (congrArg Prod.snd (m6))]
      exact State.psRead_kept h1
    split
    · exact answer_kept h7
    · refine Kept.answer ?_
      exact h7
theorem execStoreWrite_kept {s₀ : State} {a0} {a1} {a2} {a3} (k3 : Kept s₀ a3) : KeptO s₀ (execStoreWrite a0 a1 a2 a3) := by
  unfold execStoreWrite
  refine KeptO.next ?_
  refine State.command_kept k3 ?_
  intro v0 h1
  split
  · rename_i m2 m3 m4 m5
    have h6 : Kept s₀ m4 := by
      rw [← show _ = m4 from congrArg Prod.snd (m5)]
      exact State.psStart_kept h1
    split
    · exact answer_kept h6
    · split
      · exact answer_kept h6
      · refine Kept.answer ?_
        exact h6
theorem execTapReset_kept {s₀ : State} {a0} (k0 : Kept s₀ a0) : KeptO s₀ (execTapReset a0) := by
  unfold execTapReset
  refine KeptO.next ?_
  refine State.resetInterface_kept ?_
  exact k0.congr rfl
theorem execTapWarrant_kept {s₀ : State} {a0} {a1} (k1 : Kept s₀ a1) : KeptO s₀ (execTapWarrant a0 a1) := by
  unfold execTapWarrant
  refine KeptO.next ?_
  refine Kept.ite ?_ ?_
  · exact State.tapLoad_kept k1
  · extract_lets +onlyGivenNames x0
    have h1 : Kept s₀ x0.state := by unfold x0; exact State.submitWarrant_kept k1
    clear_value x0
    refine State.tapLoad_kept ?_
    exact h1
theorem execTransferFw_kept {s₀ : State} {a0} {a1} {a2} {a3} {a4} {a5} {a6} (k6 : Kept s₀ a6) : KeptO s₀ (execTransferFw a0 a1 a2 a3 a4 a5 a6) := by
  unfold execTransferFw
  refine KeptO.next ?_
  refine State.command_kept k6 ?_
  intro v0 h1
  refine State.fits_kept h1 ?_
  intro v2 h3
  extract_lets +onlyGivenNames x4; clear_value x4
  extract_lets +onlyGivenNames x5
  have h6 : Kept s₀ x5 := by
    unfold x5
    split
    · rename_i m7 m8 m9
      refine Kept.ite ?_ ?_
      · exact State.abortFw_kept h3
      · exact h3
    · rename_i m10 m11
      exact h3
  clear_value x5
  split
  · exact answer_kept h3
  · split
    · exact answer_kept h3
    · split
      · rename_i m12
        split
        · exact State.finishFw_kept h6
        · exact answer_kept h6
      · rename_i m13
        split
        · exact answer_kept h6
        · refine answer_kept ?_
          refine State.wf_kept ?_
          refine State.seedProgram_kept ?_
          exact h6.congr rfl
      · rename_i m14
        split
        · rename_i m15 m16 m17
          split
          · exact answer_kept h3
          · refine answer_kept ?_
            refine State.seedProgram_kept ?_
            exact h3.congr rfl
        · rename_i m18 m19
          exact answer_kept h3
      · rename_i m20
        split
        · rename_i m21 m22 m23
          split
          · exact answer_kept h3
          · exact State.finishFw_kept h3
        · rename_i m24 m25
          exact answer_kept h3
      · rename_i m26
        split
        · rename_i m27 m28 m29
          split
          · refine answer_kept ?_
            exact State.abortFw_kept h3
          · exact answer_kept h3
        · rename_i m30 m31
          exact answer_kept h3
theorem execUnsupportedCcc_kept {s₀ : State} {a0} {a1} (k1 : Kept s₀ a1) : KeptO s₀ (execUnsupportedCcc a0 a1) := by
  unfold execUnsupportedCcc
  refine KeptO.next ?_
  exact State.send_kept k1
theorem execUsb4Connect_kept {s₀ : State} {a0} (k0 : Kept s₀ a0) : KeptO s₀ (execUsb4Connect a0) := by
  unfold execUsb4Connect
  refine KeptO.next ?_
  refine Kept.ite ?_ ?_
  · exact k0
  · refine State.irqEdge_kept ?_
    exact k0.congr rfl
theorem execUsb4Disconnect_kept {s₀ : State} {a0} (k0 : Kept s₀ a0) : KeptO s₀ (execUsb4Disconnect a0) := by
  unfold execUsb4Disconnect
  refine KeptO.next ?_
  refine Kept.ite ?_ ?_
  · exact k0
  · refine State.forgetSender_kept ?_
    refine State.forgetSender_kept ?_
    refine State.abortStageOf_kept ?_
    refine State.abortFwOf_kept ?_
    refine State.resetInterface_kept ?_
    refine State.resetInterface_kept ?_
    exact k0.congr rfl
theorem execWardenLockup_kept {s₀ : State} {a0} (k0 : Kept s₀ a0) : KeptO s₀ (execWardenLockup a0) := by
  unfold execWardenLockup
  refine KeptO.next ?_
  refine State.requestReset_kept ?_
  exact State.watchdogEvent_kept k0
theorem execWardenWatchdogExpire_kept {s₀ : State} {a0} (k0 : Kept s₀ a0) : KeptO s₀ (execWardenWatchdogExpire a0) := by
  unfold execWardenWatchdogExpire
  refine KeptO.next ?_
  refine State.requestReset_kept ?_
  exact State.watchdogEvent_kept k0
theorem execWarrant_kept {s₀ : State} {a0} {a1} (k1 : Kept s₀ a1) : KeptO s₀ (execWarrant a0 a1) := by
  unfold execWarrant
  refine KeptO.next ?_
  refine State.sideband_kept k1 ?_
  intro v0 h1
  extract_lets +onlyGivenNames x2
  have h3 : Kept s₀ x2.state := by unfold x2; exact State.submitWarrant_kept h1
  clear_value x2
  refine Kept.third ?_
  exact h3
theorem execWatchdogKick_kept {s₀ : State} {a0} {a1} (k1 : Kept s₀ a1) : KeptO s₀ (execWatchdogKick a0 a1) := by
  unfold execWatchdogKick
  refine KeptO.next ?_
  exact k1.congr rfl

/-! ## Host -/
theorem State.discardReqs_kept {s₀ : State} {a0} {a1} (k0 : Kept s₀ a0) : Kept s₀ (State.discardReqs a0 a1) := by
  unfold State.discardReqs
  extract_lets +onlyGivenNames x0; clear_value x0
  extract_lets +onlyGivenNames x1
  have h2 : Kept s₀ x1 := by
    unfold x1
    refine each_keep (fun r => Kept s₀ r) ?_ ?_
    · exact k0
    · intro v3 v4 h5
      extract_lets +onlyGivenNames x6
      have h7 : Kept s₀ x6 := by
        unfold x6
        refine each_keep (fun r => Kept s₀ r) ?_ ?_
        · exact h5
        · intro v8 v9 h10
          exact State.dropOp_kept h10
      clear_value x6
      refine State.freeLine_kept ?_
      exact State.dropReq_kept h7
  clear_value x1
  exact State.run_kept h2
theorem State.doe_kept {s₀ : State} {a0} {a1} (k0 : Kept s₀ a0) : Kept s₀ (State.doe a0 a1) := by
  unfold State.doe
  refine State.irqEdge_kept ?_
  exact State.countHub_kept k0
theorem State.putQueue_kept {s₀ : State} {a0} {a1} {a2} (k0 : Kept s₀ a0) : Kept s₀ (State.putQueue a0 a1 a2) := by
  unfold State.putQueue
  exact k0.congr rfl
theorem State.fetchNext_kept {s₀ : State} {a0} {a1} (k0 : Kept s₀ a0) : Kept s₀ (State.fetchNext a0 a1) := by
  unfold State.fetchNext
  split
  · rename_i m0 m1 m2
    refine Kept.ite ?_ ?_
    · exact k0
    · refine State.send_kept ?_
      exact State.putQueue_kept k0
  · rename_i m3 m4
    exact k0
theorem State.fetchRound_kept {s₀ : State} {a0} {a1} (k0 : Kept s₀ a0) : Kept s₀ (State.fetchRound a0 a1) := by
  unfold State.fetchRound
  extract_lets +onlyGivenNames x0; clear_value x0
  refine each_keep (fun r => Kept s₀ r) ?_ ?_
  · exact k0
  · intro v1 v2 h3
    exact State.fetchNext_kept h3
theorem State.dropQueues_kept {s₀ : State} {a0} {a1} (k0 : Kept s₀ a0) : Kept s₀ (State.dropQueues a0 a1) := by
  unfold State.dropQueues
  refine State.fetchRound_kept ?_
  exact k0.congr rfl
theorem State.engineWrite_kept {s₀ : State} {a0} {a1} {a2} {a3} {a4} {a5} {a6} (k0 : Kept s₀ a0) : Kept s₀ (State.engineWrite a0 a1 a2 a3 a4 a5 a6).2 := by
  unfold State.engineWrite
  extract_lets +onlyGivenNames x0; clear_value x0
  split
  · refine Kept.snd ?_
    exact k0
  · extract_lets +onlyGivenNames x1
    have h2 : Kept s₀ x1 := by
      unfold x1
      refine Kept.ite ?_ ?_
      · exact k0
      · exact State.loadPath_kept k0
    clear_value x1
    split
    · refine Kept.snd ?_
      exact h2
    · refine Kept.snd ?_
      exact State.writeLine_kept h2
theorem State.fmApi_kept {s₀ : State} {a0} {a1} (k0 : Kept s₀ a0) : Kept s₀ (State.fmApi a0 a1) := by
  unfold State.fmApi
  exact State.irqEdge_kept k0
theorem State.hptWrite_kept {s₀ : State} {a0} {a1} {a2} {a3} {a4} (k0 : Kept s₀ a0) (k4 : ∀ y0, Kept s₀ y0 → Kept s₀ (a4 y0)) : Kept s₀ (State.hptWrite a0 a1 a2 a3 a4) := by
  unfold State.hptWrite
  refine Kept.ite ?_ ?_
  · exact k0
  · exact State.regWrite_kept k0 k4
theorem State.injectLine_kept {s₀ : State} {a0} {a1} {a2} {a3} {a4} (k0 : Kept s₀ a0) : Kept s₀ (State.injectLine a0 a1 a2 a3 a4) := by
  unfold State.injectLine
  extract_lets +onlyGivenNames x0; clear_value x0
  extract_lets +onlyGivenNames x1; clear_value x1
  refine State.poisonAdd_kept ?_
  refine State.poisonDel_kept ?_
  refine State.catchPut_kept ?_
  exact State.modTile_kept k0
theorem State.ldReset_kept {s₀ : State} {a0} {a1} {a2} (k0 : Kept s₀ a0) : Kept s₀ (State.ldReset a0 a1 a2) := by
  unfold State.ldReset
  refine Kept.ite ?_ ?_
  · exact k0
  · extract_lets +onlyGivenNames x0
    have h1 : Kept s₀ x0 := by
      unfold x0
      refine State.noteReset_kept ?_
      exact State.resetEvent_kept k0
    clear_value x0
    extract_lets +onlyGivenNames x2
    have h3 : Kept s₀ x2 := by unfold x2; exact State.modLd_kept h1
    clear_value x2
    refine State.discardReqs_kept ?_
    exact State.dropQueues_kept h3
theorem State.setHostLink_kept {s₀ : State} {a0} {a1} {a2} {a3} (k0 : Kept s₀ a0) : Kept s₀ (State.setHostLink a0 a1 a2 a3) := by
  unfold State.setHostLink
  exact k0.congr rfl
theorem State.linkReset_kept {s₀ : State} {a0} {a1} {a2} (k0 : Kept s₀ a0) : Kept s₀ (State.linkReset a0 a1 a2) := by
  unfold State.linkReset
  refine Kept.ite ?_ ?_
  · refine State.wf_kept ?_
    refine State.wf_kept ?_
    refine State.wf_kept ?_
    exact State.setHostLink_kept k0
  · exact State.setHostLink_kept k0
theorem State.portReset_kept {s₀ : State} {a0} {a1} {a2} (k0 : Kept s₀ a0) : Kept s₀ (State.portReset a0 a1 a2) := by
  unfold State.portReset
  refine Kept.ite ?_ ?_
  · exact k0
  · extract_lets +onlyGivenNames x0
    have h1 : Kept s₀ x0 := by
      unfold x0
      refine State.noteReset_kept ?_
      exact State.resetEvent_kept k0
    clear_value x0
    extract_lets +onlyGivenNames x2
    have h3 : Kept s₀ x2 := by
      unfold x2
      refine State.irqEdge_kept ?_
      refine State.linkReset_kept ?_
      exact State.linkReset_kept h1
    clear_value x2
    extract_lets +onlyGivenNames x4
    have h5 : Kept s₀ x4 := by unfold x4; exact h3.congr rfl
    clear_value x4
    extract_lets +onlyGivenNames x6
    have h7 : Kept s₀ x6 := by
      unfold x6
      refine State.discardReqs_kept ?_
      exact State.dropQueues_kept h5
    clear_value x6
    refine State.abortFwOf_kept ?_
    refine State.abortStageOf_kept ?_
    exact State.resetInterface_kept h7
theorem State.putCxlLog_kept {s₀ : State} {a0} {a1} {a2} {a3} {a4} (k0 : Kept s₀ a0) : Kept s₀ (State.putCxlLog a0 a1 a2 a3 a4) := by
  unfold State.putCxlLog
  exact State.modLd_kept k0
theorem State.scan_kept {s₀ : State} {a0} {a1} {a2} {a3} {a4} (k0 : Kept s₀ a0) : Kept s₀ (State.scan a0 a1 a2 a3 a4) := by
  unfold State.scan
  extract_lets +onlyGivenNames x0
  have h1 : Kept s₀ x0.1 := by
    unfold x0
    refine each_keep (fun (r : State × List ℕ) => Kept s₀ r.1) ?_ ?_
    · refine Kept.fst ?_
      exact k0
    · intro v2 v3 h4
      extract_lets +onlyGivenNames x5; clear_value x5
      split
      · exact h4
      · extract_lets +onlyGivenNames x6
        have h7 : Kept s₀ x6.1 := by
          unfold x6
          refine State.scanLine_kept ?_
          exact h4
        clear_value x6
        refine Kept.fst ?_
        exact h7
  clear_value x0
  refine State.modLd_kept ?_
  exact h1
theorem State.showIde_kept {s₀ : State} {a0} {a1} {a2} (k0 : Kept s₀ a0) : Kept s₀ (State.showIde a0 a1 a2) := by
  unfold State.showIde
  extract_lets +onlyGivenNames x0; clear_value x0
  exact State.wf_kept k0
theorem execCdatRead_kept {s₀ : State} {a0} {a1} {a2} {a3} (k3 : Kept s₀ a3) : KeptO s₀ (execCdatRead a0 a1 a2 a3) := by
  unfold execCdatRead
  refine KeptO.next ?_
  refine Kept.ite ?_ ?_
  · exact State.discardIo_kept k3
  · refine State.reply_kept ?_
    exact State.doe_kept k3
theorem execClearEventRecords_kept {s₀ : State} {a0} {a1} {a2} {a3} {a4} {a5} (k5 : Kept s₀ a5) : KeptO s₀ (execClearEventRecords a0 a1 a2 a3 a4 a5) := by
  unfold execClearEventRecords
  refine KeptO.next ?_
  refine State.command_kept k5 ?_
  intro v0 h1
  extract_lets +onlyGivenNames x2; clear_value x2
  split
  · exact answer_kept h1
  · split
    · refine answer_kept ?_
      exact State.putCxlLog_kept h1
    · split
      · exact answer_kept h1
      · refine answer_kept ?_
        exact State.putCxlLog_kept h1
theorem execClearPoison_kept {s₀ : State} {a0} {a1} {a2} {a3} {a4} (k4 : Kept s₀ a4) : KeptO s₀ (execClearPoison a0 a1 a2 a3 a4) := by
  unfold execClearPoison
  refine KeptO.next ?_
  refine Kept.ite ?_ ?_
  · exact k4
  · refine State.command_kept k4 ?_
    intro v0 h1
    split
    · exact answer_kept h1
    · split
      · rename_i m2 m3 m4 m5 m6 m7
        extract_lets +onlyGivenNames x8; clear_value x8
        extract_lets +onlyGivenNames x9
        have h10 : Kept s₀ x9.2 := by unfold x9; exact State.engineWrite_kept h1
        clear_value x9
        split
        · refine answer_kept ?_
          refine State.cacheWrite_kept ?_
          exact h10
        · refine answer_kept ?_
          exact h10
      · rename_i m11 m12 m13
        exact answer_kept h1
theorem execConfigRequest_kept {s₀ : State} {a0} {a1} {a2} {a3} {a4} {a5} (k5 : Kept s₀ a5) : KeptO s₀ (execConfigRequest a0 a1 a2 a3 a4 a5) := by
  unfold execConfigRequest
  refine KeptO.next ?_
  refine Kept.ite ?_ ?_
  · exact k5
  · refine Kept.ite ?_ ?_
    · exact State.discardIo_kept k5
    · refine Kept.ite ?_ ?_
      · exact State.send_kept k5
      · refine Kept.ite ?_ ?_
        · refine State.send_kept ?_
          exact State.writeConfig_kept k5
        · exact State.send_kept k5
theorem execCxlReset_kept {s₀ : State} {a0} {a1} {a2} (k2 : Kept s₀ a2) : KeptO s₀ (execCxlReset a0 a1 a2) := by
  unfold execCxlReset
  refine KeptO.next ?_
  exact State.ldReset_kept k2
theorem execFunctionLevelReset_kept {s₀ : State} {a0} {a1} {a2} (k2 : Kept s₀ a2) : KeptO s₀ (execFunctionLevelReset a0 a1 a2) := by
  unfold execFunctionLevelReset
  refine KeptO.next ?_
  exact State.ldReset_kept k2
theorem execGetAlertConfig_kept {s₀ : State} {a0} {a1} {a2} (k2 : Kept s₀ a2) : KeptO s₀ (execGetAlertConfig a0 a1 a2) := by
  unfold execGetAlertConfig
  refine KeptO.next ?_
  refine State.command_kept k2 ?_
  intro v0 h1
  refine Kept.answer ?_
  exact h1
theorem execGetEventInterruptPolicy_kept {s₀ : State} {a0} {a1} {a2} (k2 : Kept s₀ a2) : KeptO s₀ (execGetEventInterruptPolicy a0 a1 a2) := by
  unfold execGetEventInterruptPolicy
  refine KeptO.next ?_
  refine State.command_kept k2 ?_
  intro v0 h1
  refine Kept.answer ?_
  exact h1
theorem execGetEventRecords_kept {s₀ : State} {a0} {a1} {a2} {a3} (k3 : Kept s₀ a3) : KeptO s₀ (execGetEventRecords a0 a1 a2 a3) := by
  unfold execGetEventRecords
  refine KeptO.next ?_
  refine State.command_kept k3 ?_
  intro v0 h1
  split
  · exact answer_kept h1
  · extract_lets +onlyGivenNames x2; clear_value x2
    refine Kept.answer ?_
    exact h1
theorem execGetFwInfo_kept {s₀ : State} {a0} {a1} {a2} (k2 : Kept s₀ a2) : KeptO s₀ (execGetFwInfo a0 a1 a2) := by
  unfold execGetFwInfo
  refine KeptO.next ?_
  refine State.command_kept k2 ?_
  intro v0 h1
  extract_lets +onlyGivenNames x2; clear_value x2
  refine Kept.answer ?_
  exact h1
theorem execGetHealthInfo_kept {s₀ : State} {a0} {a1} {a2} (k2 : Kept s₀ a2) : KeptO s₀ (execGetHealthInfo a0 a1 a2) := by
  unfold execGetHealthInfo
  refine KeptO.next ?_
  refine State.command_kept k2 ?_
  intro v0 h1
  refine Kept.answer ?_
  exact h1
theorem execGetLdAllocations_kept {s₀ : State} {a0} {a1} {a2} {a3} (k3 : Kept s₀ a3) : KeptO s₀ (execGetLdAllocations a0 a1 a2 a3) := by
  unfold execGetLdAllocations
  refine KeptO.next ?_
  refine Kept.ite ?_ ?_
  · exact k3
  · refine State.reply_kept ?_
    exact State.fmApi_kept k3
theorem execGetLdInfo_kept {s₀ : State} {a0} {a1} {a2} (k2 : Kept s₀ a2) : KeptO s₀ (execGetLdInfo a0 a1 a2) := by
  unfold execGetLdInfo
  refine KeptO.next ?_
  refine Kept.ite ?_ ?_
  · exact k2
  · extract_lets +onlyGivenNames x0; clear_value x0
    refine State.reply_kept ?_
    exact State.fmApi_kept k2
theorem execGetLog_kept {s₀ : State} {a0} {a1} {a2} {a3} (k3 : Kept s₀ a3) : KeptO s₀ (execGetLog a0 a1 a2 a3) := by
  unfold execGetLog
  refine KeptO.next ?_
  refine State.command_kept k3 ?_
  intro v0 h1
  split
  · refine Kept.answer ?_
    exact h1
  · exact answer_kept h1
theorem execGetLsa_kept {s₀ : State} {a0} {a1} {a2} {a3} {a4} (k4 : Kept s₀ a4) : KeptO s₀ (execGetLsa a0 a1 a2 a3 a4) := by
  unfold execGetLsa
  refine KeptO.next ?_
  refine State.command_kept k4 ?_
  intro v0 h1
  split
  · exact answer_kept h1
  · refine Kept.answer ?_
    exact h1
theorem execGetPartitionInfo_kept {s₀ : State} {a0} {a1} {a2} (k2 : Kept s₀ a2) : KeptO s₀ (execGetPartitionInfo a0 a1 a2) := by
  unfold execGetPartitionInfo
  refine KeptO.next ?_
  refine State.command_kept k2 ?_
  intro v0 h1
  refine Kept.answer ?_
  exact h1
theorem execGetPoisonList_kept {s₀ : State} {a0} {a1} {a2} {a3} {a4} (k4 : Kept s₀ a4) : KeptO s₀ (execGetPoisonList a0 a1 a2 a3 a4) := by
  unfold execGetPoisonList
  refine KeptO.next ?_
  refine State.command_kept k4 ?_
  intro v0 h1
  split
  · exact answer_kept h1
  · extract_lets +onlyGivenNames x2; clear_value x2
    refine Kept.answer ?_
    exact h1
theorem execGetScanMediaCapabilities_kept {s₀ : State} {a0} {a1} {a2} {a3} {a4} (k4 : Kept s₀ a4) : KeptO s₀ (execGetScanMediaCapabilities a0 a1 a2 a3 a4) := by
  unfold execGetScanMediaCapabilities
  refine KeptO.next ?_
  refine State.command_kept k4 ?_
  intro v0 h1
  split
  · refine Kept.answer ?_
    exact h1
  · exact answer_kept h1
theorem execGetScanMediaResults_kept {s₀ : State} {a0} {a1} {a2} (k2 : Kept s₀ a2) : KeptO s₀ (execGetScanMediaResults a0 a1 a2) := by
  unfold execGetScanMediaResults
  refine KeptO.next ?_
  refine State.command_kept k2 ?_
  intro v0 h1
  extract_lets +onlyGivenNames x2; clear_value x2
  extract_lets +onlyGivenNames x3; clear_value x3
  refine Kept.answer ?_
  refine Kept.ite ?_ ?_
  · exact h1
  · exact State.modLd_kept h1
theorem execGetShutdownState_kept {s₀ : State} {a0} {a1} {a2} (k2 : Kept s₀ a2) : KeptO s₀ (execGetShutdownState a0 a1 a2) := by
  unfold execGetShutdownState
  refine KeptO.next ?_
  refine State.command_kept k2 ?_
  intro v0 h1
  refine Kept.answer ?_
  exact h1
theorem execGetSupportedLogs_kept {s₀ : State} {a0} {a1} {a2} (k2 : Kept s₀ a2) : KeptO s₀ (execGetSupportedLogs a0 a1 a2) := by
  unfold execGetSupportedLogs
  refine KeptO.next ?_
  refine State.command_kept k2 ?_
  intro v0 h1
  refine Kept.answer ?_
  exact h1
theorem execGetTimestamp_kept {s₀ : State} {a0} {a1} {a2} (k2 : Kept s₀ a2) : KeptO s₀ (execGetTimestamp a0 a1 a2) := by
  unfold execGetTimestamp
  refine KeptO.next ?_
  refine State.command_kept k2 ?_
  intro v0 h1
  refine Kept.answer ?_
  exact h1
theorem execGlobalPersistentFlush_kept {s₀ : State} {a0} {a1} {a2} (k2 : Kept s₀ a2) : KeptO s₀ (execGlobalPersistentFlush a0 a1 a2) := by
  unfold execGlobalPersistentFlush
  refine KeptO.next ?_
  exact State.send_kept k2
theorem execHostLinkDown_kept {s₀ : State} {a0} {a1} {a2} (k2 : Kept s₀ a2) : KeptO s₀ (execHostLinkDown a0 a1 a2) := by
  unfold execHostLinkDown
  refine KeptO.next ?_
  refine Kept.ite ?_ ?_
  · exact State.portReset_kept k2
  · exact k2
theorem execHostLinkL1Entry_kept {s₀ : State} {a0} {a1} {a2} (k2 : Kept s₀ a2) : KeptO s₀ (execHostLinkL1Entry a0 a1 a2) := by
  unfold execHostLinkL1Entry
  refine KeptO.next ?_
  extract_lets +onlyGivenNames x0; clear_value x0
  refine Kept.ite ?_ ?_
  · exact State.setHostLink_kept k2
  · exact k2
theorem execHostLinkTrained_kept {s₀ : State} {a0} {a1} {a2} {a3} {a4} (k4 : Kept s₀ a4) : KeptO s₀ (execHostLinkTrained a0 a1 a2 a3 a4) := by
  unfold execHostLinkTrained
  refine KeptO.next ?_
  refine Kept.ite ?_ ?_
  · exact k4
  · extract_lets +onlyGivenNames x0; subst x0
    extract_lets +onlyGivenNames x1
    have h2 : Kept s₀ x1 := by unfold x1; exact k4.congr rfl
    clear_value x1
    extract_lets +onlyGivenNames x3; clear_value x3
    extract_lets +onlyGivenNames x4
    have h5 : Kept s₀ x4 := by unfold x4; exact State.setHostLink_kept h2
    clear_value x4
    refine State.irqEdge_kept ?_
    refine State.showIde_kept ?_
    refine State.wf_kept ?_
    exact State.wf_kept h5
theorem execHotReset_kept {s₀ : State} {a0} {a1} {a2} (k2 : Kept s₀ a2) : KeptO s₀ (execHotReset a0 a1 a2) := by
  unfold execHotReset
  refine KeptO.next ?_
  refine Kept.ite ?_ ?_
  · exact State.portReset_kept k2
  · exact k2
theorem execHptLtClear_kept {s₀ : State} {a0} {a1} {a2} (k2 : Kept s₀ a2) : KeptO s₀ (execHptLtClear a0 a1 a2) := by
  unfold execHptLtClear
  refine KeptO.next ?_
  refine State.hptWrite_kept k2 ?_
  intro v0 h1
  exact State.wf_kept h1
theorem execHptRdlatClear_kept {s₀ : State} {a0} {a1} {a2} (k2 : Kept s₀ a2) : KeptO s₀ (execHptRdlatClear a0 a1 a2) := by
  unfold execHptRdlatClear
  refine KeptO.next ?_
  refine State.hptWrite_kept k2 ?_
  intro v0 h1
  refine State.wf_kept ?_
  exact State.wf_kept h1
theorem execHptWfailClear_kept {s₀ : State} {a0} {a1} {a2} (k2 : Kept s₀ a2) : KeptO s₀ (execHptWfailClear a0 a1 a2) := by
  unfold execHptWfailClear
  refine KeptO.next ?_
  refine State.hptWrite_kept k2 ?_
  intro v0 h1
  refine State.wf_kept ?_
  exact State.wf_kept h1
theorem execIdeIntegrityFail_kept {s₀ : State} {a0} {a1} {a2} {a3} (k3 : Kept s₀ a3) : KeptO s₀ (execIdeIntegrityFail a0 a1 a2 a3) := by
  unfold execIdeIntegrityFail
  refine KeptO.next ?_
  split
  · rename_i m0 m1
    exact k3
  · rename_i m2 m3 m4
    extract_lets +onlyGivenNames x5; clear_value x5
    extract_lets +onlyGivenNames x6
    have h7 : Kept s₀ x6 := by
      unfold x6
      refine State.showIde_kept ?_
      exact State.setHostLink_kept k3
    clear_value x6
    refine State.emit_kept ?_
    exact State.countHub_kept h7
theorem execIdeKeyProgram_kept {s₀ : State} {a0} {a1} {a2} {a3} {a4} (k4 : Kept s₀ a4) : KeptO s₀ (execIdeKeyProgram a0 a1 a2 a3 a4) := by
  unfold execIdeKeyProgram
  refine KeptO.next ?_
  extract_lets +onlyGivenNames x0; clear_value x0
  refine Kept.ite ?_ ?_
  · exact k4
  · refine State.showIde_kept ?_
    exact State.setHostLink_kept k4
theorem execIdentifyMemoryDevice_kept {s₀ : State} {a0} {a1} {a2} (k2 : Kept s₀ a2) : KeptO s₀ (execIdentifyMemoryDevice a0 a1 a2) := by
  unfold execIdentifyMemoryDevice
  refine KeptO.next ?_
  refine State.command_kept k2 ?_
  intro v0 h1
  extract_lets +onlyGivenNames x2; clear_value x2
  refine Kept.answer ?_
  exact h1
theorem execInjectPoison_kept {s₀ : State} {a0} {a1} {a2} {a3} (k3 : Kept s₀ a3) : KeptO s₀ (execInjectPoison a0 a1 a2 a3) := by
  unfold execInjectPoison
  refine KeptO.next ?_
  refine Kept.ite ?_ ?_
  · exact k3
  · refine State.command_kept k3 ?_
    intro v0 h1
    split
    · exact answer_kept h1
    · split
      · rename_i m2 m3 m4 m5 m6 m7
        split
        · refine answer_kept ?_
          exact State.deny_kept h1
        · split
          · exact answer_kept h1
          · split
            · exact answer_kept h1
            · refine answer_kept ?_
              exact State.injectLine_kept h1
      · rename_i m8 m9 m10
        exact answer_kept h1
theorem execPerstAssert_kept {s₀ : State} {a0} {a1} (k1 : Kept s₀ a1) : KeptO s₀ (execPerstAssert a0 a1) := by
  unfold execPerstAssert
  refine KeptO.next ?_
  refine Kept.ite ?_ ?_
  · exact k1
  · refine State.portReset_kept ?_
    exact k1.congr rfl
theorem execSanitize_kept {s₀ : State} {a0} {a1} {a2} (k2 : Kept s₀ a2) : KeptO s₀ (execSanitize a0 a1 a2) := by
  unfold execSanitize
  refine KeptO.next ?_
  refine State.command_kept k2 ?_
  intro v0 h1
  exact answer_kept h1
theorem execScanMedia_kept {s₀ : State} {a0} {a1} {a2} {a3} {a4} (k4 : Kept s₀ a4) : KeptO s₀ (execScanMedia a0 a1 a2 a3 a4) := by
  unfold execScanMedia
  refine KeptO.next ?_
  extract_lets +onlyGivenNames x0
  have h1 : Kept s₀ x0 := by
    unfold x0
    refine State.command_kept k4 ?_
    intro v2 h3
    split
    · exact answer_kept h3
    · split
      · exact answer_kept h3
      · refine answer_kept ?_
        exact State.modLd_kept h3
  clear_value x0
  refine Kept.ite ?_ ?_
  · refine State.endBackground_kept ?_
    exact State.scan_kept h1
  · exact h1
theorem execSecureErase_kept {s₀ : State} {a0} {a1} {a2} (k2 : Kept s₀ a2) : KeptO s₀ (execSecureErase a0 a1 a2) := by
  unfold execSecureErase
  refine KeptO.next ?_
  refine State.command_kept k2 ?_
  intro v0 h1
  exact answer_kept h1
theorem execSetAlertConfig_kept {s₀ : State} {a0} {a1} {a2} {a3} (k3 : Kept s₀ a3) : KeptO s₀ (execSetAlertConfig a0 a1 a2 a3) := by
  unfold execSetAlertConfig
  refine KeptO.next ?_
  refine State.command_kept k3 ?_
  intro v0 h1
  split
  · exact answer_kept h1
  · refine answer_kept ?_
    exact State.modLd_kept h1
theorem execSetEventInterruptPolicy_kept {s₀ : State} {a0} {a1} {a2} {a3} (k3 : Kept s₀ a3) : KeptO s₀ (execSetEventInterruptPolicy a0 a1 a2 a3) := by
  unfold execSetEventInterruptPolicy
  refine KeptO.next ?_
  refine State.command_kept k3 ?_
  intro v0 h1
  split
  · exact answer_kept h1
  · refine answer_kept ?_
    refine each_keep (fun r => Kept s₀ r) ?_ ?_
    · exact h1
    · intro v2 v3 h4
      exact State.putCxlLog_kept h4
theorem execSetLdAllocations_kept {s₀ : State} {a0} {a1} {a2} {a3} (k3 : Kept s₀ a3) : KeptO s₀ (execSetLdAllocations a0 a1 a2 a3) := by
  unfold execSetLdAllocations
  refine KeptO.next ?_
  refine Kept.ite ?_ ?_
  · exact k3
  · refine State.reply_kept ?_
    exact State.fmApi_kept k3
theorem execSetLsa_kept {s₀ : State} {a0} {a1} {a2} {a3} {a4} (k4 : Kept s₀ a4) : KeptO s₀ (execSetLsa a0 a1 a2 a3 a4) := by
  unfold execSetLsa
  refine KeptO.next ?_
  refine State.command_kept k4 ?_
  intro v0 h1
  refine State.fits_kept h1 ?_
  intro v2 h3
  split
  · exact answer_kept h3
  · refine answer_kept ?_
    exact State.modLd_kept h3
theorem execSetShutdownState_kept {s₀ : State} {a0} {a1} {a2} {a3} (k3 : Kept s₀ a3) : KeptO s₀ (execSetShutdownState a0 a1 a2 a3) := by
  unfold execSetShutdownState
  refine KeptO.next ?_
  refine State.command_kept k3 ?_
  intro v0 h1
  refine answer_kept ?_
  exact State.modLd_kept h1
theorem execSetTimestamp_kept {s₀ : State} {a0} {a1} {a2} {a3} (k3 : Kept s₀ a3) : KeptO s₀ (execSetTimestamp a0 a1 a2 a3) := by
  unfold execSetTimestamp
  refine KeptO.next ?_
  refine State.command_kept k3 ?_
  intro v0 h1
  refine answer_kept ?_
  exact State.modLd_kept h1
theorem execSpdmRequest_kept {s₀ : State} {a0} {a1} {a2} {a3} (k3 : Kept s₀ a3) : KeptO s₀ (execSpdmRequest a0 a1 a2 a3) := by
  unfold execSpdmRequest
  refine KeptO.next ?_
  refine Kept.ite ?_ ?_
  · exact State.discardIo_kept k3
  · extract_lets +onlyGivenNames x0
    have h1 : Kept s₀ x0 := by unfold x0; exact State.doe_kept k3
    clear_value x0
    refine State.reply_kept ?_
    exact h1.congr rfl
theorem execUnsupportedCommand_kept {s₀ : State} {a0} {a1} {a2} {a3} (k3 : Kept s₀ a3) : KeptO s₀ (execUnsupportedCommand a0 a1 a2 a3) := by
  unfold execUnsupportedCommand
  refine KeptO.next ?_
  refine Kept.ite ?_ ?_
  · exact k3
  · refine State.command_kept k3 ?_
    intro v0 h1
    exact answer_kept h1

/-! ## Queue -/
theorem State.abortInvisible_kept {s₀ : State} {a0} (k0 : Kept s₀ a0) : Kept s₀ (State.abortInvisible a0) := by
  unfold State.abortInvisible
  exact k0.congr rfl
theorem State.putDesc_kept {s₀ : State} {a0} {a1} {a2} (k0 : Kept s₀ a0) : Kept s₀ (State.putDesc a0 a1 a2) := by
  unfold State.putDesc
  split
  · rename_i m0 m1 m2
    exact State.putQueue_kept k0
  · rename_i m3 m4
    exact k0
theorem State.lineDone_kept {s₀ : State} {a0} {a1} {a2} {a3} (k0 : Kept s₀ a0) : Kept s₀ (State.lineDone a0 a1 a2 a3) := by
  unfold State.lineDone
  extract_lets +onlyGivenNames x0; subst x0
  refine State.putDesc_kept ?_
  exact State.countHub_kept k0
theorem State.lineFailed_kept {s₀ : State} {a0} {a1} {a2} (k0 : Kept s₀ a0) : Kept s₀ (State.lineFailed a0 a1 a2) := by
  unfold State.lineFailed
  exact State.putDesc_kept k0
theorem State.descWrite_kept {s₀ : State} {a0} {a1} {a2} {a3} {a4} {a5} {a6} (k0 : Kept s₀ a0) : Kept s₀ (State.descWrite a0 a1 a2 a3 a4 a5 a6) := by
  unfold State.descWrite
  extract_lets +onlyGivenNames x0; clear_value x0
  extract_lets +onlyGivenNames x1; clear_value x1
  extract_lets +onlyGivenNames x2
  have h3 : Kept s₀ x2.2 := by unfold x2; exact State.engineWrite_kept k0
  clear_value x2
  refine Kept.ite ?_ ?_
  · refine State.lineDone_kept ?_
    refine State.modTile_kept ?_
    exact h3
  · refine State.lineFailed_kept ?_
    exact h3
theorem State.writeOpen_kept {s₀ : State} {a0} {a1} {a2} {a3} {a4} (k0 : Kept s₀ a0) : Kept s₀ (State.writeOpen a0 a1 a2 a3 a4).2 := by
  unfold State.writeOpen
  split
  · refine Kept.snd ?_
    exact k0
  · extract_lets +onlyGivenNames x0
    have h1 : Kept s₀ x0 := by
      unfold x0
      refine Kept.ite ?_ ?_
      · exact k0
      · exact State.loadPath_kept k0
    clear_value x0
    refine Kept.snd ?_
    exact h1
theorem State.writePoison_kept {s₀ : State} {a0} {a1} {a2} {a3} {a4} (k0 : Kept s₀ a0) : Kept s₀ (State.writePoison a0 a1 a2 a3 a4) := by
  unfold State.writePoison
  extract_lets +onlyGivenNames x0; clear_value x0
  extract_lets +onlyGivenNames x1; clear_value x1
  extract_lets +onlyGivenNames x2; clear_value x2
  refine State.catchPut_kept ?_
  exact State.modTile_kept k0
theorem State.copyFrom_kept {s₀ : State} {a0} {a1} {a2} {a3} {a4} {a5} {a6} {a7} {a8} (k0 : Kept s₀ a0) : Kept s₀ (State.copyFrom a0 a1 a2 a3 a4 a5 a6 a7 a8) := by
  unfold State.copyFrom
  extract_lets +onlyGivenNames x0; clear_value x0
  extract_lets +onlyGivenNames x1
  have h2 : Kept s₀ x1.2 := by unfold x1; exact State.engineReadAt_kept k0
  clear_value x1
  split
  · rename_i m3 m4 m5
    refine State.descWrite_kept ?_
    exact h2
  · rename_i m6 m7
    extract_lets +onlyGivenNames x8; clear_value x8
    extract_lets +onlyGivenNames x9
    have h10 : Kept s₀ x9.2 := by
      unfold x9
      refine State.writeOpen_kept ?_
      exact h2
    clear_value x9
    refine Kept.ite ?_ ?_
    · refine State.lineFailed_kept ?_
      exact h10
    · extract_lets +onlyGivenNames x11
      have h12 : Kept s₀ x11 := by
        unfold x11
        refine State.writePoison_kept ?_
        exact h10
      clear_value x11
      extract_lets +onlyGivenNames x13
      have h14 : Kept s₀ x13 := by
        unfold x13
        refine Kept.ite ?_ ?_
        · exact State.poisonAdd_kept h12
        · exact h12
      clear_value x13
      exact State.lineDone_kept h14
theorem State.discardLeaf_kept {s₀ : State} {a0} {a1} (k0 : Kept s₀ a0) : Kept s₀ (State.discardLeaf a0 a1) := by
  unfold State.discardLeaf
  extract_lets +onlyGivenNames x0; clear_value x0
  extract_lets +onlyGivenNames x1; clear_value x1
  extract_lets +onlyGivenNames x2; clear_value x2
  extract_lets +onlyGivenNames x3; clear_value x3
  extract_lets +onlyGivenNames x4; clear_value x4
  extract_lets +onlyGivenNames x5; clear_value x5
  extract_lets +onlyGivenNames x6
  have h7 : Kept s₀ x6 := by unfold x6; exact State.modTile_kept k0
  clear_value x6
  extract_lets +onlyGivenNames x8
  have h9 : Kept s₀ x8 := by unfold x8; exact h7.congr rfl
  clear_value x8
  refine Kept.ite ?_ ?_
  · exact h9
  · extract_lets +onlyGivenNames x10; clear_value x10
    extract_lets +onlyGivenNames x11
    have h12 : Kept s₀ x11 := by
      unfold x11
      refine State.setLeaf_kept ?_
      exact State.mapRoom_kept h9
    clear_value x11
    extract_lets +onlyGivenNames x13
    have h14 : Kept s₀ x13 := by
      unfold x13
      refine State.advanceTail_kept ?_
      exact State.trimFilter_kept h12
    clear_value x13
    extract_lets +onlyGivenNames x15; clear_value x15
    extract_lets +onlyGivenNames x16; clear_value x16
    refine Kept.ite ?_ ?_
    · exact State.modTile_kept h14
    · exact h14
theorem State.fillNext_kept {s₀ : State} {a0} {a1} {a2} {a3} {a4} {a5} (k0 : Kept s₀ a0) : Kept s₀ (State.fillNext a0 a1 a2 a3 a4 a5) := by
  unfold State.fillNext
  split
  · rename_i m0 m1
    exact k0
  · rename_i m2 m3 m4 m5
    extract_lets +onlyGivenNames x6; clear_value x6
    split
    · rename_i m7 m8 m9 m10 m11 m12
      refine Kept.ite ?_ ?_
      · refine State.descWrite_kept ?_
        exact State.meetAt_kept k0
      · exact k0
    · rename_i m13 m14 m15
      exact State.putDesc_kept k0
theorem State.freeQueue_kept {s₀ : State} {a0} {a1} (k0 : Kept s₀ a0) : Kept s₀ (State.freeQueue a0 a1) := by
  unfold State.freeQueue
  split
  · rename_i m0 m1 m2
    refine Kept.ite ?_ ?_
    · exact k0.congr rfl
    · exact k0
  · rename_i m3 m4
    exact k0
theorem execClear_kept {s₀ : State} {a0} {a1} {a2} (k2 : Kept s₀ a2) : KeptO s₀ (execClear a0 a1 a2) := by
  unfold execClear
  refine KeptO.next ?_
  exact State.fillNext_kept k2
theorem execCopy_kept {s₀ : State} {a0} {a1} {a2} {a3} {a4} (k4 : Kept s₀ a4) : KeptO s₀ (execCopy a0 a1 a2 a3 a4) := by
  unfold execCopy
  refine KeptO.next ?_
  split
  · rename_i m0 m1
    exact k4
  · rename_i m2 m3 m4 m5
    extract_lets +onlyGivenNames x6; clear_value x6
    extract_lets +onlyGivenNames x7; clear_value x7
    split
    · rename_i m8 m9 m10 m11 m12 m13 m14 m15 m16 m17 m18 m19
      refine Kept.ite ?_ ?_
      · refine State.copyFrom_kept ?_
        refine State.meetAt_kept ?_
        exact State.meetAt_kept k4
      · exact k4
    · rename_i m20 m21 m22 m23 m24
      exact State.putDesc_kept k4
theorem execCqHeadDoorbell_kept {s₀ : State} {a0} {a1} {a2} {a3} {a4} (k4 : Kept s₀ a4) : KeptO s₀ (execCqHeadDoorbell a0 a1 a2 a3 a4) := by
  unfold execCqHeadDoorbell
  refine KeptO.next ?_
  refine Kept.ite ?_ ?_
  · exact State.discardIo_kept k4
  · split
    · rename_i m0 m1 m2
      refine Kept.ite ?_ ?_
      · exact State.putQueue_kept k4
      · exact k4
    · rename_i m3 m4
      exact k4
theorem execCreateQueuePair_kept {s₀ : State} {a0} {a1} {a2} {a3} (k3 : Kept s₀ a3) : KeptO s₀ (execCreateQueuePair a0 a1 a2 a3) := by
  unfold execCreateQueuePair
  refine KeptO.next ?_
  refine State.command_kept k3 ?_
  intro v0 h1
  extract_lets +onlyGivenNames x2; clear_value x2
  extract_lets +onlyGivenNames x3; clear_value x3
  extract_lets +onlyGivenNames x4; clear_value x4
  extract_lets +onlyGivenNames x5; clear_value x5
  split
  · exact answer_kept h1
  · refine answer_kept ?_
    exact State.putQueue_kept h1
theorem execDeleteQueuePair_kept {s₀ : State} {a0} {a1} {a2} {a3} (k3 : Kept s₀ a3) : KeptO s₀ (execDeleteQueuePair a0 a1 a2 a3) := by
  unfold execDeleteQueuePair
  refine KeptO.next ?_
  refine State.command_kept k3 ?_
  intro v0 h1
  extract_lets +onlyGivenNames x2; clear_value x2
  split
  · rename_i m3 m4 m5
    split
    · exact answer_kept h1
    · extract_lets +onlyGivenNames x6; clear_value x6
      extract_lets +onlyGivenNames x7; clear_value x7
      refine answer_kept ?_
      refine State.fetchRound_kept ?_
      refine State.freeQueue_kept ?_
      exact State.putQueue_kept h1
  · rename_i m8 m9
    exact answer_kept h1
theorem execDescriptorFetchDone_kept {s₀ : State} {a0} {a1} {a2} {a3} (k3 : Kept s₀ a3) : KeptO s₀ (execDescriptorFetchDone a0 a1 a2 a3) := by
  unfold execDescriptorFetchDone
  refine KeptO.next ?_
  split
  · rename_i m0 m1 m2
    refine Kept.ite ?_ ?_
    · exact k3
    · refine Kept.ite ?_ ?_
      · refine State.fetchRound_kept ?_
        exact State.putQueue_kept k3
      · extract_lets +onlyGivenNames x3; clear_value x3
        extract_lets +onlyGivenNames x4; clear_value x4
        extract_lets +onlyGivenNames x5; clear_value x5
        extract_lets +onlyGivenNames x6
        have h7 : Kept s₀ x6 := by unfold x6; exact State.putQueue_kept k3
        clear_value x6
        refine State.fetchRound_kept ?_
        exact State.countHub_kept h7
  · rename_i m8 m9
    exact k3
theorem execDiscard_kept {s₀ : State} {a0} {a1} {a2} (k2 : Kept s₀ a2) : KeptO s₀ (execDiscard a0 a1 a2) := by
  unfold execDiscard
  refine KeptO.next ?_
  split
  · rename_i m0 m1
    exact k2
  · rename_i m2 m3 m4 m5
    split
    · rename_i m6 m7 m8 m9 m10 m11
      refine Kept.ite ?_ ?_
      · exact State.lineFailed_kept k2
      · refine Kept.ite ?_ ?_
        · exact k2
        · refine State.lineDone_kept ?_
          exact State.discardLeaf_kept k2
    · rename_i m12 m13 m14
      exact State.putDesc_kept k2
theorem execFill_kept {s₀ : State} {a0} {a1} {a2} {a3} (k3 : Kept s₀ a3) : KeptO s₀ (execFill a0 a1 a2 a3) := by
  unfold execFill
  refine KeptO.next ?_
  exact State.fillNext_kept k3
theorem execGetQueuePairStatus_kept {s₀ : State} {a0} {a1} {a2} {a3} (k3 : Kept s₀ a3) : KeptO s₀ (execGetQueuePairStatus a0 a1 a2 a3) := by
  unfold execGetQueuePairStatus
  refine KeptO.next ?_
  refine State.command_kept k3 ?_
  intro v0 h1
  split
  · rename_i m2 m3 m4
    split
    · exact answer_kept h1
    · refine Kept.answer ?_
      exact h1
  · rename_i m5 m6
    exact answer_kept h1
theorem execQueueCompletionPost_kept {s₀ : State} {a0} {a1} {a2} (k2 : Kept s₀ a2) : KeptO s₀ (execQueueCompletionPost a0 a1 a2) := by
  unfold execQueueCompletionPost
  refine KeptO.next ?_
  split
  · rename_i m0 m1
    exact k2
  · rename_i m2 m3 m4
    split
    · rename_i m5 m6
      exact k2
    · rename_i m7 m8 m9
      extract_lets +onlyGivenNames x10; clear_value x10
      extract_lets +onlyGivenNames x11; clear_value x11
      refine Kept.ite ?_ ?_
      · exact k2
      · refine Kept.ite ?_ ?_
        · refine State.freeQueue_kept ?_
          exact State.putQueue_kept k2
        · extract_lets +onlyGivenNames x12
          have h13 : Kept s₀ x12 := by unfold x12; exact State.putQueue_kept k2
          clear_value x12
          extract_lets +onlyGivenNames x14
          have h15 : Kept s₀ x14 := by
            unfold x14
            refine Kept.ite ?_ ?_
            · exact h13
            · exact State.countHub_kept h13
          clear_value x14
          extract_lets +onlyGivenNames x16
          have h17 : Kept s₀ x16 := by unfold x16; exact State.send_kept h15
          clear_value x16
          extract_lets +onlyGivenNames x18
          have h19 : Kept s₀ x18 := by
            unfold x18
            refine Kept.ite ?_ ?_
            · exact State.msix_kept h17
            · exact h17
          clear_value x18
          refine State.fetchRound_kept ?_
          exact State.freeQueue_kept h19
theorem execSqTailDoorbell_kept {s₀ : State} {a0} {a1} {a2} {a3} {a4} (k4 : Kept s₀ a4) : KeptO s₀ (execSqTailDoorbell a0 a1 a2 a3 a4) := by
  unfold execSqTailDoorbell
  refine KeptO.next ?_
  refine Kept.ite ?_ ?_
  · exact State.discardIo_kept k4
  · split
    · rename_i m0 m1 m2
      refine Kept.ite ?_ ?_
      · refine State.fetchNext_kept ?_
        exact State.putQueue_kept k4
      · exact k4
    · rename_i m3 m4
      exact k4

/-! ## Apply -/
theorem State.loadImage_kept {s₀ : State} {a0} {a1} (k0 : Kept s₀ a0) : Kept s₀ (State.loadImage a0 a1) := by
  unfold State.loadImage
  extract_lets +onlyGivenNames x0
  have h1 : Kept s₀ x0 := by unfold x0; exact State.loadRoles_kept k0
  clear_value x0
  refine each_keep (fun r => Kept s₀ r) ?_ ?_
  · exact h1
  · intro v2 v3 h4
    extract_lets +onlyGivenNames x5; clear_value x5
    extract_lets +onlyGivenNames x6; clear_value x6
    refine Kept.ite ?_ ?_
    · exact State.chanOff_kept h4
    · refine Kept.ite ?_ ?_
      · refine State.setLink_kept ?_
        exact State.wf_kept h4
      · exact h4
theorem State.noteResident_kept {s₀ : State} {a0} {a1} (k0 : Kept s₀ a0) : Kept s₀ (State.noteResident a0 a1) := by
  unfold State.noteResident
  refine Kept.ite ?_ ?_
  · exact State.wf_kept k0
  · exact k0
theorem State.moveRun_kept {s₀ : State} {a0} {a1} {a2} {a3} (k0 : Kept s₀ a0) : Kept s₀ (State.moveRun a0 a1 a2 a3) := by
  unfold State.moveRun
  split
  · rename_i m0 m1
    exact k0
  · rename_i m2 m3 m4 m5
    refine Kept.ite ?_ ?_
    · exact k0
    · extract_lets +onlyGivenNames x6; clear_value x6
      extract_lets +onlyGivenNames x7
      have h8 : Kept s₀ x7 := by
        unfold x7
        refine each_keep (fun r => Kept s₀ r) ?_ ?_
        · exact k0
        · intro v9 v10 h11
          exact State.copyBack_kept h11
      clear_value x7
      extract_lets +onlyGivenNames x12; clear_value x12
      extract_lets +onlyGivenNames x13; clear_value x13
      extract_lets +onlyGivenNames x14; clear_value x14
      extract_lets +onlyGivenNames x15
      have h16 : Kept s₀ x15 := by unfold x15; exact State.modTile_kept h8
      clear_value x15
      extract_lets +onlyGivenNames x17
      have h18 : Kept s₀ x17 := by
        unfold x17
        refine each_keep (fun r => Kept s₀ r) ?_ ?_
        · exact h16
        · intro v19 v20 h21
          exact State.setStem_kept h21
      clear_value x17
      refine each_keep (fun r => Kept s₀ r) ?_ ?_
      · exact h18
      · intro v22 v23 h24
        exact State.setLeaf_kept h24
theorem State.compactRuns_kept {s₀ : State} {a0} {a1} (k0 : Kept s₀ a0) : Kept s₀ (State.compactRuns a0 a1) := by
  unfold State.compactRuns
  extract_lets +onlyGivenNames x0; clear_value x0
  refine each_keep (fun (r : State × ℕ) => Kept s₀ r.1) ?_ ?_
  · refine Kept.fst ?_
    exact k0
  · intro v1 v2 h3
    refine Kept.fst ?_
    refine State.moveRun_kept ?_
    exact h3
theorem State.ensureRun_kept {s₀ : State} {a0} {a1} {a2} {a3} (k0 : Kept s₀ a0) : Kept s₀ (State.ensureRun a0 a1 a2 a3) := by
  unfold State.ensureRun
  refine State.noteResident_kept ?_
  have hg : ∀ t, a0.tryRun a1 a2 a3 = some t → Kept s₀ t := by
    unfold State.tryRun
    extract_lets +onlyGivenNames x0; clear_value x0
    split
    · rintro t ⟨⟩
      exact k0
    · extract_lets +onlyGivenNames grow
      have hg : ∀ s t, grow s = some t → Kept s₀ s → Kept s₀ t := by
        intro s t e h
        simp only [grow] at e
        split at e
        · split at e
          · cases e; exact State.modTile_kept h
          · obtain ⟨b, _, rfl⟩ := Option.map_eq_some_iff.mp e
            exact State.modTile_kept (State.moveRun_kept h)
        · obtain ⟨b, _, rfl⟩ := Option.map_eq_some_iff.mp e
          exact State.modTile_kept h
      clear_value grow
      intro t
      split
      · rename_i s e
        rintro ⟨⟩
        exact hg _ _ e k0
      · intro e
        exact hg _ _ e (State.compactRuns_kept k0)
  cases e : a0.tryRun a1 a2 a3 with
  | none => exact k0
  | some t => exact hg t e
theorem State.emptyTree_kept {s₀ : State} {a0} {a1} {a2} (k0 : Kept s₀ a0) : Kept s₀ (State.emptyTree a0 a1 a2) := by
  unfold State.emptyTree
  exact k0.of (tiles := by simp)
theorem State.retree_kept {s₀ : State} {a0} {a1} {a2} {a3} {a4} (k0 : Kept s₀ a0) : Kept s₀ (State.retree a0 a1 a2 a3 a4) := by
  unfold State.retree
  refine Kept.ite ?_ ?_
  · split
    · rename_i m0 m1
      exact k0
    · rename_i m2 m3 m4
      extract_lets +onlyGivenNames x5; clear_value x5
      extract_lets +onlyGivenNames x6; clear_value x6
      exact State.modTile_kept k0
  · refine Kept.ite ?_ ?_
    · extract_lets +onlyGivenNames x7; clear_value x7
      exact State.modTile_kept k0
    · exact k0
theorem State.swapTiles_kept {s₀ : State} {a0} {a1} {a2} {a3} (k0 : Kept s₀ a0) : Kept s₀ (State.swapTiles a0 a1 a2 a3) := by
  unfold State.swapTiles
  split
  · rename_i m0 m1
    exact k0
  · rename_i m2 m3 m4
    extract_lets +onlyGivenNames x5
    have h6 : Kept s₀ x5 := by
      unfold x5
      refine each_keep (fun r => Kept s₀ r) ?_ ?_
      · exact k0
      · intro v7 v8 h9
        exact State.ensureRun_kept h9
    clear_value x5
    split
    · rename_i m10 m11
      exact State.emptyTree_kept h6
    · rename_i m12 m13 m14
      refine Kept.ite ?_ ?_
      · exact State.emptyTree_kept h6
      · refine Kept.ite ?_ ?_
        · exact h6
        · refine each_keep (fun r => Kept s₀ r) ?_ ?_
          · exact h6
          · intro v15 v16 h17
            exact State.retree_kept h17
theorem State.resumeComp_kept {s₀ : State} {a0} {a1} {a2} {a3} (k0 : Kept s₀ a0) : Kept s₀ (State.resumeComp a0 a1 a2 a3) := by
  unfold State.resumeComp
  split
  · rename_i m0 m1
    refine Kept.ite ?_ ?_
    · refine each_keep (fun r => Kept s₀ r) ?_ ?_
      · exact k0
      · intro v2 v3 h4
        exact State.ensureRun_kept h4
    · exact State.swapTiles_kept k0
  · rename_i m5
    extract_lets +onlyGivenNames x6; clear_value x6
    extract_lets +onlyGivenNames x7
    have h8 : Kept s₀ x7 := by
      unfold x7
      refine each_keep (fun r => Kept s₀ r) ?_ ?_
      · exact k0
      · intro v9 v10 h11
        exact State.ensureRun_kept h11
    clear_value x7
    refine Kept.ite ?_ ?_
    · exact State.emptyTree_kept h8
    · exact h8
theorem State.noteVisible_kept {s₀ : State} {a0} {a1} {a2} {a3} (k0 : Kept s₀ a0) : Kept s₀ (State.noteVisible a0 a1 a2 a3) := by
  unfold State.noteVisible
  extract_lets +onlyGivenNames x0; clear_value x0
  refine each_keep (fun r => Kept s₀ r) ?_ ?_
  · exact k0
  · intro v1 v2 h3
    refine each_keep (fun r => Kept s₀ r) ?_ ?_
    · exact h3
    · intro v4 v5 h6
      refine Kept.ite ?_ ?_
      · exact h6
      · exact State.cxlPutNoted_kept h6
theorem State.noteAll_kept {s₀ : State} {a0} {a1} {a2} (k0 : Kept s₀ a0) : Kept s₀ (State.noteAll a0 a1 a2) := by
  unfold State.noteAll
  extract_lets +onlyGivenNames x0; clear_value x0
  refine each_keep (fun r => Kept s₀ r) ?_ ?_
  · exact k0
  · intro v1 v2 h3
    exact State.noteVisible_kept h3
theorem State.activateAt_kept {s₀ : State} {a0} {a1} {a2} (k0 : Kept s₀ a0) : Kept s₀ (State.activateAt a0 a1 a2) := by
  unfold State.activateAt
  extract_lets +onlyGivenNames x0
  have h1 : Kept s₀ x0 := by
    unfold x0
    refine State.loadImage_kept ?_
    exact k0.congr rfl
  clear_value x0
  extract_lets +onlyGivenNames x2
  have h3 : Kept s₀ x2 := by
    unfold x2
    refine each_keep (fun r => Kept s₀ r) ?_ ?_
    · exact h1
    · intro v4 v5 h6
      exact State.loadShares_kept h6
  clear_value x2
  extract_lets +onlyGivenNames x7
  have h8 : Kept s₀ x7 := by
    unfold x7
    refine each_keep (fun r => Kept s₀ r) ?_ ?_
    · exact h3
    · intro v9 v10 h11
      exact State.resumeComp_kept h11
  clear_value x7
  refine State.noteAll_kept ?_
  exact State.refsDue_kept h8
theorem State.stdResult_kept {s₀ : State} {a0} {a1} {a2} (k0 : Kept s₀ a0) : Kept s₀ (State.stdResult a0 a1 a2) := by
  unfold State.stdResult
  refine State.wf_kept ?_
  exact State.wf_kept k0
theorem State.notNow_kept {s₀ : State} {a0} (k0 : Kept s₀ a0) : Kept s₀ (State.notNow a0) := by
  unfold State.notNow
  exact State.stdResult_kept k0
theorem State.slhCount_kept {s₀ : State} {a0} {a1} {a2} (k0 : Kept s₀ a0) : Kept s₀ (State.slhCount a0 a1 a2) := by
  unfold State.slhCount
  refine State.seedRead_kept ?_
  refine Kept.ite ?_ ?_
  · exact State.countHub_kept k0
  · exact k0
theorem State.stdState_kept {s₀ : State} {a0} {a1} (k0 : Kept s₀ a0) : Kept s₀ (State.stdState a0 a1) := by
  unfold State.stdState
  exact State.wf_kept k0
theorem State.checkStaged_kept {s₀ : State} {a0} (k0 : Kept s₀ a0) : Kept s₀ (State.checkStaged a0).2 := by
  unfold State.checkStaged
  extract_lets +onlyGivenNames x0; clear_value x0
  extract_lets +onlyGivenNames x1; clear_value x1
  extract_lets +onlyGivenNames x2; clear_value x2
  extract_lets +onlyGivenNames x3; subst x3
  extract_lets +onlyGivenNames x4
  have h5 : Kept s₀ x4 := by
    unfold x4
    refine Kept.ite ?_ ?_
    · exact k0.congr rfl
    · exact k0
  clear_value x4
  extract_lets +onlyGivenNames x6
  have h7 : Kept s₀ x6 := by unfold x6; exact State.slhCount_kept h5
  clear_value x6
  extract_lets +onlyGivenNames x8
  have h9 : Kept s₀ x8 := by unfold x8; exact State.stdResult_kept h7
  clear_value x8
  refine Kept.snd ?_
  refine Kept.ite ?_ ?_
  · exact h9
  · exact State.stdState_kept h9
theorem State.imageEvent_kept {s₀ : State} {a0} {a1} {a2} {a3} {a4} {a5} (k0 : Kept s₀ a0) : Kept s₀ (State.imageEvent a0 a1 a2 a3 a4 a5) := by
  unfold State.imageEvent
  exact State.raise_kept k0
theorem State.imageRefused_kept {s₀ : State} {a0} {a1} {a2} {a3} (k0 : Kept s₀ a0) : Kept s₀ (State.imageRefused a0 a1 a2 a3) := by
  unfold State.imageRefused
  refine State.imageEvent_kept ?_
  exact State.stdResult_kept k0
theorem State.setApply_kept {s₀ : State} {a0} {a1} (k0 : Kept s₀ a0) : Kept s₀ (State.setApply a0 a1) := by
  unfold State.setApply
  exact k0.congr rfl
theorem State.beginApply_kept {s₀ : State} {a0} {a1} {a2} (k0 : Kept s₀ a0) : Kept s₀ (State.beginApply a0 a1 a2) := by
  unfold State.beginApply
  extract_lets +onlyGivenNames x0
  have h1 : Kept s₀ x0 := by unfold x0; exact State.setApply_kept k0
  clear_value x0
  extract_lets +onlyGivenNames x2
  have h3 : Kept s₀ x2 := by unfold x2; exact State.wf_kept h1
  clear_value x2
  extract_lets +onlyGivenNames x4
  have h5 : Kept s₀ x4 := by
    unfold x4
    refine State.wf_kept ?_
    refine State.wf_kept ?_
    exact State.wf_kept h3
  clear_value x4
  refine Kept.ite ?_ ?_
  · exact h5
  · exact State.stdState_kept h5
theorem State.applyLive_kept {s₀ : State} {a0} (k0 : Kept s₀ a0) : Kept s₀ (State.applyLive a0) := by
  unfold State.applyLive
  refine Kept.ite ?_ ?_
  · exact State.notNow_kept k0
  · extract_lets +onlyGivenNames x0
    have h1 : Kept s₀ x0.2 := by unfold x0; exact State.checkStaged_kept k0
    clear_value x0
    extract_lets +onlyGivenNames x2
    have h3 : Kept s₀ x2 := by unfold x2; exact h1
    clear_value x2
    extract_lets +onlyGivenNames x4; subst x4
    refine Kept.ite ?_ ?_
    · exact State.imageRefused_kept h3
    · refine Kept.ite ?_ ?_
      · exact State.imageRefused_kept h3
      · refine Kept.ite ?_ ?_
        · exact State.imageRefused_kept h3
        · exact State.beginApply_kept h3
theorem State.applyOver_kept {s₀ : State} {a0} {a1} (k0 : Kept s₀ a0) : Kept s₀ (State.applyOver a0 a1) := by
  unfold State.applyOver
  refine State.wf_kept ?_
  exact State.setApply_kept k0
theorem State.beginRecord_kept {s₀ : State} {a0} {a1} (k0 : Kept s₀ a0) : Kept s₀ (State.beginRecord a0 a1) := by
  unfold State.beginRecord
  exact k0.congr rfl
theorem State.removeComp_kept {s₀ : State} {a0} {a1} (k0 : Kept s₀ a0) : Kept s₀ (State.removeComp a0 a1) := by
  unfold State.removeComp
  extract_lets +onlyGivenNames x0
  have h1 : Kept s₀ x0 := by
    unfold x0
    refine each_keep (fun r => Kept s₀ r) ?_ ?_
    · exact k0
    · intro v2 v3 h4
      split
      · rename_i m5 m6
        exact h4
      · rename_i m7 m8 m9 m10
        extract_lets +onlyGivenNames x11; clear_value x11
        extract_lets +onlyGivenNames x12
        have h13 : Kept s₀ x12 := by
          unfold x12
          refine each_keep (fun r => Kept s₀ r) ?_ ?_
          · exact h4
          · intro v14 v15 h16
            exact State.copyBack_kept h16
        clear_value x12
        extract_lets +onlyGivenNames x17
        have h18 : Kept s₀ x17 := by
          unfold x17
          refine each_keep (fun r => Kept s₀ r) ?_ ?_
          · exact h13
          · intro v19 v20 h21
            exact State.releasePlace_kept h21
        clear_value x17
        exact State.modTile_kept h18
  clear_value x0
  exact h1.of (tiles := by simp)
theorem State.dropRootWarrants_kept {s₀ : State} {a0} {a1} {a2} (k0 : Kept s₀ a0) : Kept s₀ (State.dropRootWarrants a0 a1 a2) := by
  unfold State.dropRootWarrants
  extract_lets +onlyGivenNames x0; clear_value x0
  exact k0.congr rfl
theorem State.resumeRoots_kept {s₀ : State} {a0} {a1} {a2} (k0 : Kept s₀ a0) : Kept s₀ (State.resumeRoots a0 a1 a2) := by
  unfold State.resumeRoots
  split
  · rename_i m0 m1 m2
    refine Kept.ite ?_ ?_
    · exact k0.congr rfl
    · exact k0
  · rename_i m3 m4
    exact k0
theorem State.commitEffects_kept {s₀ : State} {a0} {a1} {a2} (k0 : Kept s₀ a0) : Kept s₀ (State.commitEffects a0 a1 a2) := by
  unfold State.commitEffects
  extract_lets +onlyGivenNames x0; clear_value x0
  extract_lets +onlyGivenNames x1
  have h2 : Kept s₀ x1 := by
    unfold x1
    refine each_keep (fun r => Kept s₀ r) ?_ ?_
    · exact k0
    · intro v3 v4 h5
      exact State.removeComp_kept h5
  clear_value x1
  extract_lets +onlyGivenNames x6
  have h7 : Kept s₀ x6 := by
    unfold x6
    split
    · rename_i m8 m9
      refine State.dropRootWarrants_kept ?_
      exact h2.congr rfl
    · rename_i m10
      exact h2
  clear_value x6
  extract_lets +onlyGivenNames x11
  have h12 : Kept s₀ x11 := by unfold x11; exact State.resumeRoots_kept h7
  clear_value x11
  exact h12.congr rfl
theorem State.newestRecord_kept {s₀ : State} {a0} (k0 : Kept s₀ a0) : Kept s₀ (State.newestRecord a0) := by
  unfold State.newestRecord
  split
  · rename_i m0 m1 m2
    refine Kept.ite ?_ ?_
    · exact k0.congr rfl
    · exact k0.congr rfl
  · rename_i m3 m4
    exact k0
theorem State.endRecord_kept {s₀ : State} {a0} (k0 : Kept s₀ a0) : Kept s₀ (State.endRecord a0) := by
  unfold State.endRecord
  refine State.seedProgram_kept ?_
  refine State.newestRecord_kept ?_
  exact k0.congr rfl
theorem State.writeRecord_kept {s₀ : State} {a0} {a1} (k0 : Kept s₀ a0) : Kept s₀ (State.writeRecord a0 a1) := by
  unfold State.writeRecord
  refine State.endRecord_kept ?_
  exact State.beginRecord_kept k0
theorem State.commitRecord_kept {s₀ : State} {a0} {a1} (k0 : Kept s₀ a0) : Kept s₀ (State.commitRecord a0 a1) := by
  unfold State.commitRecord
  extract_lets +onlyGivenNames x0
  have h1 : Kept s₀ x0 := by unfold x0; exact State.writeRecord_kept k0
  clear_value x0
  refine Kept.ite ?_ ?_
  · exact h1
  · refine State.wf_kept ?_
    exact h1.congr rfl
theorem State.setStaged_kept {s₀ : State} {a0} {a1} (k0 : Kept s₀ a0) : Kept s₀ (State.setStaged a0 a1) := by
  unfold State.setStaged
  refine State.wf_kept ?_
  exact State.writeRecord_kept k0
theorem State.dropStage_kept {s₀ : State} {a0} (k0 : Kept s₀ a0) : Kept s₀ (State.dropStage a0) := by
  unfold State.dropStage
  refine State.stdState_kept ?_
  refine State.setStaged_kept ?_
  exact k0.congr rfl
theorem State.discardStaged_kept {s₀ : State} {a0} (k0 : Kept s₀ a0) : Kept s₀ (State.discardStaged a0) := by
  unfold State.discardStaged
  refine Kept.ite ?_ ?_
  · exact State.notNow_kept k0
  · exact State.dropStage_kept k0
theorem State.rollbackOver_kept {s₀ : State} {a0} {a1} (k0 : Kept s₀ a0) : Kept s₀ (State.rollbackOver a0 a1) := by
  unfold State.rollbackOver
  extract_lets +onlyGivenNames x0
  have h1 : Kept s₀ x0 := by
    unfold x0
    refine State.wf_kept ?_
    exact State.applyOver_kept k0
  clear_value x0
  extract_lets +onlyGivenNames x2
  have h3 : Kept s₀ x2 := by
    unfold x2
    refine Kept.ite ?_ ?_
    · exact h1
    · exact State.stdState_kept h1
  clear_value x2
  exact State.imageEvent_kept h3
theorem State.rollbackNext_kept {s₀ : State} {a0} {a1} (k0 : Kept s₀ a0) : Kept s₀ (State.rollbackNext a0 a1) := by
  unfold State.rollbackNext
  split
  · rename_i m0 m1
    exact State.rollbackOver_kept k0
  · rename_i m2 m3 m4
    exact State.setApply_kept k0
theorem State.failApply_kept {s₀ : State} {a0} {a1} {a2} {a3} (k0 : Kept s₀ a0) : Kept s₀ (State.failApply a0 a1 a2 a3) := by
  unfold State.failApply
  split
  · rename_i m0 m1
    exact k0
  · rename_i m2 m3 m4
    refine Kept.ite ?_ ?_
    · exact k0
    · extract_lets +onlyGivenNames x5
      have h6 : Kept s₀ x5 := by
        unfold x5
        refine State.wf_kept ?_
        refine State.wf_kept ?_
        refine State.wf_kept ?_
        exact State.wf_kept k0
      clear_value x5
      extract_lets +onlyGivenNames x7
      have h8 : Kept s₀ x7 := by
        unfold x7
        refine Kept.ite ?_ ?_
        · exact h6
        · exact State.stdState_kept h6
      clear_value x7
      extract_lets +onlyGivenNames x9
      have h10 : Kept s₀ x9 := by unfold x9; exact State.rollbackNext_kept h8
      clear_value x9
      refine each_keep (fun r => Kept s₀ r) ?_ ?_
      · exact h10
      · intro v11 v12 h13
        exact State.releaseHeld_kept h13
theorem State.fallBack_kept {s₀ : State} {a0} {a1} {a2} {a3} (k0 : Kept s₀ a0) : Kept s₀ (State.fallBack a0 a1 a2 a3) := by
  unfold State.fallBack
  extract_lets +onlyGivenNames x0; clear_value x0
  extract_lets +onlyGivenNames x1
  have h2 : Kept s₀ x1 := by unfold x1; exact k0.congr rfl
  clear_value x1
  extract_lets +onlyGivenNames x3
  have h4 : Kept s₀ x3 := by unfold x3; exact State.stdResult_kept k0
  clear_value x3
  refine Kept.ite ?_ ?_
  · refine State.noteAll_kept ?_
    refine State.imageRefused_kept ?_
    exact State.imageRefused_kept h2
  · refine Kept.ite ?_ ?_
    · refine State.noteAll_kept ?_
      refine State.stdResult_kept ?_
      exact State.imageRefused_kept h2
    · extract_lets +onlyGivenNames x5; clear_value x5
      extract_lets +onlyGivenNames x6; clear_value x6
      extract_lets +onlyGivenNames x7
      have h8 : Kept s₀ x7 := by unfold x7; exact State.writeRecord_kept h4
      clear_value x7
      extract_lets +onlyGivenNames x9; subst x9
      extract_lets +onlyGivenNames x10
      have h11 : Kept s₀ x10 := by unfold x10; exact h8.congr rfl
      clear_value x10
      refine State.imageEvent_kept ?_
      exact State.activateAt_kept h11
theorem State.verifyImage_kept {s₀ : State} {a0} (k0 : Kept s₀ a0) : Kept s₀ (State.verifyImage a0) := by
  unfold State.verifyImage
  refine Kept.ite ?_ ?_
  · exact State.notNow_kept k0
  · refine State.wf_kept ?_
    exact k0.congr rfl
theorem State.setMark_kept {s₀ : State} {a0} {a1} (k0 : Kept s₀ a0) : Kept s₀ (State.setMark a0 a1) := by
  unfold State.setMark
  refine State.wf_kept ?_
  exact State.writeRecord_kept k0
theorem State.markResume_kept {s₀ : State} {a0} {a1} (k0 : Kept s₀ a0) : Kept s₀ (State.markResume a0 a1) := by
  unfold State.markResume
  refine Kept.ite ?_ ?_
  · exact State.setMark_kept k0
  · refine Kept.ite ?_ ?_
    · exact k0
    · refine Kept.ite ?_ ?_
      · exact State.notNow_kept k0
      · exact State.setMark_kept k0
theorem State.returnPrev_kept {s₀ : State} {a0} (k0 : Kept s₀ a0) : Kept s₀ (State.returnPrev a0) := by
  unfold State.returnPrev
  refine Kept.ite ?_ ?_
  · exact State.notNow_kept k0
  · split
    · rename_i m0 m1
      exact State.imageRefused_kept k0
    · rename_i m2 m3 m4
      extract_lets +onlyGivenNames x5; clear_value x5
      extract_lets +onlyGivenNames x6; clear_value x6
      extract_lets +onlyGivenNames x7
      have h8 : Kept s₀ x7 := by unfold x7; exact State.slhCount_kept k0
      clear_value x7
      refine Kept.ite ?_ ?_
      · exact State.imageRefused_kept h8
      · refine Kept.ite ?_ ?_
        · exact State.imageRefused_kept h8
        · refine State.beginApply_kept ?_
          exact State.stdResult_kept h8
theorem State.imageControl_kept {s₀ : State} {a0} {a1} (k0 : Kept s₀ a0) : Kept s₀ (State.imageControl a0 a1).state := by
  unfold State.imageControl
  extract_lets +onlyGivenNames op busy run; subst busy
  have hr : ∀ go : State → State, (∀ y, Kept s₀ y → Kept s₀ (go y)) → Kept s₀ (run go).state := fun go h => h _ k0
  clear_value run op
  split
  · exact k0
  split
  · exact hr _ (fun _ h => State.verifyImage_kept h)
  · exact hr _ (fun _ h => State.applyLive_kept h)
  · split
    · exact k0
    · exact hr _ (fun _ h => State.markResume_kept h)
  · exact State.markResume_kept k0
  · exact hr _ (fun _ h => State.returnPrev_kept h)
  · exact hr _ (fun _ h => State.discardStaged_kept h)
  · exact k0
theorem State.releaseComp_kept {s₀ : State} {a0} {a1} (k0 : Kept s₀ a0) : Kept s₀ (State.releaseComp a0 a1) := by
  unfold State.releaseComp
  extract_lets +onlyGivenNames x0
  have h1 : Kept s₀ x0 := by unfold x0; exact k0.congr rfl
  clear_value x0
  refine each_keep (fun r => Kept s₀ r) ?_ ?_
  · exact h1
  · intro v2 v3 h4
    exact State.releaseHeld_kept h4
theorem State.resumeActive_kept {s₀ : State} {a0} (k0 : Kept s₀ a0) : Kept s₀ (State.resumeActive a0) := by
  unfold State.resumeActive
  split
  · rename_i m0 m1
    exact k0.congr rfl
  · rename_i m2 m3 m4
    extract_lets +onlyGivenNames x5; clear_value x5
    extract_lets +onlyGivenNames x6; clear_value x6
    refine Kept.ite ?_ ?_
    · exact State.activateAt_kept k0
    · split
      · rename_i m7 m8
        refine State.noteAll_kept ?_
        refine State.imageRefused_kept ?_
        exact k0.congr rfl
      · rename_i m9 m10 m11
        refine State.fallBack_kept ?_
        exact State.stdResult_kept k0
theorem State.resumeMarked_kept {s₀ : State} {a0} {a1} (k0 : Kept s₀ a0) : Kept s₀ (State.resumeMarked a0 a1) := by
  unfold State.resumeMarked
  extract_lets +onlyGivenNames x0; clear_value x0
  extract_lets +onlyGivenNames x1; clear_value x1
  extract_lets +onlyGivenNames x2; subst x2
  extract_lets +onlyGivenNames x3; clear_value x3
  extract_lets +onlyGivenNames x4
  have h5 : Kept s₀ x4 := by unfold x4; exact State.writeRecord_kept k0
  clear_value x4
  extract_lets +onlyGivenNames x6
  have h7 : Kept s₀ x6 := by
    unfold x6
    refine State.stdResult_kept ?_
    exact State.commitRecord_kept h5
  clear_value x6
  refine State.imageEvent_kept ?_
  refine State.activateAt_kept ?_
  exact State.commitEffects_kept h7
theorem State.sections_kept {s₀ : State} {a0} {a1} (k0 : Kept s₀ a0) : Kept s₀ (State.sections a0 a1) := by
  unfold State.sections
  extract_lets +onlyGivenNames x0; clear_value x0
  extract_lets +onlyGivenNames x1
  have h2 : Kept s₀ x1 := by
    unfold x1
    refine State.loadImage_kept ?_
    exact k0.congr rfl
  clear_value x1
  exact State.refsDue_kept h2
theorem State.stageBad_kept {s₀ : State} {a0} {a1} (k0 : Kept s₀ a0) : Kept s₀ (State.stageBad a0 a1).state := by
  unfold State.stageBad
  refine answer_kept ?_
  split
  · rename_i m0 m1 m2
    refine Kept.ite ?_ ?_
    · exact State.dropStage_kept k0
    · exact k0
  · rename_i m3 m4
    exact k0
theorem State.stageWhole_kept {s₀ : State} {a0} {a1} {a2} {a3} (k0 : Kept s₀ a0) : Kept s₀ (State.stageWhole a0 a1 a2 a3) := by
  unfold State.stageWhole
  extract_lets +onlyGivenNames x0
  have h1 : Kept s₀ x0 := by
    unfold x0
    refine State.seedProgram_kept ?_
    exact State.setStaged_kept k0
  clear_value x0
  extract_lets +onlyGivenNames x2; subst x2
  extract_lets +onlyGivenNames x3
  have h4 : Kept s₀ x3 := by unfold x3; exact h1.congr rfl
  clear_value x3
  refine State.modLd_kept ?_
  exact State.stdState_kept h4
theorem State.stageImage_kept {s₀ : State} {a0} {a1} {a2} {a3} (k0 : Kept s₀ a0) : Kept s₀ (State.stageImage a0 a1 a2 a3).state := by
  unfold State.stageImage
  extract_lets +onlyGivenNames x0; clear_value x0
  extract_lets +onlyGivenNames x1; clear_value x1
  extract_lets +onlyGivenNames x2; clear_value x2
  extract_lets +onlyGivenNames x3; clear_value x3
  extract_lets +onlyGivenNames x4; clear_value x4
  split
  · exact answer_kept k0
  · split
    · exact answer_kept k0
    · split
      · exact State.stageBad_kept k0
      · split
        · exact answer_kept k0
        · split
          · refine Kept.answer ?_
            exact State.dropStage_kept k0
          · split
            · refine answer_kept ?_
              exact State.stageWhole_kept k0
            · extract_lets +onlyGivenNames x5
              have h6 : Kept s₀ x5 := by
                unfold x5
                refine Kept.ite ?_ ?_
                · exact State.setStaged_kept k0
                · exact k0
              clear_value x5
              refine Kept.answer ?_
              refine State.stdState_kept ?_
              refine State.seedProgram_kept ?_
              exact h6.congr rfl
theorem State.swapBack_kept {s₀ : State} {a0} {a1} {a2} {a3} (k0 : Kept s₀ a0) : Kept s₀ (State.swapBack a0 a1 a2 a3) := by
  unfold State.swapBack
  refine Kept.ite ?_ ?_
  · exact State.removeComp_kept k0
  · exact State.swapTiles_kept k0
theorem State.switchBack_kept {s₀ : State} {a0} {a1} {a2} {a3} (k0 : Kept s₀ a0) : Kept s₀ (State.switchBack a0 a1 a2 a3) := by
  unfold State.switchBack
  extract_lets +onlyGivenNames x0; clear_value x0
  extract_lets +onlyGivenNames x1
  have h2 : Kept s₀ x1 := by unfold x1; exact State.swapBack_kept k0
  clear_value x1
  extract_lets +onlyGivenNames x3; clear_value x3
  extract_lets +onlyGivenNames x4
  have h5 : Kept s₀ x4 := by
    unfold x4
    refine State.raise_kept ?_
    refine State.policyEligible_kept ?_
    exact State.setApply_kept h2
  clear_value x4
  refine State.rollbackNext_kept ?_
  refine State.releaseComp_kept ?_
  refine State.abortInvisible_kept ?_
  exact State.noteVisible_kept h5
theorem State.switchComp_kept {s₀ : State} {a0} {a1} {a2} {a3} (k0 : Kept s₀ a0) : Kept s₀ (State.switchComp a0 a1 a2 a3) := by
  unfold State.switchComp
  extract_lets +onlyGivenNames x0; clear_value x0
  extract_lets +onlyGivenNames x1
  have h2 : Kept s₀ x1 := by unfold x1; exact State.swapTiles_kept k0
  clear_value x1
  extract_lets +onlyGivenNames x3; clear_value x3
  extract_lets +onlyGivenNames x4
  have h5 : Kept s₀ x4 := by
    unfold x4
    refine State.countHub_kept ?_
    refine State.incSat_kept ?_
    refine State.policyEligible_kept ?_
    exact State.setApply_kept h2
  clear_value x4
  extract_lets +onlyGivenNames x6
  have h7 : Kept s₀ x6 := by unfold x6; exact State.raise_kept h5
  clear_value x6
  refine State.releaseComp_kept ?_
  refine State.abortInvisible_kept ?_
  exact State.noteVisible_kept h7
theorem State.undoApply_kept {s₀ : State} {a0} (k0 : Kept s₀ a0) : Kept s₀ (State.undoApply a0) := by
  unfold State.undoApply
  split
  · rename_i m0 m1 m2 m3 m4 m5
    extract_lets +onlyGivenNames x6
    have h7 : Kept s₀ x6 := by
      unfold x6
      refine each_keep (fun r => Kept s₀ r) ?_ ?_
      · refine State.newestRecord_kept ?_
        exact State.setApply_kept k0
      · intro v8 v9 h10
        exact State.swapBack_kept h10
    clear_value x6
    refine Kept.ite ?_ ?_
    · refine State.refsDue_kept ?_
      refine State.loadImage_kept ?_
      exact h7.congr rfl
    · exact h7
  · rename_i m11 m12 m13
    exact State.setApply_kept k0
theorem State.wakeForApply_kept {s₀ : State} {a0} (k0 : Kept s₀ a0) : Kept s₀ (State.wakeForApply a0) := by
  unfold State.wakeForApply
  refine each_keep (fun r => Kept s₀ r) ?_ ?_
  · exact k0
  · intro v0 v1 h2
    refine Kept.ite ?_ ?_
    · exact State.wakeTile_kept h2
    · exact h2
theorem execApplyAtResume_kept {s₀ : State} {a0} {a1} {a2} (k2 : Kept s₀ a2) : KeptO s₀ (execApplyAtResume a0 a1 a2) := by
  unfold execApplyAtResume
  refine KeptO.next ?_
  refine State.regWrite_kept k2 ?_
  intro v0 h1
  exact State.markResume_kept h1
theorem execApplyCommit_kept {s₀ : State} {a0} (k0 : Kept s₀ a0) : KeptO s₀ (execApplyCommit a0) := by
  unfold execApplyCommit
  refine KeptO.next ?_
  split
  · rename_i m0 m1 m2
    refine Kept.ite ?_ ?_
    · exact k0
    · refine State.beginRecord_kept ?_
      refine State.sections_kept ?_
      exact State.setApply_kept k0
  · rename_i m3 m4
    exact k0
theorem execApplyCommitDone_kept {s₀ : State} {a0} (k0 : Kept s₀ a0) : KeptO s₀ (execApplyCommitDone a0) := by
  unfold execApplyCommitDone
  refine KeptO.next ?_
  split
  · rename_i m0 m1 m2
    refine Kept.ite ?_ ?_
    · exact k0
    · extract_lets +onlyGivenNames x3; clear_value x3
      extract_lets +onlyGivenNames x4; clear_value x4
      extract_lets +onlyGivenNames x5
      have h6 : Kept s₀ x5 := by
        unfold x5
        refine State.commitRecord_kept ?_
        exact State.applyOver_kept k0
      clear_value x5
      extract_lets +onlyGivenNames x7
      have h8 : Kept s₀ x7 := by
        unfold x7
        refine State.wf_kept ?_
        exact State.commitEffects_kept h6
      clear_value x7
      extract_lets +onlyGivenNames x9
      have h10 : Kept s₀ x9 := by
        unfold x9
        refine Kept.ite ?_ ?_
        · exact h8
        · exact State.stdState_kept h8
      clear_value x9
      exact State.imageEvent_kept h10
  · rename_i m11 m12
    exact k0
theorem execApplyComparisonDone_kept {s₀ : State} {a0} (k0 : Kept s₀ a0) : KeptO s₀ (execApplyComparisonDone a0) := by
  unfold execApplyComparisonDone
  refine KeptO.next ?_
  split
  · rename_i m0 m1 m2 m3 m4 m5
    refine Kept.ite ?_ ?_
    · exact k0
    · refine Kept.ite ?_ ?_
      · extract_lets +onlyGivenNames x6
        have h7 : Kept s₀ x6 := by
          unfold x6
          refine State.wf_kept ?_
          exact State.applyOver_kept k0
        clear_value x6
        refine State.imageRefused_kept ?_
        refine Kept.ite ?_ ?_
        · exact h7
        · exact State.stdState_kept h7
      · extract_lets +onlyGivenNames x8; clear_value x8
        extract_lets +onlyGivenNames x9; clear_value x9
        extract_lets +onlyGivenNames x10
        have h11 : Kept s₀ x10 := by unfold x10; exact State.wf_kept k0
        clear_value x10
        refine State.setApply_kept ?_
        exact State.wakeForApply_kept h11
  · rename_i m12 m13 m14
    exact k0
theorem execApplyLive_kept {s₀ : State} {a0} {a1} (k1 : Kept s₀ a1) : KeptO s₀ (execApplyLive a0 a1) := by
  unfold execApplyLive
  refine KeptO.next ?_
  refine State.regWrite_kept k1 ?_
  intro v0 h1
  exact State.applyLive_kept h1
theorem execCompartmentQuiet_kept {s₀ : State} {a0} {a1} (k1 : Kept s₀ a1) : KeptO s₀ (execCompartmentQuiet a0 a1) := by
  unfold execCompartmentQuiet
  refine KeptO.next ?_
  split
  · rename_i m0 m1 m2 m3 m4 m5
    refine Kept.ite ?_ ?_
    · exact k1
    · refine Kept.ite ?_ ?_
      · refine Kept.ite ?_ ?_
        · exact State.switchBack_kept k1
        · exact k1
      · refine Kept.ite ?_ ?_
        · exact k1
        · refine Kept.ite ?_ ?_
          · exact State.failApply_kept k1
          · split
            · rename_i m6 m7 m8
              exact State.failApply_kept k1
            · rename_i m9 m10
              exact State.switchComp_kept k1
  · rename_i m11 m12 m13
    exact k1
theorem execDiscardStaged_kept {s₀ : State} {a0} {a1} (k1 : Kept s₀ a1) : KeptO s₀ (execDiscardStaged a0 a1) := by
  unfold execDiscardStaged
  refine KeptO.next ?_
  refine State.regWrite_kept k1 ?_
  intro v0 h1
  exact State.discardStaged_kept h1
theorem execForcedHoldExpire_kept {s₀ : State} {a0} {a1} (k1 : Kept s₀ a1) : KeptO s₀ (execForcedHoldExpire a0 a1) := by
  unfold execForcedHoldExpire
  refine KeptO.next ?_
  split
  · rename_i m0 m1 m2
    refine Kept.ite ?_ ?_
    · exact State.failApply_kept k1
    · exact k1
  · rename_i m3 m4
    exact k1
theorem execImageChecksDone_kept {s₀ : State} {a0} (k0 : Kept s₀ a0) : KeptO s₀ (execImageChecksDone a0) := by
  unfold execImageChecksDone
  refine KeptO.next ?_
  split
  · rename_i m0 m1
    exact k0
  · rename_i m2 m3 m4 m5
    extract_lets +onlyGivenNames x6; subst x6
    extract_lets +onlyGivenNames x7; subst x7
    extract_lets +onlyGivenNames x8
    have h9 : Kept s₀ x8 := by
      unfold x8
      refine State.wf_kept ?_
      exact k0.congr rfl
    clear_value x8
    extract_lets +onlyGivenNames x10; clear_value x10
    extract_lets +onlyGivenNames x11; clear_value x11
    extract_lets +onlyGivenNames x12
    have h13 : Kept s₀ x12.2 := by unfold x12; exact State.checkStaged_kept h9
    clear_value x12
    extract_lets +onlyGivenNames x14
    have h15 : Kept s₀ x14 := by
      unfold x14
      refine Kept.ite ?_ ?_
      · exact h13
      · refine State.imageEvent_kept ?_
        exact h13
    clear_value x14
    refine Kept.ite ?_ ?_
    · exact State.endBackground_kept h15
    · exact h15
theorem execImageControl_kept {s₀ : State} {a0} {a1} {a2} {a3} (k3 : Kept s₀ a3) : KeptO s₀ (execImageControl a0 a1 a2 a3) := by
  unfold execImageControl
  refine KeptO.next ?_
  refine State.command_kept k3 ?_
  intro v0 h1
  exact State.imageControl_kept h1
theorem execQuietWaitExpire_kept {s₀ : State} {a0} {a1} (k1 : Kept s₀ a1) : KeptO s₀ (execQuietWaitExpire a0 a1) := by
  unfold execQuietWaitExpire
  refine KeptO.next ?_
  split
  · rename_i m0 m1 m2
    refine Kept.ite ?_ ?_
    · exact State.setApply_kept k1
    · exact k1
  · rename_i m3 m4
    exact k1
theorem execReturnPrev_kept {s₀ : State} {a0} {a1} (k1 : Kept s₀ a1) : KeptO s₀ (execReturnPrev a0 a1) := by
  unfold execReturnPrev
  refine KeptO.next ?_
  refine State.regWrite_kept k1 ?_
  intro v0 h1
  exact State.returnPrev_kept h1
theorem execStageImage_kept {s₀ : State} {a0} {a1} {a2} {a3} (k3 : Kept s₀ a3) : KeptO s₀ (execStageImage a0 a1 a2 a3) := by
  unfold execStageImage
  refine KeptO.next ?_
  refine State.command_kept k3 ?_
  intro v0 h1
  refine State.fits_kept h1 ?_
  intro v2 h3
  exact State.stageImage_kept h3
theorem execStandImageResumeCheck_kept {s₀ : State} {a0} (k0 : Kept s₀ a0) : KeptO s₀ (execStandImageResumeCheck a0) := by
  unfold execStandImageResumeCheck
  refine KeptO.next ?_
  refine Kept.ite ?_ ?_
  · exact k0
  · extract_lets +onlyGivenNames x0
    have h1 : Kept s₀ x0 := by unfold x0; exact State.newestRecord_kept k0
    clear_value x0
    extract_lets +onlyGivenNames x2; subst x2
    extract_lets +onlyGivenNames x3
    have h4 : Kept s₀ x3 := by unfold x3; exact h1.congr rfl
    clear_value x3
    refine Kept.ite ?_ ?_
    · exact h4.congr rfl
    · extract_lets +onlyGivenNames x5; clear_value x5
      extract_lets +onlyGivenNames x6
      have h7 : Kept s₀ x6 := by unfold x6; exact State.resumeActive_kept h4
      clear_value x6
      extract_lets +onlyGivenNames x8; clear_value x8
      extract_lets +onlyGivenNames x9
      have h10 : Kept s₀ x9 := by unfold x9; exact State.setMark_kept h7
      clear_value x9
      refine Kept.ite ?_ ?_
      · exact h10
      · refine Kept.ite ?_ ?_
        · exact State.resumeMarked_kept h10
        · exact State.imageRefused_kept h10
theorem execSwitchDeadlineExpire_kept {s₀ : State} {a0} {a1} (k1 : Kept s₀ a1) : KeptO s₀ (execSwitchDeadlineExpire a0 a1) := by
  unfold execSwitchDeadlineExpire
  refine KeptO.next ?_
  split
  · rename_i m0 m1 m2
    refine Kept.ite ?_ ?_
    · exact State.failApply_kept k1
    · exact k1
  · rename_i m3 m4
    exact k1
theorem execVerify_kept {s₀ : State} {a0} {a1} (k1 : Kept s₀ a1) : KeptO s₀ (execVerify a0 a1) := by
  unfold execVerify
  refine KeptO.next ?_
  refine State.regWrite_kept k1 ?_
  intro v0 h1
  exact State.verifyImage_kept h1

end Sys2Proof.Machine
end

