-- ==== Sys2Proof/Laws/KeptPower.lean ====
section
/-! SUPPORT. One lemma per operation: it keeps what Kept says, for the sequencer, service, power, resets, thermal and time commands. -/
set_option linter.unusedVariables false
set_option Elab.async false
set_option linter.unusedSimpArgs false
namespace Sys2Proof.Machine

/-! ## Sequencer -/
theorem State.setRail_kept {s₀ : State} {a0} {a1} {a2} (k0 : Kept s₀ a0) : Kept s₀ (State.setRail a0 a1 a2) := by
  unfold State.setRail
  exact k0.congr rfl
theorem State.enHigh_kept {s₀ : State} {a0} {a1} (k0 : Kept s₀ a0) : Kept s₀ (State.enHigh a0 a1) := by
  unfold State.enHigh
  refine Kept.ite ?_ ?_
  · exact k0
  · extract_lets +onlyGivenNames x0
    have h1 : Kept s₀ x0 := by unfold x0; exact State.setRail_kept k0
    clear_value x0
    refine State.send_kept ?_
    exact h1.congr rfl
theorem State.enLow_kept {s₀ : State} {a0} {a1} (k0 : Kept s₀ a0) : Kept s₀ (State.enLow a0 a1) := by
  unfold State.enLow
  refine Kept.ite ?_ ?_
  · exact k0
  · refine State.send_kept ?_
    exact State.setRail_kept k0
theorem State.stepWait_kept {s₀ : State} {a0} {a1} (k0 : Kept s₀ a0) : Kept s₀ (State.stepWait a0 a1) := by
  unfold State.stepWait
  exact k0.congr rfl
theorem State.powerOffDone_kept {s₀ : State} {a0} (k0 : Kept s₀ a0) : Kept s₀ (State.powerOffDone a0) := by
  unfold State.powerOffDone
  extract_lets +onlyGivenNames x0
  have h1 : Kept s₀ x0 := by
    unfold x0
    refine State.wf_kept ?_
    refine State.stepWait_kept ?_
    exact State.cutRecord_kept k0
  clear_value x0
  exact h1.congr rfl
theorem State.seqsync_kept {s₀ : State} {a0} {a1} (k0 : Kept s₀ a0) : Kept s₀ (State.seqsync a0 a1) := by
  unfold State.seqsync
  refine State.send_kept ?_
  exact State.wf_kept k0
theorem State.powerUpDone_kept {s₀ : State} {a0} (k0 : Kept s₀ a0) : Kept s₀ (State.powerUpDone a0) := by
  unfold State.powerUpDone
  refine State.requestReset_kept ?_
  refine State.seqsync_kept ?_
  refine State.wf_kept ?_
  exact State.stepWait_kept k0
theorem State.stepTo_kept {s₀ : State} {a0} {a1} (k0 : Kept s₀ a0) : Kept s₀ (State.stepTo a0 a1) := by
  unfold State.stepTo
  refine State.stepWait_kept ?_
  exact State.wf_kept k0
theorem State.shedRails_kept {s₀ : State} {a0} (k0 : Kept s₀ a0) : Kept s₀ (State.shedRails a0) := by
  unfold State.shedRails
  refine each_keep (fun r => Kept s₀ r) ?_ ?_
  · exact k0
  · intro v0 v1 h2
    extract_lets +onlyGivenNames x3; subst x3
    refine Kept.ite ?_ ?_
    · exact State.enLow_kept h2
    · exact h2
theorem State.startShutdown_kept {s₀ : State} {a0} (k0 : Kept s₀ a0) : Kept s₀ (State.startShutdown a0) := by
  unfold State.startShutdown
  extract_lets +onlyGivenNames x0; subst x0
  extract_lets +onlyGivenNames x1
  have h2 : Kept s₀ x1 := by unfold x1; exact k0.congr rfl
  clear_value x1
  refine State.seqsync_kept ?_
  refine State.stepTo_kept ?_
  exact State.wf_kept h2
theorem State.seqRetry_kept {s₀ : State} {a0} (k0 : Kept s₀ a0) : Kept s₀ (State.seqRetry a0) := by
  unfold State.seqRetry
  refine Kept.ite ?_ ?_
  · refine State.stepTo_kept ?_
    exact State.wf_kept k0
  · refine State.startShutdown_kept ?_
    refine State.wf_kept ?_
    exact k0.congr rfl
theorem State.rollNext_kept {s₀ : State} {a0} {a1} (k0 : Kept s₀ a0) : Kept s₀ (State.rollNext a0 a1) := by
  induction' a1 with r rest ih generalizing a0
  · unfold State.rollNext
    refine State.seqRetry_kept ?_
    exact k0.congr rfl
  · unfold State.rollNext
    extract_lets +onlyGivenNames x0
    have h1 : Kept s₀ x0 := by unfold x0; exact State.enLow_kept k0
    clear_value x0
    refine Kept.ite ?_ ?_
    · exact State.stepWait_kept h1
    · exact ih h1
theorem State.seqRecheck_kept {s₀ : State} {a0} (k0 : Kept s₀ a0) : Kept s₀ (State.seqRecheck a0) := by
  unfold State.seqRecheck
  split
  · rename_i m0 m1 m2
    refine Kept.ite ?_ ?_
    · exact State.stepTo_kept k0
    · exact k0
  · rename_i m3 m4 m5
    refine Kept.ite ?_ ?_
    · exact State.stepTo_kept k0
    · exact k0
  · rename_i m6 m7 m8 m9
    refine Kept.ite ?_ ?_
    · exact State.stepTo_kept k0
    · exact k0
  · rename_i m10 m11
    refine Kept.ite ?_ ?_
    · exact State.powerUpDone_kept k0
    · exact k0
  · rename_i m12 m13
    refine Kept.ite ?_ ?_
    · exact State.powerOffDone_kept k0
    · exact State.shedRails_kept k0
  · rename_i m14 m15 m16 m17
    refine Kept.ite ?_ ?_
    · exact State.rollNext_kept k0
    · exact k0
  · rename_i m18 m19 m20 m21 m22 m23 m24
    exact k0
theorem State.railUp_kept {s₀ : State} {a0} {a1} (k0 : Kept s₀ a0) : Kept s₀ (State.railUp a0 a1) := by
  unfold State.railUp
  refine State.seqRecheck_kept ?_
  exact State.setRail_kept k0
theorem State.seqFaultNote_kept {s₀ : State} {a0} {a1} {a2} (k0 : Kept s₀ a0) : Kept s₀ (State.seqFaultNote a0 a1 a2) := by
  unfold State.seqFaultNote
  extract_lets +onlyGivenNames x0; clear_value x0
  extract_lets +onlyGivenNames x1
  have h2 : Kept s₀ x1 := by
    unfold x1
    refine State.wf_kept ?_
    refine State.wf_kept ?_
    exact State.wf_kept k0
  clear_value x1
  extract_lets +onlyGivenNames x3
  have h4 : Kept s₀ x3 := by
    unfold x3
    refine State.wf_kept ?_
    exact State.incSat_kept h2
  clear_value x3
  refine State.irqEdge_kept ?_
  exact State.emit_kept h4
theorem State.seqFault_kept {s₀ : State} {a0} {a1} {a2} (k0 : Kept s₀ a0) : Kept s₀ (State.seqFault a0 a1 a2) := by
  unfold State.seqFault
  split
  · rename_i m0 m1 m2
    exact k0
  · rename_i m3 m4 m5
    refine State.rollNext_kept ?_
    refine State.seqsync_kept ?_
    exact State.seqFaultNote_kept k0
  · rename_i m6 m7 m8
    refine State.rollNext_kept ?_
    exact State.seqFaultNote_kept k0
theorem State.startPowerUp_kept {s₀ : State} {a0} (k0 : Kept s₀ a0) : Kept s₀ (State.startPowerUp a0) := by
  unfold State.startPowerUp
  extract_lets +onlyGivenNames x0; subst x0
  extract_lets +onlyGivenNames x1; subst x1
  extract_lets +onlyGivenNames x2
  have h3 : Kept s₀ x2 := by unfold x2; exact k0.congr rfl
  clear_value x2
  refine State.seqsync_kept ?_
  refine State.stepTo_kept ?_
  refine State.wf_kept ?_
  refine State.wf_kept ?_
  exact State.wf_kept h3
theorem execCheckTimeoutExpire_kept {s₀ : State} {a0} (k0 : Kept s₀ a0) : KeptO s₀ (execCheckTimeoutExpire a0) := by
  unfold execCheckTimeoutExpire
  refine KeptO.next ?_
  split
  · rename_i m0 m1 m2 m3
    refine Kept.ite ?_ ?_
    · exact State.seqFault_kept k0
    · refine State.stepTo_kept ?_
      exact State.seqFaultNote_kept k0
  · rename_i m4 m5
    exact k0
theorem execDependencyEnable_kept {s₀ : State} {a0} {a1} (k1 : Kept s₀ a1) : KeptO s₀ (execDependencyEnable a0 a1) := by
  unfold execDependencyEnable
  refine KeptO.next ?_
  refine Kept.ite ?_ ?_
  · exact State.enHigh_kept k1
  · exact k1
theorem execDischargeTimeout_kept {s₀ : State} {a0} {a1} (k1 : Kept s₀ a1) : KeptO s₀ (execDischargeTimeout a0 a1) := by
  unfold execDischargeTimeout
  refine KeptO.next ?_
  refine Kept.ite ?_ ?_
  · refine State.seqRecheck_kept ?_
    refine State.setRail_kept ?_
    refine Kept.ite ?_ ?_
    · exact k1
    · exact State.seqFaultNote_kept k1
  · exact k1
theorem execPgChatter_kept {s₀ : State} {a0} {a1} (k1 : Kept s₀ a1) : KeptO s₀ (execPgChatter a0 a1) := by
  unfold execPgChatter
  refine KeptO.next ?_
  refine Kept.ite ?_ ?_
  · exact State.seqFault_kept k1
  · exact k1
theorem execRailOnDone_kept {s₀ : State} {a0} {a1} (k1 : Kept s₀ a1) : KeptO s₀ (execRailOnDone a0 a1) := by
  unfold execRailOnDone
  refine KeptO.next ?_
  refine Kept.ite ?_ ?_
  · exact State.railUp_kept k1
  · exact k1
theorem execSeqFaultClear_kept {s₀ : State} {a0} {a1} (k1 : Kept s₀ a1) : KeptO s₀ (execSeqFaultClear a0 a1) := by
  unfold execSeqFaultClear
  refine KeptO.next ?_
  refine State.regWrite_kept k1 ?_
  intro v0 h1
  refine State.wf_kept ?_
  exact State.wf_kept h1
theorem execSeqVinClear_kept {s₀ : State} {a0} {a1} (k1 : Kept s₀ a1) : KeptO s₀ (execSeqVinClear a0 a1) := by
  unfold execSeqVinClear
  refine KeptO.next ?_
  refine State.regWrite_kept k1 ?_
  intro v0 h1
  exact State.wf_kept h1
theorem execSeqsyncHigh_kept {s₀ : State} {a0} (k0 : Kept s₀ a0) : KeptO s₀ (execSeqsyncHigh a0) := by
  unfold execSeqsyncHigh
  refine KeptO.next ?_
  split
  · rename_i m0 m1 m2
    refine State.seqsync_kept ?_
    refine State.stepTo_kept ?_
    exact State.wf_kept k0
  · rename_i m3 m4
    exact k0
theorem execStepCheck_kept {s₀ : State} {a0} (k0 : Kept s₀ a0) : KeptO s₀ (execStepCheck a0) := by
  unfold execStepCheck
  refine KeptO.next ?_
  split
  · rename_i m0 m1 m2
    refine Kept.ite ?_ ?_
    · refine State.seqRecheck_kept ?_
      exact State.stepWait_kept k0
    · exact k0
  · rename_i m3 m4
    exact k0
theorem execStepDisable_kept {s₀ : State} {a0} (k0 : Kept s₀ a0) : KeptO s₀ (execStepDisable a0) := by
  unfold execStepDisable
  refine KeptO.next ?_
  split
  · rename_i m0 m1 m2
    refine Kept.ite ?_ ?_
    · refine State.seqRecheck_kept ?_
      refine State.stepWait_kept ?_
      exact State.enLow_kept k0
    · exact k0
  · rename_i m3 m4
    exact k0
theorem execStepEnable_kept {s₀ : State} {a0} (k0 : Kept s₀ a0) : KeptO s₀ (execStepEnable a0) := by
  unfold execStepEnable
  refine KeptO.next ?_
  split
  · rename_i m0 m1 m2
    refine Kept.ite ?_ ?_
    · refine State.seqRecheck_kept ?_
      refine State.stepWait_kept ?_
      exact State.enHigh_kept k0
    · exact k0
  · rename_i m3 m4
    exact k0
theorem execStepEnd_kept {s₀ : State} {a0} (k0 : Kept s₀ a0) : KeptO s₀ (execStepEnd a0) := by
  unfold execStepEnd
  refine KeptO.next ?_
  split
  · rename_i m0 m1 m2
    refine Kept.ite ?_ ?_
    · refine Kept.ite ?_ ?_
      · refine State.seqRecheck_kept ?_
        exact State.stepWait_kept k0
      · refine State.seqRecheck_kept ?_
        refine State.seqsync_kept ?_
        exact State.stepWait_kept k0
    · exact k0
  · rename_i m3 m4
    exact k0
theorem execStepJump_kept {s₀ : State} {a0} (k0 : Kept s₀ a0) : KeptO s₀ (execStepJump a0) := by
  unfold execStepJump
  refine KeptO.next ?_
  split
  · rename_i m0 m1 m2
    refine Kept.ite ?_ ?_
    · extract_lets +onlyGivenNames x3; clear_value x3
      extract_lets +onlyGivenNames x4; clear_value x4
      refine Kept.ite ?_ ?_
      · exact State.stepTo_kept k0
      · exact State.stepTo_kept k0
    · exact k0
  · rename_i m5 m6
    exact k0
theorem execStepSafe_kept {s₀ : State} {a0} (k0 : Kept s₀ a0) : KeptO s₀ (execStepSafe a0) := by
  unfold execStepSafe
  refine KeptO.next ?_
  split
  · rename_i m0 m1 m2
    refine Kept.ite ?_ ?_
    · extract_lets +onlyGivenNames x3; subst x3
      extract_lets +onlyGivenNames x4
      have h5 : Kept s₀ x4 := by unfold x4; exact k0.congr rfl
      clear_value x4
      refine State.stepTo_kept ?_
      exact State.wf_kept h5
    · exact k0
  · rename_i m6 m7
    exact k0
theorem execStepSync_kept {s₀ : State} {a0} (k0 : Kept s₀ a0) : KeptO s₀ (execStepSync a0) := by
  unfold execStepSync
  refine KeptO.next ?_
  split
  · rename_i m0 m1 m2
    refine Kept.ite ?_ ?_
    · refine State.seqsync_kept ?_
      exact State.stepWait_kept k0
    · exact k0
  · rename_i m3 m4
    exact k0
theorem execStepWait_kept {s₀ : State} {a0} (k0 : Kept s₀ a0) : KeptO s₀ (execStepWait a0) := by
  unfold execStepWait
  refine KeptO.next ?_
  split
  · rename_i m0 m1 m2
    refine Kept.ite ?_ ?_
    · exact State.stepWait_kept k0
    · exact k0
  · rename_i m3 m4
    exact k0
theorem execStepWaitExpire_kept {s₀ : State} {a0} (k0 : Kept s₀ a0) : KeptO s₀ (execStepWaitExpire a0) := by
  unfold execStepWaitExpire
  refine KeptO.next ?_
  refine Kept.ite ?_ ?_
  · exact State.stepTo_kept k0
  · exact k0
theorem execSyncTimeoutExpire_kept {s₀ : State} {a0} (k0 : Kept s₀ a0) : KeptO s₀ (execSyncTimeoutExpire a0) := by
  unfold execSyncTimeoutExpire
  refine KeptO.next ?_
  split
  · rename_i m0 m1 m2
    refine Kept.ite ?_ ?_
    · exact State.seqFault_kept k0
    · refine State.stepTo_kept ?_
      refine State.seqsync_kept ?_
      exact State.seqFaultNote_kept k0
  · rename_i m3 m4
    exact k0

/-! ## Service -/
theorem State.answerFault_kept {s₀ : State} {a0} (k0 : Kept s₀ a0) : Kept s₀ (State.answerFault a0) := by
  unfold State.answerFault
  refine State.run_kept ?_
  exact k0.congr rfl
theorem State.drainEntry_kept {s₀ : State} {a0} {a1} {a2} {a3} {a4} (k0 : Kept s₀ a0) : Kept s₀ (State.drainEntry a0 a1 a2 a3 a4) := by
  unfold State.drainEntry
  refine Kept.ite ?_ ?_
  · refine State.report_kept ?_
    exact State.catchPut_kept k0
  · exact State.catchPut_kept k0
theorem State.drainLeaf_kept {s₀ : State} {a0} {a1} {a2} (k0 : Kept s₀ a0) : Kept s₀ (State.drainLeaf a0 a1 a2) := by
  unfold State.drainLeaf
  split
  · rename_i m0 m1
    exact k0
  · rename_i m2 m3 m4
    split
    · rename_i m5 m6
      exact k0
    · rename_i m7 m8 m9
      extract_lets +onlyGivenNames x10
      have h11 : Kept s₀ x10 := by unfold x10; exact State.loadPath_kept k0
      clear_value x10
      extract_lets +onlyGivenNames x12
      have h13 : Kept s₀ x12.1 := by unfold x12; exact State.logSpot_kept h11
      clear_value x12
      split
      · rename_i m14 m15 m16
        refine State.destageAt_kept ?_
        exact h13
      · rename_i m17 m18
        exact h13
theorem State.dropReclaimed_kept {s₀ : State} {a0} (k0 : Kept s₀ a0) : Kept s₀ (State.dropReclaimed a0) := by
  unfold State.dropReclaimed
  exact k0.congr rfl
theorem State.setTileState_kept {s₀ : State} {a0} {a1} {a2} (k0 : Kept s₀ a0) : Kept s₀ (State.setTileState a0 a1 a2) := by
  unfold State.setTileState
  extract_lets +onlyGivenNames x0; clear_value x0
  refine State.raise_kept ?_
  exact State.wf_kept k0
theorem State.holdServed_kept {s₀ : State} {a0} {a1} (k0 : Kept s₀ a0) : Kept s₀ (State.holdServed a0 a1) := by
  unfold State.holdServed
  extract_lets +onlyGivenNames x0
  have h1 : Kept s₀ x0 := by
    unfold x0
    refine each_keep (fun r => Kept s₀ r) ?_ ?_
    · exact k0
    · intro v2 v3 h4
      exact State.dropOp_kept h4
  clear_value x0
  exact h1.congr rfl
theorem State.reclaim_kept {s₀ : State} {a0} {a1} (k0 : Kept s₀ a0) : Kept s₀ (State.reclaim a0 a1) := by
  unfold State.reclaim
  extract_lets +onlyGivenNames x0; clear_value x0
  refine State.countHub_kept ?_
  exact k0.congr rfl
theorem State.stopEngines_kept {s₀ : State} {a0} {a1} (k0 : Kept s₀ a0) : Kept s₀ (State.stopEngines a0 a1) := by
  unfold State.stopEngines
  extract_lets +onlyGivenNames x0
  have h1 : Kept s₀ x0 := by
    unfold x0
    refine each_keep (fun r => Kept s₀ r) ?_ ?_
    · exact k0
    · intro v2 v3 h4
      exact State.copyBack_kept h4
  clear_value x0
  extract_lets +onlyGivenNames x5
  have h6 : Kept s₀ x5 := by unfold x5; exact State.closeChecker_kept h1
  clear_value x5
  extract_lets +onlyGivenNames x7; clear_value x7
  exact h6.congr rfl
theorem State.resetChan_kept {s₀ : State} {a0} {a1} (k0 : Kept s₀ a0) : Kept s₀ (State.resetChan a0 a1) := by
  unfold State.resetChan
  extract_lets +onlyGivenNames x0; clear_value x0
  extract_lets +onlyGivenNames x1
  have h2 : Kept s₀ x1 := by unfold x1; exact State.modChan_kept k0
  clear_value x1
  refine each_keep (fun r => Kept s₀ r) ?_ ?_
  · exact h2
  · intro v3 v4 h5
    exact State.lostOnTile_kept h5
theorem State.resetWindow_kept {s₀ : State} {a0} {a1} (k0 : Kept s₀ a0) : Kept s₀ (State.resetWindow a0 a1) := by
  unfold State.resetWindow
  extract_lets +onlyGivenNames x0
  have h1 : Kept s₀ x0 := by
    unfold x0
    refine each_keep (fun r => Kept s₀ r) ?_ ?_
    · exact k0
    · intro v2 v3 h4
      exact State.resetChan_kept h4
  clear_value x0
  extract_lets +onlyGivenNames x5
  have h6 : Kept s₀ x5 := by
    unfold x5
    refine State.loadShares_kept ?_
    exact State.resetRegs_kept h1
  clear_value x5
  refine each_keep (fun r => Kept s₀ r) ?_ ?_
  · exact h6
  · intro v7 v8 h9
    extract_lets +onlyGivenNames x10; clear_value x10
    extract_lets +onlyGivenNames x11
    have h12 : Kept s₀ x11 := by unfold x11; exact State.wf_kept h9
    clear_value x11
    refine Kept.ite ?_ ?_
    · exact State.wf_kept h12
    · exact h12
theorem State.resetTile_kept {s₀ : State} {a0} {a1} (k0 : Kept s₀ a0) : Kept s₀ (State.resetTile a0 a1) := by
  unfold State.resetTile
  extract_lets +onlyGivenNames x0; clear_value x0
  extract_lets +onlyGivenNames x1
  have h2 : Kept s₀ x1 := by
    unfold x1
    refine State.holdServed_kept ?_
    refine State.reclaim_kept ?_
    exact State.stopEngines_kept k0
  clear_value x1
  refine each_keep (fun r => Kept s₀ r) ?_ ?_
  · refine State.dropReclaimed_kept ?_
    refine State.resetWindow_kept ?_
    exact State.modTile_kept h2
  · intro v3 v4 h5
    exact State.appendAgain_kept h5
theorem State.failReturn_kept {s₀ : State} {a0} {a1} (k0 : Kept s₀ a0) : Kept s₀ (State.failReturn a0 a1) := by
  unfold State.failReturn
  refine State.setTileState_kept ?_
  refine State.wf_kept ?_
  refine State.wf_kept ?_
  exact State.resetTile_kept k0
theorem State.isolate_kept {s₀ : State} {a0} {a1} {a2} (k0 : Kept s₀ a0) : Kept s₀ (State.isolate a0 a1 a2) := by
  unfold State.isolate
  extract_lets +onlyGivenNames x0; clear_value x0
  extract_lets +onlyGivenNames x1; clear_value x1
  extract_lets +onlyGivenNames x2
  have h3 : Kept s₀ x2 := by
    unfold x2
    refine State.wf_kept ?_
    exact State.wf_kept k0
  clear_value x2
  extract_lets +onlyGivenNames x4
  have h5 : Kept s₀ x4 := by
    unfold x4
    refine State.wf_kept ?_
    exact State.incSat_kept h3
  clear_value x4
  extract_lets +onlyGivenNames x6
  have h7 : Kept s₀ x6 := by
    unfold x6
    refine State.failApply_kept ?_
    exact State.setTileState_kept h5
  clear_value x6
  extract_lets +onlyGivenNames x8
  have h9 : Kept s₀ x8 := by
    unfold x8
    refine State.resetTile_kept ?_
    exact State.trialFault_kept h7
  clear_value x8
  refine Kept.ite ?_ ?_
  · refine State.answerFault_kept ?_
    refine State.raise_kept ?_
    exact h9.congr rfl
  · refine Kept.ite ?_ ?_
    · exact State.answerFault_kept h9
    · exact State.run_kept h9
theorem State.isolateWrite_kept {s₀ : State} {a0} {a1} (k0 : Kept s₀ a0) : Kept s₀ (State.isolateWrite a0 a1).2 := by
  unfold State.isolateWrite
  split
  · refine Kept.snd ?_
    exact State.isolate_kept k0
  · refine Kept.snd ?_
    exact k0
theorem State.nurseWrite_kept {s₀ : State} {a0} {a1} {a2} (k0 : Kept s₀ a0) : Kept s₀ (State.nurseWrite a0 a1 a2).2 := by
  unfold State.nurseWrite
  split
  · refine Kept.snd ?_
    exact State.wf_kept k0
  · refine Kept.snd ?_
    exact k0
theorem State.renewFound_kept {s₀ : State} {a0} {a1} {a2} {a3} (k0 : Kept s₀ a0) : Kept s₀ (State.renewFound a0 a1 a2 a3) := by
  unfold State.renewFound
  split
  · rename_i m0 m1 m2
    extract_lets +onlyGivenNames x3; clear_value x3
    refine Kept.ite ?_ ?_
    · exact k0
    · extract_lets +onlyGivenNames x4; clear_value x4
      refine State.renewMember_kept ?_
      exact State.report_kept k0
  · rename_i m5 m6
    exact k0
theorem State.rebuiltLine_kept {s₀ : State} {a0} {a1} {a2} {a3} (k0 : Kept s₀ a0) : Kept s₀ (State.rebuiltLine a0 a1 a2 a3).2 := by
  unfold State.rebuiltLine
  extract_lets +onlyGivenNames x0; clear_value x0
  extract_lets +onlyGivenNames x1
  have h2 : Kept s₀ x1 := by unfold x1; exact State.chargeRead_kept k0
  clear_value x1
  extract_lets +onlyGivenNames x3
  have h4 : Kept s₀ x3 := by
    unfold x3
    refine each_keep (fun r => Kept s₀ r) ?_ ?_
    · exact h2
    · intro v5 v6 h7
      exact State.renewFound_kept h7
  clear_value x3
  split
  · rename_i m8 m9
    refine Kept.snd ?_
    exact h4
  · rename_i m10
    extract_lets +onlyGivenNames x11; clear_value x11
    extract_lets +onlyGivenNames x12; clear_value x12
    extract_lets +onlyGivenNames x13; clear_value x13
    refine Kept.snd ?_
    exact State.report_kept h4
theorem State.rebuildStripe_kept {s₀ : State} {a0} {a1} {a2} (k0 : Kept s₀ a0) : Kept s₀ (State.rebuildStripe a0 a1 a2) := by
  unfold State.rebuildStripe
  refine each_keep (fun r => Kept s₀ r) ?_ ?_
  · exact k0
  · intro v0 v1 h2
    extract_lets +onlyGivenNames x3; clear_value x3
    refine Kept.ite ?_ ?_
    · extract_lets +onlyGivenNames x4; clear_value x4
      extract_lets +onlyGivenNames x5; clear_value x5
      extract_lets +onlyGivenNames x6
      have h7 : Kept s₀ x6 := by
        unfold x6
        refine each_keep (fun r => Kept s₀ r) ?_ ?_
        · exact h2
        · intro v8 v9 h10
          extract_lets +onlyGivenNames x11
          have h12 : Kept s₀ x11.2 := by unfold x11; exact State.rebuiltLine_kept h10
          clear_value x11
          refine State.submit_kept ?_
          exact h12
      clear_value x6
      exact State.submit_kept h7
    · extract_lets +onlyGivenNames x13
      have h14 : Kept s₀ x13.2 := by unfold x13; exact State.rebuiltLine_kept h2
      clear_value x13
      refine State.submit_kept ?_
      exact h14
theorem State.startReturn_kept {s₀ : State} {a0} {a1} (k0 : Kept s₀ a0) : Kept s₀ (State.startReturn a0 a1) := by
  unfold State.startReturn
  extract_lets +onlyGivenNames x0
  have h1 : Kept s₀ x0 := by
    unfold x0
    refine Kept.ite ?_ ?_
    · exact k0
    · exact State.enHigh_kept k0
  clear_value x0
  refine State.setTileState_kept ?_
  refine State.trainTile_kept ?_
  refine State.modTile_kept ?_
  exact State.wf_kept h1
theorem State.restoreWrite_kept {s₀ : State} {a0} {a1} (k0 : Kept s₀ a0) : Kept s₀ (State.restoreWrite a0 a1).2 := by
  unfold State.restoreWrite
  split
  · refine Kept.snd ?_
    exact State.startReturn_kept k0
  · refine Kept.snd ?_
    exact k0
theorem State.showRebuild_kept {s₀ : State} {a0} {a1} (k0 : Kept s₀ a0) : Kept s₀ (State.showRebuild a0 a1) := by
  unfold State.showRebuild
  extract_lets +onlyGivenNames x0; clear_value x0
  extract_lets +onlyGivenNames x1; clear_value x1
  extract_lets +onlyGivenNames x2
  have h3 : Kept s₀ x2 := by
    unfold x2
    refine Kept.ite ?_ ?_
    · exact State.wf_kept k0
    · exact k0
  clear_value x2
  exact State.wf_kept h3
theorem State.tileFails_kept {s₀ : State} {a0} {a1} {a2} (k0 : Kept s₀ a0) : Kept s₀ (State.tileFails a0 a1 a2) := by
  unfold State.tileFails
  refine Kept.ite ?_ ?_
  · exact State.isolate_kept k0
  · refine Kept.ite ?_ ?_
    · exact State.failReturn_kept k0
    · exact k0
theorem State.tileReset_kept {s₀ : State} {a0} {a1} {a2} {a3} (k0 : Kept s₀ a0) : Kept s₀ (State.tileReset a0 a1 a2 a3) := by
  unfold State.tileReset
  refine Kept.ite ?_ ?_
  · refine State.tileFails_kept ?_
    refine State.noteReset_kept ?_
    exact State.resetEvent_kept k0
  · exact State.tileFails_kept k0
theorem State.tileService_kept {s₀ : State} {a0} {a1} (k0 : Kept s₀ a0) : Kept s₀ (State.tileService a0 a1).state := by
  unfold State.tileService
  extract_lets +onlyGivenNames x0; clear_value x0
  extract_lets +onlyGivenNames x1; clear_value x1
  extract_lets +onlyGivenNames x2; clear_value x2
  extract_lets +onlyGivenNames x3
  have h4 : ∀ y0, Kept s₀ y0.2 → Kept s₀ (x3 y0).state := by
    unfold x3
    intro v5 h6
    refine Kept.answer ?_
    exact h6
  clear_value x3
  split
  · refine Kept.answer ?_
    exact k0
  · split
    · refine Kept.answer ?_
      exact k0
    · split
      · rename_i m7 m8
        refine h4 _ ?_
        refine Kept.snd ?_
        exact k0
      · rename_i m9 m10
        refine h4 _ ?_
        exact State.isolateWrite_kept k0
      · rename_i m11 m12
        refine h4 _ ?_
        exact State.restoreWrite_kept k0
      · rename_i m13 m14
        refine h4 _ ?_
        exact State.nurseWrite_kept k0
      · rename_i m15 m16 m17 m18 m19
        refine h4 _ ?_
        refine Kept.snd ?_
        exact State.wf_kept k0
theorem execCatchEscrowDrainDone_kept {s₀ : State} {a0} {a1} {a2} (k2 : Kept s₀ a2) : KeptO s₀ (execCatchEscrowDrainDone a0 a1 a2) := by
  unfold execCatchEscrowDrainDone
  refine KeptO.next ?_
  refine Kept.ite ?_ ?_
  · exact k2
  · split
    · rename_i m0 m1
      exact State.wf_kept k2
    · rename_i m2 m3 m4
      extract_lets +onlyGivenNames x5; clear_value x5
      extract_lets +onlyGivenNames x6; clear_value x6
      extract_lets +onlyGivenNames x7
      have h8 : Kept s₀ x7 := by unfold x7; exact State.modTile_kept k2
      clear_value x7
      extract_lets +onlyGivenNames x9
      have h10 : Kept s₀ x9 := by
        unfold x9
        refine each_keep (fun r => Kept s₀ r) ?_ ?_
        · exact h8
        · intro v11 v12 h13
          exact State.drainEntry_kept h13
      clear_value x9
      extract_lets +onlyGivenNames x14
      have h15 : Kept s₀ x14 := by
        unfold x14
        refine each_keep (fun r => Kept s₀ r) ?_ ?_
        · exact h10
        · intro v16 v17 h18
          exact State.structWrite_kept h18
      clear_value x14
      extract_lets +onlyGivenNames x19
      have h20 : Kept s₀ x19 := by
        unfold x19
        refine Kept.ite ?_ ?_
        · exact h15
        · refine each_keep (fun r => Kept s₀ r) ?_ ?_
          · exact h15
          · intro v21 v22 h23
            exact State.drainLeaf_kept h23
      clear_value x19
      exact State.wf_kept h20
theorem execHelperComplete_kept {s₀ : State} {a0} {a1} {a2} {a3} (k3 : Kept s₀ a3) : KeptO s₀ (execHelperComplete a0 a1 a2 a3) := by
  unfold execHelperComplete
  refine KeptO.next ?_
  split
  · rename_i m0 m1 m2
    refine State.irqEdge_kept ?_
    exact State.emit_kept k3
  · rename_i m3 m4
    exact k3
theorem execHomeMoveBack_kept {s₀ : State} {a0} {a1} (k1 : Kept s₀ a1) : KeptO s₀ (execHomeMoveBack a0 a1) := by
  unfold execHomeMoveBack
  refine KeptO.next ?_
  extract_lets +onlyGivenNames x0; clear_value x0
  refine Kept.ite ?_ ?_
  · exact k1
  · refine Kept.ite ?_ ?_
    · exact State.modTile_kept k1
    · extract_lets +onlyGivenNames x1
      have h2 : Kept s₀ x1 := by unfold x1; exact State.holdServed_kept k1
      clear_value x1
      extract_lets +onlyGivenNames x3; clear_value x3
      extract_lets +onlyGivenNames x4
      have h5 : Kept s₀ x4 := by unfold x4; exact State.modTile_kept h2
      clear_value x4
      extract_lets +onlyGivenNames x6
      have h7 : Kept s₀ x6 := by
        unfold x6
        refine State.setTileState_kept ?_
        exact State.wf_kept h5
      clear_value x6
      extract_lets +onlyGivenNames x8
      have h9 : Kept s₀ x8 := by unfold x8; exact State.wf_kept h7
      clear_value x8
      refine State.releaseHeld_kept ?_
      exact State.retireNext_kept h9
theorem execIsolate_kept {s₀ : State} {a0} {a1} {a2} (k2 : Kept s₀ a2) : KeptO s₀ (execIsolate a0 a1 a2) := by
  unfold execIsolate
  refine KeptO.next ?_
  refine Kept.ite ?_ ?_
  · exact k2
  · refine State.regWrite_kept k2 ?_
    intro v0 h1
    exact State.isolateWrite_kept h1
theorem execIsolationReissue_kept {s₀ : State} {a0} {a1} (k1 : Kept s₀ a1) : KeptO s₀ (execIsolationReissue a0 a1) := by
  unfold execIsolationReissue
  refine KeptO.next ?_
  refine Kept.ite ?_ ?_
  · exact k1
  · extract_lets +onlyGivenNames x0
    have h1 : Kept s₀ x0 := by
      unfold x0
      refine State.setTileState_kept ?_
      exact State.wf_kept k1
    clear_value x0
    extract_lets +onlyGivenNames x2
    have h3 : Kept s₀ x2 := by unfold x2; exact State.releaseHeld_kept h1
    clear_value x2
    refine Kept.ite ?_ ?_
    · exact State.startReturn_kept h3
    · exact h3
theorem execRebuildStripe_kept {s₀ : State} {a0} {a1} (k1 : Kept s₀ a1) : KeptO s₀ (execRebuildStripe a0 a1) := by
  unfold execRebuildStripe
  refine KeptO.next ?_
  refine State.onAwake_kept k1 ?_
  intro v0 h1
  refine Kept.ite ?_ ?_
  · exact h1
  · split
    · rename_i m2 m3
      refine Kept.ite ?_ ?_
      · exact State.showRebuild_kept h1
      · exact h1
    · rename_i m4 m5 m6 m7
      extract_lets +onlyGivenNames x8; clear_value x8
      extract_lets +onlyGivenNames x9
      have h10 : Kept s₀ x9 := by unfold x9; exact State.rebuildStripe_kept h1
      clear_value x9
      extract_lets +onlyGivenNames x11
      have h12 : Kept s₀ x11 := by unfold x11; exact h10.of (tiles := by simp)
      clear_value x11
      refine State.showRebuild_kept ?_
      exact State.countTile_kept h12
theorem execRestore_kept {s₀ : State} {a0} {a1} {a2} (k2 : Kept s₀ a2) : KeptO s₀ (execRestore a0 a1 a2) := by
  unfold execRestore
  refine KeptO.next ?_
  refine Kept.ite ?_ ?_
  · exact k2
  · refine State.regWrite_kept k2 ?_
    intro v0 h1
    exact State.restoreWrite_kept h1
theorem execRestoreVerifyDone_kept {s₀ : State} {a0} {a1} {a2} (k2 : Kept s₀ a2) : KeptO s₀ (execRestoreVerifyDone a0 a1 a2) := by
  unfold execRestoreVerifyDone
  refine KeptO.next ?_
  refine Kept.ite ?_ ?_
  · exact k2
  · refine Kept.ite ?_ ?_
    · exact State.failReturn_kept k2
    · extract_lets +onlyGivenNames x0; clear_value x0
      extract_lets +onlyGivenNames x1
      have h2 : Kept s₀ x1 := by unfold x1; exact State.modTile_kept k2
      clear_value x1
      extract_lets +onlyGivenNames x3; subst x3
      extract_lets +onlyGivenNames x4
      have h5 : Kept s₀ x4 := by unfold x4; exact h2.congr rfl
      clear_value x4
      refine State.showRebuild_kept ?_
      exact State.setTileState_kept h5
theorem execStewardLockup_kept {s₀ : State} {a0} {a1} (k1 : Kept s₀ a1) : KeptO s₀ (execStewardLockup a0 a1) := by
  unfold execStewardLockup
  refine KeptO.next ?_
  refine Kept.ite ?_ ?_
  · exact k1
  · refine State.tileReset_kept ?_
    refine State.watchdogEvent_kept ?_
    exact State.irqEdge_kept k1
theorem execTileFabricLinkFail_kept {s₀ : State} {a0} {a1} (k1 : Kept s₀ a1) : KeptO s₀ (execTileFabricLinkFail a0 a1) := by
  unfold execTileFabricLinkFail
  refine KeptO.next ?_
  refine Kept.ite ?_ ?_
  · exact k1
  · exact State.tileFails_kept k1
theorem execTileInternalError_kept {s₀ : State} {a0} {a1} (k1 : Kept s₀ a1) : KeptO s₀ (execTileInternalError a0 a1) := by
  unfold execTileInternalError
  refine KeptO.next ?_
  refine Kept.ite ?_ ?_
  · exact k1
  · exact State.tileFails_kept k1
theorem execTileService_kept {s₀ : State} {a0} {a1} {a2} {a3} (k3 : Kept s₀ a3) : KeptO s₀ (execTileService a0 a1 a2 a3) := by
  unfold execTileService
  refine KeptO.next ?_
  refine State.command_kept k3 ?_
  intro v0 h1
  exact State.tileService_kept h1
theorem execTileWatchdogExpire_kept {s₀ : State} {a0} {a1} (k1 : Kept s₀ a1) : KeptO s₀ (execTileWatchdogExpire a0 a1) := by
  unfold execTileWatchdogExpire
  refine KeptO.next ?_
  refine Kept.ite ?_ ?_
  · exact k1
  · refine State.tileReset_kept ?_
    refine State.watchdogEvent_kept ?_
    exact State.irqEdge_kept k1

/-! ## Power -/
theorem State.abortDies_kept {s₀ : State} {a0} {a1} (k0 : Kept s₀ a0) : Kept s₀ (State.abortDies a0 a1) := by
  unfold State.abortDies
  refine each_keep (fun r => Kept s₀ r) ?_ ?_
  · exact k0
  · intro v0 v1 h2
    exact State.send_kept h2
theorem State.tryPowerUp_kept {s₀ : State} {a0} (k0 : Kept s₀ a0) : Kept s₀ (State.tryPowerUp a0) := by
  unfold State.tryPowerUp
  refine Kept.ite ?_ ?_
  · split
    · rename_i m0 m1
      refine Kept.ite ?_ ?_
      · exact State.startPowerUp_kept k0
      · exact k0
    · rename_i m2 m3
      exact State.startPowerUp_kept k0
    · rename_i m4 m5 m6
      exact k0
  · exact k0
theorem State.askPowerUp_kept {s₀ : State} {a0} (k0 : Kept s₀ a0) : Kept s₀ (State.askPowerUp a0) := by
  unfold State.askPowerUp
  extract_lets +onlyGivenNames x0; clear_value x0
  refine State.tryPowerUp_kept ?_
  exact k0.congr rfl
theorem State.brace_kept {s₀ : State} {a0} {a1} (k0 : Kept s₀ a0) : Kept s₀ (State.brace a0 a1) := by
  unfold State.brace
  extract_lets +onlyGivenNames x0
  have h1 : Kept s₀ x0 := by unfold x0; exact State.wf_kept k0
  clear_value x0
  refine each_keep (fun r => Kept s₀ r) ?_ ?_
  · exact h1
  · intro v2 v3 h4
    refine State.refreshEligible_kept ?_
    exact State.wf_kept h4
theorem State.braceEvent_kept {s₀ : State} {a0} {a1} {a2} {a3} (k0 : Kept s₀ a0) : Kept s₀ (State.braceEvent a0 a1 a2 a3) := by
  unfold State.braceEvent
  exact State.emit_kept k0
theorem State.commitLog_kept {s₀ : State} {a0} (k0 : Kept s₀ a0) : Kept s₀ (State.commitLog a0) := by
  unfold State.commitLog
  refine Kept.ite k0 ?_
  extract_lets +onlyGivenNames room
  refine k0.of (buffer := fun hb => ?_)
  simp only [List.length_append, List.length_take, room]
  omega
theorem State.drainCatches_kept {s₀ : State} {a0} (k0 : Kept s₀ a0) : Kept s₀ (State.drainCatches a0) := by
  unfold State.drainCatches
  refine each_keep (fun r => Kept s₀ r) k0 (fun s t h => ?_)
  split
  · rename_i s' e
    exact execCatchEscrowDrainDone_kept h _ e
  · exact h
theorem State.endWork_kept {s₀ : State} {a0} (k0 : Kept s₀ a0) : Kept s₀ (State.endWork a0) := by
  unfold State.endWork
  extract_lets +onlyGivenNames x0
  have h1 : Kept s₀ x0 := by
    unfold x0
    refine each_keep (fun r => Kept s₀ r) ?_ ?_
    · exact State.undoApply_kept k0
    · intro v2 v3 h4
      exact State.closeChecker_kept h4
  clear_value x0
  refine each_keep (fun r => Kept s₀ r) ?_ ?_
  · exact h1.congr rfl
  · intro v5 v6 h7
    exact State.dropOp_kept h7
theorem State.stopPrograms_kept {s₀ : State} {a0} (k0 : Kept s₀ a0) : Kept s₀ (State.stopPrograms a0) := by
  unfold State.stopPrograms
  extract_lets +onlyGivenNames x0
  have h1 : Kept s₀ x0 := by
    unfold x0
    refine each_keep (fun r => Kept s₀ r) ?_ ?_
    · exact k0
    · intro v2 v3 h4
      exact State.abortDies_kept h4
  clear_value x0
  extract_lets +onlyGivenNames x5
  have h6 : Kept s₀ x5 := by
    unfold x5
    refine each_keep (fun r => Kept s₀ r) ?_ ?_
    · exact h1
    · intro v7 v8 h9
      refine each_keep (fun r => Kept s₀ r) ?_ ?_
      · exact h9
      · intro v10 v11 h12
        exact State.copyBack_kept h12
  clear_value x5
  extract_lets +onlyGivenNames x13
  have h14 : Kept s₀ x13 := by unfold x13; exact h6.of (tiles := by simp)
  clear_value x13
  exact h14.congr rfl
theorem State.layMember_kept {s₀ : State} {a0} {a1} {a2} {a3} (k0 : Kept s₀ a0) : Kept s₀ (State.layMember a0 a1 a2 a3) := by
  unfold State.layMember
  refine Kept.ite ?_ ?_
  · extract_lets +onlyGivenNames x0; clear_value x0
    extract_lets +onlyGivenNames x1; clear_value x1
    exact State.setPkg_kept k0
  · exact k0
theorem State.layLines_kept {s₀ : State} {a0} {a1} {a2} (k0 : Kept s₀ a0) : Kept s₀ (State.layLines a0 a1 a2) := by
  unfold State.layLines
  refine Kept.ite ?_ ?_
  · exact k0
  · refine each_keep (fun r => Kept s₀ r) ?_ ?_
    · exact k0
    · intro v0 v1 h2
      extract_lets +onlyGivenNames x3; clear_value x3
      extract_lets +onlyGivenNames x4; clear_value x4
      extract_lets +onlyGivenNames x5; clear_value x5
      refine each_keep (fun r => Kept s₀ r) ?_ ?_
      · exact h2
      · intro v6 v7 h8
        exact State.layMember_kept h8
theorem State.layBay_kept {s₀ : State} {a0} (k0 : Kept s₀ a0) : Kept s₀ (State.layBay a0) := by
  unfold State.layBay
  split
  · rename_i m0 m1 m2
    extract_lets +onlyGivenNames x3; clear_value x3
    exact State.layLines_kept k0
  · rename_i m4 m5
    exact k0
theorem State.layLitter_kept {s₀ : State} {a0} {a1} (k0 : Kept s₀ a0) : Kept s₀ (State.layLitter a0 a1) := by
  unfold State.layLitter
  extract_lets +onlyGivenNames x0; clear_value x0
  exact State.layLines_kept k0
theorem State.writeLitter_kept {s₀ : State} {a0} {a1} (k0 : Kept s₀ a0) : Kept s₀ (State.writeLitter a0 a1) := by
  unfold State.writeLitter
  extract_lets +onlyGivenNames x0; clear_value x0
  extract_lets +onlyGivenNames x1; clear_value x1
  exact State.modTile_kept k0
theorem State.flushTiles_kept {s₀ : State} {a0} (k0 : Kept s₀ a0) : Kept s₀ (State.flushTiles a0) := by
  unfold State.flushTiles
  extract_lets +onlyGivenNames x0
  have h1 : Kept s₀ x0 := by unfold x0; exact State.stopPrograms_kept k0
  clear_value x0
  extract_lets +onlyGivenNames x2
  have h3 : Kept s₀ x2 := by
    unfold x2
    refine Kept.ite ?_ ?_
    · refine State.layBay_kept ?_
      exact State.sealTaproots_kept h1
    · exact h1
  clear_value x2
  refine each_keep (fun r => Kept s₀ r) ?_ ?_
  · exact h3.congr rfl
  · intro v4 v5 h6
    refine State.layLitter_kept ?_
    exact State.writeLitter_kept h6
theorem State.laySeal_kept {s₀ : State} {a0} {a1} (k0 : Kept s₀ a0) : Kept s₀ (State.laySeal a0 a1) := by
  unfold State.laySeal
  extract_lets +onlyGivenNames x0; clear_value x0
  extract_lets +onlyGivenNames x1; clear_value x1
  exact State.layLines_kept k0
theorem State.loadHist_kept {s₀ : State} {a0} {a1} (k0 : Kept s₀ a0) : Kept s₀ (State.loadHist a0 a1) := by
  unfold State.loadHist
  extract_lets +onlyGivenNames x0; clear_value x0
  extract_lets +onlyGivenNames x1; clear_value x1
  extract_lets +onlyGivenNames x2; clear_value x2
  exact k0.congr rfl
theorem State.offSeen_kept {s₀ : State} {a0} (k0 : Kept s₀ a0) : Kept s₀ (State.offSeen a0) := by
  unfold State.offSeen
  exact k0.congr rfl
theorem State.pbtnEvent_kept {s₀ : State} {a0} {a1} (k0 : Kept s₀ a0) : Kept s₀ (State.pbtnEvent a0 a1) := by
  unfold State.pbtnEvent
  exact State.emit_kept k0
theorem State.saveHist_kept {s₀ : State} {a0} (k0 : Kept s₀ a0) : Kept s₀ (State.saveHist a0) := by
  unfold State.saveHist
  exact State.devicePut_kept k0
theorem State.powerDownRecord_kept {s₀ : State} {a0} (k0 : Kept s₀ a0) : Kept s₀ (State.powerDownRecord a0) := by
  unfold State.powerDownRecord
  extract_lets +onlyGivenNames x0
  have h1 : Kept s₀ x0 := by
    unfold x0
    refine State.saveHist_kept ?_
    exact State.devicePut_kept k0
  clear_value x0
  split
  · rename_i m2 m3 m4
    exact h1.congr rfl
  · rename_i m5 m6
    exact h1
theorem State.startFlush_kept {s₀ : State} {a0} (k0 : Kept s₀ a0) : Kept s₀ (State.startFlush a0) := by
  unfold State.startFlush
  extract_lets +onlyGivenNames x0; subst x0
  extract_lets +onlyGivenNames x1
  have h2 : Kept s₀ x1 := by unfold x1; exact k0.congr rfl
  clear_value x1
  refine State.flushTiles_kept ?_
  refine State.endWork_kept ?_
  exact State.drainCatches_kept h2
theorem State.powerOff_kept {s₀ : State} {a0} {a1} {a2} {a3} (k0 : Kept s₀ a0) : Kept s₀ (State.powerOff a0 a1 a2 a3) := by
  unfold State.powerOff
  refine Kept.ite ?_ ?_
  · exact k0
  · extract_lets +onlyGivenNames x0
    have h1 : Kept s₀ x0 := by
      unfold x0
      refine State.noteReset_kept ?_
      exact State.resetEvent_kept k0
    clear_value x0
    extract_lets +onlyGivenNames x2; subst x2
    extract_lets +onlyGivenNames x3
    have h4 : Kept s₀ x3 := by
      unfold x3
      refine State.wf_kept ?_
      exact h1.congr rfl
    clear_value x3
    extract_lets +onlyGivenNames x5
    have h6 : Kept s₀ x5 := by
      unfold x5
      refine State.startFlush_kept ?_
      exact State.commitLog_kept h4
    clear_value x5
    refine Kept.ite ?_ ?_
    · exact h6
    · refine State.startShutdown_kept ?_
      exact h6.congr rfl
theorem State.press_kept {s₀ : State} {a0} {a1} (k0 : Kept s₀ a0) : Kept s₀ (State.press a0 a1) := by
  unfold State.press
  exact k0.congr rfl
theorem State.railsOff_kept {s₀ : State} {a0} (k0 : Kept s₀ a0) : Kept s₀ (State.railsOff a0) := by
  unfold State.railsOff
  refine Kept.ite ?_ ?_
  · exact k0
  · extract_lets +onlyGivenNames x0
    have h1 : Kept s₀ x0 := by
      unfold x0
      refine each_keep (fun r => Kept s₀ r) ?_ ?_
      · exact k0
      · intro v2 v3 h4
        refine Kept.ite ?_ ?_
        · exact State.enLow_kept h4
        · exact h4
    clear_value x0
    extract_lets +onlyGivenNames x5; subst x5
    extract_lets +onlyGivenNames x6
    have h7 : Kept s₀ x6 := by unfold x6; exact h1.congr rfl
    clear_value x6
    exact State.powerOffDone_kept h7
theorem State.regulatorNote_kept {s₀ : State} {a0} {a1} (k0 : Kept s₀ a0) : Kept s₀ (State.regulatorNote a0 a1) := by
  unfold State.regulatorNote
  extract_lets +onlyGivenNames x0
  have h1 : Kept s₀ x0 := by
    unfold x0
    refine State.wf_kept ?_
    refine State.wf_kept ?_
    exact State.wf_kept k0
  clear_value x0
  refine State.irqEdge_kept ?_
  refine State.wf_kept ?_
  exact State.incSat_kept h1
theorem State.regulatorFault_kept {s₀ : State} {a0} {a1} (k0 : Kept s₀ a0) : Kept s₀ (State.regulatorFault a0 a1) := by
  unfold State.regulatorFault
  extract_lets +onlyGivenNames x0
  have h1 : Kept s₀ x0 := by unfold x0; exact State.regulatorNote_kept k0
  clear_value x0
  refine Kept.ite ?_ ?_
  · extract_lets +onlyGivenNames x2; clear_value x2
    extract_lets +onlyGivenNames x3
    have h4 : Kept s₀ x3 := by
      unfold x3
      refine Kept.ite ?_ ?_
      · refine State.noteReset_kept ?_
        exact State.resetEvent_kept h1
      · exact h1
    clear_value x3
    extract_lets +onlyGivenNames x5
    have h6 : Kept s₀ x5 := by unfold x5; exact State.tileFails_kept h4
    clear_value x5
    refine Kept.ite ?_ ?_
    · exact h6
    · exact State.enLow_kept h6
  · exact State.powerOff_kept h1
theorem State.sealTiles_kept {s₀ : State} {a0} {a1} (k0 : Kept s₀ a0) : Kept s₀ (State.sealTiles a0 a1) := by
  unfold State.sealTiles
  refine each_keep (fun r => Kept s₀ r) ?_ ?_
  · exact k0
  · intro v0 v1 h2
    refine State.modTile_kept ?_
    exact State.laySeal_kept h2
theorem State.setVin_kept {s₀ : State} {a0} {a1} {a2} (k0 : Kept s₀ a0) : Kept s₀ (State.setVin a0 a1 a2) := by
  unfold State.setVin
  extract_lets +onlyGivenNames x0; subst x0
  extract_lets +onlyGivenNames x1
  have h2 : Kept s₀ x1 := by unfold x1; exact k0.congr rfl
  clear_value x1
  exact State.wf_kept h2
theorem State.shedFailed_kept {s₀ : State} {a0} (k0 : Kept s₀ a0) : Kept s₀ (State.shedFailed a0) := by
  unfold State.shedFailed
  refine each_keep (fun r => Kept s₀ r) ?_ ?_
  · exact k0
  · intro v0 v1 h2
    refine Kept.ite ?_ ?_
    · exact State.enLow_kept h2
    · exact h2
theorem State.vmedOff_kept {s₀ : State} {a0} (k0 : Kept s₀ a0) : Kept s₀ (State.vmedOff a0) := by
  unfold State.vmedOff
  exact k0.congr rfl
theorem execCommitOffTimeout_kept {s₀ : State} {a0} (k0 : Kept s₀ a0) : KeptO s₀ (execCommitOffTimeout a0) := by
  unfold execCommitOffTimeout
  refine KeptO.next ?_
  refine Kept.ite ?_ ?_
  · refine State.offSeen_kept ?_
    exact State.railsOff_kept k0
  · exact k0
theorem execFlushDone_kept {s₀ : State} {a0} {a1} (k1 : Kept s₀ a1) : KeptO s₀ (execFlushDone a0 a1) := by
  unfold execFlushDone
  refine KeptO.next ?_
  refine Kept.ite ?_ ?_
  · exact k1
  · extract_lets +onlyGivenNames x0
    have h1 : Kept s₀ x0 := by
      unfold x0
      refine State.powerDownRecord_kept ?_
      refine State.commitSeal_kept ?_
      exact State.sealTiles_kept k1
    clear_value x0
    extract_lets +onlyGivenNames x2
    have h3 : Kept s₀ x2 := by
      unfold x2
      refine Kept.ite ?_ ?_
      · exact State.saveSealed_kept h1
      · exact h1
    clear_value x2
    refine State.startShutdown_kept ?_
    exact h3.congr rfl
theorem execMinOffTimeEnd_kept {s₀ : State} {a0} (k0 : Kept s₀ a0) : KeptO s₀ (execMinOffTimeEnd a0) := by
  unfold execMinOffTimeEnd
  refine KeptO.next ?_
  refine Kept.ite ?_ ?_
  · refine State.tryPowerUp_kept ?_
    exact k0.congr rfl
  · exact k0
theorem execOnTimeoutExpire_kept {s₀ : State} {a0} {a1} (k1 : Kept s₀ a1) : KeptO s₀ (execOnTimeoutExpire a0 a1) := by
  unfold execOnTimeoutExpire
  refine KeptO.next ?_
  refine Kept.ite ?_ ?_
  · exact k1
  · refine Kept.ite ?_ ?_
    · exact State.seqFault_kept k1
    · refine Kept.ite ?_ ?_
      · refine State.enLow_kept ?_
        exact State.failReturn_kept k1
      · exact k1
theorem execPbtnHold15s_kept {s₀ : State} {a0} (k0 : Kept s₀ a0) : KeptO s₀ (execPbtnHold15s a0) := by
  unfold execPbtnHold15s
  refine KeptO.next ?_
  refine Kept.ite ?_ ?_
  · exact k0
  · extract_lets +onlyGivenNames x0
    have h1 : Kept s₀ x0 := by unfold x0; exact State.pbtnEvent_kept k0
    clear_value x0
    refine Kept.ite ?_ ?_
    · exact h1
    · extract_lets +onlyGivenNames x2
      have h3 : Kept s₀ x2 := by
        unfold x2
        refine Kept.ite ?_ ?_
        · exact State.powerOff_kept h1
        · exact h1
      clear_value x2
      exact State.railsOff_kept h3
theorem execPbtnHold8s_kept {s₀ : State} {a0} (k0 : Kept s₀ a0) : KeptO s₀ (execPbtnHold8s a0) := by
  unfold execPbtnHold8s
  refine KeptO.next ?_
  refine Kept.ite ?_ ?_
  · refine State.powerOff_kept ?_
    exact State.pbtnEvent_kept k0
  · exact k0
theorem execPbtnPress_kept {s₀ : State} {a0} (k0 : Kept s₀ a0) : KeptO s₀ (execPbtnPress a0) := by
  unfold execPbtnPress
  refine KeptO.next ?_
  refine Kept.ite ?_ ?_
  · refine State.askPowerUp_kept ?_
    exact State.press_kept k0
  · exact State.press_kept k0
theorem execPbtnRelease_kept {s₀ : State} {a0} (k0 : Kept s₀ a0) : KeptO s₀ (execPbtnRelease a0) := by
  unfold execPbtnRelease
  refine KeptO.next ?_
  refine Kept.ite ?_ ?_
  · refine State.irqEdge_kept ?_
    refine State.pbtnEvent_kept ?_
    exact State.press_kept k0
  · exact State.press_kept k0
theorem execPgChange_kept {s₀ : State} {a0} {a1} {a2} (k2 : Kept s₀ a2) : KeptO s₀ (execPgChange a0 a1 a2) := by
  unfold execPgChange
  refine KeptO.next ?_
  refine Kept.ite ?_ ?_
  · exact k2
  · refine Kept.ite ?_ ?_
    · refine Kept.ite ?_ ?_
      · exact State.railUp_kept k2
      · exact State.setRail_kept k2
    · extract_lets +onlyGivenNames x0; clear_value x0
      extract_lets +onlyGivenNames x1
      have h2 : Kept s₀ x1 := by unfold x1; exact State.setRail_kept k2
      clear_value x1
      extract_lets +onlyGivenNames x3
      have h4 : Kept s₀ x3 := by
        unfold x3
        refine Kept.ite ?_ ?_
        · exact State.vmedOff_kept h2
        · exact h2
      clear_value x3
      refine Kept.ite ?_ ?_
      · exact State.seqFault_kept h4
      · refine Kept.ite ?_ ?_
        · exact State.regulatorFault_kept h4
        · exact h4
theorem execRailOffDone_kept {s₀ : State} {a0} {a1} (k1 : Kept s₀ a1) : KeptO s₀ (execRailOffDone a0 a1) := by
  unfold execRailOffDone
  refine KeptO.next ?_
  refine Kept.ite ?_ ?_
  · exact k1
  · extract_lets +onlyGivenNames x0
    have h1 : Kept s₀ x0 := by unfold x0; exact State.setRail_kept k1
    clear_value x0
    refine State.seqRecheck_kept ?_
    refine Kept.ite ?_ ?_
    · exact State.vmedOff_kept h1
    · exact h1
theorem execVinCommit_kept {s₀ : State} {a0} {a1} (k1 : Kept s₀ a1) : KeptO s₀ (execVinCommit a0 a1) := by
  unfold execVinCommit
  refine KeptO.next ?_
  extract_lets +onlyGivenNames x0
  have h1 : Kept s₀ x0 := by unfold x0; exact State.setVin_kept k1
  clear_value x0
  refine Kept.ite ?_ ?_
  · exact h1
  · refine State.powerOff_kept ?_
    exact State.irqEdge_kept h1
theorem execVinOff_kept {s₀ : State} {a0} {a1} (k1 : Kept s₀ a1) : KeptO s₀ (execVinOff a0 a1) := by
  unfold execVinOff
  refine KeptO.next ?_
  extract_lets +onlyGivenNames x0
  have h1 : Kept s₀ x0 := by unfold x0; exact State.setVin_kept k1
  clear_value x0
  refine State.offSeen_kept ?_
  refine State.railsOff_kept ?_
  refine Kept.ite ?_ ?_
  · exact State.powerOff_kept h1
  · exact h1
theorem execVinValid_kept {s₀ : State} {a0} {a1} (k1 : Kept s₀ a1) : KeptO s₀ (execVinValid a0 a1) := by
  unfold execVinValid
  refine KeptO.next ?_
  extract_lets +onlyGivenNames x0
  have h1 : Kept s₀ x0 := by unfold x0; exact State.setVin_kept k1
  clear_value x0
  refine Kept.ite ?_ ?_
  · exact State.tryPowerUp_kept h1
  · refine Kept.ite ?_ ?_
    · refine State.shedFailed_kept ?_
      refine State.braceEvent_kept ?_
      exact State.brace_kept h1
    · exact h1
theorem execVinWarn_kept {s₀ : State} {a0} {a1} (k1 : Kept s₀ a1) : KeptO s₀ (execVinWarn a0 a1) := by
  unfold execVinWarn
  refine KeptO.next ?_
  extract_lets +onlyGivenNames x0
  have h1 : Kept s₀ x0 := by unfold x0; exact State.setVin_kept k1
  clear_value x0
  refine Kept.ite ?_ ?_
  · exact h1
  · extract_lets +onlyGivenNames x2; subst x2
    extract_lets +onlyGivenNames x3
    have h4 : Kept s₀ x3 := by unfold x3; exact h1.congr rfl
    clear_value x3
    extract_lets +onlyGivenNames x5
    have h6 : Kept s₀ x5 := by
      unfold x5
      refine State.irqEdge_kept ?_
      refine State.braceEvent_kept ?_
      exact State.brace_kept h4
    clear_value x5
    refine State.failApply_kept ?_
    refine each_keep (fun r => Kept s₀ r) ?_ ?_
    · exact h6
    · intro v7 v8 h9
      exact State.closeChecker_kept h9

/-! ## Health -/
theorem execGetHealthReport_kept {s₀ : State} {a0} {a1} {a2} (k2 : Kept s₀ a2) : KeptO s₀ (execGetHealthReport a0 a1 a2) := by
  unfold execGetHealthReport
  refine KeptO.next ?_
  refine State.command_kept k2 ?_
  intro v0 h1
  refine Kept.answer ?_
  exact h1
theorem execGetMediaErrorRecords_kept {s₀ : State} {a0} {a1} {a2} {a3} (k3 : Kept s₀ a3) : KeptO s₀ (execGetMediaErrorRecords a0 a1 a2 a3) := by
  unfold execGetMediaErrorRecords
  refine KeptO.next ?_
  refine State.command_kept k3 ?_
  intro v0 h1
  extract_lets +onlyGivenNames x2; clear_value x2
  split
  · exact answer_kept h1
  · extract_lets +onlyGivenNames x3; clear_value x3
    refine Kept.answer ?_
    exact h1
theorem execHealth_kept {s₀ : State} {a0} {a1} {a2} (k2 : Kept s₀ a2) : KeptO s₀ (execHealth a0 a1 a2) := by
  unfold execHealth
  refine KeptO.next ?_
  refine State.sidebandUnder_kept k2 ?_
  intro v0 h1
  split
  · refine Kept.third ?_
    exact h1
  · refine Kept.third ?_
    exact h1

/-! ## Reset -/
theorem State.bootSlot_kept {s₀ : State} {a0} {a1} (k0 : Kept s₀ a0) : Kept s₀ (State.bootSlot a0 a1) := by
  unfold State.bootSlot
  exact k0.congr rfl
theorem State.clockNote_kept {s₀ : State} {a0} {a1} (k0 : Kept s₀ a0) : Kept s₀ (State.clockNote a0 a1) := by
  unfold State.clockNote
  refine State.irqEdge_kept ?_
  exact State.raise_kept k0
theorem State.coldBoot_kept {s₀ : State} {a0} {a1} {a2} (k0 : Kept s₀ a0) : Kept s₀ (State.coldBoot a0 a1 a2) := by
  unfold State.coldBoot
  extract_lets +onlyGivenNames x0; clear_value x0
  extract_lets +onlyGivenNames x1; clear_value x1
  extract_lets +onlyGivenNames x2; clear_value x2
  extract_lets +onlyGivenNames x3
  have h4 : Kept s₀ x3 := by
    unfold x3
    refine each_keep (fun r => Kept s₀ r) ?_ ?_
    · exact k0
    · intro v5 v6 h7
      exact State.fwCounted_kept h7
  clear_value x3
  extract_lets +onlyGivenNames x8
  have h9 : Kept s₀ x8 := by unfold x8; exact State.wf_kept h4
  clear_value x8
  extract_lets +onlyGivenNames x10
  have h11 : Kept s₀ x10 := by unfold x10; exact State.wf_kept h9
  clear_value x10
  extract_lets +onlyGivenNames x12; clear_value x12
  extract_lets +onlyGivenNames x13; subst x13
  extract_lets +onlyGivenNames x14
  have h15 : Kept s₀ x14 := by unfold x14; exact h11.congr rfl
  clear_value x14
  refine Kept.ite ?_ ?_
  · extract_lets +onlyGivenNames x16
    have h17 : Kept s₀ x16 := by unfold x16; exact State.bootSlot_kept h15
    clear_value x16
    refine Kept.ite ?_ ?_
    · exact State.firmwareEvent_kept h17
    · exact h17
  · exact State.wf_kept h15
theorem State.loseAll_kept {s₀ : State} {a0} (k0 : Kept s₀ a0) : Kept s₀ (State.loseAll a0) := by
  unfold State.loseAll
  exact k0.of (tiles := by simp) (evf := fun _ => Nat.zero_le _)
theorem State.loseWork_kept {s₀ : State} {a0} (k0 : Kept s₀ a0) : Kept s₀ (State.loseWork a0) := by
  unfold State.loseWork
  refine each_keep (fun r => Kept s₀ r) ?_ ?_
  · exact State.loseAll_kept k0
  · intro v0 v1 h2
    exact State.appendAgain_kept h2
theorem State.loseTransfers_kept {s₀ : State} {a0} (k0 : Kept s₀ a0) : Kept s₀ (State.loseTransfers a0) := by
  unfold State.loseTransfers
  extract_lets +onlyGivenNames x0
  have h1 : Kept s₀ x0 := by
    unfold x0
    refine each_keep (fun r => Kept s₀ r) ?_ ?_
    · refine State.abortFw_kept ?_
      exact State.abortStage_kept k0
    · intro v2 v3 h4
      exact State.resetInterface_kept h4
  clear_value x0
  exact h1.congr rfl
theorem State.coldLoss_kept {s₀ : State} {a0} (k0 : Kept s₀ a0) : Kept s₀ (State.coldLoss a0) := by
  unfold State.coldLoss
  extract_lets +onlyGivenNames x0
  have h1 : Kept s₀ x0 := by unfold x0; exact State.thawLog_kept k0
  clear_value x0
  extract_lets +onlyGivenNames x2
  have h3 : Kept s₀ x2 := by
    unfold x2
    refine State.loseWork_kept ?_
    exact State.loseTransfers_kept h1
  clear_value x2
  exact h3.of (tiles := by simp)
theorem State.linksDown_kept {s₀ : State} {a0} (k0 : Kept s₀ a0) : Kept s₀ (State.linksDown a0) := by
  unfold State.linksDown
  refine each_keep (fun r => Kept s₀ r) ?_ ?_
  · exact k0
  · intro v0 v1 h2
    extract_lets +onlyGivenNames x3; clear_value x3
    refine Kept.ite ?_ ?_
    · refine State.wf_kept ?_
      exact State.wf_kept h2
    · exact h2
theorem State.coldRegs_kept {s₀ : State} {a0} (k0 : Kept s₀ a0) : Kept s₀ (State.coldRegs a0) := by
  unfold State.coldRegs
  extract_lets +onlyGivenNames x0
  have h1 : Kept s₀ x0 := by unfold x0; exact State.resetRegs_kept k0
  clear_value x0
  extract_lets +onlyGivenNames x2
  have h3 : Kept s₀ x2 := by unfold x2; exact State.loadRoles_kept h1
  clear_value x2
  extract_lets +onlyGivenNames x4
  have h5 : Kept s₀ x4 := by
    unfold x4
    refine each_keep (fun r => Kept s₀ r) ?_ ?_
    · exact h3
    · intro v6 v7 h8
      refine each_keep (fun r => Kept s₀ r) ?_ ?_
      · exact h8
      · intro v9 v10 h11
        exact State.wf_kept h11
  clear_value x4
  extract_lets +onlyGivenNames x12
  have h13 : Kept s₀ x12 := by
    unfold x12
    refine each_keep (fun r => Kept s₀ r) ?_ ?_
    · exact h5
    · intro v14 v15 h16
      exact State.wf_kept h16
  clear_value x12
  exact State.linksDown_kept h13
theorem State.resetFlush_kept {s₀ : State} {a0} (k0 : Kept s₀ a0) : Kept s₀ (State.resetFlush a0) := by
  unfold State.resetFlush
  refine State.commitSeal_kept ?_
  refine State.sealTiles_kept ?_
  refine State.flushTiles_kept ?_
  refine State.endWork_kept ?_
  exact State.drainCatches_kept k0
theorem State.format_kept {s₀ : State} {a0} (k0 : Kept s₀ a0) : Kept s₀ (State.format a0) := by
  unfold State.format
  exact k0.of (tiles := by simp) (errs := fun _ => Nat.zero_le _)
theorem State.restoreGlade_kept {s₀ : State} {a0} (k0 : Kept s₀ a0) : Kept s₀ (State.restoreGlade a0) := by
  unfold State.restoreGlade
  extract_lets +onlyGivenNames x0; subst x0
  extract_lets +onlyGivenNames x1
  have h2 : Kept s₀ x1 := by unfold x1; exact k0.congr rfl
  clear_value x1
  extract_lets +onlyGivenNames x3
  have h4 : Kept s₀ x3 := by
    unfold x3
    refine Kept.ite ?_ ?_
    · exact State.wf_kept h2
    · exact h2
  clear_value x3
  extract_lets +onlyGivenNames x5; clear_value x5
  extract_lets +onlyGivenNames x6; clear_value x6
  extract_lets +onlyGivenNames x7; clear_value x7
  extract_lets +onlyGivenNames x8; clear_value x8
  extract_lets +onlyGivenNames x9; clear_value x9
  extract_lets +onlyGivenNames x10; clear_value x10
  extract_lets +onlyGivenNames x11; subst x11
  extract_lets +onlyGivenNames x12
  have h13 : Kept s₀ x12 := by unfold x12; exact h4.of (tiles := by simp)
  clear_value x12
  extract_lets +onlyGivenNames x14
  have h15 : Kept s₀ x14 := by
    unfold x14
    split
    · rename_i m16 m17 m18
      exact State.loadHist_kept h13
    · rename_i m19 m20
      exact h13
  clear_value x14
  extract_lets +onlyGivenNames x21
  have h22 : Kept s₀ x21 := by
    unfold x21
    refine State.raise_kept ?_
    exact State.wf_kept h15
  clear_value x21
  refine State.noteReset_kept ?_
  exact State.resetEvent_kept h22
theorem State.showKept_kept {s₀ : State} {a0} {a1} (k0 : Kept s₀ a0) : Kept s₀ (State.showKept a0 a1) := by
  unfold State.showKept
  extract_lets +onlyGivenNames x0
  have h1 : Kept s₀ x0 := by unfold x0; exact State.wf_kept k0
  clear_value x0
  extract_lets +onlyGivenNames x2
  have h3 : Kept s₀ x2 := by
    unfold x2
    refine each_keep (fun r => Kept s₀ r) ?_ ?_
    · exact h1
    · intro v4 v5 h6
      refine State.undRefresh_kept ?_
      exact State.wf_kept h6
  clear_value x2
  refine Kept.ite ?_ ?_
  · exact State.brace_kept h3
  · exact h3
theorem State.returnTiles_kept {s₀ : State} {a0} {a1} {a2} (k0 : Kept s₀ a0) : Kept s₀ (State.returnTiles a0 a1 a2) := by
  unfold State.returnTiles
  refine each_keep (fun r => Kept s₀ r) ?_ ?_
  · exact k0
  · intro v0 v1 h2
    extract_lets +onlyGivenNames x3; clear_value x3
    extract_lets +onlyGivenNames x4; clear_value x4
    extract_lets +onlyGivenNames x5; clear_value x5
    extract_lets +onlyGivenNames x6
    have h7 : Kept s₀ x6 := by
      unfold x6
      refine State.modTile_kept ?_
      exact State.wf_kept h2
    clear_value x6
    extract_lets +onlyGivenNames x8
    have h9 : Kept s₀ x8 := by
      unfold x8
      refine Kept.ite ?_ ?_
      · exact h7
      · exact State.setTileState_kept h7
    clear_value x8
    extract_lets +onlyGivenNames x10
    have h11 : Kept s₀ x10 := by unfold x10; exact State.wf_kept h9
    clear_value x10
    refine Kept.ite ?_ ?_
    · exact State.trainTile_kept h11
    · exact h11
theorem State.coldShow_kept {s₀ : State} {a0} (k0 : Kept s₀ a0) : Kept s₀ (State.coldShow a0) := by
  unfold State.coldShow
  extract_lets +onlyGivenNames x0; clear_value x0
  extract_lets +onlyGivenNames x1; clear_value x1
  extract_lets +onlyGivenNames x2; clear_value x2
  extract_lets +onlyGivenNames x3; clear_value x3
  extract_lets +onlyGivenNames x4; clear_value x4
  extract_lets +onlyGivenNames x5
  have h6 : Kept s₀ x5 := by
    unfold x5
    refine State.coldRegs_kept ?_
    refine State.coldLoss_kept ?_
    exact State.finishActs_kept k0
  clear_value x5
  extract_lets +onlyGivenNames x7
  have h8 : Kept s₀ x7 := by
    unfold x7
    refine State.coldBoot_kept ?_
    exact State.wf_kept h6
  clear_value x7
  extract_lets +onlyGivenNames x9
  have h10 : Kept s₀ x9 := by
    unfold x9
    refine Kept.ite ?_ ?_
    · exact State.format_kept h8
    · exact h8
  clear_value x9
  extract_lets +onlyGivenNames x11
  have h12 : Kept s₀ x11 := by
    unfold x11
    refine Kept.ite ?_ ?_
    · exact State.restoreGlade_kept h10
    · exact State.wf_kept h10
  clear_value x11
  refine State.showKept_kept ?_
  exact State.returnTiles_kept h12
theorem State.putBounds_kept {s₀ : State} {a0} {a1} {a2} (k0 : Kept s₀ a0) : Kept s₀ (State.putBounds a0 a1 a2) := by
  unfold State.putBounds
  exact State.devicePut_kept k0
theorem State.showPending_kept {s₀ : State} {a0} (k0 : Kept s₀ a0) : Kept s₀ (State.showPending a0) := by
  unfold State.showPending
  exact State.wf_kept k0
theorem State.trimStart_kept {s₀ : State} {a0} (k0 : Kept s₀ a0) : Kept s₀ (State.trimStart a0) := by
  unfold State.trimStart
  extract_lets +onlyGivenNames x0
  have h1 : Kept s₀ x0 := by
    unfold x0
    refine Kept.ite ?_ ?_
    · exact State.wf_kept k0
    · exact k0
  clear_value x0
  refine Kept.ite ?_ ?_
  · refine State.raise_kept ?_
    refine State.wf_kept ?_
    exact h1.congr rfl
  · exact h1.congr rfl
theorem State.coldReset_kept {s₀ : State} {a0} {a1} {a2} (k0 : Kept s₀ a0) : Kept s₀ (State.coldReset a0 a1 a2) := by
  unfold State.coldReset
  extract_lets +onlyGivenNames x0
  have h1 : Kept s₀ x0 := by unfold x0; exact k0.congr rfl
  clear_value x0
  extract_lets +onlyGivenNames x2; subst x2
  extract_lets +onlyGivenNames x3
  have h4 : Kept s₀ x3 := by
    unfold x3
    refine Kept.ite ?_ ?_
    · refine State.drainGlade_kept ?_
      exact h1.congr rfl
    · exact h1
  clear_value x3
  extract_lets +onlyGivenNames x5
  have h6 : Kept s₀ x5 := by
    unfold x5
    refine State.noteReset_kept ?_
    exact State.resetEvent_kept h4
  clear_value x5
  extract_lets +onlyGivenNames x7
  have h8 : Kept s₀ x7 := by unfold x7; exact State.resetFlush_kept h6
  clear_value x7
  extract_lets +onlyGivenNames x9; subst x9
  extract_lets +onlyGivenNames x10
  have h11 : Kept s₀ x10 := by
    unfold x10
    refine Kept.ite ?_ ?_
    · exact h6
    · refine Kept.ite ?_ ?_
      · exact h8.congr rfl
      · exact h8.congr rfl
  clear_value x10
  extract_lets +onlyGivenNames x12
  have h13 : Kept s₀ x12 := by unfold x12; exact State.coldShow_kept h11
  clear_value x12
  extract_lets +onlyGivenNames x14
  have h15 : Kept s₀ x14 := by unfold x14; exact State.putBounds_kept h13
  clear_value x14
  refine State.drainGlade_kept ?_
  refine State.showPending_kept ?_
  exact State.trimStart_kept h15
theorem State.dirtyFlush_kept {s₀ : State} {a0} {a1} {a2} (k0 : Kept s₀ a0) : Kept s₀ (State.dirtyFlush a0 a1 a2) := by
  unfold State.dirtyFlush
  extract_lets +onlyGivenNames x0
  have h1 : Kept s₀ x0 := by unfold x0; exact State.raise_kept k0
  clear_value x0
  refine Kept.ite ?_ ?_
  · exact h1
  · exact h1.congr rfl
theorem State.flushStat_kept {s₀ : State} {a0} {a1} {a2} {a3} (k0 : Kept s₀ a0) : Kept s₀ (State.flushStat a0 a1 a2 a3) := by
  unfold State.flushStat
  split
  · rename_i m0
    exact k0
  · rename_i m1 m2
    extract_lets +onlyGivenNames x3
    have h4 : Kept s₀ x3 := by
      unfold x3
      refine State.wf_kept ?_
      exact State.wf_kept k0
    clear_value x3
    refine State.wf_kept ?_
    exact State.wf_kept h4
theorem State.releaseDomain_kept {s₀ : State} {a0} {a1} (k0 : Kept s₀ a0) : Kept s₀ (State.releaseDomain a0 a1) := by
  unfold State.releaseDomain
  extract_lets +onlyGivenNames x0; subst x0
  extract_lets +onlyGivenNames x1
  have h2 : Kept s₀ x1 := by unfold x1; exact k0.congr rfl
  clear_value x1
  extract_lets +onlyGivenNames x3; subst x3
  extract_lets +onlyGivenNames x4
  have h5 : Kept s₀ x4 := by
    unfold x4
    refine State.modTile_kept ?_
    exact h2.congr rfl
  clear_value x4
  extract_lets +onlyGivenNames x6
  have h7 : Kept s₀ x6 := by
    unfold x6
    refine Kept.ite ?_ ?_
    · refine State.raise_kept ?_
      exact h2.congr rfl
    · refine Kept.ite ?_ ?_
      · refine Kept.ite ?_ ?_
        · exact h5
        · exact State.trainTile_kept h5
      · exact h2
  clear_value x6
  exact State.showPending_kept h7
theorem State.reloadImage_kept {s₀ : State} {a0} (k0 : Kept s₀ a0) : Kept s₀ (State.reloadImage a0) := by
  unfold State.reloadImage
  refine each_keep (fun r => Kept s₀ r) ?_ ?_
  · refine each_keep (fun r => Kept s₀ r) ?_ ?_
    · exact State.loadRoles_kept k0
    · intro v0 v1 h2
      exact State.loadShares_kept h2
  · intro v3 v4 h5
    exact State.wf_kept h5
theorem State.replayDone_kept {s₀ : State} {a0} {a1} (k0 : Kept s₀ a0) : Kept s₀ (State.replayDone a0 a1) := by
  unfold State.replayDone
  extract_lets +onlyGivenNames x0
  have h1 : Kept s₀ x0 := by
    unfold x0
    refine State.retireNext_kept ?_
    exact State.modTile_kept k0
  clear_value x0
  exact State.wf_kept h1
theorem State.replayEntry_kept {s₀ : State} {a0} {a1} {a2} {a3} (k0 : Kept s₀ a0) : Kept s₀ (State.replayEntry a0 a1 a2 a3) := by
  unfold State.replayEntry
  extract_lets +onlyGivenNames x0; clear_value x0
  refine Kept.ite ?_ ?_
  · refine State.report_kept ?_
    exact State.catchPut_kept k0
  · exact State.catchPut_kept k0
theorem State.replayHalf_kept {s₀ : State} {a0} {a1} {a2} {a3} {a4} (k0 : Kept s₀ a0) : Kept s₀ (State.replayHalf a0 a1 a2 a3 a4) := by
  unfold State.replayHalf
  extract_lets +onlyGivenNames x0
  have h1 : Kept s₀ x0 := by
    unfold x0
    refine each_keep (fun r => Kept s₀ r) ?_ ?_
    · exact k0
    · intro v2 v3 h4
      refine State.modTile_kept ?_
      exact State.takeSnap_kept h4
  clear_value x0
  refine each_keep (fun r => Kept s₀ r) ?_ ?_
  · exact h1
  · intro v5 v6 h7
    exact State.replayEntry_kept h7
theorem State.softReset_kept {s₀ : State} {a0} {a1} {a2} {a3} (k0 : Kept s₀ a0) : Kept s₀ (State.softReset a0 a1 a2 a3) := by
  unfold State.softReset
  extract_lets +onlyGivenNames x0; clear_value x0
  split
  · rename_i m1
    exact State.requestReset_kept k0
  · rename_i m2
    exact State.requestReset_kept k0
  · rename_i m3
    refine Kept.ite ?_ ?_
    · extract_lets +onlyGivenNames x4
      have h5 : Kept s₀ x4 := by
        unfold x4
        refine State.wf_kept ?_
        refine State.noteReset_kept ?_
        exact State.resetEvent_kept k0
      clear_value x4
      exact State.isolateWrite_kept h5
    · exact k0
  · rename_i m6
    exact State.portReset_kept k0
  · rename_i m7
    exact State.powerOff_kept k0
  · rename_i m8
    exact State.powerOff_kept k0
  · rename_i m9 m10 m11 m12 m13 m14 m15
    exact k0
theorem State.rstCtrl_kept {s₀ : State} {a0} {a1} {a2} {a3} (k0 : Kept s₀ a0) : Kept s₀ (State.rstCtrl a0 a1 a2 a3) := by
  unfold State.rstCtrl
  refine State.regWrite_kept k0 ?_
  intro v0 h1
  refine State.softReset_kept ?_
  refine State.wf_kept ?_
  exact State.wf_kept h1
theorem State.warmBoot_kept {s₀ : State} {a0} (k0 : Kept s₀ a0) : Kept s₀ (State.warmBoot a0) := by
  unfold State.warmBoot
  refine Kept.ite ?_ ?_
  · extract_lets +onlyGivenNames x0; clear_value x0
    refine State.firmwareEvent_kept ?_
    refine State.wf_kept ?_
    refine State.wf_kept ?_
    extract_lets +onlyGivenNames x1
    have h2 : Kept s₀ x1 := by unfold x1; exact State.bootSlot_kept k0
    clear_value x1
    exact h2.congr rfl
  · exact k0.congr rfl
theorem State.warmShow_kept {s₀ : State} {a0} {a1} (k0 : Kept s₀ a0) : Kept s₀ (State.warmShow a0 a1) := by
  unfold State.warmShow
  extract_lets +onlyGivenNames x0; clear_value x0
  extract_lets +onlyGivenNames x1; clear_value x1
  extract_lets +onlyGivenNames x2; clear_value x2
  extract_lets +onlyGivenNames x3; clear_value x3
  extract_lets +onlyGivenNames x4
  have h5 : Kept s₀ x4 := by unfold x4; exact State.thawLog_kept k0
  clear_value x4
  extract_lets +onlyGivenNames x6
  have h7 : Kept s₀ x6 := by
    unfold x6
    refine State.loseWork_kept ?_
    exact State.loseTransfers_kept h5
  clear_value x6
  extract_lets +onlyGivenNames x8; subst x8
  extract_lets +onlyGivenNames x9
  have h10 : Kept s₀ x9 := by unfold x9; exact h7.of (tiles := by simp)
  clear_value x9
  extract_lets +onlyGivenNames x11
  have h12 : Kept s₀ x11 := by
    unfold x11
    refine State.linksDown_kept ?_
    refine State.reloadImage_kept ?_
    exact State.resetRegs_kept h10
  clear_value x11
  extract_lets +onlyGivenNames x13
  have h14 : Kept s₀ x13 := by
    unfold x13
    refine State.warmBoot_kept ?_
    exact State.incSat_kept h12
  clear_value x13
  extract_lets +onlyGivenNames x15
  have h16 : Kept s₀ x15 := by
    unfold x15
    refine State.showKept_kept ?_
    exact State.returnTiles_kept h14
  clear_value x15
  extract_lets +onlyGivenNames x17
  have h18 : Kept s₀ x17 := by
    unfold x17
    refine Kept.ite ?_ ?_
    · exact State.wf_kept h16
    · exact h16
  clear_value x17
  refine Kept.ite ?_ ?_
  · exact State.raise_kept h18
  · exact h18
theorem execClockFail_kept {s₀ : State} {a0} {a1} (k1 : Kept s₀ a1) : KeptO s₀ (execClockFail a0 a1) := by
  unfold execClockFail
  refine KeptO.next ?_
  refine Kept.ite ?_ ?_
  · exact k1
  · refine Kept.ite ?_ ?_
    · extract_lets +onlyGivenNames x0
      have h1 : Kept s₀ x0 := by unfold x0; exact State.clockNote_kept k1
      clear_value x0
      exact h1.congr rfl
    · refine Kept.ite ?_ ?_
      · refine State.requestReset_kept ?_
        exact State.clockNote_kept k1
      · refine Kept.ite ?_ ?_
        · refine Kept.ite ?_ ?_
          · refine State.portReset_kept ?_
            exact State.clockNote_kept k1
          · exact k1
        · refine Kept.ite ?_ ?_
          · refine State.abortStageOf_kept ?_
            refine State.abortFwOf_kept ?_
            refine State.resetInterface_kept ?_
            refine State.resetInterface_kept ?_
            exact State.clockNote_kept k1
          · refine Kept.ite ?_ ?_
            · refine State.resetSideband_kept ?_
              exact State.clockNote_kept k1
            · refine Kept.ite ?_ ?_
              · refine State.tileReset_kept ?_
                exact State.clockNote_kept k1
              · exact k1
theorem execClockGateRelease_kept {s₀ : State} {a0} {a1} (k1 : Kept s₀ a1) : KeptO s₀ (execClockGateRelease a0 a1) := by
  unfold execClockGateRelease
  refine KeptO.next ?_
  refine Kept.ite ?_ ?_
  · exact State.releaseDomain_kept k1
  · exact k1
theorem execColdReset_kept {s₀ : State} {a0} (k0 : Kept s₀ a0) : KeptO s₀ (execColdReset a0) := by
  unfold execColdReset
  refine KeptO.next ?_
  split
  · rename_i m0 m1 m2
    refine Kept.ite ?_ ?_
    · exact k0
    · exact State.coldReset_kept k0
  · rename_i m3 m4
    exact k0
theorem execGladeReset_kept {s₀ : State} {a0} (k0 : Kept s₀ a0) : KeptO s₀ (execGladeReset a0) := by
  unfold execGladeReset
  extract_lets +onlyGivenNames x1
  have h1 : Kept s₀ x1 := State.railsOff_kept (State.endWork_kept k0)
  clear_value x1
  extract_lets +onlyGivenNames f g x2; subst f g
  have h2 : Kept s₀ x2 := h1.of (buffer := fun _ => Nat.zero_le _)
  clear_value x2
  exact KeptO.next (State.wf_kept (State.resetRegs_kept h2))
theorem execLitterReplay_kept {s₀ : State} {a0} {a1} {a2} {a3} (k3 : Kept s₀ a3) : KeptO s₀ (execLitterReplay a0 a1 a2 a3) := by
  unfold execLitterReplay
  refine KeptO.next ?_
  refine Kept.ite ?_ ?_
  · exact k3
  · extract_lets +onlyGivenNames x0; clear_value x0
    extract_lets +onlyGivenNames x1; clear_value x1
    extract_lets +onlyGivenNames x2
    have h3 : Kept s₀ x2 := by
      unfold x2
      refine each_keep (fun r => Kept s₀ r) ?_ ?_
      · exact k3
      · intro v4 v5 h6
        exact State.mapBack_kept h6
    clear_value x2
    extract_lets +onlyGivenNames x7
    have h8 : Kept s₀ x7 := by
      unfold x7
      refine each_keep (fun r => Kept s₀ r) ?_ ?_
      · exact h3
      · intro v9 v10 h11
        exact State.replayHalf_kept h11
    clear_value x7
    extract_lets +onlyGivenNames x12
    have h13 : Kept s₀ x12 := by
      unfold x12
      split
      · rename_i m14 m15
        refine Kept.ite ?_ ?_
        · exact h8
        · exact State.dirtyFlush_kept h8
      · rename_i m16
        exact h8
    clear_value x12
    refine State.replayDone_kept ?_
    refine State.undRefreshAll_kept ?_
    exact State.flushStat_kept h13
theorem execMrstAssert_kept {s₀ : State} {a0} (k0 : Kept s₀ a0) : KeptO s₀ (execMrstAssert a0) := by
  unfold execMrstAssert
  refine KeptO.next ?_
  extract_lets +onlyGivenNames x0; subst x0
  extract_lets +onlyGivenNames x1; clear_value x1
  extract_lets +onlyGivenNames x2
  have h3 : Kept s₀ x2 := by unfold x2; exact k0.congr rfl
  clear_value x2
  refine Kept.ite ?_ ?_
  · refine Kept.ite ?_ ?_
    · exact State.askPowerUp_kept h3
    · exact h3
  · refine Kept.ite ?_ ?_
    · exact State.requestReset_kept h3
    · exact h3
theorem execOscillatorRestartDone_kept {s₀ : State} {a0} {a1} (k1 : Kept s₀ a1) : KeptO s₀ (execOscillatorRestartDone a0 a1) := by
  unfold execOscillatorRestartDone
  refine KeptO.next ?_
  refine Kept.ite ?_ ?_
  · exact k1
  · refine Kept.ite ?_ ?_
    · refine State.requestReset_kept ?_
      exact k1.congr rfl
    · refine Kept.ite ?_ ?_
      · exact k1.congr rfl
      · extract_lets +onlyGivenNames x0
        have h1 : Kept s₀ x0 := by
          unfold x0
          refine State.noteReset_kept ?_
          exact State.resetEvent_kept k1
        clear_value x0
        refine State.railsOff_kept ?_
        refine State.endWork_kept ?_
        exact h1.congr rfl
theorem execReset_kept {s₀ : State} {a0} {a1} (k1 : Kept s₀ a1) : KeptO s₀ (execReset a0 a1) := by
  unfold execReset
  refine KeptO.next ?_
  refine State.sidebandUnder_kept k1 ?_
  intro v0 h1
  split
  · refine Kept.third ?_
    exact State.softReset_kept h1
  · refine Kept.third ?_
    exact h1
theorem execResetPinRelease_kept {s₀ : State} {a0} {a1} (k1 : Kept s₀ a1) : KeptO s₀ (execResetPinRelease a0 a1) := by
  unfold execResetPinRelease
  refine KeptO.next ?_
  split
  · rename_i m0
    exact k1.congr rfl
  · rename_i m1
    refine State.showPending_kept ?_
    exact k1.congr rfl
  · rename_i m2 m3
    exact k1.congr rfl
theorem execRstAssert_kept {s₀ : State} {a0} (k0 : Kept s₀ a0) : KeptO s₀ (execRstAssert a0) := by
  unfold execRstAssert
  refine KeptO.next ?_
  extract_lets +onlyGivenNames x0; subst x0
  extract_lets +onlyGivenNames x1; clear_value x1
  extract_lets +onlyGivenNames x2
  have h3 : Kept s₀ x2 := by unfold x2; exact k0.congr rfl
  clear_value x2
  refine Kept.ite ?_ ?_
  · exact State.requestReset_kept h3
  · exact h3
theorem execRstCold_kept {s₀ : State} {a0} {a1} (k1 : Kept s₀ a1) : KeptO s₀ (execRstCold a0 a1) := by
  unfold execRstCold
  refine KeptO.next ?_
  exact State.rstCtrl_kept k1
theorem execRstHostPort_kept {s₀ : State} {a0} {a1} {a2} (k2 : Kept s₀ a2) : KeptO s₀ (execRstHostPort a0 a1 a2) := by
  unfold execRstHostPort
  refine KeptO.next ?_
  exact State.rstCtrl_kept k2
theorem execRstPowerCycle_kept {s₀ : State} {a0} {a1} (k1 : Kept s₀ a1) : KeptO s₀ (execRstPowerCycle a0 a1) := by
  unfold execRstPowerCycle
  refine KeptO.next ?_
  exact State.rstCtrl_kept k1
theorem execRstPowerOff_kept {s₀ : State} {a0} {a1} (k1 : Kept s₀ a1) : KeptO s₀ (execRstPowerOff a0 a1) := by
  unfold execRstPowerOff
  refine KeptO.next ?_
  exact State.rstCtrl_kept k1
theorem execRstTile_kept {s₀ : State} {a0} {a1} {a2} (k2 : Kept s₀ a2) : KeptO s₀ (execRstTile a0 a1 a2) := by
  unfold execRstTile
  refine KeptO.next ?_
  exact State.rstCtrl_kept k2
theorem execRstWarm_kept {s₀ : State} {a0} {a1} (k1 : Kept s₀ a1) : KeptO s₀ (execRstWarm a0 a1) := by
  unfold execRstWarm
  refine KeptO.next ?_
  exact State.rstCtrl_kept k1
theorem execTrimLoadDone_kept {s₀ : State} {a0} (k0 : Kept s₀ a0) : KeptO s₀ (execTrimLoadDone a0) := by
  unfold execTrimLoadDone
  refine KeptO.next ?_
  refine Kept.ite ?_ ?_
  · refine State.showPending_kept ?_
    refine State.wf_kept ?_
    refine State.wf_kept ?_
    exact k0.congr rfl
  · exact k0
theorem execVgladeFirstPresent_kept {s₀ : State} {a0} (k0 : Kept s₀ a0) : KeptO s₀ (execVgladeFirstPresent a0) := by
  unfold execVgladeFirstPresent
  refine KeptO.next ?_
  refine Kept.ite ?_ ?_
  · exact k0
  · extract_lets +onlyGivenNames x0
    have h1 : Kept s₀ x0 := by
      unfold x0
      refine State.send_kept ?_
      exact State.setRail_kept k0
    clear_value x0
    exact State.tryPowerUp_kept h1
theorem execWarmReset_kept {s₀ : State} {a0} {a1} (k1 : Kept s₀ a1) : KeptO s₀ (execWarmReset a0 a1) := by
  unfold execWarmReset
  refine KeptO.next ?_
  split
  · rename_i m0 m1 m2
    refine Kept.ite ?_ ?_
    · exact k1
    · refine Kept.ite ?_ ?_
      · exact k1.congr rfl
      · extract_lets +onlyGivenNames x3
        have h4 : Kept s₀ x3 := by unfold x3; exact k1.congr rfl
        clear_value x3
        extract_lets +onlyGivenNames x5
        have h6 : Kept s₀ x5 := by
          unfold x5
          refine State.noteReset_kept ?_
          exact State.resetEvent_kept h4
        clear_value x5
        refine State.drainGlade_kept ?_
        refine State.warmShow_kept ?_
        exact State.resetFlush_kept h6
  · rename_i m7 m8
    exact k1

/-! ## Sleep -/
theorem State.idleLinks_kept {s₀ : State} {a0} {a1} (k0 : Kept s₀ a0) : Kept s₀ (State.idleLinks a0 a1) := by
  unfold State.idleLinks
  refine each_keep (fun r => Kept s₀ r) ?_ ?_
  · exact k0
  · intro v0 v1 h2
    refine Kept.ite ?_ ?_
    · refine State.setLink_kept ?_
      exact State.send_kept h2
    · exact h2
theorem State.resumeLinks_kept {s₀ : State} {a0} {a1} (k0 : Kept s₀ a0) : Kept s₀ (State.resumeLinks a0 a1) := by
  unfold State.resumeLinks
  refine each_keep (fun r => Kept s₀ r) ?_ ?_
  · exact k0
  · intro v0 v1 h2
    refine Kept.ite ?_ ?_
    · exact State.setLink_kept h2
    · exact h2
theorem State.setPstate_kept {s₀ : State} {a0} {a1} (k0 : Kept s₀ a0) : Kept s₀ (State.setPstate a0 a1) := by
  unfold State.setPstate
  exact k0.congr rfl
theorem execP1Enter_kept {s₀ : State} {a0} (k0 : Kept s₀ a0) : KeptO s₀ (execP1Enter a0) := by
  unfold execP1Enter
  refine KeptO.next ?_
  refine Kept.ite ?_ ?_
  · refine State.countHub_kept ?_
    exact State.setPstate_kept k0
  · exact k0
theorem execP2Enter_kept {s₀ : State} {a0} (k0 : Kept s₀ a0) : KeptO s₀ (execP2Enter a0) := by
  unfold execP2Enter
  refine KeptO.next ?_
  refine Kept.ite ?_ ?_
  · refine State.countHub_kept ?_
    exact State.setPstate_kept k0
  · exact k0
theorem execP2Exit_kept {s₀ : State} {a0} (k0 : Kept s₀ a0) : KeptO s₀ (execP2Exit a0) := by
  unfold execP2Exit
  refine KeptO.next ?_
  refine Kept.ite ?_ ?_
  · exact State.setPstate_kept k0
  · exact k0
theorem execTileIdleT1_kept {s₀ : State} {a0} {a1} (k1 : Kept s₀ a1) : KeptO s₀ (execTileIdleT1 a0 a1) := by
  unfold execTileIdleT1
  refine KeptO.next ?_
  refine Kept.ite ?_ ?_
  · refine State.countTile_kept ?_
    exact State.modTile_kept k1
  · exact k1
theorem execTileIdleT2_kept {s₀ : State} {a0} {a1} (k1 : Kept s₀ a1) : KeptO s₀ (execTileIdleT2 a0 a1) := by
  unfold execTileIdleT2
  refine KeptO.next ?_
  refine Kept.ite ?_ ?_
  · exact State.modTile_kept k1
  · exact k1
theorem execTileIdleT3_kept {s₀ : State} {a0} {a1} (k1 : Kept s₀ a1) : KeptO s₀ (execTileIdleT3 a0 a1) := by
  unfold execTileIdleT3
  refine KeptO.next ?_
  refine Kept.ite ?_ ?_
  · exact State.modTile_kept k1
  · exact k1
theorem execTileSleepEntryDone_kept {s₀ : State} {a0} {a1} (k1 : Kept s₀ a1) : KeptO s₀ (execTileSleepEntryDone a0 a1) := by
  unfold execTileSleepEntryDone
  refine KeptO.next ?_
  split
  · rename_i m0 m1 m2
    refine Kept.ite ?_ ?_
    · exact k1
    · refine State.idleLinks_kept ?_
      refine State.countTile_kept ?_
      exact State.modTile_kept k1
  · rename_i m3 m4
    exact k1
theorem execTileWake_kept {s₀ : State} {a0} {a1} (k1 : Kept s₀ a1) : KeptO s₀ (execTileWake a0 a1) := by
  unfold execTileWake
  refine KeptO.next ?_
  refine Kept.ite ?_ ?_
  · exact k1
  · exact State.wakeTile_kept k1
theorem execTileWakeDone_kept {s₀ : State} {a0} {a1} (k1 : Kept s₀ a1) : KeptO s₀ (execTileWakeDone a0 a1) := by
  unfold execTileWakeDone
  refine KeptO.next ?_
  refine Kept.ite ?_ ?_
  · exact k1
  · extract_lets +onlyGivenNames x0; clear_value x0
    extract_lets +onlyGivenNames x1
    have h2 : Kept s₀ x1 := by unfold x1; exact State.modTile_kept k1
    clear_value x1
    refine State.releaseHeld_kept ?_
    refine Kept.ite ?_ ?_
    · exact State.resumeLinks_kept h2
    · exact h2

/-! ## Thermal -/
theorem State.coldCheck_kept {s₀ : State} {a0} {a1} {a2} (k0 : Kept s₀ a0) : Kept s₀ (State.coldCheck a0 a1 a2) := by
  unfold State.coldCheck
  refine Kept.ite ?_ ?_
  · refine State.startShutdown_kept ?_
    exact k0.congr rfl
  · exact k0
theorem State.countShutdown_kept {s₀ : State} {a0} (k0 : Kept s₀ a0) : Kept s₀ (State.countShutdown a0) := by
  unfold State.countShutdown
  extract_lets +onlyGivenNames x0; clear_value x0
  refine State.wf_kept ?_
  exact k0.congr rfl
theorem State.endBrace_kept {s₀ : State} {a0} (k0 : Kept s₀ a0) : Kept s₀ (State.endBrace a0) := by
  unfold State.endBrace
  refine Kept.ite ?_ ?_
  · refine State.braceEvent_kept ?_
    exact State.brace_kept k0
  · exact k0
theorem State.histSample_kept {s₀ : State} {a0} {a1} {a2} (k0 : Kept s₀ a0) : Kept s₀ (State.histSample a0 a1 a2) := by
  unfold State.histSample
  extract_lets +onlyGivenNames x0; clear_value x0
  exact k0.congr rfl
theorem State.pushSample_kept {s₀ : State} {a0} {a1} {a2} (k0 : Kept s₀ a0) : Kept s₀ (State.pushSample a0 a1 a2) := by
  unfold State.pushSample
  exact k0.congr rfl
theorem State.noteBand_kept {s₀ : State} {a0} {a1} (k0 : Kept s₀ a0) : Kept s₀ (State.noteBand a0 a1) := by
  unfold State.noteBand
  exact k0.congr rfl
theorem State.showLevel_kept {s₀ : State} {a0} {a1} {a2} (k0 : Kept s₀ a0) : Kept s₀ (State.showLevel a0 a1 a2) := by
  unfold State.showLevel
  extract_lets +onlyGivenNames x0
  have h1 : ∀ y0 y1 y2 y3, Kept s₀ y0 → Kept s₀ (x0 y0 y1 y2 y3) := by
    unfold x0
    intro v2 v3 v4 v5 h6
    exact State.wf_kept h6
  clear_value x0
  refine Kept.ite ?_ ?_
  · extract_lets +onlyGivenNames x7; clear_value x7
    extract_lets +onlyGivenNames x8
    have h9 : Kept s₀ x8 := by unfold x8; exact State.wf_kept k0
    clear_value x8
    refine h1 _ _ _ _ ?_
    refine h1 _ _ _ _ ?_
    exact h9
  · extract_lets +onlyGivenNames x10
    have h11 : Kept s₀ x10 := by unfold x10; exact State.wf_kept k0
    clear_value x10
    refine h1 _ _ _ _ ?_
    refine h1 _ _ _ _ ?_
    exact h11
theorem State.levelStep_kept {s₀ : State} {a0} {a1} {a2} {a3} {a4} (k0 : Kept s₀ a0) : Kept s₀ (State.levelStep a0 a1 a2 a3 a4) := by
  unfold State.levelStep
  extract_lets +onlyGivenNames x0
  have h1 : Kept s₀ x0 := by
    unfold x0
    refine State.emit_kept ?_
    exact State.showLevel_kept k0
  clear_value x0
  exact State.irqEdge_kept h1
theorem State.setLevel_kept {s₀ : State} {a0} {a1} {a2} {a3} (k0 : Kept s₀ a0) : Kept s₀ (State.setLevel a0 a1 a2 a3) := by
  unfold State.setLevel
  extract_lets +onlyGivenNames x0; clear_value x0
  refine Kept.ite ?_ ?_
  · refine each_keep (fun r => Kept s₀ r) ?_ ?_
    · exact k0
    · intro v1 v2 h3
      exact State.levelStep_kept h3
  · refine each_keep (fun r => Kept s₀ r) ?_ ?_
    · exact k0
    · intro v4 v5 h6
      exact State.levelStep_kept h6
theorem State.showSample_kept {s₀ : State} {a0} {a1} {a2} (k0 : Kept s₀ a0) : Kept s₀ (State.showSample a0 a1 a2) := by
  unfold State.showSample
  refine Kept.ite ?_ ?_
  · exact State.wf_kept k0
  · extract_lets +onlyGivenNames x0; clear_value x0
    extract_lets +onlyGivenNames x1
    have h2 : Kept s₀ x1 := by unfold x1; exact State.wf_kept k0
    clear_value x1
    refine Kept.ite ?_ ?_
    · exact State.wf_kept h2
    · exact h2
theorem State.thermalShutdown_kept {s₀ : State} {a0} {a1} {a2} (k0 : Kept s₀ a0) : Kept s₀ (State.thermalShutdown a0 a1 a2) := by
  unfold State.thermalShutdown
  extract_lets +onlyGivenNames x0
  have h1 : Kept s₀ x0 := by
    unfold x0
    refine State.irqEdge_kept ?_
    refine State.emit_kept ?_
    exact State.wf_kept k0
  clear_value x0
  refine Kept.ite ?_ ?_
  · exact h1
  · extract_lets +onlyGivenNames x2
    have h3 : Kept s₀ x2 := by
      unfold x2
      refine State.endBrace_kept ?_
      exact State.countShutdown_kept h1
    clear_value x2
    refine Kept.ite ?_ ?_
    · refine State.powerOff_kept ?_
      exact State.wf_kept h3
    · exact State.powerOff_kept h3
theorem State.goodSample_kept {s₀ : State} {a0} {a1} {a2} (k0 : Kept s₀ a0) : Kept s₀ (State.goodSample a0 a1 a2) := by
  unfold State.goodSample
  extract_lets +onlyGivenNames x0; clear_value x0
  extract_lets +onlyGivenNames x1
  have h2 : Kept s₀ x1 := by
    unfold x1
    refine State.histSample_kept ?_
    exact State.pushSample_kept k0
  clear_value x1
  extract_lets +onlyGivenNames x3; clear_value x3
  extract_lets +onlyGivenNames x4
  have h5 : Kept s₀ x4 := by
    unfold x4
    refine Kept.ite ?_ ?_
    · refine State.wf_kept ?_
      exact State.wf_kept h2
    · exact h2
  clear_value x4
  refine Kept.ite ?_ ?_
  · refine Kept.ite ?_ ?_
    · exact State.noteBand_kept h5
    · exact h5
  · extract_lets +onlyGivenNames x6; clear_value x6
    extract_lets +onlyGivenNames x7
    have h8 : Kept s₀ x7 := by
      unfold x7
      refine State.setLevel_kept ?_
      exact State.showSample_kept h5
    clear_value x7
    extract_lets +onlyGivenNames x9
    have h10 : Kept s₀ x9 := by
      unfold x9
      refine Kept.ite ?_ ?_
      · exact State.thermalShutdown_kept h8
      · exact h8
    clear_value x9
    exact State.coldCheck_kept h10
theorem State.sensorFault_kept {s₀ : State} {a0} {a1} {a2} (k0 : Kept s₀ a0) : Kept s₀ (State.sensorFault a0 a1 a2) := by
  unfold State.sensorFault
  extract_lets +onlyGivenNames x0; clear_value x0
  extract_lets +onlyGivenNames x1
  have h2 : Kept s₀ x1 := by unfold x1; exact k0.congr rfl
  clear_value x1
  extract_lets +onlyGivenNames x3
  have h4 : Kept s₀ x3 := by
    unfold x3
    refine State.wf_kept ?_
    refine State.wf_kept ?_
    exact State.wf_kept h2
  clear_value x3
  refine Kept.ite ?_ ?_
  · exact State.noteBand_kept h4
  · exact State.setLevel_kept h4
theorem execThermalHistorySave_kept {s₀ : State} {a0} (k0 : Kept s₀ a0) : KeptO s₀ (execThermalHistorySave a0) := by
  unfold execThermalHistorySave
  refine KeptO.next ?_
  refine Kept.ite ?_ ?_
  · exact k0
  · exact State.saveHist_kept k0
theorem execThermalRestart_kept {s₀ : State} {a0} (k0 : Kept s₀ a0) : KeptO s₀ (execThermalRestart a0) := by
  unfold execThermalRestart
  refine KeptO.next ?_
  refine Kept.ite ?_ ?_
  · exact State.startPowerUp_kept k0
  · exact k0
theorem execThermalSample_kept {s₀ : State} {a0} {a1} {a2} (k2 : Kept s₀ a2) : KeptO s₀ (execThermalSample a0 a1 a2) := by
  unfold execThermalSample
  refine KeptO.next ?_
  refine Kept.ite ?_ ?_
  · exact k2
  · refine Kept.ite ?_ ?_
    · exact State.sensorFault_kept k2
    · exact State.goodSample_kept k2

/-! ## Time -/
theorem State.handleItem_kept {s₀ : State} {a0} {a1} (k0 : Kept s₀ a0) : Kept s₀ (State.handleItem a0 a1) := by
  unfold State.handleItem
  split
  · rename_i m0 m1
    exact State.record_kept k0
  · rename_i m2 m3 m4
    exact State.raise_kept k0
theorem State.opSecond_kept {s₀ : State} {a0} (k0 : Kept s₀ a0) : Kept s₀ (State.opSecond a0) := by
  unfold State.opSecond
  refine Kept.ite ?_ ?_
  · extract_lets +onlyGivenNames x0; clear_value x0
    exact k0.congr rfl
  · exact k0
theorem State.renewBounds_kept {s₀ : State} {a0} (k0 : Kept s₀ a0) : Kept s₀ (State.renewBounds a0) := by
  unfold State.renewBounds
  extract_lets +onlyGivenNames x0; clear_value x0
  extract_lets +onlyGivenNames x1; clear_value x1
  extract_lets +onlyGivenNames x2; clear_value x2
  refine Kept.ite ?_ ?_
  · exact k0
  · exact State.putBounds_kept k0
theorem State.zoneSecond_kept {s₀ : State} {a0} {a1} (k0 : Kept s₀ a0) : Kept s₀ (State.zoneSecond a0 a1) := by
  unfold State.zoneSecond
  extract_lets +onlyGivenNames x0; clear_value x0
  extract_lets +onlyGivenNames x1; subst x1
  extract_lets +onlyGivenNames x2
  have h3 : Kept s₀ x2 := by unfold x2; exact k0.congr rfl
  clear_value x2
  refine Kept.ite ?_ ?_
  · exact h3
  · exact State.noteBand_kept h3
theorem execEventFifoTake_kept {s₀ : State} {a0} (k0 : Kept s₀ a0) : KeptO s₀ (execEventFifoTake a0) := by
  unfold execEventFifoTake
  refine KeptO.next ?_
  split
  · exact State.handleItem_kept (k0.congr rfl)
  · rename_i x rest _ e
    refine State.handleItem_kept (k0.of (evf := fun hb => ?_))
    rw [State.evfLevel, e, List.map_cons, List.sum_cons] at hb
    simp only [State.evfLevel]
    omega
  · exact k0
theorem execFineTimeResync_kept {s₀ : State} {a0} (k0 : Kept s₀ a0) : KeptO s₀ (execFineTimeResync a0) := by
  unfold execFineTimeResync
  refine KeptO.next ?_
  exact k0.of (tiles := by simp)
theorem execGladeSecond_kept {s₀ : State} {a0} (k0 : Kept s₀ a0) : KeptO s₀ (execGladeSecond a0) := by
  unfold execGladeSecond
  refine KeptO.next ?_
  refine Kept.ite ?_ ?_
  · exact k0
  · extract_lets +onlyGivenNames x0; subst x0
    extract_lets +onlyGivenNames x1
    have h2 : Kept s₀ x1 := by unfold x1; exact k0.congr rfl
    clear_value x1
    refine State.renewBounds_kept ?_
    refine each_keep (fun r => Kept s₀ r) ?_ ?_
    · exact State.opSecond_kept h2
    · intro v3 v4 h5
      exact State.zoneSecond_kept h5

end Sys2Proof.Machine
end

