-- ==== Sys2Proof/Laws/KeptStep.lean ====
section
/-! SUPPORT. One lemma per operation: it keeps what Kept says, for debug and counter commands, register accesses, the tick, and exec as a whole. -/
set_option linter.unusedVariables false
set_option Elab.async false
set_option linter.unusedSimpArgs false
namespace Sys2Proof.Machine

/-! ## Debug -/
theorem dbg_kept {s₀ : State} {a0} {a1} {a2} (k2 : Kept s₀ a2) : Kept s₀ (dbg a0 a1 a2).state := by
  unfold dbg
  refine Kept.answer ?_
  exact k2
theorem dbgRefuse_kept {s₀ : State} {a0} {a1} {a2} {a3} (k3 : Kept s₀ a3) : Kept s₀ (dbgRefuse a0 a1 a2 a3).state := by
  unfold dbgRefuse
  refine dbg_kept ?_
  exact State.deny_kept k3
theorem State.debugWrite_kept {s₀ : State} {a0} {a1} {a2} {a3} {a4} {a5} {a6} (k0 : Kept s₀ a0) : Kept s₀ (State.debugWrite a0 a1 a2 a3 a4 a5 a6).state := by
  unfold State.debugWrite
  extract_lets +onlyGivenNames x0; clear_value x0
  extract_lets +onlyGivenNames x1
  have h2 : ∀ y0 y1, Kept s₀ y0 → Kept s₀ (x1 y0 y1).state := by
    unfold x1
    intro v3 v4 h5
    extract_lets +onlyGivenNames x6
    have h7 : Kept s₀ x6.2 := by unfold x6; exact State.engineWrite_kept h5
    clear_value x6
    split
    · refine dbg_kept ?_
      refine State.cacheWrite_kept ?_
      exact h7
    · refine dbgRefuse_kept ?_
      exact h7
  clear_value x1
  split
  · refine h2 _ _ ?_
    exact k0
  · extract_lets +onlyGivenNames x8
    have h9 : Kept s₀ x8.2 := by unfold x8; exact State.engineRead_kept k0
    clear_value x8
    split
    · rename_i m10 m11 m12
      refine h2 _ _ ?_
      exact h9
    · rename_i m13 m14
      refine dbg_kept ?_
      exact h9
theorem State.readMedia_kept {s₀ : State} {a0} {a1} {a2} {a3} (k0 : Kept s₀ a0) : Kept s₀ (State.readMedia a0 a1 a2 a3).state := by
  unfold State.readMedia
  extract_lets +onlyGivenNames x0; clear_value x0
  split
  · rename_i m1 m2
    exact dbg_kept k0
  · rename_i m3 m4 m5 m6 m7
    exact dbg_kept k0
  · rename_i m8 m9
    exact dbg_kept k0
  · rename_i m10 m11
    refine dbg_kept ?_
    split
    · rename_i m12 m13 m14 m15 m16
      refine State.report_kept ?_
      exact k0.congr rfl
    · rename_i m17 m18
      exact k0
theorem State.readPlain_kept {s₀ : State} {a0} {a1} {a2} {a3} (k0 : Kept s₀ a0) : Kept s₀ (State.readPlain a0 a1 a2 a3).state := by
  unfold State.readPlain
  extract_lets +onlyGivenNames x0
  have h1 : Kept s₀ x0.2 := by unfold x0; exact State.engineRead_kept k0
  clear_value x0
  split
  · rename_i m2 m3 m4
    refine dbg_kept ?_
    exact h1
  · rename_i m5 m6
    refine dbg_kept ?_
    exact h1
theorem execLineRead_kept {s₀ : State} {a0} {a1} {a2} {a3} (k3 : Kept s₀ a3) : KeptO s₀ (execLineRead a0 a1 a2 a3) := by
  unfold execLineRead
  refine KeptO.next ?_
  refine Kept.ite ?_ ?_
  · exact k3
  · refine State.command_kept k3 ?_
    intro v0 h1
    split
    · rename_i m2 m3
      exact dbgRefuse_kept h1
    · rename_i m4 m5 m6 m7
      split
      · exact dbgRefuse_kept h1
      · split
        · refine State.readPlain_kept ?_
          exact State.meetAt_kept h1
        · split
          · exact dbgRefuse_kept h1
          · refine State.readMedia_kept ?_
            exact State.meetAt_kept h1
theorem execLineWrite_kept {s₀ : State} {a0} {a1} {a2} {a3} {a4} {a5} (k5 : Kept s₀ a5) : KeptO s₀ (execLineWrite a0 a1 a2 a3 a4 a5) := by
  unfold execLineWrite
  refine KeptO.next ?_
  refine Kept.ite ?_ ?_
  · exact k5
  · refine State.command_kept k5 ?_
    intro v0 h1
    split
    · rename_i m2 m3
      exact dbgRefuse_kept h1
    · rename_i m4 m5 m6 m7
      split
      · exact dbgRefuse_kept h1
      · split
        · exact dbgRefuse_kept h1
        · refine State.debugWrite_kept ?_
          exact State.meetAt_kept h1
theorem execStructureRead_kept {s₀ : State} {a0} {a1} {a2} {a3} {a4} {a5} {a6} (k6 : Kept s₀ a6) : KeptO s₀ (execStructureRead a0 a1 a2 a3 a4 a5 a6) := by
  unfold execStructureRead
  refine KeptO.next ?_
  refine State.command_kept k6 ?_
  intro v0 h1
  split
  · exact dbgRefuse_kept h1
  · extract_lets +onlyGivenNames x2; clear_value x2
    extract_lets +onlyGivenNames x3; clear_value x3
    extract_lets +onlyGivenNames x4
    have h5 : Kept s₀ x4 := by unfold x4; exact State.chargeRead_kept h1
    clear_value x4
    split
    · rename_i m6 m7 m8
      exact dbg_kept h5
    · rename_i m9 m10
      exact dbg_kept h5
    · rename_i m11
      refine dbg_kept ?_
      refine State.report_kept ?_
      exact h5.congr rfl

/-! ## Pmc -/
theorem State.pmcZero_kept {s₀ : State} {a0} {a1} {a2} (k0 : Kept s₀ a0) : Kept s₀ (State.pmcZero a0 a1 a2) := by
  unfold State.pmcZero
  refine State.wf_kept ?_
  exact State.wf_kept k0
theorem execPmcEvenRead_kept {s₀ : State} {a0} {a1} {a2} {a3} (k3 : Kept s₀ a3) : KeptO s₀ (execPmcEvenRead a0 a1 a2 a3) := by
  unfold execPmcEvenRead
  refine KeptO.next ?_
  extract_lets +onlyGivenNames x0; clear_value x0
  extract_lets +onlyGivenNames x1; clear_value x1
  refine Kept.ite ?_ ?_
  · exact k3
  · refine State.under_kept k3 ?_ ?_
    · intro v2 h3
      refine State.under_kept h3 ?_ ?_
      · intro v4 h5
        refine Kept.ite ?_ ?_
        · refine State.send_kept ?_
          exact State.wf_kept h5
        · exact State.send_kept h5
      · intro v6 h7
        exact State.send_kept h7
    · intro v8 h9
      exact State.send_kept h9
theorem execPmcFiltWrite_kept {s₀ : State} {a0} {a1} {a2} {a3} {a4} (k4 : Kept s₀ a4) : KeptO s₀ (execPmcFiltWrite a0 a1 a2 a3 a4) := by
  unfold execPmcFiltWrite
  refine KeptO.next ?_
  extract_lets +onlyGivenNames x0; clear_value x0
  extract_lets +onlyGivenNames x1; clear_value x1
  extract_lets +onlyGivenNames x2; clear_value x2
  extract_lets +onlyGivenNames x3; clear_value x3
  extract_lets +onlyGivenNames x4; clear_value x4
  refine Kept.ite ?_ ?_
  · exact State.unheard_kept k4
  · refine Kept.ite ?_ ?_
    · exact k4
    · refine Kept.ite ?_ ?_
      · extract_lets +onlyGivenNames x5
        have h6 : Kept s₀ x5 := by
          unfold x5
          refine State.wf_kept ?_
          exact State.wf_kept k4
        clear_value x5
        refine each_keep (fun r => Kept s₀ r) ?_ ?_
        · exact h6
        · intro v7 v8 h9
          refine Kept.ite ?_ ?_
          · exact State.pmcZero_kept h9
          · exact h9
      · exact State.deny_kept k4
theorem execPmcSelWrite_kept {s₀ : State} {a0} {a1} {a2} {a3} {a4} (k4 : Kept s₀ a4) : KeptO s₀ (execPmcSelWrite a0 a1 a2 a3 a4) := by
  unfold execPmcSelWrite
  refine KeptO.next ?_
  extract_lets +onlyGivenNames x0; clear_value x0
  refine Kept.ite ?_ ?_
  · exact State.unheard_kept k4
  · refine Kept.ite ?_ ?_
    · exact k4
    · refine Kept.ite ?_ ?_
      · refine Kept.ite ?_ ?_
        · exact k4
        · exact State.deny_kept k4
      · refine each_keep (fun r => Kept s₀ r) ?_ ?_
        · exact k4
        · intro v1 v2 h3
          extract_lets +onlyGivenNames x4; clear_value x4
          extract_lets +onlyGivenNames x5; clear_value x5
          extract_lets +onlyGivenNames x6; clear_value x6
          extract_lets +onlyGivenNames x7
          have h8 : Kept s₀ x7 := by
            unfold x7
            refine Kept.ite ?_ ?_
            · exact State.wf_kept h3
            · refine State.pmcZero_kept ?_
              exact State.wf_kept h3
          clear_value x7
          extract_lets +onlyGivenNames x9
          have h10 : Kept s₀ x9 := by
            unfold x9
            refine Kept.ite ?_ ?_
            · refine Kept.ite ?_ ?_
              · exact State.pmcZero_kept h8
              · exact h8
            · exact h3
          clear_value x9
          refine Kept.ite ?_ ?_
          · refine State.pmcZero_kept ?_
            refine State.pmcZero_kept ?_
            exact State.wf_kept h10
          · exact h10
theorem execReadCounters_kept {s₀ : State} {a0} {a1} {a2} {a3} (k3 : Kept s₀ a3) : KeptO s₀ (execReadCounters a0 a1 a2 a3) := by
  unfold execReadCounters
  refine KeptO.next ?_
  refine State.command_kept k3 ?_
  intro v0 h1
  extract_lets +onlyGivenNames x2; clear_value x2
  extract_lets +onlyGivenNames x3; clear_value x3
  extract_lets +onlyGivenNames x4; clear_value x4
  extract_lets +onlyGivenNames x5; clear_value x5
  extract_lets +onlyGivenNames x6; clear_value x6
  split
  · exact answer_kept h1
  · refine Kept.answer ?_
    exact h1

/-! ## RegAccess -/
theorem State.plain_kept {s₀ : State} {a0} {a1} {a2} {a3} (k0 : Kept s₀ a0) : Kept s₀ (State.plain a0 a1 a2 a3) := by
  unfold State.plain
  refine each_keep (fun r => Kept s₀ r) ?_ ?_
  · exact k0
  · intro v0 v1 h2
    split
    · rename_i m3 m4 m5
      exact State.wf_kept h2
    · rename_i m6 m7
      exact h2
theorem State.irqWrite_kept {s₀ : State} {a0} {a1} {a2} {a3} (k0 : Kept s₀ a0) : Kept s₀ (State.irqWrite a0 a1 a2 a3) := by
  unfold State.irqWrite
  refine Kept.ite ?_ ?_
  · exact k0
  · refine Kept.ite ?_ ?_
    · exact k0
    · refine Kept.ite ?_ ?_
      · refine Kept.ite ?_ ?_
        · refine State.after_kept k0 ?_
          exact execIrqDone_kept k0
        · exact k0
      · exact State.plain_kept k0
theorem State.pmcRead_kept {s₀ : State} {a0} {a1} {a2} {a3} {a4} (k0 : Kept s₀ a0) : Kept s₀ (State.pmcRead a0 a1 a2 a3 a4).2 := by
  unfold State.pmcRead
  split
  · refine Kept.snd ?_
    exact State.deny_kept k0
  · split
    · extract_lets +onlyGivenNames x0; clear_value x0
      refine Kept.snd ?_
      refine Kept.ite ?_ ?_
      · exact State.wf_kept k0
      · exact k0
    · split
      · refine Kept.snd ?_
        exact k0
      · refine Kept.snd ?_
        exact k0
theorem State.readHub_kept {s₀ : State} {a0} {a1} {a2} (k0 : Kept s₀ a0) : Kept s₀ (State.readHub a0 a1 a2).2 := by
  unfold State.readHub
  split
  · refine Kept.snd ?_
    exact State.wf_kept k0
  · split
    · split
      · refine Kept.snd ?_
        exact k0
      · split
        · extract_lets +onlyGivenNames x0
          have h1 : Kept s₀ x0 := by unfold x0; exact State.takeTrace_kept k0
          clear_value x0
          refine Kept.snd ?_
          exact h1
        · refine Kept.snd ?_
          exact k0
    · split
      · rename_i m2 m3 m4
        split
        · refine Kept.snd ?_
          exact k0
        · split
          · refine Kept.snd ?_
            exact k0
          · split
            · refine Kept.snd ?_
              exact k0
            · refine Kept.snd ?_
              exact k0
      · rename_i m5 m6
        split
        · refine Kept.snd ?_
          exact k0
        · refine Kept.snd ?_
          exact k0
theorem State.windowWord_kept {s₀ : State} {a0} {a1} (k0 : Kept s₀ a0) : Kept s₀ (State.windowWord a0 a1).2 := by
  unfold State.windowWord
  extract_lets +onlyGivenNames x0; clear_value x0
  extract_lets +onlyGivenNames x1; clear_value x1
  refine Kept.snd ?_
  refine State.countHub_kept ?_
  exact k0.congr rfl
theorem State.windowRead_kept {s₀ : State} {a0} {a1} {a2} (k0 : Kept s₀ a0) : Kept s₀ (State.windowRead a0 a1 a2).2 := by
  unfold State.windowRead
  split
  · exact State.windowWord_kept k0
  · refine Kept.snd ?_
    exact State.deny_kept k0
theorem State.regRead_kept {s₀ : State} {a0} {a1} {a2} (k0 : Kept s₀ a0) : Kept s₀ (State.regRead a0 a1 a2).2 := by
  unfold State.regRead
  split
  · exact State.windowRead_kept k0
  · split
    · refine Kept.snd ?_
      refine State.report_kept ?_
      exact k0.congr rfl
    · split
      · refine Kept.snd ?_
        exact State.deny_kept k0
      · split
        · refine Kept.snd ?_
          exact k0
        · split
          · rename_i m0 m1 m2
            split
            · refine Kept.snd ?_
              exact k0
            · extract_lets +onlyGivenNames x3
              have h4 : Kept s₀ x3 := by unfold x3; exact State.wakeTile_kept k0
              clear_value x3
              split
              · rename_i m5 m6 m7 m8
                exact State.pmcRead_kept h4
              · rename_i m9 m10
                refine Kept.snd ?_
                exact h4
          · rename_i m11 m12
            split
            · rename_i m13 m14 m15 m16
              exact State.pmcRead_kept k0
            · rename_i m17 m18
              exact State.readHub_kept k0
theorem State.readWords_kept {s₀ : State} {a0} {a1} {a2} {a3} (k0 : Kept s₀ a0) : Kept s₀ (State.readWords a0 a1 a2 a3).2 := by
  induction' a3 with n ih generalizing a0 a2
  · unfold State.readWords
    refine Kept.snd ?_
    exact k0
  · unfold State.readWords
    extract_lets +onlyGivenNames x0
    have h1 : Kept s₀ x0.2 := by unfold x0; exact State.regRead_kept k0
    clear_value x0
    extract_lets +onlyGivenNames x2
    have h3 : Kept s₀ x2.2 := by
      unfold x2
      refine ih ?_
      exact h1
    clear_value x2
    refine Kept.snd ?_
    exact h3
theorem State.writeLnkCtrl_kept {s₀ : State} {a0} {a1} {a2} {a3} {a4} (k0 : Kept s₀ a0) : Kept s₀ (State.writeLnkCtrl a0 a1 a2 a3 a4) := by
  unfold State.writeLnkCtrl
  extract_lets +onlyGivenNames x0; clear_value x0
  extract_lets +onlyGivenNames x1; clear_value x1
  extract_lets +onlyGivenNames x2; clear_value x2
  extract_lets +onlyGivenNames x3; clear_value x3
  refine Kept.ite ?_ ?_
  · exact k0
  · refine State.regWrite_kept k0 ?_
    intro v4 h5
    extract_lets +onlyGivenNames x6
    have h7 : Kept s₀ x6 := by
      unfold x6
      refine Kept.ite ?_ ?_
      · refine State.after_kept h5 ?_
        exact execLnkRetrain_kept h5
      · exact h5
    clear_value x6
    extract_lets +onlyGivenNames x8
    have h9 : Kept s₀ x8 := by
      unfold x8
      refine State.after_kept h7 ?_
      exact execLnkDisable_kept h7
    clear_value x8
    refine Kept.ite ?_ ?_
    · exact State.wf_kept h9
    · exact h9
theorem State.writeAs_kept {s₀ : State} {a0} {a1} {a2} {a3} {a4} {a5} (k0 : Kept s₀ a0) (k5 : ∀ y0, Kept s₀ y0 → Kept s₀ (a5 y0)) : Kept s₀ (State.writeAs a0 a1 a2 a3 a4 a5) := by
  unfold State.writeAs
  exact State.regWrite_kept k0 k5
theorem State.writeRdCfg_kept {s₀ : State} {a0} {a1} {a2} {a3} (k0 : Kept s₀ a0) : Kept s₀ (State.writeRdCfg a0 a1 a2 a3) := by
  unfold State.writeRdCfg
  extract_lets +onlyGivenNames x0; clear_value x0
  refine State.writeAs_kept k0 ?_
  intro v1 h2
  extract_lets +onlyGivenNames x3
  have h4 : Kept s₀ x3 := by unfold x3; exact State.plain_kept h2
  clear_value x3
  exact State.wf_kept h4
theorem State.writeChkCtrl_kept {s₀ : State} {a0} {a1} {a2} {a3} (k0 : Kept s₀ a0) : Kept s₀ (State.writeChkCtrl a0 a1 a2 a3) := by
  unfold State.writeChkCtrl
  extract_lets +onlyGivenNames x0; clear_value x0
  refine Kept.ite ?_ ?_
  · exact k0
  · refine State.writeAs_kept k0 ?_
    intro v1 h2
    extract_lets +onlyGivenNames x3
    have h4 : Kept s₀ x3 := by unfold x3; exact State.plain_kept h2
    clear_value x3
    extract_lets +onlyGivenNames x5
    have h6 : Kept s₀ x5 := by
      unfold x5
      refine Kept.ite ?_ ?_
      · refine State.after_kept h4 ?_
        exact execCheckerOpen_kept h4
      · exact h4
    clear_value x5
    extract_lets +onlyGivenNames x7
    have h8 : Kept s₀ x7 := by
      unfold x7
      refine Kept.ite ?_ ?_
      · refine State.after_kept h6 ?_
        exact execCheckerClose_kept h6
      · exact h6
    clear_value x7
    extract_lets +onlyGivenNames x9
    have h10 : Kept s₀ x9 := by
      unfold x9
      refine Kept.ite ?_ ?_
      · refine State.after_kept h8 ?_
        exact execCheckerWrite_kept h8
      · exact h8
    clear_value x9
    refine Kept.ite ?_ ?_
    · refine State.after_kept h10 ?_
      exact execCheckerRead_kept h10
    · exact h10
theorem State.writeRmCtrl_kept {s₀ : State} {a0} {a1} {a2} {a3} (k0 : Kept s₀ a0) : Kept s₀ (State.writeRmCtrl a0 a1 a2 a3) := by
  unfold State.writeRmCtrl
  extract_lets +onlyGivenNames x0; clear_value x0
  extract_lets +onlyGivenNames x1; clear_value x1
  extract_lets +onlyGivenNames x2; clear_value x2
  refine State.regWrite_kept k0 ?_
  intro v3 h4
  extract_lets +onlyGivenNames x5
  have h6 : Kept s₀ x5 := by
    unfold x5
    refine Kept.ite ?_ ?_
    · exact h4
    · exact State.plain_kept h4
  clear_value x5
  refine Kept.ite ?_ ?_
  · exact h6
  · refine State.after_kept h6 ?_
    split
    · rename_i m7 m8
      exact execClean_kept h6
    · rename_i m9 m10
      exact execInvalidate_kept h6
    · rename_i m11 m12
      exact execCleanAndInvalidate_kept h6
    · rename_i m13 m14
      exact execLock_kept h6
    · rename_i m15 m16
      exact execUnlock_kept h6
    · rename_i m17 m18 m19 m20 m21 m22
      refine KeptO.next ?_
      exact h6
theorem State.writeCifErr_kept {s₀ : State} {a0} {a1} {a2} {a3} (k0 : Kept s₀ a0) : Kept s₀ (State.writeCifErr a0 a1 a2 a3) := by
  unfold State.writeCifErr
  refine State.writeAs_kept k0 ?_
  intro v0 h1
  refine Kept.ite ?_ ?_
  · refine State.wf_kept ?_
    refine State.wf_kept ?_
    exact State.wf_kept h1
  · exact h1
theorem State.writePmc_kept {s₀ : State} {a0} {a1} {a2} {a3} {a4} (k0 : Kept s₀ a0) : Kept s₀ (State.writePmc a0 a1 a2 a3 a4) := by
  unfold State.writePmc
  extract_lets +onlyGivenNames x0; clear_value x0
  refine Kept.ite ?_ ?_
  · refine State.after_kept k0 ?_
    exact execPmcSelWrite_kept k0
  · refine Kept.ite ?_ ?_
    · refine State.after_kept k0 ?_
      exact execPmcFiltWrite_kept k0
    · refine Kept.ite ?_ ?_
      · refine State.regWrite_kept k0 ?_
        intro v1 h2
        refine each_keep (fun r => Kept s₀ r) ?_ ?_
        · exact h2
        · intro v3 v4 h5
          exact State.wf_kept h5
      · exact k0
theorem State.writeTile_kept {s₀ : State} {a0} {a1} {a2} {a3} {a4} {a5} (k0 : Kept s₀ a0) : Kept s₀ (State.writeTile a0 a1 a2 a3 a4 a5) := by
  unfold State.writeTile
  refine Kept.ite ?_ ?_
  · extract_lets +onlyGivenNames x0; clear_value x0
    refine Kept.ite ?_ ?_
    · exact State.writeLnkCtrl_kept k0
    · refine Kept.ite ?_ ?_
      · refine State.after_kept k0 ?_
        exact execLnkErrClear_kept k0
      · exact k0
  · refine Kept.ite ?_ ?_
    · exact State.writeRdCfg_kept k0
    · refine Kept.ite ?_ ?_
      · refine Kept.ite ?_ ?_
        · refine State.after_kept k0 ?_
          exact execSramClear_kept k0
        · exact k0
      · refine Kept.ite ?_ ?_
        · exact State.writeChkCtrl_kept k0
        · refine Kept.ite ?_ ?_
          · refine Kept.ite ?_ ?_
            · exact k0
            · refine State.writeAs_kept k0 ?_
              intro v1 h2
              exact State.plain_kept h2
          · refine Kept.ite ?_ ?_
            · exact State.writeRmCtrl_kept k0
            · refine Kept.ite ?_ ?_
              · refine Kept.ite ?_ ?_
                · exact k0
                · refine State.writeAs_kept k0 ?_
                  intro v3 h4
                  exact State.plain_kept h4
              · refine Kept.ite ?_ ?_
                · exact State.writeCifErr_kept k0
                · refine Kept.ite ?_ ?_
                  · refine State.writeAs_kept k0 ?_
                    intro v5 h6
                    refine State.undRefresh_kept ?_
                    refine State.refreshEligible_kept ?_
                    exact State.plain_kept h6
                  · split
                    · rename_i m7 m8 m9 m10
                      exact State.writePmc_kept k0
                    · rename_i m11 m12
                      refine State.writeAs_kept k0 ?_
                      intro v13 h14
                      exact State.plain_kept h14
theorem State.writeTileCtrl_kept {s₀ : State} {a0} {a1} {a2} {a3} (k0 : Kept s₀ a0) : Kept s₀ (State.writeTileCtrl a0 a1 a2 a3) := by
  unfold State.writeTileCtrl
  extract_lets +onlyGivenNames x0; clear_value x0
  extract_lets +onlyGivenNames x1; clear_value x1
  extract_lets +onlyGivenNames x2; clear_value x2
  refine Kept.ite ?_ ?_
  · exact k0
  · refine State.regWrite_kept k0 ?_
    intro v3 h4
    extract_lets +onlyGivenNames x5
    have h6 : Kept s₀ x5 := by
      unfold x5
      refine Kept.ite ?_ ?_
      · exact State.isolateWrite_kept h4
      · exact h4
    clear_value x5
    extract_lets +onlyGivenNames x7
    have h8 : Kept s₀ x7 := by
      unfold x7
      refine Kept.ite ?_ ?_
      · exact State.restoreWrite_kept h6
      · exact h6
    clear_value x7
    extract_lets +onlyGivenNames x9
    have h10 : Kept s₀ x9 := by unfold x9; exact State.wf_kept h8
    clear_value x9
    refine Kept.ite ?_ ?_
    · exact h10
    · exact State.nurseWrite_kept h10
theorem State.writePsCtrl_kept {s₀ : State} {a0} {a1} {a2} (k0 : Kept s₀ a0) : Kept s₀ (State.writePsCtrl a0 a1 a2) := by
  unfold State.writePsCtrl
  extract_lets +onlyGivenNames x0; clear_value x0
  extract_lets +onlyGivenNames x1; clear_value x1
  extract_lets +onlyGivenNames x2; clear_value x2
  extract_lets +onlyGivenNames x3; clear_value x3
  extract_lets +onlyGivenNames x4; clear_value x4
  extract_lets +onlyGivenNames x5; clear_value x5
  extract_lets +onlyGivenNames x6
  have h7 : Kept s₀ x6 := by
    unfold x6
    refine Kept.ite ?_ ?_
    · refine State.after_kept k0 ?_
      split
      · rename_i m8
        exact execPsRead_kept k0
      · rename_i m9
        exact execPsWrite_kept k0
      · rename_i m10
        exact execPsDelete_kept k0
      · rename_i m11 m12 m13 m14
        refine KeptO.next ?_
        exact k0
    · refine Kept.ite ?_ ?_
      · exact k0
      · refine State.regWrite_kept k0 ?_
        intro v15 h16
        exact State.plain_kept h16
  clear_value x6
  refine Kept.ite ?_ ?_
  · exact h7
  · refine Kept.ite ?_ ?_
    · exact h7
    · refine State.after_kept h7 ?_
      exact execPsShadow_kept h7
theorem State.writeRstCtrl_kept {s₀ : State} {a0} {a1} {a2} (k0 : Kept s₀ a0) : Kept s₀ (State.writeRstCtrl a0 a1 a2) := by
  unfold State.writeRstCtrl
  refine Kept.ite ?_ ?_
  · exact State.rstCtrl_kept k0
  · refine State.writeAs_kept k0 ?_
    intro v0 h1
    exact State.plain_kept h1
theorem State.writeStdCtrl_kept {s₀ : State} {a0} {a1} {a2} (k0 : Kept s₀ a0) : Kept s₀ (State.writeStdCtrl a0 a1 a2) := by
  unfold State.writeStdCtrl
  extract_lets +onlyGivenNames may mark acts; clear_value may mark
  extract_lets +onlyGivenNames busy s'
  have ha : ∀ a ∈ acts, ∀ s, Kept s₀ s → Kept s₀ (a.2.2 s) := by
    intro a h
    simp only [acts, List.mem_cons, List.not_mem_nil, or_false] at h
    rcases h with rfl | rfl | rfl | rfl | rfl
    · exact fun _ h => State.verifyImage_kept h
    · exact fun _ h => State.applyLive_kept h
    · exact fun _ h => State.markResume_kept h
    · exact fun _ h => State.returnPrev_kept h
    · exact fun _ h => State.discardStaged_kept h
  have h : Kept s₀ s' := each_keep_mem (fun r => Kept s₀ r) k0 (fun s a hm h => ha a (List.mem_filter.mp hm).1 s h)
  clear_value s'
  split
  · split
    · exact h
    · exact State.deny_kept h
  · exact h
theorem State.writeRerootCtrl_kept {s₀ : State} {a0} {a1} {a2} (k0 : Kept s₀ a0) : Kept s₀ (State.writeRerootCtrl a0 a1 a2) := by
  unfold State.writeRerootCtrl
  refine Kept.ite ?_ ?_
  · exact k0
  · refine Kept.ite ?_ ?_
    · refine State.after_kept k0 ?_
      exact execReroot_kept k0
    · refine State.writeAs_kept k0 ?_
      intro v0 h1
      exact State.plain_kept h1
theorem State.writeLogCtrl_kept {s₀ : State} {a0} {a1} {a2} (k0 : Kept s₀ a0) : Kept s₀ (State.writeLogCtrl a0 a1 a2) := by
  unfold State.writeLogCtrl
  refine State.writeAs_kept k0 ?_
  intro v0 h1
  extract_lets +onlyGivenNames x2
  have h3 : Kept s₀ x2 := by unfold x2; exact State.plain_kept h1
  clear_value x2
  refine Kept.ite ?_ ?_
  · exact State.freezeLog_kept h3
  · exact State.thawLog_kept h3
theorem State.writeTraceCtrl_kept {s₀ : State} {a0} {a1} {a2} (k0 : Kept s₀ a0) : Kept s₀ (State.writeTraceCtrl a0 a1 a2) := by
  unfold State.writeTraceCtrl
  refine Kept.ite ?_ ?_
  · refine State.after_kept k0 ?_
    exact execTraceStart_kept k0
  · refine Kept.ite ?_ ?_
    · refine State.after_kept k0 ?_
      exact execTraceStop_kept k0
    · refine State.writeAs_kept k0 ?_
      intro v0 h1
      exact State.plain_kept h1
theorem State.writeHpt_kept {s₀ : State} {a0} {a1} {a2} {a3} {a4} (k0 : Kept s₀ a0) : Kept s₀ (State.writeHpt a0 a1 a2 a3 a4) := by
  unfold State.writeHpt
  refine Kept.ite ?_ ?_
  · exact k0
  · refine Kept.ite ?_ ?_
    · refine State.after_kept k0 ?_
      exact execHptWfailClear_kept k0
    · refine Kept.ite ?_ ?_
      · refine State.after_kept k0 ?_
        exact execHptRdlatClear_kept k0
      · refine Kept.ite ?_ ?_
        · refine State.after_kept k0 ?_
          exact execHptLtClear_kept k0
        · exact k0
theorem State.writeHub_kept {s₀ : State} {a0} {a1} {a2} {a3} (k0 : Kept s₀ a0) : Kept s₀ (State.writeHub a0 a1 a2 a3) := by
  unfold State.writeHub
  refine Kept.ite ?_ ?_
  · refine Kept.ite ?_ ?_
    · exact State.writeTileCtrl_kept k0
    · exact k0
  · refine Kept.ite ?_ ?_
    · exact k0
    · refine Kept.ite ?_ ?_
      · exact State.writePsCtrl_kept k0
      · refine Kept.ite ?_ ?_
        · refine State.regWrite_kept k0 ?_
          intro v0 h1
          exact h1.congr (by simp only [State.core])
        · refine Kept.ite ?_ ?_
          · refine Kept.ite ?_ ?_
            · refine State.after_kept k0 ?_
              exact execSeqFaultClear_kept k0
            · exact k0
          · refine Kept.ite ?_ ?_
            · refine Kept.ite ?_ ?_
              · refine State.after_kept k0 ?_
                exact execSeqVinClear_kept k0
              · exact k0
            · refine Kept.ite ?_ ?_
              · exact State.writeRstCtrl_kept k0
              · refine Kept.ite ?_ ?_
                · exact State.writeStdCtrl_kept k0
                · refine Kept.ite ?_ ?_
                  · exact k0
                  · refine Kept.ite ?_ ?_
                    · exact State.writeRerootCtrl_kept k0
                    · refine Kept.ite ?_ ?_
                      · exact State.writeLogCtrl_kept k0
                      · refine Kept.ite ?_ ?_
                        · exact State.writeTraceCtrl_kept k0
                        · split
                          · rename_i m2 m3 m4 m5
                            exact State.writeHpt_kept k0
                          · rename_i m6 m7 m8 m9 m10 m11
                            exact State.writePmc_kept k0
                          · rename_i m12 m13 m14 m15
                            refine State.writeAs_kept k0 ?_
                            intro v16 h17
                            exact State.plain_kept h17
theorem State.regWriteWord_kept {s₀ : State} {a0} {a1} {a2} {a3} (k0 : Kept s₀ a0) : Kept s₀ (State.regWriteWord a0 a1 a2 a3) := by
  unfold State.regWriteWord
  refine Kept.ite ?_ ?_
  · exact State.unheard_kept k0
  · refine Kept.ite ?_ ?_
    · exact k0
    · refine Kept.ite ?_ ?_
      · refine Kept.ite ?_ ?_
        · exact State.irqWrite_kept k0
        · exact k0
      · refine Kept.ite ?_ ?_
        · refine Kept.ite ?_ ?_
          · exact State.plain_kept k0
          · exact k0
        · split
          · rename_i m0 m1 m2
            refine Kept.ite ?_ ?_
            · exact k0
            · refine State.writeTile_kept ?_
              exact State.wakeTile_kept k0
          · rename_i m3 m4
            exact State.writeHub_kept k0
theorem State.writeWords_kept {s₀ : State} {a0} {a1} {a2} {a3} (k0 : Kept s₀ a0) : Kept s₀ (State.writeWords a0 a1 a2 a3) := by
  induction' a3 with v rest ih generalizing a0 a2
  · unfold State.writeWords
    exact k0
  · unfold State.writeWords
    refine ih ?_
    exact State.regWriteWord_kept k0
theorem execManagementRegisterWrite_kept {s₀ : State} {a0} {a1} {a2} {a3} (k3 : Kept s₀ a3) : KeptO s₀ (execManagementRegisterWrite a0 a1 a2 a3) := by
  unfold execManagementRegisterWrite
  refine KeptO.next ?_
  refine Kept.ite ?_ ?_
  · exact State.regWriteWord_kept k3
  · exact k3
theorem execRegRead_kept {s₀ : State} {a0} {a1} (k1 : Kept s₀ a1) : KeptO s₀ (execRegRead a0 a1) := by
  unfold execRegRead
  refine KeptO.next ?_
  refine State.sidebandUnder_kept k1 ?_
  intro v0 h1
  split
  · refine Kept.third ?_
    exact h1
  · extract_lets +onlyGivenNames x2
    have h3 : Kept s₀ x2.2 := by unfold x2; exact State.regRead_kept h1
    clear_value x2
    refine Kept.third ?_
    exact h3
theorem execRegisterRead_kept {s₀ : State} {a0} {a1} {a2} {a3} (k3 : Kept s₀ a3) : KeptO s₀ (execRegisterRead a0 a1 a2 a3) := by
  unfold execRegisterRead
  refine KeptO.next ?_
  refine State.command_kept k3 ?_
  intro v0 h1
  split
  · exact answer_kept h1
  · extract_lets +onlyGivenNames x2
    have h3 : Kept s₀ x2.2 := by unfold x2; exact State.readWords_kept h1
    clear_value x2
    refine Kept.answer ?_
    exact h3
theorem execRegisterWrite_kept {s₀ : State} {a0} {a1} {a2} {a3} (k3 : Kept s₀ a3) : KeptO s₀ (execRegisterWrite a0 a1 a2 a3) := by
  unfold execRegisterWrite
  refine KeptO.next ?_
  refine State.command_kept k3 ?_
  intro v0 h1
  split
  · exact answer_kept h1
  · refine answer_kept ?_
    exact State.writeWords_kept h1
theorem execSeedbankWindowRead_kept {s₀ : State} {a0} {a1} {a2} (k2 : Kept s₀ a2) : KeptO s₀ (execSeedbankWindowRead a0 a1 a2) := by
  unfold execSeedbankWindowRead
  refine KeptO.next ?_
  refine Kept.ite ?_ ?_
  · exact State.unheard_kept k2
  · refine Kept.ite ?_ ?_
    · exact k2
    · extract_lets +onlyGivenNames x0
      have h1 : Kept s₀ x0.2 := by unfold x0; exact State.windowRead_kept k2
      clear_value x0
      refine State.readOut_kept ?_
      exact h1

/-! ## Dispatch -/
theorem exec_kept {s₀ : State} {a0} {a1} (k1 : Kept s₀ a1) : KeptO s₀ (exec a0 a1) := by
  unfold exec
  split
  · rename_i m0 m1 m2 m3 m4
    exact execFabricWordReceive_kept k1
  · rename_i m5 m6 m7 m8
    exact execHelperComplete_kept k1
  · rename_i m9 m10
    exact execHeldRequestRelease_kept k1
  · rename_i m11 m12 m13
    exact execIsolate_kept k1
  · rename_i m14 m15 m16
    exact execCatchEscrowDrainDone_kept k1
  · rename_i m17 m18
    exact execIsolationReissue_kept k1
  · rename_i m19 m20 m21
    exact execRestore_kept k1
  · rename_i m22 m23 m24
    exact execRestoreVerifyDone_kept k1
  · rename_i m25 m26
    exact execRebuildStripe_kept k1
  · rename_i m27 m28
    exact execHomeMoveBack_kept k1
  · rename_i m29 m30 m31 m32
    exact execTileService_kept k1
  · rename_i m33 m34
    exact execTileWatchdogExpire_kept k1
  · rename_i m35 m36
    exact execStewardLockup_kept k1
  · rename_i m37 m38
    exact execTileFabricLinkFail_kept k1
  · rename_i m39 m40
    exact execTileInternalError_kept k1
  · rename_i m41 m42 m43
    exact execRead_kept k1
  · rename_i m44 m45 m46 m47
    exact execProgFast_kept k1
  · rename_i m48 m49 m50 m51
    exact execSheetLoad_kept k1
  · rename_i m52 m53 m54
    exact execProgDense_kept k1
  · rename_i m55 m56 m57
    exact execSuspend_kept k1
  · rename_i m58 m59 m60
    exact execDenseSuspendReached_kept k1
  · rename_i m61 m62 m63
    exact execResume_kept k1
  · rename_i m64 m65 m66
    exact execDenseAutoResume_kept k1
  · rename_i m67 m68 m69
    exact execAbort_kept k1
  · rename_i m70 m71 m72
    exact execStatus_kept k1
  · rename_i m73 m74 m75
    exact execIdentify_kept k1
  · rename_i m76 m77 m78
    exact execRefLoad_kept k1
  · rename_i m79 m80 m81
    exact execRefDefault_kept k1
  · rename_i m82 m83 m84
    exact execEcho_kept k1
  · rename_i m85 m86 m87
    exact execArrayReadDone_kept k1
  · rename_i m88 m89 m90 m91 m92
    exact execFastProgramDone_kept k1
  · rename_i m93 m94 m95 m96 m97
    exact execDenseProgramDone_kept k1
  · rename_i m98 m99 m100
    exact execBadBlockReceive_kept k1
  · rename_i m101 m102
    exact execVmedLowDetect_kept k1
  · rename_i m103 m104 m105 m106
    exact execReadData_kept k1
  · rename_i m107 m108 m109
    exact execCompletion_kept k1
  · rename_i m110 m111 m112 m113
    exact execStatusData_kept k1
  · rename_i m114 m115 m116 m117
    exact execIdentData_kept k1
  · rename_i m118 m119 m120 m121
    exact execEchoData_kept k1
  · rename_i m122 m123 m124
    exact execErrNotice_kept k1
  · rename_i m125 m126
    exact execBadResponseReceive_kept k1
  · rename_i m127 m128
    exact execStatusPollTimeout_kept k1
  · rename_i m129 m130 m131
    exact execCommandResponseTimeout_kept k1
  · rename_i m132 m133
    exact execLinkCrcErrorLimit_kept k1
  · rename_i m134 m135
    exact execBlockLockLoss_kept k1
  · rename_i m136 m137
    exact execDetectTerminationSensed_kept k1
  · rename_i m138 m139
    exact execBitLockAchieved_kept k1
  · rename_i m140 m141
    exact execBlockLockAchieved_kept k1
  · rename_i m142 m143 m144
    exact execTrainPresetsDone_kept k1
  · rename_i m145 m146
    exact execConfigTs2Matched_kept k1
  · rename_i m147 m148
    exact execRecoveryDone_kept k1
  · rename_i m149 m150
    exact execTrainingStateTimeout_kept k1
  · rename_i m151 m152
    exact execPackageTs0Receive_kept k1
  · rename_i m153 m154
    exact execUnannouncedIdleTimeout_kept k1
  · rename_i m155 m156 m157
    exact execLnkRetrain_kept k1
  · rename_i m158 m159 m160 m161
    exact execLnkDisable_kept k1
  · rename_i m162 m163 m164
    exact execLnkErrClear_kept k1
  · rename_i m165 m166 m167 m168
    exact execStageImage_kept k1
  · rename_i m169
    exact execImageChecksDone_kept k1
  · rename_i m170 m171
    exact execVerify_kept k1
  · rename_i m172 m173
    exact execApplyLive_kept k1
  · rename_i m174 m175 m176
    exact execApplyAtResume_kept k1
  · rename_i m177 m178
    exact execReturnPrev_kept k1
  · rename_i m179 m180
    exact execDiscardStaged_kept k1
  · rename_i m181 m182 m183 m184
    exact execImageControl_kept k1
  · rename_i m185
    exact execApplyComparisonDone_kept k1
  · rename_i m186 m187
    exact execCompartmentQuiet_kept k1
  · rename_i m188 m189
    exact execQuietWaitExpire_kept k1
  · rename_i m190 m191
    exact execForcedHoldExpire_kept k1
  · rename_i m192 m193
    exact execSwitchDeadlineExpire_kept k1
  · rename_i m194
    exact execApplyCommit_kept k1
  · rename_i m195
    exact execApplyCommitDone_kept k1
  · rename_i m196
    exact execStandImageResumeCheck_kept k1
  · rename_i m197 m198 m199 m200 m201
    exact execHostLinkTrained_kept k1
  · rename_i m202 m203 m204 m205
    exact execIdeIntegrityFail_kept k1
  · rename_i m206 m207 m208 m209 m210
    exact execIdeKeyProgram_kept k1
  · rename_i m211 m212 m213 m214 m215 m216
    exact execCxlMemRead_kept k1
  · rename_i m217 m218 m219 m220 m221 m222 m223
    exact execCxlMemWrite_kept k1
  · rename_i m224 m225 m226 m227 m228 m229 m230 m231
    exact execCxlMemPartialWrite_kept k1
  · rename_i m232 m233 m234 m235 m236
    exact execMemSpecRd_kept k1
  · rename_i m237 m238 m239
    exact execGlobalPersistentFlush_kept k1
  · rename_i m240 m241 m242 m243 m244 m245
    exact execConfigRequest_kept k1
  · rename_i m246 m247 m248 m249
    exact execCdatRead_kept k1
  · rename_i m250 m251 m252 m253
    exact execSpdmRequest_kept k1
  · rename_i m254 m255 m256 m257
    exact execGetEventRecords_kept k1
  · rename_i m258 m259 m260 m261 m262 m263
    exact execClearEventRecords_kept k1
  · rename_i m264 m265 m266
    exact execGetEventInterruptPolicy_kept k1
  · rename_i m267 m268 m269 m270
    exact execSetEventInterruptPolicy_kept k1
  · rename_i m271 m272 m273
    exact execGetFwInfo_kept k1
  · rename_i m274 m275 m276 m277 m278 m279 m280
    exact execTransferFw_kept k1
  · rename_i m281 m282 m283 m284 m285
    exact execActivateFw_kept k1
  · rename_i m286 m287 m288
    exact execGetTimestamp_kept k1
  · rename_i m289 m290 m291 m292
    exact execSetTimestamp_kept k1
  · rename_i m293 m294 m295
    exact execGetSupportedLogs_kept k1
  · rename_i m296 m297 m298 m299
    exact execGetLog_kept k1
  · rename_i m300 m301 m302
    exact execIdentifyMemoryDevice_kept k1
  · rename_i m303 m304 m305
    exact execGetPartitionInfo_kept k1
  · rename_i m306 m307 m308 m309 m310
    exact execGetLsa_kept k1
  · rename_i m311 m312 m313 m314 m315
    exact execSetLsa_kept k1
  · rename_i m316 m317 m318
    exact execGetHealthInfo_kept k1
  · rename_i m319 m320 m321
    exact execGetAlertConfig_kept k1
  · rename_i m322 m323 m324 m325
    exact execSetAlertConfig_kept k1
  · rename_i m326 m327 m328
    exact execGetShutdownState_kept k1
  · rename_i m329 m330 m331 m332
    exact execSetShutdownState_kept k1
  · rename_i m333 m334 m335 m336 m337
    exact execGetPoisonList_kept k1
  · rename_i m338 m339 m340 m341
    exact execInjectPoison_kept k1
  · rename_i m342 m343 m344 m345 m346
    exact execClearPoison_kept k1
  · rename_i m347 m348 m349 m350 m351
    exact execGetScanMediaCapabilities_kept k1
  · rename_i m352 m353 m354 m355 m356
    exact execScanMedia_kept k1
  · rename_i m357 m358 m359
    exact execGetScanMediaResults_kept k1
  · rename_i m360 m361 m362
    exact execSanitize_kept k1
  · rename_i m363 m364 m365
    exact execSecureErase_kept k1
  · rename_i m366 m367 m368 m369
    exact execUnsupportedCommand_kept k1
  · rename_i m370 m371 m372
    exact execGetLdInfo_kept k1
  · rename_i m373 m374 m375 m376
    exact execGetLdAllocations_kept k1
  · rename_i m377 m378 m379 m380
    exact execSetLdAllocations_kept k1
  · rename_i m381 m382 m383 m384
    exact execCreateQueuePair_kept k1
  · rename_i m385 m386 m387 m388
    exact execDeleteQueuePair_kept k1
  · rename_i m389 m390 m391 m392
    exact execGetQueuePairStatus_kept k1
  · rename_i m393 m394 m395 m396 m397
    exact execSqTailDoorbell_kept k1
  · rename_i m398 m399 m400 m401 m402
    exact execCqHeadDoorbell_kept k1
  · rename_i m403 m404 m405 m406
    exact execDescriptorFetchDone_kept k1
  · rename_i m407 m408 m409 m410 m411
    exact execCopy_kept k1
  · rename_i m412 m413 m414 m415
    exact execFill_kept k1
  · rename_i m416 m417 m418
    exact execClear_kept k1
  · rename_i m419 m420 m421
    exact execDiscard_kept k1
  · rename_i m422 m423 m424
    exact execQueueCompletionPost_kept k1
  · rename_i m425 m426
    exact execPerstAssert_kept k1
  · rename_i m427 m428 m429
    exact execHotReset_kept k1
  · rename_i m430 m431 m432
    exact execHostLinkDown_kept k1
  · rename_i m433 m434 m435
    exact execFunctionLevelReset_kept k1
  · rename_i m436 m437 m438
    exact execCxlReset_kept k1
  · rename_i m439 m440 m441
    exact execHptWfailClear_kept k1
  · rename_i m442 m443 m444
    exact execHptRdlatClear_kept k1
  · rename_i m445 m446 m447
    exact execHptLtClear_kept k1
  · rename_i m448 m449
    exact execReadPatienceExpire_kept k1
  · rename_i m450 m451
    exact execYieldWindowEnd_kept k1
  · rename_i m452 m453 m454
    exact execLevelTimingRelease_kept k1
  · rename_i m455 m456
    exact execWriteAdmitResume_kept k1
  · rename_i m457 m458 m459
    exact execLingerExpire_kept k1
  · rename_i m460 m461 m462
    exact execDestageLeaf_kept k1
  · rename_i m463 m464
    exact execLineStripeFillTimeout_kept k1
  · rename_i m465 m466 m467
    exact execLeafSwitch_kept k1
  · rename_i m468 m469
    exact execStemCopyStart_kept k1
  · rename_i m470 m471 m472
    exact execSheetReadback_kept k1
  · rename_i m473 m474 m475
    exact execStemSwitch_kept k1
  · rename_i m476 m477 m478
    exact execStemCopyAbandon_kept k1
  · rename_i m479 m480 m481
    exact execRefreshDue_kept k1
  · rename_i m482 m483
    exact execVinWarn_kept k1
  · rename_i m484 m485
    exact execVinCommit_kept k1
  · rename_i m486 m487
    exact execFlushDone_kept k1
  · rename_i m488 m489
    exact execVinValid_kept k1
  · rename_i m490 m491
    exact execVinOff_kept k1
  · rename_i m492
    exact execCommitOffTimeout_kept k1
  · rename_i m493 m494 m495 m496
    exact execLitterReplay_kept k1
  · rename_i m497 m498
    exact execCensusEnd_kept k1
  · rename_i m499 m500
    exact execFilterRebuildDone_kept k1
  · rename_i m501 m502
    exact execStemMapResident_kept k1
  · rename_i m503 m504
    exact execWearLevelTick_kept k1
  · rename_i m505 m506 m507 m508
    exact execRetire_kept k1
  · rename_i m509
    exact execRetireDone_kept k1
  · rename_i m510 m511 m512
    exact execGetHealthReport_kept k1
  · rename_i m513 m514 m515 m516
    exact execGetMediaErrorRecords_kept k1
  · rename_i m517 m518
    exact execScrubLineStripe_kept k1
  · rename_i m519 m520
    exact execScrubPositionPersist_kept k1
  · rename_i m521 m522 m523
    exact execSramClear_kept k1
  · rename_i m524 m525 m526
    exact execCheckerOpen_kept k1
  · rename_i m527 m528 m529
    exact execCheckerClose_kept k1
  · rename_i m530 m531 m532
    exact execCheckerWrite_kept k1
  · rename_i m533 m534 m535
    exact execCheckerRead_kept k1
  · rename_i m536 m537
    exact execCheckerOpDone_kept k1
  · rename_i m538 m539 m540
    exact execClean_kept k1
  · rename_i m541 m542 m543
    exact execInvalidate_kept k1
  · rename_i m544 m545 m546
    exact execCleanAndInvalidate_kept k1
  · rename_i m547 m548 m549
    exact execLock_kept k1
  · rename_i m550 m551 m552
    exact execUnlock_kept k1
  · rename_i m553 m554
    exact execRangeOpDone_kept k1
  · rename_i m555 m556 m557 m558
    exact execCreateKeySlot_kept k1
  · rename_i m559 m560 m561 m562
    exact execDestroyKeySlot_kept k1
  · rename_i m563 m564 m565 m566
    exact execGetKeySlotInfo_kept k1
  · rename_i m567 m568 m569
    exact execKeyUnwrapDone_kept k1
  · rename_i m570 m571 m572
    exact execReroot_kept k1
  · rename_i m573 m574
    exact execRerootDone_kept k1
  · rename_i m575
    exact execTaprootAccept_kept k1
  · rename_i m576
    exact execSealedSetSave_kept k1
  · rename_i m577 m578 m579 m580
    exact execStartRekey_kept k1
  · rename_i m581 m582 m583 m584
    exact execRekeyLine_kept k1
  · rename_i m585 m586
    exact execRekeyEnd_kept k1
  · rename_i m587 m588 m589 m590
    exact execSubmitWarrant_kept k1
  · rename_i m591 m592
    exact execWarrantLapse_kept k1
  · rename_i m593 m594
    exact execQosWindowEnd_kept k1
  · rename_i m595 m596
    exact execMediaIssue_kept k1
  · rename_i m597 m598
    exact execShortfallSpanEnd_kept k1
  · rename_i m599
    exact execGladeSecond_kept k1
  · rename_i m600
    exact execFineTimeResync_kept k1
  · rename_i m601 m602 m603
    exact execTraceStart_kept k1
  · rename_i m604 m605
    exact execTraceStop_kept k1
  · rename_i m606 m607
    exact execTraceDataRead_kept k1
  · rename_i m608
    exact execEventFifoTake_kept k1
  · rename_i m609
    exact execEvfData0Read_kept k1
  · rename_i m610 m611
    exact execFineLoRead_kept k1
  · rename_i m612
    exact execLogRecordWriteDone_kept k1
  · rename_i m613
    exact execLogSectorEraseDone_kept k1
  · rename_i m614
    exact execLogQueueGapWrite_kept k1
  · rename_i m615 m616
    exact execRateWindowEnd_kept k1
  · rename_i m617 m618
    exact execLogFreeze_kept k1
  · rename_i m619 m620
    exact execLogThaw_kept k1
  · rename_i m621
    exact execFreezeLimitExpire_kept k1
  · rename_i m622 m623 m624 m625
    exact execReadRingLog_kept k1
  · rename_i m626
    exact execWardenWatchdogExpire_kept k1
  · rename_i m627 m628
    exact execWatchdogKick_kept k1
  · rename_i m629 m630 m631
    exact execSeedbankWindowRead_kept k1
  · rename_i m632 m633 m634
    exact execProcessorReady_kept k1
  · rename_i m635 m636
    exact execStewardReadyTimeout_kept k1
  · rename_i m637
    exact execFwTrialEnd_kept k1
  · rename_i m638 m639
    exact execIrqSourceEdge_kept k1
  · rename_i m640 m641
    exact execIrqClaim_kept k1
  · rename_i m642 m643 m644
    exact execIrqDone_kept k1
  · rename_i m645 m646
    exact execIrqHoldExpire_kept k1
  · rename_i m647 m648 m649 m650
    exact execPsRead_kept k1
  · rename_i m651 m652 m653 m654
    exact execPsWrite_kept k1
  · rename_i m655 m656 m657 m658
    exact execPsDelete_kept k1
  · rename_i m659 m660
    exact execPsShadow_kept k1
  · rename_i m661 m662
    exact execPsWriteDone_kept k1
  · rename_i m663
    exact execPsCompact_kept k1
  · rename_i m664
    exact execUsb4Connect_kept k1
  · rename_i m665
    exact execUsb4Disconnect_kept k1
  · rename_i m666 m667 m668 m669
    exact execRegisterRead_kept k1
  · rename_i m670 m671 m672 m673
    exact execRegisterWrite_kept k1
  · rename_i m674 m675 m676
    exact execStoreRead_kept k1
  · rename_i m677 m678 m679 m680
    exact execStoreWrite_kept k1
  · rename_i m681 m682 m683 m684 m685
    exact execAttestationReport_kept k1
  · rename_i m686 m687 m688 m689
    exact execLineRead_kept k1
  · rename_i m690 m691 m692 m693 m694 m695
    exact execLineWrite_kept k1
  · rename_i m696 m697 m698 m699 m700 m701 m702
    exact execStructureRead_kept k1
  · rename_i m703 m704 m705
    exact execCoreHalt_kept k1
  · rename_i m706 m707 m708 m709
    exact execCoreStep_kept k1
  · rename_i m710 m711 m712
    exact execCoreResume_kept k1
  · rename_i m713 m714 m715 m716 m717 m718
    exact execCoreMemoryRead_kept k1
  · rename_i m719
    exact execIdcode_kept k1
  · rename_i m720 m721
    exact execSamplePreload_kept k1
  · rename_i m722 m723
    exact execExtest_kept k1
  · rename_i m724
    exact execHighz_kept k1
  · rename_i m725
    exact execClamp_kept k1
  · rename_i m726
    exact execDbgmsg_kept k1
  · rename_i m727 m728
    exact execTapWarrant_kept k1
  · rename_i m729 m730
    exact execBypass_kept k1
  · rename_i m731
    exact execTapReset_kept k1
  · rename_i m732 m733
    exact execEnec_kept k1
  · rename_i m734 m735
    exact execDisec_kept k1
  · rename_i m736
    exact execRstdaa_kept k1
  · rename_i m737 m738
    exact execEntdaa_kept k1
  · rename_i m739 m740
    exact execSetmwl_kept k1
  · rename_i m741 m742
    exact execSetmrl_kept k1
  · rename_i m743
    exact execRstact_kept k1
  · rename_i m744
    exact execGetpid_kept k1
  · rename_i m745
    exact execGetbcr_kept k1
  · rename_i m746
    exact execGetdcr_kept k1
  · rename_i m747
    exact execGetstatus_kept k1
  · rename_i m748
    exact execGetmwl_kept k1
  · rename_i m749
    exact execGetmrl_kept k1
  · rename_i m750 m751
    exact execUnsupportedCcc_kept k1
  · rename_i m752
    exact execSidebandPrivateRead_kept k1
  · rename_i m753
    exact execIdent_kept k1
  · rename_i m754 m755 m756
    exact execHealth_kept k1
  · rename_i m757 m758
    exact execRegRead_kept k1
  · rename_i m759 m760
    exact execLogRead_kept k1
  · rename_i m761 m762
    exact execParamRead_kept k1
  · rename_i m763 m764 m765
    exact execParamWrite_kept k1
  · rename_i m766 m767
    exact execReset_kept k1
  · rename_i m768 m769
    exact execWarrant_kept k1
  · rename_i m770 m771 m772
    exact execLRead_kept k1
  · rename_i m773 m774 m775
    exact execLWrite_kept k1
  · rename_i m776 m777
    exact execLUnlock_kept k1
  · rename_i m778
    exact execLLock_kept k1
  · rename_i m779 m780 m781
    exact execLSetpw_kept k1
  · rename_i m782 m783 m784
    exact execPgChange_kept k1
  · rename_i m785 m786
    exact execDependencyEnable_kept k1
  · rename_i m787
    exact execStepEnable_kept k1
  · rename_i m788
    exact execStepDisable_kept k1
  · rename_i m789
    exact execStepWait_kept k1
  · rename_i m790
    exact execStepCheck_kept k1
  · rename_i m791
    exact execStepJump_kept k1
  · rename_i m792
    exact execStepSafe_kept k1
  · rename_i m793
    exact execStepSync_kept k1
  · rename_i m794
    exact execStepEnd_kept k1
  · rename_i m795
    exact execStepWaitExpire_kept k1
  · rename_i m796
    exact execSeqsyncHigh_kept k1
  · rename_i m797 m798
    exact execRailOnDone_kept k1
  · rename_i m799 m800
    exact execRailOffDone_kept k1
  · rename_i m801 m802
    exact execOnTimeoutExpire_kept k1
  · rename_i m803
    exact execCheckTimeoutExpire_kept k1
  · rename_i m804
    exact execSyncTimeoutExpire_kept k1
  · rename_i m805 m806
    exact execDischargeTimeout_kept k1
  · rename_i m807 m808
    exact execPgChatter_kept k1
  · rename_i m809
    exact execMinOffTimeEnd_kept k1
  · rename_i m810
    exact execPbtnPress_kept k1
  · rename_i m811
    exact execPbtnRelease_kept k1
  · rename_i m812
    exact execPbtnHold8s_kept k1
  · rename_i m813
    exact execPbtnHold15s_kept k1
  · rename_i m814
    exact execMrstAssert_kept k1
  · rename_i m815
    exact execRstAssert_kept k1
  · rename_i m816
    exact execColdReset_kept k1
  · rename_i m817 m818
    exact execWarmReset_kept k1
  · rename_i m819 m820
    exact execResetPinRelease_kept k1
  · rename_i m821
    exact execTrimLoadDone_kept k1
  · rename_i m822 m823
    exact execClockGateRelease_kept k1
  · rename_i m824 m825
    exact execClockFail_kept k1
  · rename_i m826 m827
    exact execOscillatorRestartDone_kept k1
  · rename_i m828
    exact execGladeReset_kept k1
  · rename_i m829 m830
    exact execRstWarm_kept k1
  · rename_i m831 m832
    exact execRstCold_kept k1
  · rename_i m833 m834 m835
    exact execRstTile_kept k1
  · rename_i m836 m837 m838
    exact execRstHostPort_kept k1
  · rename_i m839 m840
    exact execRstPowerOff_kept k1
  · rename_i m841 m842
    exact execRstPowerCycle_kept k1
  · rename_i m843 m844
    exact execSeqFaultClear_kept k1
  · rename_i m845 m846
    exact execSeqVinClear_kept k1
  · rename_i m847 m848
    exact execTileIdleT1_kept k1
  · rename_i m849 m850
    exact execTileIdleT2_kept k1
  · rename_i m851 m852
    exact execTileIdleT3_kept k1
  · rename_i m853 m854
    exact execTileSleepEntryDone_kept k1
  · rename_i m855 m856
    exact execTileWake_kept k1
  · rename_i m857 m858
    exact execTileWakeDone_kept k1
  · rename_i m859
    exact execP1Enter_kept k1
  · rename_i m860
    exact execP2Enter_kept k1
  · rename_i m861
    exact execP2Exit_kept k1
  · rename_i m862 m863 m864
    exact execThermalSample_kept k1
  · rename_i m865
    exact execThermalRestart_kept k1
  · rename_i m866
    exact execThermalHistorySave_kept k1
  · rename_i m867 m868 m869 m870
    exact execPmcEvenRead_kept k1
  · rename_i m871 m872 m873 m874 m875
    exact execPmcSelWrite_kept k1
  · rename_i m876 m877 m878 m879 m880
    exact execPmcFiltWrite_kept k1
  · rename_i m881 m882 m883 m884
    exact execReadCounters_kept k1
  · rename_i m885 m886 m887 m888
    exact execManagementRegisterWrite_kept k1
  · rename_i m889
    exact execWardenLockup_kept k1
  · rename_i m890
    exact execVgladeFirstPresent_kept k1
  · rename_i m891 m892 m893
    exact execProgramAbortDone_kept k1
  · rename_i m894 m895 m896
    exact execHostLinkL1Entry_kept k1
  · rename_i m897 m898
    exact execPsSectorEraseDone_kept k1

/-! ## Tick -/
theorem State.advance_kept {s₀ : State} {a0} {a1} (k0 : Kept s₀ a0) : Kept s₀ (State.advance a0 a1) := by
  unfold State.advance
  exact k0.of (tiles := by simp)
theorem State.tileCycle_kept {s₀ : State} {a0} {a1} (k0 : Kept s₀ a0) : Kept s₀ (State.tileCycle a0 a1) := by
  unfold State.tileCycle
  extract_lets +onlyGivenNames x0; clear_value x0
  refine Kept.ite ?_ ?_
  · exact k0
  · extract_lets +onlyGivenNames x1; clear_value x1
    extract_lets +onlyGivenNames x2
    have h3 : Kept s₀ x2 := by
      unfold x2
      refine State.modTile_kept ?_
      exact State.countTile_kept k0
    clear_value x2
    extract_lets +onlyGivenNames x4; clear_value x4
    refine Kept.ite ?_ ?_
    · exact State.countTile_kept h3
    · refine State.countTile_kept ?_
      exact State.countTile_kept h3
theorem State.tick_kept {s₀ : State} {a0} (k0 : Kept s₀ a0) : Kept s₀ (State.tick a0) := by
  unfold State.tick
  refine Kept.ite ?_ ?_
  · exact k0
  · refine Kept.ite ?_ ?_
    · refine State.countHub_kept ?_
      exact State.advance_kept k0
    · refine State.countHub_kept ?_
      refine each_keep (fun r => Kept s₀ r) ?_ ?_
      · exact State.advance_kept k0
      · intro v0 v1 h2
        exact State.tileCycle_kept h2

end Sys2Proof.Machine
end

