-- ==== Sys2Proof/Laws/Medium.lean ====
section
/-! SUPPORT. What the shared register, counter, interrupt, event and reply operations leave alone: the packages' cells, the tiles, the key slots, the fuses, the place table and the stand image. -/
namespace Sys2Proof.Machine

/-- A tile but for its waking: an interrupt wakes a sleeping tile (R443, R490). -/
def Tile.rested (x : Tile) : Tile := { x with waking := false, entering := none }
/-- The part of the state that only media, key, fuse and image operations touch, but for the waking of tiles. -/
def State.medium (s : State) : Tbl Nat Pkg × List Tile × Tbl Nat Slot × Fuses × Tbl Place PlaceRec × Option Img :=
  (s.pkgs, s.tiles.map Tile.rested, s.slots, s.fuses, s.places, s.active)

@[simp] theorem State.medium_setReg (s : State) (a : Nat) (w : Word) : (s.setReg a w).medium = s.medium := rfl
@[simp] theorem State.medium_wf (s : State) (f : Fld) (v : Nat) : (s.wf f v).medium = s.medium := rfl
@[simp] theorem State.medium_send (s : State) (o : Output) : (s.send o).medium = s.medium := rfl
@[simp] theorem State.medium_reply (s : State) (i l o : Nat) (c : Ret) (b : Bytes) : (s.reply i l o c b).medium = s.medium := rfl
@[simp] theorem State.medium_tapLoad (s : State) (c : Nat) (b : Bytes) : (s.tapLoad c b).medium = s.medium := rfl
@[simp] theorem State.medium_ccc (s : State) (b : Bytes) : (s.ccc b).medium = s.medium := rfl
@[simp] theorem State.medium_draw (s : State) : s.draw.2.medium = s.medium := rfl
@[simp] theorem State.medium_dropLines (s : State) : s.dropLines.medium = s.medium := rfl

@[simp] theorem State.medium_pmcRaise (s : State) (b : Option Nat) (i k : Nat) : (s.pmcRaise b i k).medium = s.medium := by
  simp only [State.pmcRaise, apply_ite State.medium, State.medium_wf, ite_self]

@[simp] theorem State.medium_count (s : State) (b : Option Nat) (i : Nat) (c : List Nat) (k : Nat) : (s.count b i c k).medium = s.medium := by
  unfold State.count
  repeat' split
  all_goals first | rfl | exact State.medium_pmcRaise _ _ _ _

@[simp] theorem State.medium_countHub (s : State) (i : Nat) (c : List Nat) (k : Nat) : (s.countHub i c k).medium = s.medium := State.medium_count _ _ _ _ _

@[simp] theorem State.medium_countTile (s : State) (t i : Nat) (c : List Nat) (k : Nat) : (s.countTile t i c k).medium = s.medium := State.medium_count _ _ _ _ _

@[simp] theorem State.medium_assertLine (s : State) (t : Nat) : (s.assertLine t).medium = s.medium := by
  unfold State.assertLine
  repeat' split
  all_goals rfl

@[simp] theorem State.medium_notifySource (s : State) (n : Nat) : (s.notifySource n).medium = s.medium := by
  unfold State.notifySource
  dsimp only
  repeat' split
  all_goals rfl

theorem map_modify_same {α β : Type} (g : α → β) (f : α → α) (h : ∀ x, g (f x) = g x) (l : List α) (i : Nat) : (lmod l i f).map g = l.map g := by
  refine List.ext_getElem? (fun k => ?_)
  simp only [lmod, List.getElem?_map, List.getElem?_modify]
  cases l[k]? with
  | none => split <;> rfl
  | some x => split <;> simp [h]

@[simp] theorem State.medium_wakeTile (s : State) (t : Nat) : (s.wakeTile t).medium = s.medium := by
  unfold State.wakeTile
  split
  · split
    · rfl
    · have h := map_modify_same Tile.rested (fun x : Tile => { x with waking := true, entering := none }) (fun _ => rfl) s.tiles t
      simp only [State.medium, h]
  · rfl

/-- A fold leaves the medium alone where each of its steps does. -/
theorem medium_each {α : Type} (l : List α) (s : State) (f : State → α → State) (h : ∀ s a, (f s a).medium = s.medium) : (each l s f).medium = s.medium := by
  unfold each
  induction l generalizing s with
  | nil => rfl
  | cons a t ih => exact (ih _).trans (h s a)

@[simp] theorem State.medium_startClocks (s : State) (n : Nat) : (s.startClocks n).medium = s.medium :=
  medium_each _ _ _ State.medium_wakeTile

@[simp] theorem State.medium_irqEdge (s : State) (n : Nat) : (s.irqEdge n).medium = s.medium := by
  have f (u : State) : (each (upto 9) u (fun s t => if hasBit (s.rf (F.IRQ_SRC_targets n)) t && s.irqNow t then s.assertLine t else s)).medium = u.medium :=
    medium_each _ _ _ (fun s t => by rw [apply_ite State.medium, State.medium_assertLine, ite_self])
  simp only [State.irqEdge, apply_ite State.medium, f, State.medium_notifySource, State.medium_startClocks, State.medium_wf]
  simp only [State.medium, ite_self]

@[simp] theorem State.medium_logKick (s : State) : s.logKick.medium = s.medium := by
  unfold State.logKick
  repeat' split
  all_goals rfl

@[simp] theorem State.medium_logPush (s : State) (r : LogRec) : (s.logPush r).medium = s.medium := by
  unfold State.logPush
  repeat' split
  all_goals first | rfl | exact State.medium_logKick _

@[simp] theorem State.medium_record (s : State) (e : Ev) : (s.record e).medium = s.medium := by
  unfold State.record
  dsimp only
  repeat' split
  all_goals simp only [State.medium_countHub, State.medium_logPush]
  all_goals rfl

@[simp] theorem State.medium_fifoPush (s : State) (e : Ev) : (s.fifoPush e).medium = s.medium := by
  unfold State.fifoPush
  dsimp only
  repeat' split
  all_goals simp only [State.medium_countHub, State.medium_irqEdge]
  all_goals first | rfl | (simp only [State.medium]; done) | (exact (State.medium_countHub _ _ _ _).trans rfl)

@[simp] theorem State.medium_emit (s : State) (src code : Nat) (d : Bytes) (c : List Nat) : (s.emit src code d c).medium = s.medium := by
  unfold State.emit
  dsimp only
  split
  · exact State.medium_record _ _
  · exact State.medium_fifoPush _ _

@[simp] theorem State.medium_unheard (s : State) (i l : Nat) : (s.unheard i l).medium = s.medium := by
  unfold State.unheard
  split
  · exact State.medium_emit _ _ _ _ _
  · rfl

@[simp] theorem State.medium_heard (s : State) (i : Nat) : (s.heard i).medium = s.medium := by
  simp only [State.heard, apply_ite State.medium, State.medium_irqEdge, State.medium_countHub]
  simp only [State.medium, ite_self]

/-- A command that needs no right leaves the medium alone where its body does. -/
theorem State.medium_command (s : State) (iface ld op : Nat) (f : State → Answer) (h : ∀ s, (f s).state.medium = s.medium) : (s.command iface ld op none f).medium = s.medium := by
  unfold State.command
  split
  · exact State.medium_unheard s iface ld
  · dsimp only
    split
    · exact State.medium_heard s iface
    · exact (h _).trans (State.medium_heard s iface)

end Sys2Proof.Machine
end

