-- ==== Sys2Proof/Laws/Regs.lean ====
section
/-! SUPPORT. The laws of the register file: the word a set address holds, the bits a written field leaves. -/
namespace Sys2Proof.Machine

theorem regLook_regPut (l : List (Nat × Word)) (a b : Nat) (w : Word) : regLook (regPut l a w) b = if a = b then some w else regLook l b := by
  induction l with
  | nil => simp [regPut, regLook]
  | cons p t ih =>
    obtain ⟨c, u⟩ := p
    simp only [regPut]
    split
    · simp [regLook]
    · split
      · next h => subst h; simp only [regLook]; split <;> rfl
      · simp only [regLook, ih]
        split
        · next h1 h2 h3 => subst h3; rw [if_neg (fun e => h2 e.symm)]
        · rfl

theorem regLook_regDrop (l : List (Nat × Word)) (a b : Nat) : regLook (regDrop l a) b = if a = b then none else regLook l b := by
  induction l with
  | nil => simp [regDrop, regLook]
  | cons p t ih =>
    obtain ⟨c, u⟩ := p
    rw [regDrop, List.filter_cons]
    rw [regDrop] at ih
    by_cases h : c = a
    · subst h
      simp only [ne_eq, not_true_eq_false, decide_false, Bool.false_eq_true, if_false, ih, regLook]
      split <;> rfl
    · simp only [ne_eq, h, not_false_eq_true, decide_true, if_true, regLook, ih]
      split
      · next e => subst e; rw [if_neg (fun k => h k.symm)]
      · rfl

/-- A register after a write: the word written, or what it held. -/
theorem State.reg_setReg (s : State) (a b : Nat) (w : Word) : (s.setReg a w).reg b = if a = b then w else s.reg b := by
  simp only [State.setReg, State.reg]
  split
  · next h => rw [regLook_regDrop]; split <;> simp_all
  · rw [regLook_regPut]; split <;> rfl

/-- A word cut at a field: what lies above, in and below it. -/
theorem word_split (n lo k : Nat) : n = n / 2 ^ (lo + k) * 2 ^ (lo + k) + n / 2 ^ lo % 2 ^ k * 2 ^ lo + n % 2 ^ lo := by
  have h1 := Nat.div_add_mod n (2 ^ lo)
  have h2 := Nat.div_add_mod (n / 2 ^ lo) (2 ^ k)
  rw [Nat.div_div_eq_div_mul, ← Nat.pow_add] at h2
  calc n = 2 ^ lo * (n / 2 ^ lo) + n % 2 ^ lo := h1.symm
    _ = 2 ^ lo * (2 ^ k * (n / 2 ^ (lo + k)) + n / 2 ^ lo % 2 ^ k) + n % 2 ^ lo := by rw [h2]
    _ = _ := by rw [Nat.pow_add]; ring

/-- The number a written field makes. -/
theorem setBits_toNat (w : Word) (lo k v : Nat) (h : lo + k ≤ 32) (hk : 0 < k) :
    (setBits w (lo + k - 1) lo v).toNat = w.toNat / 2 ^ (lo + k) * 2 ^ (lo + k) + v % 2 ^ k * 2 ^ lo + w.toNat % 2 ^ lo := by
  have e : lo + k - 1 - lo + 1 = k := by omega
  have sp := word_split w.toNat lo k
  have hb : bits w.toNat (lo + k - 1) lo = w.toNat / 2 ^ lo % 2 ^ k := by rw [bits, e, Nat.shiftRight_eq_div_pow]
  have hs : w.toNat - bits w.toNat (lo + k - 1) lo * 2 ^ lo = w.toNat / 2 ^ (lo + k) * 2 ^ (lo + k) + w.toNat % 2 ^ lo := by
    rw [hb]; omega
  rw [setBits, e, hs, BitVec.toNat_ofNat, Nat.mod_eq_of_lt]
  · omega
  · have a1 : w.toNat / 2 ^ (lo + k) < 2 ^ (32 - (lo + k)) := by
      apply Nat.div_lt_of_lt_mul
      rw [← Nat.pow_add, Nat.add_sub_cancel' h]
      exact w.isLt
    have a2 : v % 2 ^ k < 2 ^ k := Nat.mod_lt _ (by positivity)
    have a3 : w.toNat % 2 ^ lo < 2 ^ lo := Nat.mod_lt _ (by positivity)
    have p1 : (w.toNat / 2 ^ (lo + k) + 1) * 2 ^ (lo + k) ≤ 2 ^ (32 - (lo + k)) * 2 ^ (lo + k) := Nat.mul_le_mul_right _ a1
    have p2 : (v % 2 ^ k + 1) * 2 ^ lo ≤ 2 ^ k * 2 ^ lo := Nat.mul_le_mul_right _ a2
    rw [← Nat.pow_add, Nat.sub_add_cancel h] at p1
    rw [← Nat.pow_add, Nat.add_comm k lo] at p2
    have p3 := Nat.add_mul (w.toNat / 2 ^ (lo + k)) 1 (2 ^ (lo + k))
    have p4 := Nat.add_mul (v % 2 ^ k) 1 (2 ^ lo)
    omega

end Sys2Proof.Machine
end

