-- ==== Sys2Proof/Laws/State.lean ====
section
/-! SUPPORT. One lemma per field of State and per update of the shared operations: a register, an output, a tile. -/
namespace Sys2Proof.Machine

/-! ## setReg -/

@[simp] theorem State.setReg_dev (s : State) (a : Nat) (w : Word) : (s.setReg a w).dev = s.dev := rfl
@[simp] theorem State.setReg_fuses (s : State) (a : Nat) (w : Word) : (s.setReg a w).fuses = s.fuses := rfl
@[simp] theorem State.setReg_vault (s : State) (a : Nat) (w : Word) : (s.setReg a w).vault = s.vault := rfl
@[simp] theorem State.setReg_glade (s : State) (a : Nat) (w : Word) : (s.setReg a w).glade = s.glade := rfl
@[simp] theorem State.setReg_fine (s : State) (a : Nat) (w : Word) : (s.setReg a w).fine = s.fine := rfl
@[simp] theorem State.setReg_opNotes (s : State) (a : Nat) (w : Word) : (s.setReg a w).opNotes = s.opNotes := rfl
@[simp] theorem State.setReg_seqNo (s : State) (a : Nat) (w : Word) : (s.setReg a w).seqNo = s.seqNo := rfl
@[simp] theorem State.setReg_power (s : State) (a : Nat) (w : Word) : (s.setReg a w).power = s.power := rfl
@[simp] theorem State.setReg_clocks (s : State) (a : Nat) (w : Word) : (s.setReg a w).clocks = s.clocks := rfl
@[simp] theorem State.setReg_resets (s : State) (a : Nat) (w : Word) : (s.setReg a w).resets = s.resets := rfl
@[simp] theorem State.setReg_active (s : State) (a : Nat) (w : Word) : (s.setReg a w).active = s.active := rfl
@[simp] theorem State.setReg_img (s : State) (a : Nat) (w : Word) : (s.setReg a w).img = s.img := rfl
@[simp] theorem State.setReg_compBorn (s : State) (a : Nat) (w : Word) : (s.setReg a w).compBorn = s.compBorn := rfl
@[simp] theorem State.setReg_rights (s : State) (a : Nat) (w : Word) : (s.setReg a w).rights = s.rights := rfl
@[simp] theorem State.setReg_evf (s : State) (a : Nat) (w : Word) : (s.setReg a w).evf = s.evf := rfl
@[simp] theorem State.setReg_evfHand (s : State) (a : Nat) (w : Word) : (s.setReg a w).evfHand = s.evfHand := rfl
@[simp] theorem State.setReg_log (s : State) (a : Nat) (w : Word) : (s.setReg a w).log = s.log := rfl
@[simp] theorem State.setReg_trace (s : State) (a : Nat) (w : Word) : (s.setReg a w).trace = s.trace := rfl
@[simp] theorem State.setReg_ps (s : State) (a : Nat) (w : Word) : (s.setReg a w).ps = s.ps := rfl
@[simp] theorem State.setReg_fw (s : State) (a : Nat) (w : Word) : (s.setReg a w).fw = s.fw := rfl
@[simp] theorem State.setReg_irq (s : State) (a : Nat) (w : Word) : (s.setReg a w).irq = s.irq := rfl
@[simp] theorem State.setReg_sb (s : State) (a : Nat) (w : Word) : (s.setReg a w).sb = s.sb := rfl
@[simp] theorem State.setReg_usb4 (s : State) (a : Nat) (w : Word) : (s.setReg a w).usb4 = s.usb4 := rfl
@[simp] theorem State.setReg_tap (s : State) (a : Nat) (w : Word) : (s.setReg a w).tap = s.tap := rfl
@[simp] theorem State.setReg_thm (s : State) (a : Nat) (w : Word) : (s.setReg a w).thm = s.thm := rfl
@[simp] theorem State.setReg_hist (s : State) (a : Nat) (w : Word) : (s.setReg a w).hist = s.hist := rfl
@[simp] theorem State.setReg_pkgs (s : State) (a : Nat) (w : Word) : (s.setReg a w).pkgs = s.pkgs := rfl
@[simp] theorem State.setReg_chans (s : State) (a : Nat) (w : Word) : (s.setReg a w).chans = s.chans := rfl
@[simp] theorem State.setReg_tiles (s : State) (a : Nat) (w : Word) : (s.setReg a w).tiles = s.tiles := rfl
@[simp] theorem State.setReg_reqs (s : State) (a : Nat) (w : Word) : (s.setReg a w).reqs = s.reqs := rfl
@[simp] theorem State.setReg_nextReq (s : State) (a : Nat) (w : Word) : (s.setReg a w).nextReq = s.nextReq := rfl
@[simp] theorem State.setReg_ops (s : State) (a : Nat) (w : Word) : (s.setReg a w).ops = s.ops := rfl
@[simp] theorem State.setReg_nextOp (s : State) (a : Nat) (w : Word) : (s.setReg a w).nextOp = s.nextOp := rfl
@[simp] theorem State.setReg_reservations (s : State) (a : Nat) (w : Word) : (s.setReg a w).reservations = s.reservations := rfl
@[simp] theorem State.setReg_packageFault (s : State) (a : Nat) (w : Word) : (s.setReg a w).packageFault = s.packageFault := rfl
@[simp] theorem State.setReg_links (s : State) (a : Nat) (w : Word) : (s.setReg a w).links = s.links := rfl
@[simp] theorem State.setReg_lds (s : State) (a : Nat) (w : Word) : (s.setReg a w).lds = s.lds := rfl
@[simp] theorem State.setReg_queues (s : State) (a : Nat) (w : Word) : (s.setReg a w).queues = s.queues := rfl
@[simp] theorem State.setReg_slots (s : State) (a : Nat) (w : Word) : (s.setReg a w).slots = s.slots := rfl
@[simp] theorem State.setReg_allocs (s : State) (a : Nat) (w : Word) : (s.setReg a w).allocs = s.allocs := rfl
@[simp] theorem State.setReg_roots (s : State) (a : Nat) (w : Word) : (s.setReg a w).roots = s.roots := rfl
@[simp] theorem State.setReg_rerooted (s : State) (a : Nat) (w : Word) : (s.setReg a w).rerooted = s.rerooted := rfl
@[simp] theorem State.setReg_sealBay (s : State) (a : Nat) (w : Word) : (s.setReg a w).sealBay = s.sealBay := rfl
@[simp] theorem State.setReg_sealBook (s : State) (a : Nat) (w : Word) : (s.setReg a w).sealBook = s.sealBook := rfl
@[simp] theorem State.setReg_sealing (s : State) (a : Nat) (w : Word) : (s.setReg a w).sealing = s.sealing := rfl
@[simp] theorem State.setReg_rootsAccepted (s : State) (a : Nat) (w : Word) : (s.setReg a w).rootsAccepted = s.rootsAccepted := rfl
@[simp] theorem State.setReg_overlay (s : State) (a : Nat) (w : Word) : (s.setReg a w).overlay = s.overlay := rfl
@[simp] theorem State.setReg_rekeys (s : State) (a : Nat) (w : Word) : (s.setReg a w).rekeys = s.rekeys := rfl
@[simp] theorem State.setReg_places (s : State) (a : Nat) (w : Word) : (s.setReg a w).places = s.places := rfl
@[simp] theorem State.setReg_spareBase (s : State) (a : Nat) (w : Word) : (s.setReg a w).spareBase = s.spareBase := rfl
@[simp] theorem State.setReg_readOnly (s : State) (a : Nat) (w : Word) : (s.setReg a w).readOnly = s.readOnly := rfl
@[simp] theorem State.setReg_retiredChans (s : State) (a : Nat) (w : Word) : (s.setReg a w).retiredChans = s.retiredChans := rfl
@[simp] theorem State.setReg_deadwood (s : State) (a : Nat) (w : Word) : (s.setReg a w).deadwood = s.deadwood := rfl
@[simp] theorem State.setReg_retiring (s : State) (a : Nat) (w : Word) : (s.setReg a w).retiring = s.retiring := rfl
@[simp] theorem State.setReg_retireQueue (s : State) (a : Nat) (w : Word) : (s.setReg a w).retireQueue = s.retireQueue := rfl
@[simp] theorem State.setReg_lostWords (s : State) (a : Nat) (w : Word) : (s.setReg a w).lostWords = s.lostWords := rfl
@[simp] theorem State.setReg_hubQ (s : State) (a : Nat) (w : Word) : (s.setReg a w).hubQ = s.hubQ := rfl
@[simp] theorem State.setReg_hubSeq (s : State) (a : Nat) (w : Word) : (s.setReg a w).hubSeq = s.hubSeq := rfl
@[simp] theorem State.setReg_errs (s : State) (a : Nat) (w : Word) : (s.setReg a w).errs = s.errs := rfl
@[simp] theorem State.setReg_errNext (s : State) (a : Nat) (w : Word) : (s.setReg a w).errNext = s.errNext := rfl
@[simp] theorem State.setReg_poison (s : State) (a : Nat) (w : Word) : (s.setReg a w).poison = s.poison := rfl
@[simp] theorem State.setReg_poisonOver (s : State) (a : Nat) (w : Word) : (s.setReg a w).poisonOver = s.poisonOver := rfl
@[simp] theorem State.setReg_health (s : State) (a : Nat) (w : Word) : (s.setReg a w).health = s.health := rfl
@[simp] theorem State.setReg_reformat (s : State) (a : Nat) (w : Word) : (s.setReg a w).reformat = s.reformat := rfl
@[simp] theorem State.setReg_out (s : State) (a : Nat) (w : Word) : (s.setReg a w).out = s.out := rfl
@[simp] theorem State.setReg_freeCtr (s : State) (a : Nat) (w : Word) : (s.setReg a w).freeCtr = s.freeCtr := rfl
@[simp] theorem State.setReg_pending (s : State) (a : Nat) (w : Word) : (s.setReg a w).pending = s.pending := rfl

/-! ## wf -/

@[simp] theorem State.wf_dev (s : State) (f : Fld) (v : Nat) : (s.wf f v).dev = s.dev := rfl
@[simp] theorem State.wf_fuses (s : State) (f : Fld) (v : Nat) : (s.wf f v).fuses = s.fuses := rfl
@[simp] theorem State.wf_vault (s : State) (f : Fld) (v : Nat) : (s.wf f v).vault = s.vault := rfl
@[simp] theorem State.wf_glade (s : State) (f : Fld) (v : Nat) : (s.wf f v).glade = s.glade := rfl
@[simp] theorem State.wf_fine (s : State) (f : Fld) (v : Nat) : (s.wf f v).fine = s.fine := rfl
@[simp] theorem State.wf_opNotes (s : State) (f : Fld) (v : Nat) : (s.wf f v).opNotes = s.opNotes := rfl
@[simp] theorem State.wf_seqNo (s : State) (f : Fld) (v : Nat) : (s.wf f v).seqNo = s.seqNo := rfl
@[simp] theorem State.wf_power (s : State) (f : Fld) (v : Nat) : (s.wf f v).power = s.power := rfl
@[simp] theorem State.wf_clocks (s : State) (f : Fld) (v : Nat) : (s.wf f v).clocks = s.clocks := rfl
@[simp] theorem State.wf_resets (s : State) (f : Fld) (v : Nat) : (s.wf f v).resets = s.resets := rfl
@[simp] theorem State.wf_active (s : State) (f : Fld) (v : Nat) : (s.wf f v).active = s.active := rfl
@[simp] theorem State.wf_img (s : State) (f : Fld) (v : Nat) : (s.wf f v).img = s.img := rfl
@[simp] theorem State.wf_compBorn (s : State) (f : Fld) (v : Nat) : (s.wf f v).compBorn = s.compBorn := rfl
@[simp] theorem State.wf_rights (s : State) (f : Fld) (v : Nat) : (s.wf f v).rights = s.rights := rfl
@[simp] theorem State.wf_evf (s : State) (f : Fld) (v : Nat) : (s.wf f v).evf = s.evf := rfl
@[simp] theorem State.wf_evfHand (s : State) (f : Fld) (v : Nat) : (s.wf f v).evfHand = s.evfHand := rfl
@[simp] theorem State.wf_log (s : State) (f : Fld) (v : Nat) : (s.wf f v).log = s.log := rfl
@[simp] theorem State.wf_trace (s : State) (f : Fld) (v : Nat) : (s.wf f v).trace = s.trace := rfl
@[simp] theorem State.wf_ps (s : State) (f : Fld) (v : Nat) : (s.wf f v).ps = s.ps := rfl
@[simp] theorem State.wf_fw (s : State) (f : Fld) (v : Nat) : (s.wf f v).fw = s.fw := rfl
@[simp] theorem State.wf_irq (s : State) (f : Fld) (v : Nat) : (s.wf f v).irq = s.irq := rfl
@[simp] theorem State.wf_sb (s : State) (f : Fld) (v : Nat) : (s.wf f v).sb = s.sb := rfl
@[simp] theorem State.wf_usb4 (s : State) (f : Fld) (v : Nat) : (s.wf f v).usb4 = s.usb4 := rfl
@[simp] theorem State.wf_tap (s : State) (f : Fld) (v : Nat) : (s.wf f v).tap = s.tap := rfl
@[simp] theorem State.wf_thm (s : State) (f : Fld) (v : Nat) : (s.wf f v).thm = s.thm := rfl
@[simp] theorem State.wf_hist (s : State) (f : Fld) (v : Nat) : (s.wf f v).hist = s.hist := rfl
@[simp] theorem State.wf_pkgs (s : State) (f : Fld) (v : Nat) : (s.wf f v).pkgs = s.pkgs := rfl
@[simp] theorem State.wf_chans (s : State) (f : Fld) (v : Nat) : (s.wf f v).chans = s.chans := rfl
@[simp] theorem State.wf_tiles (s : State) (f : Fld) (v : Nat) : (s.wf f v).tiles = s.tiles := rfl
@[simp] theorem State.wf_reqs (s : State) (f : Fld) (v : Nat) : (s.wf f v).reqs = s.reqs := rfl
@[simp] theorem State.wf_nextReq (s : State) (f : Fld) (v : Nat) : (s.wf f v).nextReq = s.nextReq := rfl
@[simp] theorem State.wf_ops (s : State) (f : Fld) (v : Nat) : (s.wf f v).ops = s.ops := rfl
@[simp] theorem State.wf_nextOp (s : State) (f : Fld) (v : Nat) : (s.wf f v).nextOp = s.nextOp := rfl
@[simp] theorem State.wf_reservations (s : State) (f : Fld) (v : Nat) : (s.wf f v).reservations = s.reservations := rfl
@[simp] theorem State.wf_packageFault (s : State) (f : Fld) (v : Nat) : (s.wf f v).packageFault = s.packageFault := rfl
@[simp] theorem State.wf_links (s : State) (f : Fld) (v : Nat) : (s.wf f v).links = s.links := rfl
@[simp] theorem State.wf_lds (s : State) (f : Fld) (v : Nat) : (s.wf f v).lds = s.lds := rfl
@[simp] theorem State.wf_queues (s : State) (f : Fld) (v : Nat) : (s.wf f v).queues = s.queues := rfl
@[simp] theorem State.wf_slots (s : State) (f : Fld) (v : Nat) : (s.wf f v).slots = s.slots := rfl
@[simp] theorem State.wf_allocs (s : State) (f : Fld) (v : Nat) : (s.wf f v).allocs = s.allocs := rfl
@[simp] theorem State.wf_roots (s : State) (f : Fld) (v : Nat) : (s.wf f v).roots = s.roots := rfl
@[simp] theorem State.wf_rerooted (s : State) (f : Fld) (v : Nat) : (s.wf f v).rerooted = s.rerooted := rfl
@[simp] theorem State.wf_sealBay (s : State) (f : Fld) (v : Nat) : (s.wf f v).sealBay = s.sealBay := rfl
@[simp] theorem State.wf_sealBook (s : State) (f : Fld) (v : Nat) : (s.wf f v).sealBook = s.sealBook := rfl
@[simp] theorem State.wf_sealing (s : State) (f : Fld) (v : Nat) : (s.wf f v).sealing = s.sealing := rfl
@[simp] theorem State.wf_rootsAccepted (s : State) (f : Fld) (v : Nat) : (s.wf f v).rootsAccepted = s.rootsAccepted := rfl
@[simp] theorem State.wf_overlay (s : State) (f : Fld) (v : Nat) : (s.wf f v).overlay = s.overlay := rfl
@[simp] theorem State.wf_rekeys (s : State) (f : Fld) (v : Nat) : (s.wf f v).rekeys = s.rekeys := rfl
@[simp] theorem State.wf_places (s : State) (f : Fld) (v : Nat) : (s.wf f v).places = s.places := rfl
@[simp] theorem State.wf_spareBase (s : State) (f : Fld) (v : Nat) : (s.wf f v).spareBase = s.spareBase := rfl
@[simp] theorem State.wf_readOnly (s : State) (f : Fld) (v : Nat) : (s.wf f v).readOnly = s.readOnly := rfl
@[simp] theorem State.wf_retiredChans (s : State) (f : Fld) (v : Nat) : (s.wf f v).retiredChans = s.retiredChans := rfl
@[simp] theorem State.wf_deadwood (s : State) (f : Fld) (v : Nat) : (s.wf f v).deadwood = s.deadwood := rfl
@[simp] theorem State.wf_retiring (s : State) (f : Fld) (v : Nat) : (s.wf f v).retiring = s.retiring := rfl
@[simp] theorem State.wf_retireQueue (s : State) (f : Fld) (v : Nat) : (s.wf f v).retireQueue = s.retireQueue := rfl
@[simp] theorem State.wf_lostWords (s : State) (f : Fld) (v : Nat) : (s.wf f v).lostWords = s.lostWords := rfl
@[simp] theorem State.wf_hubQ (s : State) (f : Fld) (v : Nat) : (s.wf f v).hubQ = s.hubQ := rfl
@[simp] theorem State.wf_hubSeq (s : State) (f : Fld) (v : Nat) : (s.wf f v).hubSeq = s.hubSeq := rfl
@[simp] theorem State.wf_errs (s : State) (f : Fld) (v : Nat) : (s.wf f v).errs = s.errs := rfl
@[simp] theorem State.wf_errNext (s : State) (f : Fld) (v : Nat) : (s.wf f v).errNext = s.errNext := rfl
@[simp] theorem State.wf_poison (s : State) (f : Fld) (v : Nat) : (s.wf f v).poison = s.poison := rfl
@[simp] theorem State.wf_poisonOver (s : State) (f : Fld) (v : Nat) : (s.wf f v).poisonOver = s.poisonOver := rfl
@[simp] theorem State.wf_health (s : State) (f : Fld) (v : Nat) : (s.wf f v).health = s.health := rfl
@[simp] theorem State.wf_reformat (s : State) (f : Fld) (v : Nat) : (s.wf f v).reformat = s.reformat := rfl
@[simp] theorem State.wf_out (s : State) (f : Fld) (v : Nat) : (s.wf f v).out = s.out := rfl
@[simp] theorem State.wf_freeCtr (s : State) (f : Fld) (v : Nat) : (s.wf f v).freeCtr = s.freeCtr := rfl
@[simp] theorem State.wf_pending (s : State) (f : Fld) (v : Nat) : (s.wf f v).pending = s.pending := rfl

/-! ## send -/

@[simp] theorem State.send_dev (s : State) (o : Output) : (s.send o).dev = s.dev := rfl
@[simp] theorem State.send_fuses (s : State) (o : Output) : (s.send o).fuses = s.fuses := rfl
@[simp] theorem State.send_vault (s : State) (o : Output) : (s.send o).vault = s.vault := rfl
@[simp] theorem State.send_regs (s : State) (o : Output) : (s.send o).regs = s.regs := rfl
@[simp] theorem State.send_glade (s : State) (o : Output) : (s.send o).glade = s.glade := rfl
@[simp] theorem State.send_fine (s : State) (o : Output) : (s.send o).fine = s.fine := rfl
@[simp] theorem State.send_opNotes (s : State) (o : Output) : (s.send o).opNotes = s.opNotes := rfl
@[simp] theorem State.send_seqNo (s : State) (o : Output) : (s.send o).seqNo = s.seqNo := rfl
@[simp] theorem State.send_power (s : State) (o : Output) : (s.send o).power = s.power := rfl
@[simp] theorem State.send_clocks (s : State) (o : Output) : (s.send o).clocks = s.clocks := rfl
@[simp] theorem State.send_resets (s : State) (o : Output) : (s.send o).resets = s.resets := rfl
@[simp] theorem State.send_active (s : State) (o : Output) : (s.send o).active = s.active := rfl
@[simp] theorem State.send_img (s : State) (o : Output) : (s.send o).img = s.img := rfl
@[simp] theorem State.send_compBorn (s : State) (o : Output) : (s.send o).compBorn = s.compBorn := rfl
@[simp] theorem State.send_rights (s : State) (o : Output) : (s.send o).rights = s.rights := rfl
@[simp] theorem State.send_evf (s : State) (o : Output) : (s.send o).evf = s.evf := rfl
@[simp] theorem State.send_evfHand (s : State) (o : Output) : (s.send o).evfHand = s.evfHand := rfl
@[simp] theorem State.send_log (s : State) (o : Output) : (s.send o).log = s.log := rfl
@[simp] theorem State.send_trace (s : State) (o : Output) : (s.send o).trace = s.trace := rfl
@[simp] theorem State.send_ps (s : State) (o : Output) : (s.send o).ps = s.ps := rfl
@[simp] theorem State.send_fw (s : State) (o : Output) : (s.send o).fw = s.fw := rfl
@[simp] theorem State.send_irq (s : State) (o : Output) : (s.send o).irq = s.irq := rfl
@[simp] theorem State.send_sb (s : State) (o : Output) : (s.send o).sb = s.sb := rfl
@[simp] theorem State.send_usb4 (s : State) (o : Output) : (s.send o).usb4 = s.usb4 := rfl
@[simp] theorem State.send_tap (s : State) (o : Output) : (s.send o).tap = s.tap := rfl
@[simp] theorem State.send_thm (s : State) (o : Output) : (s.send o).thm = s.thm := rfl
@[simp] theorem State.send_hist (s : State) (o : Output) : (s.send o).hist = s.hist := rfl
@[simp] theorem State.send_pkgs (s : State) (o : Output) : (s.send o).pkgs = s.pkgs := rfl
@[simp] theorem State.send_chans (s : State) (o : Output) : (s.send o).chans = s.chans := rfl
@[simp] theorem State.send_tiles (s : State) (o : Output) : (s.send o).tiles = s.tiles := rfl
@[simp] theorem State.send_reqs (s : State) (o : Output) : (s.send o).reqs = s.reqs := rfl
@[simp] theorem State.send_nextReq (s : State) (o : Output) : (s.send o).nextReq = s.nextReq := rfl
@[simp] theorem State.send_ops (s : State) (o : Output) : (s.send o).ops = s.ops := rfl
@[simp] theorem State.send_nextOp (s : State) (o : Output) : (s.send o).nextOp = s.nextOp := rfl
@[simp] theorem State.send_reservations (s : State) (o : Output) : (s.send o).reservations = s.reservations := rfl
@[simp] theorem State.send_packageFault (s : State) (o : Output) : (s.send o).packageFault = s.packageFault := rfl
@[simp] theorem State.send_links (s : State) (o : Output) : (s.send o).links = s.links := rfl
@[simp] theorem State.send_lds (s : State) (o : Output) : (s.send o).lds = s.lds := rfl
@[simp] theorem State.send_queues (s : State) (o : Output) : (s.send o).queues = s.queues := rfl
@[simp] theorem State.send_slots (s : State) (o : Output) : (s.send o).slots = s.slots := rfl
@[simp] theorem State.send_allocs (s : State) (o : Output) : (s.send o).allocs = s.allocs := rfl
@[simp] theorem State.send_roots (s : State) (o : Output) : (s.send o).roots = s.roots := rfl
@[simp] theorem State.send_rerooted (s : State) (o : Output) : (s.send o).rerooted = s.rerooted := rfl
@[simp] theorem State.send_sealBay (s : State) (o : Output) : (s.send o).sealBay = s.sealBay := rfl
@[simp] theorem State.send_sealBook (s : State) (o : Output) : (s.send o).sealBook = s.sealBook := rfl
@[simp] theorem State.send_sealing (s : State) (o : Output) : (s.send o).sealing = s.sealing := rfl
@[simp] theorem State.send_rootsAccepted (s : State) (o : Output) : (s.send o).rootsAccepted = s.rootsAccepted := rfl
@[simp] theorem State.send_overlay (s : State) (o : Output) : (s.send o).overlay = s.overlay := rfl
@[simp] theorem State.send_rekeys (s : State) (o : Output) : (s.send o).rekeys = s.rekeys := rfl
@[simp] theorem State.send_places (s : State) (o : Output) : (s.send o).places = s.places := rfl
@[simp] theorem State.send_spareBase (s : State) (o : Output) : (s.send o).spareBase = s.spareBase := rfl
@[simp] theorem State.send_readOnly (s : State) (o : Output) : (s.send o).readOnly = s.readOnly := rfl
@[simp] theorem State.send_retiredChans (s : State) (o : Output) : (s.send o).retiredChans = s.retiredChans := rfl
@[simp] theorem State.send_deadwood (s : State) (o : Output) : (s.send o).deadwood = s.deadwood := rfl
@[simp] theorem State.send_retiring (s : State) (o : Output) : (s.send o).retiring = s.retiring := rfl
@[simp] theorem State.send_retireQueue (s : State) (o : Output) : (s.send o).retireQueue = s.retireQueue := rfl
@[simp] theorem State.send_lostWords (s : State) (o : Output) : (s.send o).lostWords = s.lostWords := rfl
@[simp] theorem State.send_hubQ (s : State) (o : Output) : (s.send o).hubQ = s.hubQ := rfl
@[simp] theorem State.send_hubSeq (s : State) (o : Output) : (s.send o).hubSeq = s.hubSeq := rfl
@[simp] theorem State.send_errs (s : State) (o : Output) : (s.send o).errs = s.errs := rfl
@[simp] theorem State.send_errNext (s : State) (o : Output) : (s.send o).errNext = s.errNext := rfl
@[simp] theorem State.send_poison (s : State) (o : Output) : (s.send o).poison = s.poison := rfl
@[simp] theorem State.send_poisonOver (s : State) (o : Output) : (s.send o).poisonOver = s.poisonOver := rfl
@[simp] theorem State.send_health (s : State) (o : Output) : (s.send o).health = s.health := rfl
@[simp] theorem State.send_reformat (s : State) (o : Output) : (s.send o).reformat = s.reformat := rfl
@[simp] theorem State.send_freeCtr (s : State) (o : Output) : (s.send o).freeCtr = s.freeCtr := rfl
@[simp] theorem State.send_pending (s : State) (o : Output) : (s.send o).pending = s.pending := rfl

/-! ## reply -/

@[simp] theorem State.reply_dev (s : State) (i l c : Nat) (r : Ret) (b : Bytes) : (s.reply i l c r b).dev = s.dev := rfl
@[simp] theorem State.reply_fuses (s : State) (i l c : Nat) (r : Ret) (b : Bytes) : (s.reply i l c r b).fuses = s.fuses := rfl
@[simp] theorem State.reply_vault (s : State) (i l c : Nat) (r : Ret) (b : Bytes) : (s.reply i l c r b).vault = s.vault := rfl
@[simp] theorem State.reply_regs (s : State) (i l c : Nat) (r : Ret) (b : Bytes) : (s.reply i l c r b).regs = s.regs := rfl
@[simp] theorem State.reply_glade (s : State) (i l c : Nat) (r : Ret) (b : Bytes) : (s.reply i l c r b).glade = s.glade := rfl
@[simp] theorem State.reply_fine (s : State) (i l c : Nat) (r : Ret) (b : Bytes) : (s.reply i l c r b).fine = s.fine := rfl
@[simp] theorem State.reply_opNotes (s : State) (i l c : Nat) (r : Ret) (b : Bytes) : (s.reply i l c r b).opNotes = s.opNotes := rfl
@[simp] theorem State.reply_seqNo (s : State) (i l c : Nat) (r : Ret) (b : Bytes) : (s.reply i l c r b).seqNo = s.seqNo := rfl
@[simp] theorem State.reply_power (s : State) (i l c : Nat) (r : Ret) (b : Bytes) : (s.reply i l c r b).power = s.power := rfl
@[simp] theorem State.reply_clocks (s : State) (i l c : Nat) (r : Ret) (b : Bytes) : (s.reply i l c r b).clocks = s.clocks := rfl
@[simp] theorem State.reply_resets (s : State) (i l c : Nat) (r : Ret) (b : Bytes) : (s.reply i l c r b).resets = s.resets := rfl
@[simp] theorem State.reply_active (s : State) (i l c : Nat) (r : Ret) (b : Bytes) : (s.reply i l c r b).active = s.active := rfl
@[simp] theorem State.reply_img (s : State) (i l c : Nat) (r : Ret) (b : Bytes) : (s.reply i l c r b).img = s.img := rfl
@[simp] theorem State.reply_compBorn (s : State) (i l c : Nat) (r : Ret) (b : Bytes) : (s.reply i l c r b).compBorn = s.compBorn := rfl
@[simp] theorem State.reply_rights (s : State) (i l c : Nat) (r : Ret) (b : Bytes) : (s.reply i l c r b).rights = s.rights := rfl
@[simp] theorem State.reply_evf (s : State) (i l c : Nat) (r : Ret) (b : Bytes) : (s.reply i l c r b).evf = s.evf := rfl
@[simp] theorem State.reply_evfHand (s : State) (i l c : Nat) (r : Ret) (b : Bytes) : (s.reply i l c r b).evfHand = s.evfHand := rfl
@[simp] theorem State.reply_log (s : State) (i l c : Nat) (r : Ret) (b : Bytes) : (s.reply i l c r b).log = s.log := rfl
@[simp] theorem State.reply_trace (s : State) (i l c : Nat) (r : Ret) (b : Bytes) : (s.reply i l c r b).trace = s.trace := rfl
@[simp] theorem State.reply_ps (s : State) (i l c : Nat) (r : Ret) (b : Bytes) : (s.reply i l c r b).ps = s.ps := rfl
@[simp] theorem State.reply_fw (s : State) (i l c : Nat) (r : Ret) (b : Bytes) : (s.reply i l c r b).fw = s.fw := rfl
@[simp] theorem State.reply_irq (s : State) (i l c : Nat) (r : Ret) (b : Bytes) : (s.reply i l c r b).irq = s.irq := rfl
@[simp] theorem State.reply_sb (s : State) (i l c : Nat) (r : Ret) (b : Bytes) : (s.reply i l c r b).sb = s.sb := rfl
@[simp] theorem State.reply_usb4 (s : State) (i l c : Nat) (r : Ret) (b : Bytes) : (s.reply i l c r b).usb4 = s.usb4 := rfl
@[simp] theorem State.reply_tap (s : State) (i l c : Nat) (r : Ret) (b : Bytes) : (s.reply i l c r b).tap = s.tap := rfl
@[simp] theorem State.reply_thm (s : State) (i l c : Nat) (r : Ret) (b : Bytes) : (s.reply i l c r b).thm = s.thm := rfl
@[simp] theorem State.reply_hist (s : State) (i l c : Nat) (r : Ret) (b : Bytes) : (s.reply i l c r b).hist = s.hist := rfl
@[simp] theorem State.reply_pkgs (s : State) (i l c : Nat) (r : Ret) (b : Bytes) : (s.reply i l c r b).pkgs = s.pkgs := rfl
@[simp] theorem State.reply_chans (s : State) (i l c : Nat) (r : Ret) (b : Bytes) : (s.reply i l c r b).chans = s.chans := rfl
@[simp] theorem State.reply_tiles (s : State) (i l c : Nat) (r : Ret) (b : Bytes) : (s.reply i l c r b).tiles = s.tiles := rfl
@[simp] theorem State.reply_reqs (s : State) (i l c : Nat) (r : Ret) (b : Bytes) : (s.reply i l c r b).reqs = s.reqs := rfl
@[simp] theorem State.reply_nextReq (s : State) (i l c : Nat) (r : Ret) (b : Bytes) : (s.reply i l c r b).nextReq = s.nextReq := rfl
@[simp] theorem State.reply_ops (s : State) (i l c : Nat) (r : Ret) (b : Bytes) : (s.reply i l c r b).ops = s.ops := rfl
@[simp] theorem State.reply_nextOp (s : State) (i l c : Nat) (r : Ret) (b : Bytes) : (s.reply i l c r b).nextOp = s.nextOp := rfl
@[simp] theorem State.reply_reservations (s : State) (i l c : Nat) (r : Ret) (b : Bytes) : (s.reply i l c r b).reservations = s.reservations := rfl
@[simp] theorem State.reply_packageFault (s : State) (i l c : Nat) (r : Ret) (b : Bytes) : (s.reply i l c r b).packageFault = s.packageFault := rfl
@[simp] theorem State.reply_links (s : State) (i l c : Nat) (r : Ret) (b : Bytes) : (s.reply i l c r b).links = s.links := rfl
@[simp] theorem State.reply_lds (s : State) (i l c : Nat) (r : Ret) (b : Bytes) : (s.reply i l c r b).lds = s.lds := rfl
@[simp] theorem State.reply_queues (s : State) (i l c : Nat) (r : Ret) (b : Bytes) : (s.reply i l c r b).queues = s.queues := rfl
@[simp] theorem State.reply_slots (s : State) (i l c : Nat) (r : Ret) (b : Bytes) : (s.reply i l c r b).slots = s.slots := rfl
@[simp] theorem State.reply_allocs (s : State) (i l c : Nat) (r : Ret) (b : Bytes) : (s.reply i l c r b).allocs = s.allocs := rfl
@[simp] theorem State.reply_roots (s : State) (i l c : Nat) (r : Ret) (b : Bytes) : (s.reply i l c r b).roots = s.roots := rfl
@[simp] theorem State.reply_rerooted (s : State) (i l c : Nat) (r : Ret) (b : Bytes) : (s.reply i l c r b).rerooted = s.rerooted := rfl
@[simp] theorem State.reply_sealBay (s : State) (i l c : Nat) (r : Ret) (b : Bytes) : (s.reply i l c r b).sealBay = s.sealBay := rfl
@[simp] theorem State.reply_sealBook (s : State) (i l c : Nat) (r : Ret) (b : Bytes) : (s.reply i l c r b).sealBook = s.sealBook := rfl
@[simp] theorem State.reply_sealing (s : State) (i l c : Nat) (r : Ret) (b : Bytes) : (s.reply i l c r b).sealing = s.sealing := rfl
@[simp] theorem State.reply_rootsAccepted (s : State) (i l c : Nat) (r : Ret) (b : Bytes) : (s.reply i l c r b).rootsAccepted = s.rootsAccepted := rfl
@[simp] theorem State.reply_overlay (s : State) (i l c : Nat) (r : Ret) (b : Bytes) : (s.reply i l c r b).overlay = s.overlay := rfl
@[simp] theorem State.reply_rekeys (s : State) (i l c : Nat) (r : Ret) (b : Bytes) : (s.reply i l c r b).rekeys = s.rekeys := rfl
@[simp] theorem State.reply_places (s : State) (i l c : Nat) (r : Ret) (b : Bytes) : (s.reply i l c r b).places = s.places := rfl
@[simp] theorem State.reply_spareBase (s : State) (i l c : Nat) (r : Ret) (b : Bytes) : (s.reply i l c r b).spareBase = s.spareBase := rfl
@[simp] theorem State.reply_readOnly (s : State) (i l c : Nat) (r : Ret) (b : Bytes) : (s.reply i l c r b).readOnly = s.readOnly := rfl
@[simp] theorem State.reply_retiredChans (s : State) (i l c : Nat) (r : Ret) (b : Bytes) : (s.reply i l c r b).retiredChans = s.retiredChans := rfl
@[simp] theorem State.reply_deadwood (s : State) (i l c : Nat) (r : Ret) (b : Bytes) : (s.reply i l c r b).deadwood = s.deadwood := rfl
@[simp] theorem State.reply_retiring (s : State) (i l c : Nat) (r : Ret) (b : Bytes) : (s.reply i l c r b).retiring = s.retiring := rfl
@[simp] theorem State.reply_retireQueue (s : State) (i l c : Nat) (r : Ret) (b : Bytes) : (s.reply i l c r b).retireQueue = s.retireQueue := rfl
@[simp] theorem State.reply_lostWords (s : State) (i l c : Nat) (r : Ret) (b : Bytes) : (s.reply i l c r b).lostWords = s.lostWords := rfl
@[simp] theorem State.reply_hubQ (s : State) (i l c : Nat) (r : Ret) (b : Bytes) : (s.reply i l c r b).hubQ = s.hubQ := rfl
@[simp] theorem State.reply_hubSeq (s : State) (i l c : Nat) (r : Ret) (b : Bytes) : (s.reply i l c r b).hubSeq = s.hubSeq := rfl
@[simp] theorem State.reply_errs (s : State) (i l c : Nat) (r : Ret) (b : Bytes) : (s.reply i l c r b).errs = s.errs := rfl
@[simp] theorem State.reply_errNext (s : State) (i l c : Nat) (r : Ret) (b : Bytes) : (s.reply i l c r b).errNext = s.errNext := rfl
@[simp] theorem State.reply_poison (s : State) (i l c : Nat) (r : Ret) (b : Bytes) : (s.reply i l c r b).poison = s.poison := rfl
@[simp] theorem State.reply_poisonOver (s : State) (i l c : Nat) (r : Ret) (b : Bytes) : (s.reply i l c r b).poisonOver = s.poisonOver := rfl
@[simp] theorem State.reply_health (s : State) (i l c : Nat) (r : Ret) (b : Bytes) : (s.reply i l c r b).health = s.health := rfl
@[simp] theorem State.reply_reformat (s : State) (i l c : Nat) (r : Ret) (b : Bytes) : (s.reply i l c r b).reformat = s.reformat := rfl
@[simp] theorem State.reply_freeCtr (s : State) (i l c : Nat) (r : Ret) (b : Bytes) : (s.reply i l c r b).freeCtr = s.freeCtr := rfl
@[simp] theorem State.reply_pending (s : State) (i l c : Nat) (r : Ret) (b : Bytes) : (s.reply i l c r b).pending = s.pending := rfl

/-! ## modTile -/

@[simp] theorem State.modTile_dev (s : State) (t : Nat) (f : Tile → Tile) : (s.modTile t f).dev = s.dev := rfl
@[simp] theorem State.modTile_fuses (s : State) (t : Nat) (f : Tile → Tile) : (s.modTile t f).fuses = s.fuses := rfl
@[simp] theorem State.modTile_vault (s : State) (t : Nat) (f : Tile → Tile) : (s.modTile t f).vault = s.vault := rfl
@[simp] theorem State.modTile_regs (s : State) (t : Nat) (f : Tile → Tile) : (s.modTile t f).regs = s.regs := rfl
@[simp] theorem State.modTile_glade (s : State) (t : Nat) (f : Tile → Tile) : (s.modTile t f).glade = s.glade := rfl
@[simp] theorem State.modTile_fine (s : State) (t : Nat) (f : Tile → Tile) : (s.modTile t f).fine = s.fine := rfl
@[simp] theorem State.modTile_opNotes (s : State) (t : Nat) (f : Tile → Tile) : (s.modTile t f).opNotes = s.opNotes := rfl
@[simp] theorem State.modTile_seqNo (s : State) (t : Nat) (f : Tile → Tile) : (s.modTile t f).seqNo = s.seqNo := rfl
@[simp] theorem State.modTile_power (s : State) (t : Nat) (f : Tile → Tile) : (s.modTile t f).power = s.power := rfl
@[simp] theorem State.modTile_clocks (s : State) (t : Nat) (f : Tile → Tile) : (s.modTile t f).clocks = s.clocks := rfl
@[simp] theorem State.modTile_resets (s : State) (t : Nat) (f : Tile → Tile) : (s.modTile t f).resets = s.resets := rfl
@[simp] theorem State.modTile_active (s : State) (t : Nat) (f : Tile → Tile) : (s.modTile t f).active = s.active := rfl
@[simp] theorem State.modTile_img (s : State) (t : Nat) (f : Tile → Tile) : (s.modTile t f).img = s.img := rfl
@[simp] theorem State.modTile_compBorn (s : State) (t : Nat) (f : Tile → Tile) : (s.modTile t f).compBorn = s.compBorn := rfl
@[simp] theorem State.modTile_rights (s : State) (t : Nat) (f : Tile → Tile) : (s.modTile t f).rights = s.rights := rfl
@[simp] theorem State.modTile_evf (s : State) (t : Nat) (f : Tile → Tile) : (s.modTile t f).evf = s.evf := rfl
@[simp] theorem State.modTile_evfHand (s : State) (t : Nat) (f : Tile → Tile) : (s.modTile t f).evfHand = s.evfHand := rfl
@[simp] theorem State.modTile_log (s : State) (t : Nat) (f : Tile → Tile) : (s.modTile t f).log = s.log := rfl
@[simp] theorem State.modTile_trace (s : State) (t : Nat) (f : Tile → Tile) : (s.modTile t f).trace = s.trace := rfl
@[simp] theorem State.modTile_ps (s : State) (t : Nat) (f : Tile → Tile) : (s.modTile t f).ps = s.ps := rfl
@[simp] theorem State.modTile_fw (s : State) (t : Nat) (f : Tile → Tile) : (s.modTile t f).fw = s.fw := rfl
@[simp] theorem State.modTile_irq (s : State) (t : Nat) (f : Tile → Tile) : (s.modTile t f).irq = s.irq := rfl
@[simp] theorem State.modTile_sb (s : State) (t : Nat) (f : Tile → Tile) : (s.modTile t f).sb = s.sb := rfl
@[simp] theorem State.modTile_usb4 (s : State) (t : Nat) (f : Tile → Tile) : (s.modTile t f).usb4 = s.usb4 := rfl
@[simp] theorem State.modTile_tap (s : State) (t : Nat) (f : Tile → Tile) : (s.modTile t f).tap = s.tap := rfl
@[simp] theorem State.modTile_thm (s : State) (t : Nat) (f : Tile → Tile) : (s.modTile t f).thm = s.thm := rfl
@[simp] theorem State.modTile_hist (s : State) (t : Nat) (f : Tile → Tile) : (s.modTile t f).hist = s.hist := rfl
@[simp] theorem State.modTile_pkgs (s : State) (t : Nat) (f : Tile → Tile) : (s.modTile t f).pkgs = s.pkgs := rfl
@[simp] theorem State.modTile_chans (s : State) (t : Nat) (f : Tile → Tile) : (s.modTile t f).chans = s.chans := rfl
@[simp] theorem State.modTile_reqs (s : State) (t : Nat) (f : Tile → Tile) : (s.modTile t f).reqs = s.reqs := rfl
@[simp] theorem State.modTile_nextReq (s : State) (t : Nat) (f : Tile → Tile) : (s.modTile t f).nextReq = s.nextReq := rfl
@[simp] theorem State.modTile_ops (s : State) (t : Nat) (f : Tile → Tile) : (s.modTile t f).ops = s.ops := rfl
@[simp] theorem State.modTile_nextOp (s : State) (t : Nat) (f : Tile → Tile) : (s.modTile t f).nextOp = s.nextOp := rfl
@[simp] theorem State.modTile_reservations (s : State) (t : Nat) (f : Tile → Tile) : (s.modTile t f).reservations = s.reservations := rfl
@[simp] theorem State.modTile_packageFault (s : State) (t : Nat) (f : Tile → Tile) : (s.modTile t f).packageFault = s.packageFault := rfl
@[simp] theorem State.modTile_links (s : State) (t : Nat) (f : Tile → Tile) : (s.modTile t f).links = s.links := rfl
@[simp] theorem State.modTile_lds (s : State) (t : Nat) (f : Tile → Tile) : (s.modTile t f).lds = s.lds := rfl
@[simp] theorem State.modTile_queues (s : State) (t : Nat) (f : Tile → Tile) : (s.modTile t f).queues = s.queues := rfl
@[simp] theorem State.modTile_slots (s : State) (t : Nat) (f : Tile → Tile) : (s.modTile t f).slots = s.slots := rfl
@[simp] theorem State.modTile_allocs (s : State) (t : Nat) (f : Tile → Tile) : (s.modTile t f).allocs = s.allocs := rfl
@[simp] theorem State.modTile_roots (s : State) (t : Nat) (f : Tile → Tile) : (s.modTile t f).roots = s.roots := rfl
@[simp] theorem State.modTile_rerooted (s : State) (t : Nat) (f : Tile → Tile) : (s.modTile t f).rerooted = s.rerooted := rfl
@[simp] theorem State.modTile_sealBay (s : State) (t : Nat) (f : Tile → Tile) : (s.modTile t f).sealBay = s.sealBay := rfl
@[simp] theorem State.modTile_sealBook (s : State) (t : Nat) (f : Tile → Tile) : (s.modTile t f).sealBook = s.sealBook := rfl
@[simp] theorem State.modTile_sealing (s : State) (t : Nat) (f : Tile → Tile) : (s.modTile t f).sealing = s.sealing := rfl
@[simp] theorem State.modTile_rootsAccepted (s : State) (t : Nat) (f : Tile → Tile) : (s.modTile t f).rootsAccepted = s.rootsAccepted := rfl
@[simp] theorem State.modTile_overlay (s : State) (t : Nat) (f : Tile → Tile) : (s.modTile t f).overlay = s.overlay := rfl
@[simp] theorem State.modTile_rekeys (s : State) (t : Nat) (f : Tile → Tile) : (s.modTile t f).rekeys = s.rekeys := rfl
@[simp] theorem State.modTile_places (s : State) (t : Nat) (f : Tile → Tile) : (s.modTile t f).places = s.places := rfl
@[simp] theorem State.modTile_spareBase (s : State) (t : Nat) (f : Tile → Tile) : (s.modTile t f).spareBase = s.spareBase := rfl
@[simp] theorem State.modTile_readOnly (s : State) (t : Nat) (f : Tile → Tile) : (s.modTile t f).readOnly = s.readOnly := rfl
@[simp] theorem State.modTile_retiredChans (s : State) (t : Nat) (f : Tile → Tile) : (s.modTile t f).retiredChans = s.retiredChans := rfl
@[simp] theorem State.modTile_deadwood (s : State) (t : Nat) (f : Tile → Tile) : (s.modTile t f).deadwood = s.deadwood := rfl
@[simp] theorem State.modTile_retiring (s : State) (t : Nat) (f : Tile → Tile) : (s.modTile t f).retiring = s.retiring := rfl
@[simp] theorem State.modTile_retireQueue (s : State) (t : Nat) (f : Tile → Tile) : (s.modTile t f).retireQueue = s.retireQueue := rfl
@[simp] theorem State.modTile_lostWords (s : State) (t : Nat) (f : Tile → Tile) : (s.modTile t f).lostWords = s.lostWords := rfl
@[simp] theorem State.modTile_hubQ (s : State) (t : Nat) (f : Tile → Tile) : (s.modTile t f).hubQ = s.hubQ := rfl
@[simp] theorem State.modTile_hubSeq (s : State) (t : Nat) (f : Tile → Tile) : (s.modTile t f).hubSeq = s.hubSeq := rfl
@[simp] theorem State.modTile_errs (s : State) (t : Nat) (f : Tile → Tile) : (s.modTile t f).errs = s.errs := rfl
@[simp] theorem State.modTile_errNext (s : State) (t : Nat) (f : Tile → Tile) : (s.modTile t f).errNext = s.errNext := rfl
@[simp] theorem State.modTile_poison (s : State) (t : Nat) (f : Tile → Tile) : (s.modTile t f).poison = s.poison := rfl
@[simp] theorem State.modTile_poisonOver (s : State) (t : Nat) (f : Tile → Tile) : (s.modTile t f).poisonOver = s.poisonOver := rfl
@[simp] theorem State.modTile_health (s : State) (t : Nat) (f : Tile → Tile) : (s.modTile t f).health = s.health := rfl
@[simp] theorem State.modTile_reformat (s : State) (t : Nat) (f : Tile → Tile) : (s.modTile t f).reformat = s.reformat := rfl
@[simp] theorem State.modTile_out (s : State) (t : Nat) (f : Tile → Tile) : (s.modTile t f).out = s.out := rfl
@[simp] theorem State.modTile_freeCtr (s : State) (t : Nat) (f : Tile → Tile) : (s.modTile t f).freeCtr = s.freeCtr := rfl
@[simp] theorem State.modTile_pending (s : State) (t : Nat) (f : Tile → Tile) : (s.modTile t f).pending = s.pending := rfl

@[simp] theorem State.send_out (s : State) (o : Output) : (s.send o).out = o :: s.out := rfl
@[simp] theorem State.reply_out (s : State) (i l c : Nat) (r : Ret) (b : Bytes) : (s.reply i l c r b).out = .reply i l c r b :: s.out := rfl
@[simp] theorem State.send_rf (s : State) (o : Output) (f : Fld) : (s.send o).rf f = s.rf f := rfl
@[simp] theorem State.send_rb (s : State) (o : Output) (f : Fld) : (s.send o).rb f = s.rb f := rfl
@[simp] theorem State.modTile_rf (s : State) (t : Nat) (g : Tile → Tile) (f : Fld) : (s.modTile t g).rf f = s.rf f := rfl
@[simp] theorem State.modTile_rb (s : State) (t : Nat) (g : Tile → Tile) (f : Fld) : (s.modTile t g).rb f = s.rb f := rfl

end Sys2Proof.Machine
end

