-- ==== Sys2Proof/WellFormed.lean ====
section
/-! DEFINITION. Which commands are well formed: the operands that number a unit, or carry a word, lie within what the spec gives them. A meaning takes any operand; one that names no unit has no effect. -/
namespace Sys2Proof

/-- A tile number (R1, R2). -/
def tileOk (t : Nat) : Bool := decide (t < 8)
/-- A global media channel: 128 for each of eight tiles (02). -/
def chanOk (c : Nat) : Bool := decide (c < 1024)
/-- A die of a package (02). -/
def dieOk (d : Nat) : Bool := decide (d < 4)
/-- A host port (R1, R125), a link of one (R125), a logical device (R128). -/
def portOk (p : Nat) : Bool := decide (p < 4)
def linkOk (l : Nat) : Bool := decide (l < 2)
def ldOk (l : Nat) : Bool := decide (l < 16)
/-- An interface (R354); for a write, a processor too: 8 + t for target t (R447, log 35). -/
def ifaceOk (i : Nat) : Bool := decide (i < 8)
def writerOk (i : Nat) : Bool := decide (i < 17)
/-- A processor: 0 warden, 1 + n steward n (R458); an interrupt target, in the same numbers (R444). -/
def coreOk (c : Nat) : Bool := decide (c < 9)
def targetOk (t : Nat) : Bool := decide (t < 9)
/-- An interrupt source (R443). -/
def sourceOk (n : Nat) : Bool := decide (n < 0x110)
/-- A rail (R460), a thermal sensor (R496, R497), a queue pair (04), a command tag (02). -/
def railOk (r : Nat) : Bool := decide (r < 16)
def sensorOk (k : Nat) : Bool := decide (k < 41)
def queueOk (q : Nat) : Bool := decide (q < 4096)
def tagOk (t : Nat) : Bool := decide (t < 64)
/-- A 32-bit word: a register's value, an address (R529). -/
def wordOk (v : Nat) : Bool := decide (v < 2 ^ 32)

/-- A command is well formed. -/
def Instr.wf (i : Instr) : Bool :=
  match i with
  | .fabricWordReceive _ _ _ _ => true
  | .helperComplete _ _ _ => true
  | .heldRequestRelease tile => tileOk tile
  | .isolate iface tile => ifaceOk iface && tileOk tile
  | .catchEscrowDrainDone tile _ => tileOk tile
  | .isolationReissue tile => tileOk tile
  | .restore iface tile => ifaceOk iface && tileOk tile
  | .restoreVerifyDone tile _ => tileOk tile
  | .rebuildStripe tile => tileOk tile
  | .homeMoveBack tile => tileOk tile
  | .tileService iface ld _ => ifaceOk iface && ldOk ld
  | .tileWatchdogExpire tile => tileOk tile
  | .stewardLockup tile => tileOk tile
  | .tileFabricLinkFail tile => tileOk tile
  | .tileInternalError tile => tileOk tile
  | .read chan _ => chanOk chan
  | .progFast chan _ _ => chanOk chan
  | .sheetLoad chan _ _ => chanOk chan
  | .progDense chan _ => chanOk chan
  | .suspend chan _ => chanOk chan
  | .denseSuspendReached chan die => chanOk chan && dieOk die
  | .resume chan _ => chanOk chan
  | .denseAutoResume chan die => chanOk chan && dieOk die
  | .abort chan _ => chanOk chan
  | .status chan _ => chanOk chan
  | .identify chan _ => chanOk chan
  | .refLoad chan _ => chanOk chan
  | .refDefault chan _ => chanOk chan
  | .echo chan _ => chanOk chan
  | .arrayReadDone chan die => chanOk chan && dieOk die
  | .fastProgramDone chan die _ _ => chanOk chan && dieOk die
  | .denseProgramDone chan die _ _ => chanOk chan && dieOk die
  | .badBlockReceive chan _ => chanOk chan
  | .vmedLowDetect chan => chanOk chan
  | .readData chan _ _ => chanOk chan
  | .completion chan _ => chanOk chan
  | .statusData chan _ _ => chanOk chan
  | .identData chan _ _ => chanOk chan
  | .echoData chan _ _ => chanOk chan
  | .errNotice chan _ => chanOk chan
  | .badResponseReceive chan => chanOk chan
  | .statusPollTimeout chan => chanOk chan
  | .commandResponseTimeout chan tag => chanOk chan && tagOk tag
  | .linkCrcErrorLimit chan => chanOk chan
  | .blockLockLoss chan => chanOk chan
  | .detectTerminationSensed chan => chanOk chan
  | .bitLockAchieved chan => chanOk chan
  | .blockLockAchieved chan => chanOk chan
  | .trainPresetsDone chan _ => chanOk chan
  | .configTs2Matched chan => chanOk chan
  | .recoveryDone chan => chanOk chan
  | .trainingStateTimeout chan => chanOk chan
  | .packageTs0Receive chan => chanOk chan
  | .unannouncedIdleTimeout chan => chanOk chan
  | .lnkRetrain iface chan => ifaceOk iface && chanOk chan
  | .lnkDisable iface chan value => ifaceOk iface && chanOk chan && wordOk value
  | .lnkErrClear iface chan => ifaceOk iface && chanOk chan
  | .stageImage iface ld _ => ifaceOk iface && ldOk ld
  | .imageChecksDone => true
  | .verify iface => ifaceOk iface
  | .applyLive iface => ifaceOk iface
  | .applyAtResume iface value => ifaceOk iface && wordOk value
  | .returnPrev iface => ifaceOk iface
  | .discardStaged iface => ifaceOk iface
  | .imageControl iface ld _ => ifaceOk iface && ldOk ld
  | .applyComparisonDone => true
  | .compartmentQuiet _ => true
  | .quietWaitExpire _ => true
  | .forcedHoldExpire _ => true
  | .switchDeadlineExpire _ => true
  | .applyCommit => true
  | .applyCommitDone => true
  | .standImageResumeCheck => true
  | .hostLinkTrained port link _ _ => portOk port && linkOk link
  | .ideIntegrityFail port link _ => portOk port && linkOk link
  | .ideKeyProgram port link _ _ => portOk port && linkOk link
  | .cxlMemRead port ld _ _ _ => portOk port && ldOk ld
  | .cxlMemWrite port ld _ _ _ _ => portOk port && ldOk ld
  | .cxlMemPartialWrite port ld _ _ _ _ _ => portOk port && ldOk ld
  | .memSpecRd port ld _ _ => portOk port && ldOk ld
  | .globalPersistentFlush port _ => portOk port
  | .configRequest port ld _ _ value => portOk port && ldOk ld && wordOk value
  | .cdatRead port ld _ => portOk port && ldOk ld
  | .spdmRequest port ld _ => portOk port && ldOk ld
  | .getEventRecords iface ld _ => ifaceOk iface && ldOk ld
  | .clearEventRecords iface ld _ _ _ => ifaceOk iface && ldOk ld
  | .getEventInterruptPolicy iface ld => ifaceOk iface && ldOk ld
  | .setEventInterruptPolicy iface ld _ => ifaceOk iface && ldOk ld
  | .getFwInfo iface ld => ifaceOk iface && ldOk ld
  | .transferFw iface ld _ _ _ _ => ifaceOk iface && ldOk ld
  | .activateFw iface ld _ _ => ifaceOk iface && ldOk ld
  | .getTimestamp iface ld => ifaceOk iface && ldOk ld
  | .setTimestamp iface ld value => ifaceOk iface && ldOk ld && decide (value < 2 ^ 64)
  | .getSupportedLogs iface ld => ifaceOk iface && ldOk ld
  | .getLog iface ld _ => ifaceOk iface && ldOk ld
  | .identifyMemoryDevice iface ld => ifaceOk iface && ldOk ld
  | .getPartitionInfo iface ld => ifaceOk iface && ldOk ld
  | .getLsa iface ld _ _ => ifaceOk iface && ldOk ld
  | .setLsa iface ld _ _ => ifaceOk iface && ldOk ld
  | .getHealthInfo iface ld => ifaceOk iface && ldOk ld
  | .getAlertConfig iface ld => ifaceOk iface && ldOk ld
  | .setAlertConfig iface ld _ => ifaceOk iface && ldOk ld
  | .getShutdownState iface ld => ifaceOk iface && ldOk ld
  | .setShutdownState iface ld _ => ifaceOk iface && ldOk ld
  | .getPoisonList iface ld _ _ => ifaceOk iface && ldOk ld
  | .injectPoison iface ld _ => ifaceOk iface && ldOk ld
  | .clearPoison iface ld _ _ => ifaceOk iface && ldOk ld
  | .getScanMediaCapabilities iface ld _ _ => ifaceOk iface && ldOk ld
  | .scanMedia iface ld _ _ => ifaceOk iface && ldOk ld
  | .getScanMediaResults iface ld => ifaceOk iface && ldOk ld
  | .sanitize iface ld => ifaceOk iface && ldOk ld
  | .secureErase iface ld => ifaceOk iface && ldOk ld
  | .unsupportedCommand iface ld _ => ifaceOk iface && ldOk ld
  | .getLdInfo port link => portOk port && linkOk link
  | .getLdAllocations port link _ => portOk port && linkOk link
  | .setLdAllocations port link _ => portOk port && linkOk link
  | .createQueuePair iface ld _ => ifaceOk iface && ldOk ld
  | .deleteQueuePair iface ld _ => ifaceOk iface && ldOk ld
  | .getQueuePairStatus iface ld _ => ifaceOk iface && ldOk ld
  | .sqTailDoorbell port ld queue value => portOk port && ldOk ld && queueOk queue && wordOk value
  | .cqHeadDoorbell port ld queue value => portOk port && ldOk ld && queueOk queue && wordOk value
  | .descriptorFetchDone queue _ _ => queueOk queue
  | .copy queue _ _ _ => queueOk queue
  | .fill queue _ _ => queueOk queue
  | .clear queue _ => queueOk queue
  | .discard queue _ => queueOk queue
  | .queueCompletionPost queue _ => queueOk queue
  | .perstAssert port => portOk port
  | .hotReset port link => portOk port && linkOk link
  | .hostLinkDown port link => portOk port && linkOk link
  | .functionLevelReset port ld => portOk port && ldOk ld
  | .cxlReset port ld => portOk port && ldOk ld
  | .hptWfailClear iface port => ifaceOk iface && portOk port
  | .hptRdlatClear iface port => ifaceOk iface && portOk port
  | .hptLtClear iface port => ifaceOk iface && portOk port
  | .readPatienceExpire _ => true
  | .yieldWindowEnd tile => tileOk tile
  | .levelTimingRelease _ _ => true
  | .writeAdmitResume tile => tileOk tile
  | .lingerExpire tile _ => tileOk tile
  | .destageLeaf tile _ => tileOk tile
  | .lineStripeFillTimeout tile => tileOk tile
  | .leafSwitch tile _ => tileOk tile
  | .stemCopyStart tile => tileOk tile
  | .sheetReadback tile _ => tileOk tile
  | .stemSwitch tile _ => tileOk tile
  | .stemCopyAbandon tile _ => tileOk tile
  | .refreshDue tile _ => tileOk tile
  | .vinWarn _ => true
  | .vinCommit _ => true
  | .flushDone _ => true
  | .vinValid _ => true
  | .vinOff _ => true
  | .commitOffTimeout => true
  | .litterReplay tile _ _ => tileOk tile
  | .censusEnd tile => tileOk tile
  | .filterRebuildDone tile => tileOk tile
  | .stemMapResident tile => tileOk tile
  | .wearLevelTick tile => tileOk tile
  | .retire iface ld _ => ifaceOk iface && ldOk ld
  | .retireDone => true
  | .getHealthReport iface ld => ifaceOk iface && ldOk ld
  | .getMediaErrorRecords iface ld _ => ifaceOk iface && ldOk ld
  | .scrubLineStripe tile => tileOk tile
  | .scrubPositionPersist tile => tileOk tile
  | .sramClear iface tile => ifaceOk iface && tileOk tile
  | .checkerOpen iface tile => ifaceOk iface && tileOk tile
  | .checkerClose iface tile => ifaceOk iface && tileOk tile
  | .checkerWrite iface tile => ifaceOk iface && tileOk tile
  | .checkerRead iface tile => ifaceOk iface && tileOk tile
  | .checkerOpDone tile => tileOk tile
  | .clean iface tile => ifaceOk iface && tileOk tile
  | .invalidate iface tile => ifaceOk iface && tileOk tile
  | .cleanAndInvalidate iface tile => ifaceOk iface && tileOk tile
  | .lock iface tile => ifaceOk iface && tileOk tile
  | .unlock iface tile => ifaceOk iface && tileOk tile
  | .rangeOpDone tile => tileOk tile
  | .createKeySlot iface ld _ => ifaceOk iface && ldOk ld
  | .destroyKeySlot iface ld _ => ifaceOk iface && ldOk ld
  | .getKeySlotInfo iface ld _ => ifaceOk iface && ldOk ld
  | .keyUnwrapDone tile _ => tileOk tile
  | .reroot iface value => ifaceOk iface && wordOk value
  | .rerootDone tile => tileOk tile
  | .taprootAccept => true
  | .sealedSetSave => true
  | .startRekey iface ld _ => ifaceOk iface && ldOk ld
  | .rekeyLine tile _ _ => tileOk tile
  | .rekeyEnd _ => true
  | .submitWarrant iface ld _ => ifaceOk iface && ldOk ld
  | .warrantLapse iface => ifaceOk iface
  | .qosWindowEnd tile => tileOk tile
  | .mediaIssue chan => chanOk chan
  | .shortfallSpanEnd tile => tileOk tile
  | .gladeSecond => true
  | .fineTimeResync => true
  | .traceStart iface value => ifaceOk iface && wordOk value
  | .traceStop iface => ifaceOk iface
  | .traceDataRead iface => ifaceOk iface
  | .eventFifoTake => true
  | .evfData0Read => true
  | .fineLoRead iface => ifaceOk iface
  | .logRecordWriteDone => true
  | .logSectorEraseDone => true
  | .logQueueGapWrite => true
  | .rateWindowEnd _ => true
  | .logFreeze iface => ifaceOk iface
  | .logThaw iface => ifaceOk iface
  | .freezeLimitExpire => true
  | .readRingLog iface ld _ => ifaceOk iface && ldOk ld
  | .wardenWatchdogExpire => true
  | .watchdogKick core => coreOk core
  | .seedbankWindowRead iface _ => ifaceOk iface
  | .processorReady core _ => coreOk core
  | .stewardReadyTimeout tile => tileOk tile
  | .fwTrialEnd => true
  | .irqSourceEdge source => sourceOk source
  | .irqClaim target => targetOk target
  | .irqDone target source => targetOk target && sourceOk source
  | .irqHoldExpire target => targetOk target
  | .psRead iface _ _ => ifaceOk iface
  | .psWrite iface _ _ => ifaceOk iface
  | .psDelete iface _ _ => ifaceOk iface
  | .psShadow iface => ifaceOk iface
  | .psWriteDone _ => true
  | .psCompact => true
  | .usb4Connect => true
  | .usb4Disconnect => true
  | .registerRead iface address _ => ifaceOk iface && wordOk address
  | .registerWrite iface address values => ifaceOk iface && wordOk address && values.all wordOk
  | .storeRead iface _ => ifaceOk iface
  | .storeWrite iface _ _ => ifaceOk iface
  | .attestationReport iface ld _ _ => ifaceOk iface && ldOk ld
  | .lineRead iface _ _ => ifaceOk iface
  | .lineWrite iface _ _ _ _ => ifaceOk iface
  | .structureRead iface _ die _ _ _ => ifaceOk iface && dieOk die
  | .coreHalt iface core => ifaceOk iface && coreOk core
  | .coreStep iface core _ => ifaceOk iface && coreOk core
  | .coreResume iface core => ifaceOk iface && coreOk core
  | .coreMemoryRead iface core _ _ _ => ifaceOk iface && coreOk core
  | .idcode => true
  | .samplePreload _ => true
  | .extest _ => true
  | .highz => true
  | .clamp => true
  | .dbgmsg => true
  | .tapWarrant _ => true
  | .bypass _ => true
  | .tapReset => true
  | .enec _ => true
  | .disec _ => true
  | .rstdaa => true
  | .entdaa _ => true
  | .setmwl _ => true
  | .setmrl _ => true
  | .rstact => true
  | .getpid => true
  | .getbcr => true
  | .getdcr => true
  | .getstatus => true
  | .getmwl => true
  | .getmrl => true
  | .unsupportedCcc _ => true
  | .sidebandPrivateRead => true
  | .ident => true
  | .health _ _ => true
  | .regRead address => wordOk address
  | .logRead _ => true
  | .paramRead _ => true
  | .paramWrite _ _ => true
  | .reset _ => true
  | .warrant _ => true
  | .lRead address _ => wordOk address
  | .lWrite address _ => wordOk address
  | .lUnlock _ => true
  | .lLock => true
  | .lSetpw _ _ => true
  | .pgChange rail _ => railOk rail
  | .dependencyEnable rail => railOk rail
  | .stepEnable => true
  | .stepDisable => true
  | .stepWait => true
  | .stepCheck => true
  | .stepJump => true
  | .stepSafe => true
  | .stepSync => true
  | .stepEnd => true
  | .stepWaitExpire => true
  | .seqsyncHigh => true
  | .railOnDone rail => railOk rail
  | .railOffDone rail => railOk rail
  | .onTimeoutExpire rail => railOk rail
  | .checkTimeoutExpire => true
  | .syncTimeoutExpire => true
  | .dischargeTimeout rail => railOk rail
  | .pgChatter rail => railOk rail
  | .minOffTimeEnd => true
  | .pbtnPress => true
  | .pbtnRelease => true
  | .pbtnHold8s => true
  | .pbtnHold15s => true
  | .mrstAssert => true
  | .rstAssert => true
  | .coldReset => true
  | .warmReset _ => true
  | .resetPinRelease _ => true
  | .trimLoadDone => true
  | .clockGateRelease _ => true
  | .clockFail _ => true
  | .oscillatorRestartDone _ => true
  | .gladeReset => true
  | .rstWarm iface => ifaceOk iface
  | .rstCold iface => ifaceOk iface
  | .rstTile iface tile => ifaceOk iface && tileOk tile
  | .rstHostPort iface port => ifaceOk iface && portOk port
  | .rstPowerOff iface => ifaceOk iface
  | .rstPowerCycle iface => ifaceOk iface
  | .seqFaultClear iface => ifaceOk iface
  | .seqVinClear iface => ifaceOk iface
  | .tileIdleT1 tile => tileOk tile
  | .tileIdleT2 tile => tileOk tile
  | .tileIdleT3 tile => tileOk tile
  | .tileSleepEntryDone tile => tileOk tile
  | .tileWake tile => tileOk tile
  | .tileWakeDone tile => tileOk tile
  | .p1Enter => true
  | .p2Enter => true
  | .p2Exit => true
  | .thermalSample sensor _ => sensorOk sensor
  | .thermalRestart => true
  | .thermalHistorySave => true
  | .pmcEvenRead iface _ _ => ifaceOk iface
  | .pmcSelWrite iface _ _ value => ifaceOk iface && wordOk value
  | .pmcFiltWrite iface _ _ value => ifaceOk iface && wordOk value
  | .readCounters iface ld _ => ifaceOk iface && ldOk ld
  | .managementRegisterWrite iface address value => writerOk iface && wordOk address && wordOk value
  | .wardenLockup => true
  | .vgladeFirstPresent => true
  | .programAbortDone chan die => chanOk chan && dieOk die
  | .hostLinkL1Entry port link => portOk port && linkOk link
  | .psSectorEraseDone _ => true

end Sys2Proof
end

