-- ==== Sys2Proof/Tests/Slice0.lean ====
section
/-! SUPPORT. Tests: ill-formed commands, single steps with values the spec gives, and for each obligation with hypotheses states that meet them (wit_ and its name). -/
namespace Sys2Proof.Tests
open Sys2Proof Sys2Proof.Machine
set_option maxRecDepth 20000
set_option Elab.async false

/-- A device that runs: every clock domain released, the pins high, USB4 connected. -/
def upState : State :=
  let s := State.reset
  { s with usb4 := true, clocks := { s.clocks with held := [] }, power := { s.power with pins := { s.power.pins with rst := true, mrst := true } } }
/-- A device where every interface holds a warrant for every right over every compartment. -/
def grantState : State :=
  let w : Warrant := ⟨0, 0, 0, 0, 0, 2 ^ 29 - 1, 0, 0, 2 ^ 40, 0, 2 ^ 40, [], [(0, 4095)], [(0, 255)], []⟩
  { upState with rights := { upState.rights with held := (upto 8).map (fun i => (i, [w])) } }
/-- An image of one group on channel 0 and one level-timed compartment, on port 0; the channel's link is up. -/
def mediaState : State :=
  let c : Comp := { (default : Comp) with id := 0, attrs := 2, base := 0, size := 16, ports := 1 }
  let i : Img := { (default : Img) with epoch := 1, refresh := List.replicate 5 10, groups := [List.replicate 16 0], comps := [c] }
  ({ grantState with active := some i, chans := [(0, { Chan.fresh with present := 15 })] } : State).wf (F.MSC_LNK_STAT_lstate 0 0) 6

/-- The state a command leaves; the state itself where it answers no next state. -/
def run (c : Instr) (s : State) : State := match exec c s with | .next t => t | _ => s

/-! ## Ill-formed commands, one for each check -/

theorem test_wf_tile : (Instr.destageLeaf 8 []).wf = false ∧ (Instr.destageLeaf 7 []).wf = true := by decide
theorem test_wf_chan : (Instr.blockLockLoss 1024).wf = false ∧ (Instr.blockLockLoss 1023).wf = true := by decide
theorem test_wf_die : (Instr.arrayReadDone 0 4).wf = false ∧ (Instr.arrayReadDone 0 3).wf = true := by decide
theorem test_wf_port : (Instr.perstAssert 4).wf = false ∧ (Instr.perstAssert 3).wf = true := by decide
theorem test_wf_link : (Instr.hotReset 0 2).wf = false ∧ (Instr.hotReset 0 1).wf = true := by decide
theorem test_wf_ld : (Instr.cxlReset 0 16).wf = false ∧ (Instr.cxlReset 0 15).wf = true := by decide
theorem test_wf_iface : (Instr.verify 8).wf = false ∧ (Instr.verify 7).wf = true := by decide
theorem test_wf_writer : (Instr.managementRegisterWrite 17 0 0).wf = false ∧ (Instr.managementRegisterWrite 16 0 0).wf = true := by decide
theorem test_wf_core : (Instr.watchdogKick 9).wf = false ∧ (Instr.watchdogKick 8).wf = true := by decide
theorem test_wf_target : (Instr.irqClaim 9).wf = false ∧ (Instr.irqClaim 8).wf = true := by decide
theorem test_wf_source : (Instr.irqSourceEdge 0x110).wf = false ∧ (Instr.irqSourceEdge 0x10F).wf = true := by decide
theorem test_wf_rail : (Instr.railOnDone 16).wf = false ∧ (Instr.railOnDone 15).wf = true := by decide
theorem test_wf_sensor : (Instr.thermalSample 41 0).wf = false ∧ (Instr.thermalSample 40 0).wf = true := by decide
theorem test_wf_queue : (Instr.copy 4096 0 [] []).wf = false ∧ (Instr.copy 4095 0 [] []).wf = true := by decide
theorem test_wf_tag : (Instr.commandResponseTimeout 0 64).wf = false ∧ (Instr.commandResponseTimeout 0 63).wf = true := by decide
theorem test_wf_word : (Instr.lRead (2 ^ 32) 0).wf = false ∧ (Instr.lRead (2 ^ 32 - 1) 0).wf = true := by decide
theorem test_wf_timestamp : (Instr.setTimestamp 0 0 (2 ^ 64)).wf = false ∧ (Instr.setTimestamp 0 0 (2 ^ 64 - 1)).wf = true := by decide

/-! ## Single steps -/

/-- The queue is first in, first out, and its front leaves it. -/
theorem test_step_takes_the_front : (match step { State.reset with pending := [.setmwl 100, .setmwl 200] } with
    | .next t => decide (t.sb.mwl = 100 ∧ t.pending = [.setmwl 200]) | _ => false) = true := by decide +kernel
/-- The spec's table gives no row bits. -/
theorem test_no_row_has_bits : decodeTableWord 32 0x3F = none ∧ State.reset.withFetchWord 32 0x3F = State.reset := ⟨rfl, rfl⟩

/-! ## Witnesses of the obligations' hypotheses -/

theorem wit_MailboxQueriesAnswer : upState.hears 0 0 = true ∧ (0 : Nat) < 4 ∧ (4 : Nat) ≤ 4 ∧ (0 : Nat) = 0 ∧ (1 : Nat) ≠ 0 ∧ 0 + 0 ≤ lsaSize ∧ lsaSize < 0 + (lsaSize + 1) := by decide +kernel

theorem wit_MailboxSettingsTakeEffect : upState.hears 0 0 = true ∧ carries 0 0x4103 = true ∧ (0 : Nat) < 4 ∧ (∀ x ∈ ([] : List Nat), ∃ r ∈ (upState.cxlLog 0 0 0).recs, r.handle = x) ∧
    (∃ x ∈ [1], ∀ r ∈ ((upState.heard 0).cxlLog 0 0 0).recs, r.handle ≠ x) ∧ ([2047, 0, noVector, 0] : List Nat).length = 4 ∧ (∀ v ∈ [2047, 0, noVector, 0], ¬(2048 ≤ v ∧ v ≠ noVector)) ∧
    (∃ v ∈ [2048, 0, 0, 0], 2048 ≤ v ∧ v ≠ noVector) ∧ ¬(0 < 4 ∧ mailboxSize < 8 + [0#8].length) ∧ (∃ n, 0 < 4 ∧ mailboxSize < 8 + (List.replicate n 0#8).length) ∧ lsaSize - 1 + [0#8].length ≤ lsaSize ∧ lsaSize < lsaSize + [0#8].length ∧ (100 : Nat) ≤ 100 ∧ (100 : Nat) < 101 :=
  ⟨by decide +kernel, by decide +kernel, by decide +kernel, by decide +kernel, by decide +kernel, by decide +kernel, by decide +kernel, by decide +kernel, by decide +kernel, ⟨mailboxSize, by rw [List.length_replicate]; decide⟩, by decide +kernel, by decide +kernel, by decide +kernel, by decide +kernel⟩

theorem wit_UnsupportedCommandsAnswerUnsupported : upState.hears 0 0 = true ∧ (∀ p ∈ supported, p.1 ≠ 0x1234) ∧ (∃ p ∈ supported, p.1 = 0x4000) := by decide +kernel

theorem wit_FmApiCommandsAnswer : upState.linkExists 0 0 = true ∧ upState.linkExists 0 1 = false := by decide +kernel

theorem wit_PoisonAndScanCommandsTakeEffect : upState.hears 0 0 = true ∧ carries 0 0x4301 = true ∧ carries 0 0x4302 = true ∧ carries 0 0x4304 = true ∧ upState.lineHeld 0 = false ∧
    ({ upState with reqs := [{ (default : Req) with stage := .active }] } : State).lineHeld 0 = true ∧ (upState.heard 0).ldRange 0 0 0 0 = true ∧ (upState.heard 0).ldRange 0 0 1 0 = false ∧ ((upState.heard 0).ld 0 0).bg = none := by decide +kernel
theorem wit_PoisonAndScanCommandsTakeEffectOnALine : mediaState.hears 0 0 = true ∧ mediaState.lineHeld 0 = false ∧ (mediaState.heard 0).holds 0 .test = true ∧ (mediaState.heard 0).readOnly = false ∧ (mediaState.heard 0).poison.length < 65536 ∧
    ((mediaState.heard 0).ldComp 0 0 0).any (fun c => (mediaState.heard 0).covers 0 .test c.id && ((mediaState.heard 0).leafOfLine 0).any (fun r =>
      (mediaState.heard 0).admits ((mediaState.heard 0).server r.tile) 0 && ((mediaState.heard 0).engineWrite c r 0 ((mediaState.heard 0).lineKey c 0).1 0 0).1)) = true := by decide +kernel

/-- A host link that is up, with one stream of keys. -/
def linkState : State := upState.setHostLink 0 0 { HLink.down with up := true, cxl := true, ide := [(1, true)] }
/-- The same, with the CXL.io stream gone Insecure. -/
def brokenIo : State := upState.setHostLink 0 0 { HLink.down with up := true, cxl := true, ide := [(HLink.down.ioStream, false)] }
/-- Logical devices ready, with a configuration register written. -/
def readyState : State :=
  let s := linkState.modLd 0 0 (fun d => { d with config := [(4, 7)] })
  { s with clocks := { s.clocks with imageChecked := true, taprootsAccepted := true }, tiles := s.tiles.map (fun x => { x with replayed := true }) }
theorem wit_HostLinkCommandsTakeEffect : (upState.wardenUp = true ∧ upState.clocks.held.contains 3 = false ∧ upState.linkExists 0 0 = true ∧ linkWidth (upState.rb (F.HPT_LINK_bif 0)) 16 = true ∧
    upState.power.pins.perst.getD 0 true = true) ∧ (linkState.link 0 0).up = true ∧ (tget (linkState.link 0 0).ide 1).isSome = true ∧
    (linkState.link 0 (linkState.linkOf 0 0)).up = true ∧ linkState.ioInsecure 0 0 = false ∧ readyState.ioInsecure 0 0 = false ∧ brokenIo.ioInsecure 0 0 = true ∧ (brokenIo.link 0 (brokenIo.linkOf 0 0)).up = true ∧ linkState.ldsReady = false ∧ (readyState.link 0 (readyState.linkOf 0 0)).up = true ∧ readyState.ldsReady = true := by decide +kernel

theorem wit_HostPortResetsTakeEffect : (0 : Nat) < upState.portCount ∧ upState.linkExists 0 0 = true ∧ (linkState.link 0 0).up = true ∧ grantState.hears 0 0 = true ∧ (0 : Nat) < grantState.portCount ∧ grantState.holds 0 .mgmtWrite = true := by decide +kernel

/-- An open port without an image: no compartment is seen. -/
def openState : State := { readyState with links := [((0, 0), { up := true, cxl := true, l1 := false, ide := [] })] }
/-- The same, with a stream gone Insecure. -/
def brokenState : State := { readyState with links := [((0, 0), { up := true, cxl := true, l1 := false, ide := [(0, false)] })] }
/-- Its HDM decoders enabled, one committed over the first 256 MiB; one compartment on port 0 at device address 0. -/
def mappedState : State :=
  let s := openState.modLd 0 0 (fun d => { d with config := [(hdmAt + 4, 2), (hdmReg 0 8, 0x10000000), (hdmReg 0 0x10, 2 ^ 10)] })
  { s with active := some { (default : Img) with comps := [{ (default : Comp) with id := 1, base := 0, size := 1, ports := 1, ld := 0 }] } }
theorem wit_HostMemoryRequestsArriveMapped : mappedState.portOpen 0 0 = true ∧ mappedState.insecure 0 0 = false ∧
    ((mappedState.linkAwake 0 0).visibleTo 0 0).any (fun c => mappedState.hdmDecode 0 0 64 == some 64 && decide (c.lo ≤ 64 ∧ 64 < c.hi)) = true := by decide +kernel
theorem wit_HostMemoryRequestsArrive : (openState.hdmDecode 0 0 0).isNone = true ∧ openState.portOpen 0 0 = true ∧ openState.insecure 0 0 = false ∧ (openState.linkAwake 0 0).visibleTo 0 0 = [] ∧
    upState.portOpen 0 0 = false ∧ brokenState.portOpen 0 0 = true ∧ brokenState.insecure 0 0 = true := by decide +kernel

/-- A held read, a paced read, a read of the media waiting, and an unwrap of key 1. -/
def waitState (st : Stage) : State :=
  { mediaState with reqs := [{ (default : Req) with id := 1, stage := st }], ops := [{ (default : Op) with who := .req 1, phase := .direct }]
                    tiles := upState.tiles.map (fun x => { x with unwraps := [1] }) }
/-- A read of the media in a phase, its dies absent. -/
def deadState (p : Phase) : State := { upState with ops := [{ (default : Op) with who := .req 1, phase := p }] }
theorem wit_RequestTimingEventsTakeEffect :
    ((waitState .held).firstHeld 0).map (waitState .held).mayGo = some true ∧ ((waitState .held).tile 0).unwraps.contains 1 = true ∧
    ((waitState .held).readOfReq 1).map (fun o => (o.phase, (waitState .held).aroundOk o.stripe o.member)) = some (.direct, true) ∧
    ((deadState .direct).readOfReq 1).map (fun o => (o.phase, (deadState .direct).aroundOk o.stripe o.member)) = some (.direct, false) ∧
    ((deadState .around).readOfReq 1).map (fun o => o.phase) = some .around ∧
    ((waitState (.paced .cmp)).req 1).map (·.stage) = some (.paced .cmp) ∧
    ((waitState .held).req 1).map (fun q => (q.stage, (waitState .held).levelTimed q.comp)) = some (.held, true) := by decide +kernel

/-- One read waits on channel 0, whose link is up. -/
def issueState : State := mediaState.modChan 0 (fun x => { x with waiting := [⟨{ blankCmd with op := 0x01 }, .control, 0, [], false, false, none⟩] })
theorem wit_MediaIssueSendsTheFirstWaiting : (issueState.writeStructures.pickWaiting 0).isSome = true ∧ upState.writeStructures.pickWaiting 0 = none ∧
    (((issueState.modChan 0 (fun x => { x with waiting := [] })).chan 0).freeTag).isSome = true ∧
    ((({ Chan.fresh with sent := (upto 64).map (fun t => { (default : Sent) with tag := t }) } : Chan).freeTag).isSome = false) := by decide +kernel

/-- 100 reads of which 50 went around a die. -/
def aroundState : State := upState.modTile 0 (fun x => { x with window := ⟨100, 50⟩ })
theorem wit_SharesAndYieldAreRenewed : (upState.tile 0).qos.windows < upState.rf (F.QOS_SF_CFG_span 0) ∧
    ¬ ((upState.modTile 0 (fun x => { x with qos := { x.qos with windows := 65536 } })).tile 0).qos.windows < upState.rf (F.QOS_SF_CFG_span 0) ∧ upState.rb (F.MSC_RD_STAT_yielding 0) = false ∧
    ¬ upState.rf (F.MSC_RD_CFG_yield_pct 0) * (upState.tile 0).window.reads < 100 * (upState.tile 0).window.arounds ∧ aroundState.rb (F.MSC_RD_STAT_yielding 0) = false ∧
    aroundState.rf (F.MSC_RD_CFG_yield_pct 0) * (aroundState.tile 0).window.reads < 100 * (aroundState.tile 0).window.arounds := by decide +kernel

/-- A dirty line of leaf 0, a line-stripe begun at the head, and a destage of leaf 0 whose stripes are programmed. -/
def dirtyState : State := mediaState.modTile 0 (fun x => { x with
  catchQ := [{ (default : CatchEnt) with line := 0, eligible := true }], logStripes := [⟨0, [], [], false, false, 0, []⟩], fronds := [⟨⟨0, 0, 5000⟩, 0⟩] })
def switchState (gen : Nat) : State := mediaState.modTile 0 (fun x => { x with destages := [⟨0, 0, gen, 0, []⟩] })
theorem wit_DestageCommandsTakeEffect :
    ((dirtyState.tiles[0]?.map Tile.depth).getD 0 = 0 ∧ dirtyState.readOnly = false ∧ dirtyState.power.flushing = false ∧ dirtyState.destagePaused 0 = false ∧ dirtyState.tileInService 0 = true ∧
      dirtyState.nextLeaf 0 = some 0 ∧ dirtyState.leafNum 0 = some ⟨0, 0, 0⟩ ∧ (dirtyState.served 0).isSome = true) ∧
    ((dirtyState.tile 0).logStripes.find? (fun z => !z.sent && z.num == (dirtyState.tile 0).head / 14)).isSome = true ∧
    (((switchState 0).tile 0).destages.find? (fun d => d.leaf == 0)).map (fun d => (((switchState 0).tile 0).destageOpen d, decide (((switchState 0).leafOf ⟨0, 0, 0⟩).gen = d.gen))) = some (false, true) ∧
    (((switchState 1).tile 0).destages.find? (fun d => d.leaf == 0)).map (fun d => (((switchState 1).tile 0).destageOpen d, decide (((switchState 1).leafOf ⟨0, 0, 0⟩).gen = d.gen))) = some (false, false) ∧
    (switchState 0).leafNum 0 = some ⟨0, 0, 0⟩ ∧
    mediaState.nextLeaf 0 = none ∧ (mediaState.tile 0).logStripes.find? (fun z => !z.sent && z.num == (mediaState.tile 0).head / 14) = none ∧
    (mediaState.tile 0).destages.find? (fun d => d.leaf == 0) = none ∧
    (((mediaState.modTile 0 (fun x => { x with depth := 1 })).tiles[0]?.map Tile.depth).getD 0) ≠ 0 := by decide +kernel
theorem wit_DestageNoLeaf : ({ dirtyState with active := none } : State).leafNum 0 = none ∧ ({ dirtyState with active := none } : State).nextLeaf 0 = some 0 ∧
    ({ dirtyState with active := none } : State).readOnly = false ∧ ({ dirtyState with active := none } : State).destagePaused 0 = false ∧ ({ dirtyState with active := none } : State).tileInService 0 = true ∧
    (({ switchState 0 with active := none } : State).leafNum 0 = none) ∧
    (let w := dirtyState.modTile 0 (fun x => { x with destages := [⟨0, 0, 0, 0, []⟩] }); ((w.tile 0).destages.find? (fun d => d.leaf == 0)).map (w.tile 0).destageOpen = some true) := by decide +kernel
theorem wit_DestageSpot : ((dirtyState.served 0).map (fun c => let t := dirtyState.loadPath c 0 0 6 0; (t.logSpot 0 40 (t.tile 0).head).2)) = some (some 0) := by decide +kernel

/-- A copy of stem 0 on tile 0, with a member sheet programmed, or verified. -/
def copyState (v : Bool) : State :=
  { mediaState.modTile 0 (fun x => { x with copies := [{ (default : Copy) with stem := 0, dest := ⟨0, 0, 5000⟩, prog := some 0, ended := [(0, 0)], marks := if v then List.replicate 75 16 else List.replicate 75 0 }], stems := [(0, { (default : StemEnt) with valid := true })] }) with
    glade := { mediaState.glade with elapsed := 100000 } }
/-- Stem 0 is valid and old, and a copy is queued. -/
def oldState : State := (copyState false).modTile 0 (fun x => { x with copies := [], copyQueue := [(0, .wear)] })
theorem wit_StemCopyCommandsTakeEffect :
    ((oldState.tiles[0]?.map Tile.depth).getD 0 = 0 ∧ oldState.power.flushing = false ∧ oldState.rb (F.MSC_WR_STAT_braced 0) = false ∧ oldState.rb F.RST_STAT_trim_safe = false ∧ oldState.tileInService 0 = true ∧ (oldState.nextCopy 0).isSome = true) ∧
    (((copyState false).tile 0).copyOf 0).map (fun c => (c.ended, c.verified, c.prog.isSome, decide ((copyState false).progOf c + 2 ≤ (copyState false).glade.elapsed))) = some ([(0, 0)], false, true, true) ∧
    (((copyState true).tile 0).copyOf 0).map (·.verified) = some true ∧
    (((oldState.tile 0).stem 0).valid = true ∧ oldState.refreshLimit ((oldState.tile 0).stem 0) ≤ bucketOf (oldState.ageOf ((oldState.tile 0).stem 0)) + 1 ∧
      (oldState.tile 0).refreshDue.contains 0 = false ∧ (oldState.tile 0).copyOf 0 = none) ∧
    (oldState.wf F.RST_STAT_trim_safe 1).rb F.RST_STAT_trim_safe = true ∧ ((oldState.modTile 0 (fun x => { x with depth := 1 })).tiles[0]?.map Tile.depth).getD 0 ≠ 0 := by decide +kernel
/-- The same copy with the 16 lines of its member sheet stored sound. -/
def soundState (l : Line) : State :=
  { copyState false with pkgs := [(0, { Pkg.fresh with dies := [{ PkgDie.fresh with lines := (upto 16).map (fun i => ((125000, true, i), l)) }] })] }
theorem wit_SoundSheet : ((soundState fillerLine).tile 0).copyOf 0 = ((copyState false).tile 0).copyOf 0 ∧ (upto 16).all (fun i => match (soundState fillerLine).member (sheetStripe ⟨0, 0, 5000⟩ 0 i) 0 with
    | some l => (checkLine l []).crcOk && decide ((checkLine l []).most ≤ 2)
    | none => false) = true := by decide +kernel
theorem wit_UnsoundSheet : (upto 16).all (fun i => match (soundState (0 : Line)).member (sheetStripe ⟨0, 0, 5000⟩ 0 i) 0 with
    | some l => (checkLine l []).crcOk && decide ((checkLine l []).most ≤ 2)
    | none => false) = false := by decide +kernel

def censusState : State := mediaState.wf (F.TRN_MAP_STAT_census 0) 1
theorem wit_StemMapCommandsTakeEffect : mediaState.rb (F.TRN_MAP_STAT_census 0) = false ∧ (mediaState.wf (F.TRN_WEAR_CFG_level_en 0) 0).rb (F.TRN_WEAR_CFG_level_en 0) = false ∧
    (∃ d ∈ ((mediaState.modTile 0 (fun x => { x with dir := [(0, 0, 10000000)] })).tile 0).dir, mediaState.cpt * 49152 < d.2.1 + d.2.2) ∧ censusState.rb (F.TRN_MAP_STAT_census 0) = true ∧ (∀ d ∈ (mediaState.tile 0).dir, d.2.1 + d.2.2 ≤ mediaState.cpt * 49152) ∧
    mediaState.rb (F.TRN_WEAR_CFG_level_en 0) = true ∧ mediaState.tileInService 0 = true := by decide +kernel

/-- Good blocks of the array commands; an array command is refused after a loss of its media rail. -/
def blockOf (op : Nat) : Bytes := makeBlock { blankCmd with op := op, args := zeros 6 }
def warmState : State := { upState with pkgs := [(0, { Pkg.fresh with cold := false })] }
theorem wit_ArrayCommandsAreQueued : ([0x01, 0x10, 0x20, 0x21, 0x32, 0x33].all (fun op => blockGood (blockOf op) && (readBlock (blockOf op) none).op == op)) = true ∧
    blockGood [] = false ∧ blockGood (blockOf 0x55) = true ∧ pkgOpcodes.contains (readBlock (blockOf 0x55) none).op = false := by decide +kernel
theorem wit_ArrayAccepted : (warmState.pkg 0).refusal (readBlock (blockOf 0x01) none) = none ∧ (warmState.pkg 0).refusal (readBlock (blockOf 0x32) none) = none ∧
    ({ warmState.pkg 0 with vmedLow := true }.refusal (readBlock (blockOf 0x21) none)).isSome = true := by decide +kernel

/-- Die 0 of package 0 runs a dense program, suspended or not; tag 1 is in use. -/
def runState (sus : Susp) (a : List Nat) : State :=
  { upState with pkgs := [(0, { Pkg.fresh with cold := false, tags := [(1, .running)], dies := [{ PkgDie.fresh with run := some { (default : DieRun) with cmd := { blankCmd with op := 0x21, tag := 1 }, susp := sus, abortTags := a } }] })] }
def tagBlock (op tag : Nat) : Bytes := makeBlock { blankCmd with op := op, tag := tag, args := zeros 6 }
theorem wit_ControlCommandsBypassTheQueue :
    ([0x30, 0x31, 0x3F, 0x22, 0x23, 0x24].all (fun op => blockGood (tagBlock op 0) && (readBlock (tagBlock op 0) none).op == op && !((runState .none []).pkg 0).tagUsed 0)) = true ∧
    (((runState .none []).pkg 0).die 0).run.map (fun r => (r.cmd.op, r.isHeld)) = some (0x21, false) ∧
    (((runState (.held false) []).pkg 0).die 0).run.map (fun r => (r.isHeld, r.susp)) = some (true, .held false) ∧
    (((runState (.held true) []).pkg 0).die 0).run.map (fun r => (r.isHeld, r.susp)) = some (true, .held true) ∧ ((upState.pkg 0).die 0).run = none ∧ (upState.pkg 0).tagUsed 0 = false ∧
    blockGood (tagBlock 0x30 1) = true ∧ (readBlock (tagBlock 0x30 1) none).tag = 1 ∧ ((runState .none []).pkg 0).tagUsed 1 = true := by decide +kernel

def readingState : State :=
  { upState with pkgs := [(0, { Pkg.fresh with cold := false, dies := [{ PkgDie.fresh with reading := some blankCmd, lines := [((0, false, 0), fillerLine)] }] })] }
def fastState : State :=
  { upState with pkgs := [(0, { Pkg.fresh with cold := false, dies := [{ PkgDie.fresh with run := some { (default : DieRun) with cmd := { blankCmd with op := 0x10, tag := 1 } } }] })] }
theorem wit_PackageEventsTakeEffect :
    (((runState (.asked true) []).pkg 0).die 0).run.map (·.susp) = some (.asked true) ∧
    ((((runState (.held true) []).pkg 0).die 0).run.map (·.susp) = some (.held true) ∧ (((runState (.held true) []).pkg 0).die 0).reading = none ∧ (((runState (.held true) []).pkg 0).die 0).nextRead = none) ∧
    ((readingState.pkg 0).die 0).reading = some blankCmd ∧
    ((fastState.pkg 0).die 0).run.map (fun r => (r.cmd.op, r.isHeld, r.abortTags, r.cmd.mayEnd 3 0, r.cmd.mayEnd 3 1)) = some (0x10, false, [], true, true) ∧
    (((runState .none []).pkg 0).die 0).run.map (fun r => (r.cmd.op, r.isHeld, r.abortTags, r.cmd.mayEnd 100 0, r.cmd.mayEnd 100 1, r.cmd.mayEnd 101 0)) = some (0x21, false, [], true, true, false) := by decide +kernel
theorem wit_PackageEnds : (((runState .none [5]).pkg 0).die 0).run.map (·.abortTags) = some [5] ∧ ((upState.pkg 0).die 0).run = none ∧ ((upState.pkg 0).die 0).reading = none := by decide +kernel

/-- Commands sent on channel 0: a read under tag 0, one under tag 2 asked about (polled so often) by a STATUS under tag 3. -/
def polledState (polls : Nat) : State := mediaState.modChan 0 (fun x => { x with sent :=
  [⟨⟨{ blankCmd with op := 0x01 }, .control, 0, [], false, false, none⟩, 0, 0, false, 0, false, false⟩,
   ⟨⟨{ blankCmd with op := 0x01, tag := 2 }, .control, 0, [], false, false, none⟩, 2, 0, true, polls, false, false⟩,
   ⟨⟨statusCmd 0 2, .control, 0, [], false, false, none⟩, 3, 0, false, 0, false, false⟩] })
def sentState : State := polledState 0
def goodHeader (tag state : Nat) : Bytes :=
  let b := le 1 0x81 ++ le 1 tag ++ le 1 0 ++ le 1 0 ++ le 2 0 ++ le 1 state ++ le 1 0 ++ zeros 6
  b ++ crc16Bytes b
theorem wit_ResponsesReachTheirCommand :
    blockGood (goodHeader 0 0) = true ∧ ((sentState.chan 0).sent.find? (fun e => e.tag == 0 && e.m.cmd.die == 0)).isSome = true ∧ blockGood (goodHeader 9 0) = true ∧
    ((sentState.chan 0).sent.find? (fun e => e.tag == 9 && e.m.cmd.die == 0)) = none ∧ blockGood [] = false ∧ getLe [0x4A#8] 0 1 = 0x4A ∧
    ((sentState.chan 0).sent.find? (fun e => e.tag == 3 && e.m.cmd.die == 0)).map (fun e => getLe e.m.cmd.args 0 1) = some 2 ∧
    (((polledState 6).chan 0).sent.find? (fun z => z.tag == 2 && z.asked)).map (·.polls) = some 6 := by decide +kernel
theorem wit_StatusStates : ([0, 1, 3].all (fun n => blockGood (goodHeader 3 n) && getLe (goodHeader 3 n) 6 1 == n)) = true ∧
    (((polledState 7).chan 0).sent.find? (fun z => z.tag == 2 && z.asked)).map (·.polls) = some 7 ∧ (sentState.chan 0).sent.find? (fun z => z.tag == 0 && z.asked) = none := by decide +kernel

theorem wit_ChannelTimeoutsTakeEffect : (sentState.chan 0).sent ≠ [] ∧ (upState.chan 0).sent = [] ∧
    ((sentState.chan 0).sent.find? (fun e => e.tag == 0)).map (fun e => (e.m.cmd.op, e.asked)) = some (0x01, false) ∧
    ((sentState.chan 0).sent.find? (fun e => e.tag == 2)).map (fun e => (e.m.cmd.op, e.asked)) = some (0x01, true) ∧
    ((sentState.chan 0).sent.find? (fun e => e.tag == 3)).map (fun e => e.m.cmd.op) = some 0x30 := by decide +kernel

def trainState (st fails : Nat) : State := (upState.wf (F.MSC_LNK_STAT_lstate 0 0) st).modChan 0 (fun x => { x with recFails := fails })
theorem wit_LinkTrainingStepsTakeEffect : (trainState 1 0).lstate 0 ≤ 1 ∧ (trainState 1 0).chanPresent 0 = true ∧ ((trainState 1 0).tile 0).held = false ∧ (trainState 0 0).lstate 0 = 0 ∧
    ([1, 2, 3, 4, 5, 6, 7].all (fun n => (trainState n 0).lstate 0 == n)) = true ∧ ((trainState 6 0).chan 0).recRecent.length < 16 ∧
    ((trainState 7 0).chan 0).recFails + 1 < 3 ∧ (trainState 7 2).lstate 0 = 7 ∧ 3 ≤ ((trainState 7 2).chan 0).recFails + 1 := by decide +kernel

def linkCtl (st dis : Nat) : State := (grantState.wf (F.MSC_LNK_STAT_lstate 0 0) st).wf (F.MSC_LNK_CTRL_disable 0 0) dis
theorem wit_LinkControlsTakeEffect : [linkCtl 6 0, linkCtl 10 0, linkCtl 9 1].all (fun s => s.hears 4 0 && s.chanPresent 0 && s.holds 4 .tileService && s.holds 4 .mgmtWrite) = true ∧
    (linkCtl 6 0).lstate 0 = 6 ∧ (linkCtl 10 0).lstate 0 = 10 ∧ (linkCtl 6 0).rf (F.MSC_LNK_CTRL_disable 0 0) = 0 ∧ (linkCtl 9 1).rf (F.MSC_LNK_CTRL_disable 0 0) = 1 ∧ (linkCtl 9 1).lstate 0 = 9 ∧ grantState.chanPresent 5000 = false := by decide +kernel

/-- A retirement of a host line, of kind k, with byte 1 e. -/
def retireBytes (k e : Nat) : Bytes := le 1 k ++ le 1 e ++ zeros 22
def servedState : State := mediaState
theorem wit_Retire : servedState.hears 0 0 = true ∧ (servedState.heard 0).holds 0 .retire = true ∧ (servedState.heard 0).retireInput [] = false ∧
    (servedState.heard 0).retireInput (retireBytes 1 0) = true ∧ ((servedState.heard 0).retireEffect 0 0 (retireBytes 1 0)).isSome = true ∧
    ((servedState.heard 0).retireEffect 0 0 (retireBytes 1 0)).map (fun e => (servedState.heard 0).retireStatus e) = some 0 ∧
    ((servedState.heard 0).ld 0 0).bg = none ∧ (servedState.heard 0).holds 0 .healthRead = true ∧ (upState.heard 0).retireEffect 0 0 (retireBytes 1 0) = none ∧
    (servedState.heard 0).retireInput (retireBytes 5 1) = true ∧ (((servedState.modLd 0 0 (fun d => { d with bg := some 0 })).heard 0).ld 0 0).bg.isSome = true := by decide +kernel
/-- The requester holds the retire right over no compartment. -/
def narrowState : State := { mediaState with rights := { mediaState.rights with held := [(0, [⟨0, 0, 0, 0, 0, 2 ^ 29 - 1, 0, 0, 2 ^ 40, 0, 2 ^ 40, [], [], [], []⟩])] } }
theorem wit_RetireWide : (narrowState.heard 0).holds 0 .retire = true ∧ (narrowState.heard 0).coversAll 0 .retire = false ∧ (narrowState.heard 0).retireInput (retireBytes 5 1) = true := by decide +kernel
def rdState : State := { mediaState with retiring := some ⟨3, 0, [], [], [], 0, 0, 0, 0, 0, true, 0, none, 0⟩ }
/-- The sideband has its address, and its interface every right. -/
def sbState : State := grantState.wf F.WDN_I3C_STAT_addr_valid 1
theorem wit_RetireDone : rdState.retiring.map (fun r => (rdState.retireDone r, r.first)) = some (true, none) ∧ rdState.active.isSome = true ∧ upState.retiring = none ∧
    ({ mediaState with retiring := some ⟨1, 0, [], [], [], 0, 0, 0, 0, 0, true, 0, some 0, 0⟩ } : State).retiring.map (fun r => (mediaState.retireDone r, r.first)) = some (true, some 0) := by decide +kernel
theorem wit_Sideband : sbState.wardenUp = true ∧ sbState.nacking = false ∧ sbState.rb F.WDN_I3C_STAT_addr_valid = true ∧
    (sbState.irqEdge irqSideband).holds 5 .healthRead = true ∧ 0 + 2112 ≤ 2112 ∧ 2112 < 1 + 2112 := by decide +kernel
theorem wit_GetMediaErrorRecords : let b := zeros 4 ++ le 2 1 ++ zeros 2
    b.length = 8 ∧ 1 ≤ getLe b 4 2 ∧ getLe b 4 2 ≤ errMost ∧ allZero (slice b 6 2) = true ∧ getLe (zeros 8) 4 2 = 0 := by decide +kernel

def scrubState : State := mediaState.wf (F.MSC_SCR_CFG_enable 0) 1
theorem wit_Scrub : scrubState.rb (F.MSC_SCR_CFG_enable 0) = true ∧ scrubState.tileInService 0 = true ∧ scrubState.power.flushing = false ∧ scrubState.tileThrottled 0 = false ∧
    (scrubState.tiles[0]?.map Tile.depth).getD 0 = 0 ∧ scrubState.coreAway 1 = false ∧ (scrubState.lifecycle == 3) = false ∧
    ((scrubState.wf (F.MSC_SCR_CFG_enable 0) 0).rb (F.MSC_SCR_CFG_enable 0)) = false ∧ scrubState.tileCount ≤ 8 ∧
    0 + 1 < scrubState.scrubTotal 0 ∧ 0 < scrubState.tileCount ∧ scrubState.hears 0 0 = true ∧ scrubState.holds 0 .mgmtWrite = true ∧ (scrubState.tile 0).scrubAt = 0 := by decide +kernel
def scrubEnd : State := scrubState.modTile 0 (fun x => { x with scrubAt := 1000000000 })
theorem wit_ScrubEnd : scrubEnd.scrubTotal 0 ≤ (scrubEnd.tile 0).scrubAt + 1 := by decide +kernel
theorem wit_FabricWord : hammingDecode (BitVec.ofNat 137 0) = .clean 0 ∧ hammingDecode (BitVec.ofNat 137 1) = .corrected 0 ∧ hammingDecode (BitVec.ofNat 137 3) = .uncorrectable := by decide +kernel

/-- A checker open on a place, in an operation. -/
def chkState (op : ChkOp) (f : Bool) : State := mediaState.setChecker 0 ⟨some ⟨0, 0, 5⟩, op, 0, f⟩
theorem wit_Checker : 0 < mediaState.tileCount ∧ mediaState.chkBusy 0 = false ∧ mediaState.hears 0 0 = true ∧ mediaState.holds 0 .test = true ∧ mediaState.holds 0 .mgmtWrite = true ∧
    mediaState.tileInService 0 = true ∧ mediaState.spareState < 2 ∧ (mediaState.tile 0).checker.place = none ∧ mediaState.tileCount ≤ 8 := by decide +kernel
def batchState : State := mediaState.modTile 0 (fun x => { x with batch := [⟨0, 0, 0⟩] })
theorem wit_CheckerOpen : (batchState.takePlace 0 false false).2.isSome = true ∧ ((batchState.wf (F.MSC_LNK_STAT_lstate 0 0) 0).takePlace 0 false false).2 = none := by decide +kernel
theorem wit_CheckerOps : (((chkState .none false).tile 0).checker.place.isSome = true ∧ (chkState .none false).chkBusy 0 = false) ∧
    [ChkOp.opening, .writing, .reading].all (fun o => ((chkState o false).tile 0).checker.op == o && !((chkState o false).tile 0).checker.failed && ((chkState o true).tile 0).checker.failed) = true := by decide +kernel

theorem wit_CacheRange : 0 < mediaState.tileCount ∧ (mediaState.tile 0).held = false ∧ mediaState.coreAway 1 = false ∧ (upState.tile 0).range = none ∧ mediaState.hears 0 0 = true ∧ mediaState.holds 0 .tileService = true ∧ mediaState.holds 0 .mgmtWrite = true ∧
    mediaState.rb (F.CCH_RM_STAT_busy 0) = false ∧ (mediaState.wf (F.CCH_RM_STAT_busy 0) 1).rb (F.CCH_RM_STAT_busy 0) = true ∧ upState.served 0 = none ∧
    (mediaState.served 0).map (fun c => decide (mediaState.rmCount 0 = 0 ∨ c.hi < c.lo + (mediaState.rmFirst 0 + mediaState.rmCount 0) * 64)) = some true := by decide +kernel
def rangeState : State := mediaState.wf (F.CCH_RM_COUNT_low 0) 1
def rangeA (op : Nat) : State := (rangeState.wf (F.CCH_RM_SKIP_count 0) 0).wf (F.CCH_RM_CTRL_op 0) op
theorem wit_CacheRangeRuns : [1, 2, 3, 4, 5].all (fun op => ((rangeA op).served (rangeState.rf (F.CCH_RM_COMP_id 0))).any (fun c =>
    (rangeA op).rmCount 0 != 0 && decide (c.lo + ((rangeA op).rmFirst 0 + (rangeA op).rmCount 0) * 64 ≤ c.hi))) = true := by decide +kernel
def rangeOp (l : List Nat) : State := upState.modTile 0 (fun x => { x with range := some ⟨3, false, 0, 0, 1, false, l⟩, urgent := [7] })
theorem wit_RangeOpDone : [[], [7]].map (fun l => ((rangeOp l).tile 0).range.map (fun o => o.leaves.any (fun n => ((rangeOp l).tile 0).urgent.contains n))) = [some false, some true] := by decide +kernel

def keyBytes (k f : Nat) : Bytes := le 4 k ++ le 1 f ++ zeros 3
def keyState (state gen : Nat) (b : Option (Nat × Nat)) : State := (grantState.heard 0).setSlot 3 ⟨state, gen, b, 0, 0, 5⟩
theorem wit_KeySlots : grantState.hears 0 0 = true ∧ (grantState.heard 0).holds 0 .keyAdmin = true ∧ keyInput [] = false ∧ keyInput (keyBytes 3 0) = true ∧
    (grantState.heard 0).keyCovered 0 3 = true ∧ ((upState.heard 0).setSlot 3 ⟨1, 1, some (1, 0), 0, 0, 5⟩).keyCovered 0 3 = false := by decide +kernel
theorem wit_KeySlotStates : ((keyState 2 4 none).slot 3).state ≠ 1 ∧ ((keyState 2 0xFFF none).slot 3).gen = 0xFFF ∧ ((keyState 2 4 none).slot 3).gen < 0xFFF ∧
    (((keyState 1 4 none).slot 3).state = 1 ∧ ((keyState 1 4 none).slot 3).boundTo 0 0 = true ∧ ((keyState 1 4 (some (1, 0))).slot 3).boundTo 0 0 = false) ∧
    (keyState 1 4 none).keyInRekey 3 = false ∧ ({ keyState 1 4 none with rekeys := [⟨0, 0, 0, 1, 3, 4, 0, 0⟩] }.keyInRekey 3 = true) ∧ (keyState 1 4 none).namedKey 3 = false ∧
    ({ keyState 1 4 none with overlay := [⟨0, 0, 1, 3⟩] }.namedKey 3 = true) := by decide +kernel
/-- A ciphered compartment of key slot 1, with slot 2 Active too, and its re-key from 1 to 2. -/
def cipherState : State :=
  let s := mediaState
  let i := s.active.map (fun i => { i with patterns := [⟨12, [0]⟩], comps := i.comps.map (fun c => { c with cipher := 1, defaultKey := 1 }) })
  ({ s with active := i } : State).setSlot 1 ⟨1, 1, none, 0, 0, 5⟩ |>.setSlot 2 ⟨1, 2, none, 0, 0, 6⟩
def rekeyBytes (new : Nat) : Bytes := zeros 8 ++ le 4 1 ++ le 4 new
theorem wit_StartRekey : (rekeyBytes 2).length = 16 ∧ allZero (slice (rekeyBytes 2) 2 2) = true ∧ getLe (rekeyBytes 2) 12 4 < 2 ^ 20 ∧
    ((cipherState.heard 0).served 0).any (fun c => (cipherState.heard 0).keyCovered 0 2 && (cipherState.heard 0).keyCovered 0 ((cipherState.heard 0).effKey c 0)) = true ∧
    (cipherState.heard 0).rekeyStatus 0 0 0 0 1 2 = 0 ∧ ((cipherState.heard 0).rekeyStatus 0 0 0 0 1 1 ≠ 0) ∧ ((cipherState.heard 0).ld 0 0).bg = none ∧
    (((cipherState.modLd 0 0 (fun d => { d with bg := some 0 })).heard 0).ld 0 0).bg.isSome = true := by decide +kernel
def rekeyRun (n : Nat) : State :=
  let s := cipherState
  ({ s with rekeys := [⟨0, 0, 0, 1, 1, 2, 0, 0⟩] } : State).modTile 0 (fun x => { x with bounds := [(0, n)] })
theorem wit_RekeyLine : (((rekeyRun 0).rekeys.find? (fun r => r.slot == 0)).any (fun r => ((rekeyRun 0).served r.comp).isSome && decide (tgetD ((rekeyRun 0).tile 0).bounds 0 0 < (rekeyRun 0).rekeyLines r 0))) = true ∧
    ((rekeyRun 0).tiles[0]?.map Tile.depth).getD 0 = 0 ∧ (rekeyRun 0).coreAway ((rekeyRun 0).server 0 + 1) = false ∧ (rekeyRun 0).rb (F.MSC_WR_STAT_braced ((rekeyRun 0).server 0)) = false ∧ (rekeyRun 0).admits ((rekeyRun 0).server 0) ((rekeyRun 0).lineOfLeaf ⟨0, 0, 0⟩ + 0 % 64) = true ∧ (rekeyRun 0).reqs = [] := by decide +kernel
theorem wit_RekeyEnd : ((rekeyRun 32768).rekeys.find? (fun r => r.slot == 0)).any (fun r => (rekeyRun 32768).tileList.all (fun t => decide ((rekeyRun 32768).rekeyLines r t ≤ tgetD ((rekeyRun 32768).tile t).bounds 0 0)) && decide ((overlayPut (rekeyRun 32768).overlay r).length ≤ overlayMost)) = true := by decide +kernel

theorem wit_Reroot : grantState.hears 0 0 = true ∧ grantState.rb F.CIF_REROOT_STAT_busy = false ∧ grantState.holds 0 .reRoot = true ∧ grantState.holds 0 .mgmtWrite = true ∧
    grantState.covers 0 .reRoot (bits 0 11 0) = true ∧ mediaState.rerootLeft = false := by decide +kernel
/-- A tile with an unverifiable node of compartment 0. -/
def badState : State :=
  let s := mediaState
  (s.modTile 0 (fun x => { x with badNodes := [(0, default)] })).wf F.CIF_REROOT_STAT_busy 1
theorem wit_RerootDone : badState.rerootLeft = true ∧ badState.rb F.CIF_REROOT_STAT_busy = true ∧ badState.rerootTiles.contains 0 = true ∧
    (badState.badOf (badState.rf F.CIF_REROOT_CTRL_compartment) 0).isEmpty = false ∧ (badState.served 0).isSome = true := by decide +kernel
def sealState (bay book : List SealSet) : State :=
  { grantState with sealBay := bay, sealBook := book, clocks := { grantState.clocks with imageChecked := true }, glade := { grantState.glade with lost := false, committed := some (default : SealSet).digest } }
theorem wit_Taproots : (sealState [default] []).rootsAccepted = false ∧ (sealState [default] []).clocks.imageChecked = true ∧ (sealState [default] []).wardenUp = true ∧
    (newestSet (sealState [default] []).sealBay).isSome = true ∧ (sealState [default] []).glade.committed.isSome = true ∧
    (sealState [default] []).sealBook.contains default = false ∧ grantState.sealBook = [] := by decide +kernel
theorem wit_TaprootsAccepted : (sealState [default] []).acceptedSet = some default ∧ { sealState [default] [] with rootsAccepted := true }.acceptedSet = some default := by
  simp [sealState, State.acceptedSet, newestSet, each, Option.filter]
theorem wit_Warrants : 8 ≤ (zeros 8).length ∧ allZero (slice (zeros 8) 2 2) = true ∧ getLe (zeros 8) 0 1 = 0 ∧ getLe (le 1 2 ++ zeros 7) 0 1 = 2 ∧ getLe (le 1 1 ++ zeros 7) 0 1 = 1 ∧ getLe (le 1 4 ++ zeros 7) 0 1 = 4 ∧
    ((grantState.countHub 33).irqEdge (irqDoe 0)).holds 0 .attest = true ∧ carries 4 0xD030 = true ∧ grantState.hears 4 0 = true ∧ (grantState.heard 4).holds 4 .attest = true ∧
    (grantState.heard 0).holds 0 .attest = true ∧ (zeros 32).length = 32 := by decide +kernel

def stageBytes (action off n : Nat) : Bytes := le 1 action ++ zeros 3 ++ le 4 off ++ le 4 n ++ zeros (4 + n)
def imgState (f : ImgStore → ImgStore) : State := { grantState with img := f grantState.img }
def blankSlot : ImgSlot := ⟨[], 0, 0, []⟩
theorem wit_StageImage : grantState.hears 0 0 = true ∧ (grantState.heard 0).stdBusy = false ∧ (grantState.heard 0).holds 0 .imageStage = true ∧ (grantState.heard 0).img.xfer = none ∧
    ((grantState.heard 0).ld 0 0).bg = none ∧ [(0, 0, 16), (1, 0, 16), (2, 16, 16), (3, 16, 16), (4, 16, 0)].all (fun x => stageShape (stageBytes x.1 x.2.1 x.2.2) &&
      getLe (stageBytes x.1 x.2.1 x.2.2) 0 1 == x.1 && getLe (stageBytes x.1 x.2.1 x.2.2) 4 4 == x.2.1) = true ∧
    ((imgState (fun i => { i with xfer := some (0, 0, zeros 16) })).heard 0).img.xfer = some (0, 0, zeros 16) ∧ ((imgState (fun i => { i with checking := some (0, 0) })).heard 0).stdBusy = true ∧
    ((imgState (fun i => { i with xfer := some (1, 0, []) })).heard 0).img.xfer = some (1, 0, []) ∧ stageShape [] = false := by decide +kernel
theorem wit_StageLong : (fun n : Nat => mailboxSize < (zeros n).length) (mailboxSize + 1) := by simp [zeros]
theorem wit_ImageRegisters : grantState.holds 0 .imageStage = true ∧ grantState.holds 0 .imageApply = true ∧ grantState.holds 0 .imageReturn = true ∧ grantState.holds 0 .mgmtWrite = true ∧
    grantState.stdBusy = false ∧ [0, 1, 2, 4].contains ((grantState.wf F.STD_STAT_state 3).rf F.STD_STAT_state) = false ∧ 1 % 2 = 1 ∧ 0 % 2 = 0 ∧
    (imgState (fun i => { i with prev := some blankSlot })).img.prev = some blankSlot ∧ grantState.img.prev = none ∧ [0, 1, 2, 4].contains (grantState.rf F.STD_STAT_state) = true ∧
    (imgState (fun i => { i with checking := some (0, 0) })).stdBusy = true ∧ grantState.img.checking = none := by decide +kernel
theorem wit_ImageControl : [1, 2, 3, 4, 5, 6, 7].all (fun op => (le 1 op ++ zeros 3).length == 4 && allZero (slice (le 1 op ++ zeros 3) 1 3) && getLe (le 1 op ++ zeros 3) 0 1 == op &&
      ((grantState.controlRight 0 op).any ((grantState.heard 0).holds 0))) = true ∧
    (imgState (fun i => { i with checking := some (0, 0), checkFor := 1 })).img.checking = some (0, 0) := by decide +kernel

def blankImg : Img := (default : Img)
def applyState (f : Apply → Apply) : State :=
  let a : Apply := f ⟨false, blankImg, false, [], [], [], [], [], false, false, 0⟩
  { mediaState with img := { mediaState.img with apply := some a } }
theorem wit_Apply : (applyState (fun a => { a with comparing := true })).active.isSome = true ∧
    ((applyState id).active.map (fun o => (applyState id).compareRefused o blankImg)) = some false ∧ (applyState id).compInFlight 0 = 0 ∧
    (applyState (fun a => { a with rolling := true, switched := [0] })).img.apply.map (fun a => (a.rolling, a.switched.getLast?)) = some (true, some 0) ∧
    (applyState (fun a => { a with ordered := [0] })).img.apply.map (fun a => (a.rolling, a.ordered.contains 0, a.switched.contains 0, a.ordering 0, thas a.forced 0)) = some (false, true, false, true, false) ∧
    (applyState (fun a => { a with ordered := [0], forced := [(0, 1)] })).img.apply.map (fun a => (a.ordering 0, thas a.forced 0)) = some (true, true) ∧
    (applyState id).img.apply.map (fun a => (a.comparing, a.rolling, a.committing, a.switched.length == a.changed.length)) = some (false, false, false, true) ∧
    (applyState (fun a => { a with committing := true })).img.apply.map (·.committing) = some true := by decide +kernel
/-- A compartment with a mapped leaf, whose base the new image moves, is not empty. -/
def movedState : State := (applyState (fun a => { a with comparing := true, img := { blankImg with comps := [{ (default : Comp) with base := 5, size := 16 }] } })).modTile 0
  (fun x => { x with dir := [(0, 0, 128)], stems := [(0, { (default : StemEnt) with valid := true })] })
theorem wit_ApplyRefused : (movedState.active.map (fun o => movedState.compareRefused o (((movedState.img.apply.map Apply.img).getD blankImg)))) = some true := by decide +kernel
theorem wit_ResumeCheck : grantState.clocks.imageChecked = false ∧ grantState.wardenUp = true ∧ grantState.newestRecord.img.mark = false ∧ grantState.newestRecord.rb F.WDN_FW_STAT_rom_only = false ∧
    (grantState.wf F.WDN_FW_STAT_rom_only 1).newestRecord.rb F.WDN_FW_STAT_rom_only = true ∧
    (imgState (fun i => (grantState.writeRecord { i.record with mark := true }).img)).newestRecord.img.mark = true := by decide +kernel

/-- A queue of port 0 with one descriptor, of an operation, that is done or not. -/
def queueOf (op : Nat) (st : Option Nat) : Queue := ⟨0, 0, 4, false, 0, 0, 0, 1, 0, 0, 0, true, true, [{ (default : Desc) with num := 7, op := op, len := 4096, src := 4096, status := st }], 8, none, false, if st.isSome then [7] else [], 0⟩
def queueState (op : Nat) (st : Option Nat) (up : Bool) : State :=
  { mediaState with queues := [(0, queueOf op st)], links := [((0, 0), { HLink.down with up := up })] }
def createBytes : Bytes := le 2 1 ++ le 1 4 ++ zeros 29
theorem wit_QueueCommands : grantState.hears 0 0 = true ∧ (grantState.heard 0).holds 0 .queue = true ∧
    (let b := createBytes; b.length = 32 ∧ getLe b 0 2 < 4096 ∧ (grantState.heard 0).queue (getLe b 0 2) = none ∧ 4 ≤ getLe b 2 1 ∧ getLe b 2 1 ≤ 12 ∧ getLe b 8 8 % 4096 = 0 ∧
      getLe b 16 8 % 4096 = 0 ∧ getLe b 4 2 < 2048 ∧ getLe b 3 1 ≤ 1 ∧ allZero (slice b 6 2) = true ∧ allZero (slice b 24 8) = true) ∧
    (zeros 4).length = 4 ∧ getLe (zeros 4) 2 1 ≤ 1 ∧ allZero (slice (zeros 4) 3 1) = true ∧
    (((queueState 1 none false).heard 0).queue 0).map (fun x => (x.port, x.ld)) = some (0, 0) := by decide +kernel
theorem wit_Queue : ((queueState 1 none false).queue 0).map (fun x => (x.port, x.ld, x.fetching)) = some (0, 0, true) ∧
    [false, true].all (fun u => ((queueState 1 (some 0) u).link 0 0).up == u && ((queueState 1 (some 0) u).queue 0).any (fun x => (x.descs.find? (fun d => d.num == 7 && d.status.isSome)).isSome && ((x.cqTail + 1) % x.entries == x.cqHead) == false && x.ended.head? == some 7)) = true ∧
    (queueState 1 none false).ioInsecure 0 0 = false ∧ upState.queue 0 = none ∧ (queueState 1 (some 0) true).power.flushing = false ∧ (queueState 1 none false).running 0 7 2 = none := by decide +kernel
theorem wit_QueueRuns : [1, 2, 3, 4].all (fun op => let s := queueState op none false
    (s.running 0 7 op).any (fun p => (s.rangeComp p.1 p.2.dst p.2.len).any (fun c => (s.leafOfLine (p.2.dst / 64 + p.2.done)).any (fun r => s.destReady c r (p.2.dst / 64 + p.2.done))) &&
      (s.rangeComp p.1 p.2.src p.2.len).isSome && (s.leafOfLine (p.2.src / 64 + p.2.done)).isSome && !s.lineHeld (p.2.src / 64 + p.2.done) &&
      (s.leafOfLine (p.2.dst / 64 + 64 * p.2.done)).isSome && !s.readOnly && !s.reqs.any (fun q => q.atTile && q.line / 64 == p.2.dst / 4096 + p.2.done))) = true := by decide +kernel

/-- The sequencer in a phase with one step before it, rail 1 on or off. -/
def seqState (phase op a : Nat) (w : StepWait) (en on : Bool) : State :=
  let s := upState.wf F.SEQ_STAT_phase phase |>.wf F.SEQ_STAT_step 0
  let p := s.power
  { s with power := { p with program := { p.program with steps := [⟨op, a, 4⟩], deps := List.replicate 16 ⟨0, 1, false, 0, 0, 0⟩ }, wait := w, rails := List.replicate 16 { (default : Rail) with en := en, on := on, pg := on } } }
theorem wit_SequencerSteps : [1, 2, 3, 4, 6, 7, 15].all (fun op => (seqState 1 op 1 .ready false false).stepNow == some ⟨op, 1, 4⟩) = true ∧
    (seqState 1 1 1 .ready false false).phase = 1 ∧ (seqState 3 15 1 .ready false false).phase ≠ 1 ∧ (seqState 3 15 1 .ready false false).stepNow = some ⟨15, 1, 4⟩ ∧
    ((seqState 1 1 1 .ready false false).power.dep 1).mode = 1 ∧ ((seqState 1 1 1 .ready false false).power.rail 1).en = false ∧ (seqState 1 1 1 .ready false false).power.depsMet 1 = true ∧ (seqState 1 1 1 .ready false false).rollsBack = false := by decide +kernel
theorem wit_StepJump : [(0x01, true), (0x11, true), (0x21, false), (0x11, false), (0x21, true)].all (fun x => let s := seqState 1 5 x.1 .ready x.2 x.2
    s.stepNow == some ⟨5, x.1, 4⟩ && s.power.railOn (bits x.1 3 0) == x.2 && bits x.1 5 4 == x.1 / 16) = true := by decide +kernel

theorem wit_SequencerEvents : (seqState 1 1 1 .duration false false).power.wait = .duration ∧ (seqState 1 1 1 (.sync 4) false false).power.wait = .sync 4 ∧
    (seqState 1 1 1 (.level 1 true) false false).power.wait = .level 1 true ∧ (seqState 1 1 1 .ready false false).phase = 1 ∧ (seqState 3 1 1 .ready false false).phase ≠ 1 ∧
    (((seqState 1 1 1 .ready true false).power.rail 1).en = true ∧ ((seqState 1 1 1 .ready true false).power.rail 1).pg = false) ∧
    (((seqState 1 1 1 .ready false true).power.rail 1).en = false ∧ ((seqState 1 1 1 .ready false true).power.rail 1).on = true) ∧ (1 : Nat) ≠ 0 ∧
    grantState.hears 0 0 = true ∧ grantState.holds 0 .mgmtWrite = true ∧ ((seqState 1 1 1 .ready true false).power.dep 1).mode ≠ 0 := by decide +kernel
/-- The power is up, and tile 0 returns with its rail not on. -/
def backState : State := (seqState 2 1 1 .ready true false).wf (F.WDN_TILE_STAT_state 0) 3
theorem wit_ReturnRail : backState.phase = 2 ∧ (backState.power.rail 2).en = true ∧ (backState.power.rail 2).pg = false ∧ backState.tileState 0 = 3 := by decide +kernel

def tileAt (st : Nat) : State := grantState.wf (F.WDN_TILE_STAT_state 0) st
theorem wit_Isolation : helperIrq 5 = some (irqHelper 0 false) ∧ helperIrq 0 = none ∧ 0 < grantState.tileCount ∧ grantState.tileCount ≤ 8 ∧ grantState.hears 0 0 = true ∧ grantState.holds 0 .tileService = true ∧ grantState.holds 0 .mgmtWrite = true ∧
    ((tileAt 0).tileState 0 = 0 ∧ (tileAt 0).tilesOut = []) ∧ (tileAt 2).tileState 0 = 2 ∧ (tileAt 3).tileState 0 = 3 ∧
    (({ grantState with tiles := grantState.tiles.map (fun (x : Tile) => { x with held := false }) }).tile 0).held = false ∧ (({ grantState with tiles := grantState.tiles.map (fun (x : Tile) => { x with held := true }) }).tile 0).held = true ∧
    ((tileAt 0).heard 0).holds 0 .tileService = true ∧ 0 < ((tileAt 0).heard 0).tileCount ∧ ((tileAt 0).heard 0).tileState 0 = 0 ∧ ((tileAt 0).heard 0).tilesOut = [] ∧ ((tileAt 6).heard 0).tileState 0 = 6 := by decide +kernel
theorem wit_TileService : [(0, 0), (1, 0), (2, 0), (3, 7), (4, 1)].all (fun (x : Nat × Nat) => let b := le 1 x.1 ++ le 1 7 ++ le 1 x.2 ++ zeros 1
    b.length == 4 && getLe b 0 1 == x.1 && getLe b 1 1 == 7 && getLe b 2 1 == x.2 && getLe b 3 1 == 0) = true ∧
    ((({ grantState with dev := { grantState.dev with member := .m2T128 } } : State).heard 0).tileCount ≤ 7) := by decide +kernel

/-- A part of two tiles, the first in a state; whether its catch is drained. -/
def twoTiles (st d : Nat) : State :=
  let s := ({ mediaState with dev := { mediaState.dev with member := .m2T128 } }).wf (F.WDN_TILE_STAT_state 0) st
  ((s.wf (F.WDN_TILE_STAT_catch_drained 0) d).wf (F.TRN_MAP_STAT_stem_resident 0) 1).wf (F.TRN_MAP_STAT_filter_ready 0) 1
theorem wit_TileReturn : ((twoTiles 1 0).tileState 0 = 1 ∧ (twoTiles 1 0).rb (F.WDN_TILE_STAT_catch_drained 0) = false ∧ ((twoTiles 1 0).nurseOf 0).isSome = true ∧ (grantState.wf (F.WDN_TILE_STAT_state 0) 0).tileCount = 8) ∧
    ((twoTiles 1 1).tileState 0 = 1 ∧ (twoTiles 1 1).rb (F.WDN_TILE_STAT_catch_drained 0) = true) ∧ (twoTiles 3 0).tileState 0 = 3 ∧ (twoTiles 4 0).tileState 0 = 4 ∧
    ((twoTiles 4 0).rebuildOf 0 = [] ∧ (twoTiles 4 0).rb (F.TRN_MAP_STAT_stem_resident 0) = true ∧ (twoTiles 4 0).rb (F.TRN_MAP_STAT_filter_ready 0) = true ∧ (twoTiles 4 0).nurseLeaves 0 = []) ∧
    (((twoTiles 4 0).modTile 1 (fun x => { x with rebuild := [(0, default)] })).rebuildOf 0).length = 1 := by decide +kernel

/-- The device in a phase, its rail 1 on or off, a flush or not, the button pressed or not. -/
def powerState (phase : Nat) (en on flush press : Bool) : State :=
  let s := grantState.wf F.SEQ_STAT_phase phase
  let p := s.power
  { s with power := { p with rails := List.replicate 16 { (default : Rail) with en := en, on := on }, flushing := flush, pressed := press, vin := 10000
                             program := { p.program with deps := List.replicate 16 ⟨0, 1, true, 0, 0, 0⟩ } } }
theorem wit_Vin : (let l := (powerState 2 true true false false).setVin 11000 false; l.rb F.SEQ_VIN_braced = false ∧ l.powered = true ∧ l.phase ≠ 0) ∧
    (let l := ((powerState 0 true true false false).wf F.SEQ_VIN_braced 1).setVin 11000 false; l.rb F.SEQ_VIN_braced = true ∧ l.phase = 0) ∧
    (let t := ((powerState 2 true true false false).wf F.SEQ_VIN_braced 1).setVin 12000 true; t.phase ≠ 0 ∧ t.rb F.SEQ_VIN_braced = true ∧ t.power.flushing = false) ∧
    ((powerState 0 true true false false).setVin 12000 true).phase = 0 := by decide +kernel
theorem wit_Power : (let s := powerState 2 true true true true; s.power.flushing = true ∧ s.power.vin < 10400 ∧ s.power.flushed = false ∧ s.phase = 2 ∧ s.power.pressed = true) ∧
    (powerState 0 true true true true).phase = 0 ∧ (1 ≤ 1 ∧ 1 < 16) ∧ ((powerState 2 true true false true).powered = true ∧ (powerState 2 true true false true).power.flushing = false) ∧
    ((powerState 2 true true false true).pbtnEvent 2).phase ≠ 0 := by decide +kernel
theorem wit_Rails : (((powerState 2 true true false false).power.rail 1).en = true ∧ ((powerState 2 true true false false).power.rail 1).on = true) ∧
    (((powerState 2 false true false false).power.rail 1).en = false ∧ ((powerState 2 false true false false).power.rail 1).on = true) ∧
    [1, 2].all (fun p => let b := (powerState p true true false false).setRail 1 (fun x => { x with pg := false, on := x.on && 1 != 14 }); b.phase == p && (b.power.dep 1).required) = true := by decide +kernel

theorem wit_ResetRequests : grantState.hears 0 0 = true ∧ grantState.holds 0 .reset = true ∧ grantState.holds 0 .mgmtWrite = true ∧
    (let u := (grantState.wf F.RST_CTRL_scope 3).wf F.RST_CTRL_target 0
     let v := ((u.resetEvent 4 7 0).noteReset 4 7 0).wf (F.WDN_TILE_CTRL_restore 0) 1
     0 < u.tileCount ∧ u.tileState 0 = 0 ∧ u.tilesOut = [] ∧ v.tileState 0 = 0 ∧ v.tilesOut = []) ∧
    ¬ 7 < ((({ grantState with dev := { grantState.dev with member := .m2T128 } } : State).wf F.RST_CTRL_scope 3).wf F.RST_CTRL_target 7).tileCount ∧ (powerState 1 false false false false).phase ≠ 2 ∧ (powerState 1 false false false false).phase ≠ 0 ∧
    (sbState.wf F.WDN_I3C_STAT_addr_valid 0).rb F.WDN_I3C_STAT_addr_valid = false ∧ sbState.wardenUp = true ∧ sbState.nacking = false ∧ sbState.rb F.WDN_I3C_STAT_addr_valid = true ∧
    (sbState.irqEdge irqSideband).holds 5 .reset = true ∧ ¬ ((3 : Nat) = 1 ∨ (3 : Nat) = 2 ∨ (3 : Nat) = 5 ∨ (3 : Nat) = 6) ∧
    grantState.phase = 2 ∧ (powerState 0 false false false false).phase = 0 ∧ { powerState 0 false false false false with power := { (powerState 0 false false false false).power with after := .locked } }.power.after = .locked := by decide +kernel

def clockState (held : List Nat) (t o : Bool) (r : List ResetReq) : State :=
  { grantState with clocks := { grantState.clocks with held := held, trimming := t, oscFailed := o, imageChecked := true, taprootsAccepted := true }, resets := r }
theorem wit_Clocks : (clockState [1] false false []).mayRelease 1 = true ∧ (clockState [] true false []).clocks.trimming = true ∧ (clockState [] false true []).clocks.oscFailed = true ∧ (clockState [] false false []).clocks.oscFailed = false ∧
    (clockState [] false true []).clocks.restarts < 2 ∧ (2 ≤ ({ grantState with clocks := { grantState.clocks with restarts := 2 } } : State).clocks.restarts) ∧
    (clockState [] false false []).phase = 2 ∧ (clockState [] false false []).power.flushing = false ∧ (clockState [] false false []).clocks.held.contains 10 = false ∧ 10 - 10 < (clockState [] false false []).tileCount ∧ (clockState [] false false []).tileCount ≤ 8 ∧
    (clockState [] false false [⟨2, 7, 0⟩]).resets.find? (fun r => r.scope == 2) = some ⟨2, 7, 0⟩ ∧ (clockState [1] false false [⟨3, 7, 0⟩]).resets.find? (fun r => r.scope == 3) = some ⟨3, 7, 0⟩ ∧
    (clockState [1] false false [⟨3, 7, 0⟩]).clocks.held.contains 1 = true ∧ (clockState [] false false []).resets.find? (fun r => r.scope == 2) = none ∧ (powerState 0 false false false false).phase = 0 := by decide +kernel
def litterState (l : List LitterHalf) : State := (clockState [] false false []).modTile 0 (fun x => { x with litter := l, replayed := false, held := false })
theorem wit_Litter : (litterState []).wardenUp = true ∧ 0 < (litterState []).tileCount ∧ ((litterState []).tile 0).replayed = false ∧ ((litterState []).tile 0).held = false ∧ (litterState []).lifecycle ≠ 3 ∧
    ((litterState []).tile 0).replayHalves.getLast? = none ∧ ((litterState [{ (default : LitterHalf) with written := true, released := false }]).tile 0).replayHalves.getLast?.isSome = true := by decide +kernel

def sleepState (depth : Nat) (e : Option Nat) (w : Bool) : State :=
  grantState.modTile 0 (fun x => { x with depth := depth, entering := e, waking := w })
theorem wit_Sleep : [(0, 1), (1, 2), (2, 3)].all (fun p => (sleepState p.1 none false).maySleep 0 p.2) = true ∧ 0 < (sleepState 0 none false).tileCount ∧
    ((sleepState 1 (some 2) false).tile 0).entering = some 2 ∧ (((sleepState 2 none false).tile 0).depth ≠ 0 ∧ ((sleepState 2 none false).tile 0).waking = false) ∧
    ((sleepState 2 none true).tile 0).waking = true ∧ (sleepState 1 none false).maySleep 0 1 = false ∧ (sleepState 0 none false).maySleep 0 2 = false ∧ (sleepState 0 none false).maySleep 0 3 = false ∧
    ((sleepState 0 none false).tile 0).entering = none ∧ ((sleepState 0 none false).tile 0).waking = false ∧ (powerState 0 false false false false).phase ≠ 2 ∧ (powerState 2 false false false false).phase ≠ 0 := by decide +kernel
def parkState (p : Nat) : State :=
  let s := ((sleepState 3 none false).wf F.SEQ_SLEEP_p1_en 1).wf F.SEQ_SLEEP_p2_en 1
  { s with power := { s.power with pstate := p, rails := List.replicate 16 { (default : Rail) with en := true, on := true } }, usb4 := false, tiles := s.tiles.map (fun (x : Tile) => { x with depth := 3 }) }
theorem wit_Park : (parkState 0).phase = 2 ∧ (parkState 0).power.pstate = 0 ∧ (parkState 0).rb F.SEQ_SLEEP_p1_en = true ∧ (parkState 0).reqs = [] ∧ (parkState 0).rb F.SEQ_SLEEP_p2_en = true ∧
    (parkState 0).links.all (fun l => !l.2.up || l.2.l1) = true ∧ (parkState 0).usb4 = false ∧ (parkState 0).parkWork = false ∧
    (parkState 0).tileList.all (fun t => ((parkState 0).tile t).depth == 3 || !(parkState 0).tileInService t) = true ∧ (parkState 2).power.pstate = 2 ∧ (parkState 0).power.railOn 0 = true := by decide +kernel
def hotState : State :=
  let s := powerState 0 false false false false
  { s with power := { s.power with after := .thermal, minOff := true, vinValid := true }, thm := [(0, [250])] }
theorem wit_Thermal : upState.sampled 0 = true ∧ isZone 0 = false ∧ (hotState.phase = 0 ∧ hotState.power.after = .thermal ∧ hotState.power.minOff = true ∧ hotState.power.vinValid = true ∧ hotState.coolEnough = true) ∧
    (grantState.phase = 2 ∧ grantState.power.committed = false) ∧ (isZone 9 = true ∧ (1500 : Int) < 1501) ∧ ({ grantState with evf := [default], evfHand := [] }.evf = [default]) := by decide +kernel
theorem wit_Zone : { grantState with active := some { (default : Img) with sensors := [(1, default)] } }.sampled 9 = true := by decide +kernel

theorem wit_Debug : (mediaState.hears 6 0 = true ∧ mediaState.hears 0 0 = true ∧ carries 0 0xC041 = true ∧ carries 0 0xD100 = false ∧ carries 6 0xD102 = true) ∧ (mediaState.heard 6).debugLine (2 ^ 45) = none ∧ (mediaState.lineHeld 0 = false ∧ ((mediaState.heard 6).debugLine 0).isSome = true) ∧ (mediaState.heard 6).covers 6 .mediaRead 0 = true ∧
    (mediaState.heard 6).covers 6 .plaintext 0 = true ∧ (mediaState.heard 6).covers 6 .mediaWrite 0 = true ∧ (({ mediaState with rights := upState.rights }.heard 6).covers 6 .mediaRead 0 = false) ∧
    ((cipherState.served 0).map (·.cipher)) = some 1 := by decide +kernel
theorem wit_LineHeld : ({ mediaState with reqs := [{ (default : Req) with stage := .active, line := 5 }] } : State).lineHeld 5 = true := by decide +kernel
def storedState : State := { mediaState with pkgs := [(0, { Pkg.fresh with cold := false, dies := [{ PkgDie.fresh with lines := [((0, false, 0), fillerLine)] }] })] }
theorem wit_StructureRead : (0 / 25 < 4096 ∧ 0 < (storedState.heard 6).groupCount) ∧ (storedState.heard 6).coversAll 6 .mediaRead = true ∧
    (match (storedState.heard 6).stripeRead ⟨0, 0, 0, 0, false⟩ 0 [] with | .good _ _ => true | _ => false) = true := by decide +kernel
def mediaOnly : State :=
  let w : Warrant := ⟨0, 0, 0, 0, 0, 2 ^ Right.mediaRead.bit, 0, 0, 2 ^ 40, 0, 2 ^ 40, [], [(0, 4095)], [(0, 255)], []⟩
  { cipherState with rights := { cipherState.rights with held := [(6, [w])] } }
theorem wit_DebugMedia : (mediaOnly.heard 6).covers 6 .mediaRead 0 = true ∧ (mediaOnly.heard 6).covers 6 .plaintext 0 = false := by decide +kernel
theorem wit_Counters : grantState.pmcPresent (pmcBlock 0) = true ∧ (0 % 2 = 0 ∧ 0 < pmcCount (pmcBlock 0)) ∧ grantState.holds 0 .mgmtRead = true ∧ grantState.holds 0 .counterRead = true ∧ (upState.holds 0 .counterRead = false) ∧ ({ grantState with dev := { grantState.dev with member := .m2T128 } } : State).pmcPresent (pmcBlock 7) = false ∧
    grantState.coversAll 0 .counterRead = true ∧ grantState.holds 0 .mgmtWrite = true ∧
    ¬ (bits 5 11 0 = grantState.rf (pmcFiltComp (pmcBlock 0) 1) ∧ bits 5 12 12 = grantState.rf (pmcFiltEn (pmcBlock 0) 1)) ∧ grantState.covers 0 .counterRead (bits 5 11 0) = true ∧
    grantState.rf (pmcFiltEn (pmcBlock 0) 1) = 0 ∧
    (let b := zeros 4 ++ le 2 1 ++ zeros 2; (grantState.heard 0).holds 0 .counterRead = true ∧ b.length = 8 ∧ getLe b 0 1 < 8 ∧ getLe b 1 1 ≤ 1 ∧ 1 ≤ getLe b 4 2 ∧ getLe b 4 2 ≤ 224 ∧
      allZero (slice b 6 2) = true ∧ getLe b 2 2 + getLe b 4 2 ≤ pmcCount (pmcBlock (getLe b 0 1))) := by decide +kernel

theorem wit_RegisterAccess : (grantState.hears 0 0 = true ∧ upState.hears 0 0 = true ∧ grantState.hears 4 0 = true) ∧ carries 0 0xD000 = false ∧ carries 6 0xD000 = true ∧ carries 6 0xD001 = true ∧ grantState.holds 0 .seedbank = true ∧ upState.holds 0 .seedbank = false ∧ 0 < 0x100000 ∧ 0 % 4 = 0 ∧ 1 % 4 ≠ 0 ∧ 0 < 2 ^ 32 ∧
    (grantState.hears 6 0 = true ∧ (grantState.heard 6).holds 6 .mgmtRead = true) ∧ (grantState.heard 6).holds 6 .mgmtWrite = true ∧ sbState.nacking = false ∧ sbState.wardenUp = true ∧ ¬ (5 : Nat) % 4 = 0 ∧ (sbState.irqEdge irqSideband).holds 5 .mgmtRead = true := by decide +kernel

def logState (f : RingLog → RingLog) : State := { grantState with log := f grantState.log }
theorem wit_Log : (grantState.hears 0 0 = true ∧ upState.hears 0 0 = true ∧ upState.holds 0 .mgmtRead = false ∧ carries 0 0xC040 = true ∧ upState.holds 0 .mgmtWrite = false) ∧ (grantState.log.writing = none ∧ grantState.log.erasing = false ∧ grantState.log.frozen = false ∧ tget grantState.glade.rates 5 = none ∧ ¬ 0 < grantState.log.dropped) ∧ grantState.fifoEntry.isNone = true ∧ { grantState with evf := [default] }.fifoEntry.isSome = true ∧ grantState.wardenUp = true ∧ grantState.holds 0 .mgmtRead = true ∧
    grantState.rf F.RLG_TRC_CTRL_owner ≠ 1 ∧ grantState.rf F.RLG_TRC_CTRL_owner = 0 ∧ (logState (fun l => { l with writing := some default })).log.writing = some default ∧
    (logState (fun l => { l with erasing := true })).log.erasing = true ∧
    (let s := logState (fun l => { l with dropped := 1, queue := [], frozen := false }); 0 < s.log.dropped ∧ s.log.queue.length < 512 ∧ s.log.frozen = false ∧ s.power.committed = false) ∧
    (tget { grantState with glade := { grantState.glade with rates := [(5, default)] } }.glade.rates 5).isSome = true ∧ grantState.holds 0 .logFreeze = true ∧ grantState.holds 0 .mgmtWrite = true ∧
    (logState (fun l => { l with frozen := true })).log.frozen = true ∧ (grantState.heard 0).holds 0 .logRead = true ∧ grantState.rb F.RLG_TRC_CTRL_enable = false ∧
    grantState.coversAll 0 .trace = true ∧ (let s := (grantState.wf F.RLG_TRC_CTRL_enable 1).wf F.RLG_TRC_CTRL_all 1; s.rb F.RLG_TRC_CTRL_enable = true ∧ s.rb F.RLG_TRC_CTRL_all = true ∧ s.coversAll 0 .trace = true) := by decide +kernel

def fwState (x : Option FwXfer) (a : Option FwAct) (t : Nat) : State :=
  let s := ((grantState.wf F.WDN_FW_STAT_trial t).wf F.RST_STAT_trim_safe 0).wf F.SEQ_VIN_braced 0
  { s with fw := { s.fw with xfer := x, act := a, fault := false, trialStart := 0, slots := [some (zeros 32), some (zeros 32)] }, glade := { s.glade with opsec := 60 } }
theorem wit_Firmware : (fwState none none 0).hears 0 0 = true ∧ ((fwState none none 0).heard 0).holds 0 .firmware = true ∧ ((fwState none none 0).heard 0).fw.act = none ∧ ((fwState none none 0).heard 0).fw.xfer = none ∧
    ((zeros 128).length % 128 = 0) ∧ (let h := (fwState none none 0).heard 0; h.tileList.all h.tileInService = true ∧ h.applyRunning = false ∧ h.rb F.SEQ_VIN_braced = false ∧ h.rb F.RST_STAT_trim_safe = false ∧ h.rb F.WDN_FW_STAT_trial = false ∧ (h.ld 0 0).bg.isSome = false) ∧
    ((fwState none none 1).heard 0).rb F.WDN_FW_STAT_trial = true ∧ ¬ (0 < 4 ∧ mailboxSize < 16 + 128) ∧ (0 < 4 ∧ mailboxSize < 16 + mailboxSize) ∧ (fwState none (some ⟨1, 0, 0, 1, false⟩) 1).fw.act.isSome = true ∧
    ((fwState (some ⟨0, zeros 128⟩) none 0).heard 0).fw.xfer = some ⟨0, zeros 128⟩ ∧ 1 * 128 = (zeros 128).length ∧
    (fwState none (some ⟨1, 0, 0, 1, false⟩) 1).fw.act.map (fun a => (a.core, a.rolling)) = some (0 + 1, false) ∧
    ((fwState none none 1).rb F.WDN_FW_STAT_trial = true ∧ (fwState none none 1).fw.fault = false ∧ (fwState none none 1).fw.trialStart + 60 ≤ (fwState none none 1).glade.opsec ∧ (((fwState none none 1).wf F.WDN_FW_STAT_trial 0).fwSlot (((fwState none none 1).wf F.WDN_FW_STAT_trial 0).rf F.WDN_FW_STAT_active_slot)).isSome = true) ∧
    (let s : State := { fwState none none 1 with fw := { (fwState none none 1).fw with slots := [none, none] } }; (s.wf F.WDN_FW_STAT_trial 0).fwSlot ((s.wf F.WDN_FW_STAT_trial 0).rf F.WDN_FW_STAT_active_slot) = none) ∧
    (grantState.hears 6 0 = true ∧ (grantState.heard 6).holds 6 .coreDebug = true) ∧ 0 ≤ (grantState.heard 6).tileCount ∧ carries 6 0xD110 = true := by decide +kernel
theorem wit_FirmwareBusy : ((grantState.modLd 0 0 (fun d => { d with bg := some 1 })).heard 0 |>.ld 0 0).bg.isSome = true := by decide +kernel

def psKeyed : State := { grantState with ps := { grantState.ps with writing := none } }
theorem wit_ParamWrite : psArea 0x4000 ≠ .reserved ∧ psArea 0x4000 ≠ .device ∧ psKeyed.ps.writing = none ∧ psKeyed.psGet 0x4000 = none ∧ psKeyed.psOver 0x4000 64 = false ∧
    (psKeyed.glade.fallback.isSome = true ∨ psKeyed.ps.erased ≠ []) ∧ (psKeyed.ps.sectors.isEmpty = false) ∧ psKeyed.ps.erasing = [] := by decide +kernel
theorem wit_ParamCompact : (let s : State := { psKeyed with ps := { psKeyed.ps with erased := [(9, 0)], sectors := [⟨0, 0, 0, []⟩, ⟨1, 1, 0, []⟩], erasing := [] }, glade := { psKeyed.glade with fallback := none } }
    s.ps.erased.length < 2 ∧ s.ps.erasing = [] ∧ s.ps.writing = none ∧ s.glade.fallback = none ∧ s.power.committed = false) := by decide +kernel
theorem wit_ParamDone : ({ psKeyed with ps := { psKeyed.ps with writing := some ⟨0x4000, 1, 2, false, []⟩, erasing := [(1, 0)] } }.ps.writing.isSome = true) ∧
    ({ psKeyed with glade := { psKeyed.glade with fallback := some [] } }.glade.fallback = some []) ∧ ({ psKeyed with ps := { psKeyed.ps with sectors := [] } }.ps.sectors = []) := by decide +kernel
theorem wit_Params : psKeyed.hears 0 0 = true ∧ psKeyed.holds 0 .mgmtWrite = true ∧ psArea 0x0003 ≠ .reserved ∧ psKeyed.holds 0 .paramRead = true ∧ (psKeyed.psGet 0x0003).isSome = true ∧
    psKeyed.hears 6 0 = true ∧ sbState.wardenUp = true ∧ sbState.nacking = false ∧ sbState.rb F.WDN_I3C_STAT_addr_valid = true ∧ upState.rb F.WDN_I3C_STAT_addr_valid = false ∧
    psArea 0x4000 ≠ .reserved ∧ psArea 0x4000 ≠ .device ∧ psKeyed.holds 0 .paramWrite = true ∧ psKeyed.power.pins.nvwp = true ∧ psKeyed.power.committed = false := by decide +kernel

/-- Source 9 is pending for target 0, edge or level. -/
def irqState (lvl : Nat) : State :=
  let s := ((((grantState.wf (F.IRQ_SRC_pending 9) 1).wf (F.IRQ_SRC_level 9) lvl).wf (F.IRQ_SRC_priority 9) 3).wf (F.IRQ_SRC_targets 9) 0xFFFF).wf (F.IRQ_SRC_enable 9) 1
  { s with irq := { s.irq with waiting := [(9, 0)] } }
theorem wit_Interrupts : grantState.pickSource 0 = none ∧ (irqState 0).pickSource 0 = some 9 ∧ (irqState 1).pickSource 0 = some 9 ∧ (irqState 0).rb (F.IRQ_SRC_level 9) = false ∧ (irqState 1).rb (F.IRQ_SRC_level 9) = true ∧
    { grantState with irq := { grantState.irq with service := [(0, 9)] } }.irq.service.contains (0, 9) = true ∧ grantState.irq.service.contains (0, 9) = false ∧
    { grantState with usb4 := true }.usb4 = true ∧ grantState.power.pins.rst = true ∧ { grantState with power := { grantState.power with pins := { grantState.power.pins with rst := false } } }.power.pins.rst = false ∧ grantState.wardenUp = true ∧
    ({ grantState with usb4 := false } : State).clocks.held.contains 7 = false ∧ ({ grantState with clocks := { grantState.clocks with held := [1] } } : State).wardenUp = false := by decide +kernel

theorem wit_SidebandBus : { upState with power := { upState.power with pins := { upState.power.pins with posnIn := true } } }.power.pins.posnIn = true ∧ upState.rb F.WDN_I3C_STAT_addr_valid = false ∧
    sbState.rb F.WDN_I3C_STAT_addr_valid = true ∧ sbState.nacking = false ∧ sbState.ps.writing.isSome = false := by decide +kernel

theorem wit_SidebandMessages : sbState.wardenUp = true ∧ sbState.nacking = false ∧ sbState.rb F.WDN_I3C_STAT_addr_valid = true ∧
    (let i := sbState.irqEdge irqSideband
     i.holds 5 .logRead = true ∧ i.holds 5 .paramWrite = true ∧ i.legacyLocked = false ∧ i.psGet 0x0010 = none ∧ i.sb.wrong < 8 ∧ i.ps.writing = none ∧ i.power.committed = false ∧
     (i.glade.fallback.isSome = true ∨ i.ps.erased ≠ [])) ∧ 0 + 1 ≤ 8192 ∧ (zeros 1).isEmpty = false ∧ 0 % 16 + (zeros 1).length ≤ 16 ∧ (zeros 8).length = 8 ∧ upState.rb F.WDN_I3C_STAT_addr_valid = false := by decide +kernel
theorem wit_SidebandRights : (({ sbState with rights := upState.rights } : State).irqEdge irqSideband).holds 5 .logRead = false ∧ (({ sbState with rights := upState.rights } : State).irqEdge irqSideband).holds 5 .paramWrite = false := by decide +kernel
def lockedState : State := { sbState with ps := { sbState.ps with sectors := [⟨0, 0, 0, [⟨0x0010, 1, PsArea.device.num, false, zeros 32⟩]⟩] }, sb := { sbState.sb with wrong := 8 } }
theorem wit_SidebandLocked : (lockedState.irqEdge irqSideband).legacyLocked = true ∧ ((lockedState.irqEdge irqSideband).psGet 0x0010).isSome = true ∧ 8 ≤ (lockedState.irqEdge irqSideband).sb.wrong := by decide +kernel

theorem wit_StepRunsTheFrontCommand : ({ State.reset with pending := [.rstact] } : State).pending = [.rstact] := by decide +kernel

theorem wit_EmptyQueueTicks : State.reset.pending = [] ∧ State.reset.fabricRuns = true ∧ State.reset.power.pstate ≠ 2 ∧ (parkState 2).pending = [] ∧ (parkState 2).fabricRuns = true ∧ (parkState 2).power.pstate = 2 ∧
    (powerState 0 false false false false).pending = [] ∧ (powerState 0 false false false false).fabricRuns = false := by decide +kernel

theorem wit_CommandsNeedTheirRight : upState.lineHeld 0 = false ∧ upState.hears 0 0 = true ∧ carries 0 0xC010 = true ∧ (upState.heard 0).holds 0 .keyAdmin = false ∧ upState.hears 6 0 = true ∧ carries 6 0xC010 = false ∧
    ({ upState with clocks := { upState.clocks with held := [1] } }.hears 0 0 = false) := by decide +kernel

theorem wit_RegisterWritesAreLocal : (F.THM_ZONE_fault 0).lo ≤ (F.THM_ZONE_fault 0).hi ∧ (F.THM_ZONE_fault 0).hi < 32 ∧ (F.THM_ZONE_temp 0).hi < 32 ∧ (F.THM_ZONE_temp 0).lo ≤ (F.THM_ZONE_temp 0).hi ∧
    ((F.THM_ZONE_temp 0).addr ≠ (F.THM_ZONE_fault 0).addr ∨ (F.THM_ZONE_temp 0).hi < (F.THM_ZONE_fault 0).lo ∨ (F.THM_ZONE_fault 0).hi < (F.THM_ZONE_temp 0).lo) ∧ (0 : Nat) ≠ 4 := by decide +kernel

theorem wit_RegistersStayCanonical : State.reset.regsCanonical ∧ (match step { State.reset with pending := [.setmwl 8] } with | .next _ => true | _ => false) = true := by decide +kernel

theorem wit_QueuesStayBounded : State.reset.bounded ∧ (match step { State.reset with pending := [.rstact] } with | .next _ => true | _ => false) = true := by decide +kernel

theorem wit_WhatIsPermanentStays : (match step { State.reset with pending := [.rstact] } with | .next _ => true | _ => false) = true := by decide +kernel

theorem wit_ReadOnlyIsNeverLeft : ({ State.reset with readOnly := true } : State).readOnly = true ∧ (match exec .rstact { State.reset with readOnly := true } with | .next _ => true | _ => false) = true := by decide +kernel

theorem wit_CommandsLeaveTheQueueAndThePart : (match exec .rstact State.reset with | .next _ => true | _ => false) = true := by decide +kernel

theorem wit_ReservedAddressesReadZero : grantState.hears 6 0 = true ∧ (grantState.heard 6).hears 6 0 = true ∧ (grantState.heard 6).lostWords.contains (.register, true) = false ∧ (carries 6 0xD000 = true ∧ carries 6 0xD001 = true) ∧ 0xFFFFC % 4 = 0 ∧ 0xFFFFC < 2 ^ 32 ∧ reservedAddr 0xFFFFC = true ∧ inWindow 0xFFFFC = false ∧
    (grantState.heard 6).holds 6 .mgmtRead = true ∧ (grantState.heard 6).holds 6 .mgmtWrite = true := by decide +kernel

theorem wit_HomeTileOfALeaf : (cipherState.servedAt (lineDpa 0)).map (fun c => decide (12 ≤ (cipherState.patternOf c).granule)) = some true := by decide +kernel

theorem wit_ControlCommandsLeaveTheMediumAlone : Instr.irqClaim 0 ∈ ([.enec 1, .irqClaim 0] : List Instr) := by decide +kernel

end Sys2Proof.Tests
end

section
/-! PROOFS. The scope's statements (00): what every command and every step keeps of the queue, the part and the register file; how registers are written and read. -/
namespace Sys2Proof.Machine

/-! ## What commands and steps keep -/

/-- A command's next state keeps what `Kept` lists. -/
theorem exec_next_kept {c : Instr} {s t : State} (h : exec c s = .next t) : Kept s t := exec_kept (Kept.refl s) t h

/-- A step keeps what `Kept` lists, but for the command it takes off the queue. -/
theorem step_next_kept {s t : State} (h : step s = .next t) : ∃ rest, Kept { s with pending := rest } t := by
  unfold step at h
  split at h
  · cases h
    exact ⟨s.pending, State.tick_kept (Kept.refl s)⟩
  · next c rest _ => exact ⟨rest, exec_next_kept h⟩

/-- Settles O53: the register file is a part of what every step keeps. -/
theorem registersStayCanonical : Obligations.RegistersStayCanonical := by
  unfold Obligations.RegistersStayCanonical
  intro s t hs h
  obtain ⟨rest, _, _, _, hregs, _⟩ := step_next_kept h
  exact hregs hs

/-- Settles O57: the queue, the part and its tiles are a part of what every command keeps. -/
theorem commandsLeaveTheQueueAndThePart : Obligations.CommandsLeaveTheQueueAndThePart := by
  unfold Obligations.CommandsLeaveTheQueueAndThePart
  intro s t c h
  obtain ⟨hdev, hpending, htiles, _⟩ := exec_next_kept h
  exact ⟨hpending, hdev, htiles⟩

/-! ## Words and fields -/

@[simp] theorem State.reg_setReg_same (s : State) (a : Nat) (w : Word) : (s.setReg a w).reg a = w := by
  rw [State.reg_setReg, if_pos rfl]

theorem State.reg_setReg_ne (s : State) {a b : Nat} (w : Word) (h : b ≠ a) : (s.setReg a w).reg b = s.reg b := by
  rw [State.reg_setReg, if_neg h.symm]

/-- A bit of a word with a field replaced: the field's bits are the value's, the others stay. -/
theorem setBits_testBit (w : Word) {hi lo : Nat} (v j : Nat) (hle : lo ≤ hi) (hhi : hi < 32) :
    (setBits w hi lo v).toNat.testBit j = if lo ≤ j ∧ j ≤ hi then v.testBit (j - lo) else w.toNat.testBit j := by
  obtain ⟨k, rfl⟩ : ∃ k, hi = lo + (k + 1) - 1 := ⟨hi - lo, by omega⟩
  have hlow : w.toNat % 2 ^ lo < 2 ^ lo := Nat.mod_lt _ (by positivity)
  have hmid : v % 2 ^ (k + 1) < 2 ^ (k + 1) := Nat.mod_lt _ (by positivity)
  have hsum : w.toNat / 2 ^ (lo + (k + 1)) * 2 ^ (lo + (k + 1)) + v % 2 ^ (k + 1) * 2 ^ lo + w.toNat % 2 ^ lo =
      2 ^ lo * (2 ^ (k + 1) * (w.toNat / 2 ^ (lo + (k + 1))) + v % 2 ^ (k + 1)) + w.toNat % 2 ^ lo := by
    rw [Nat.pow_add 2 lo (k + 1)]; ring
  rw [setBits_toNat w lo (k + 1) v (by omega) k.succ_pos, hsum, Nat.testBit_two_pow_mul_add _ hlow, Nat.testBit_two_pow_mul_add _ hmid]
  by_cases hj : j < lo
  · rw [if_pos hj, if_neg (by omega), Nat.testBit_mod_two_pow, decide_eq_true hj, Bool.true_and]
  · by_cases hk : j - lo < k + 1
    · rw [if_neg hj, if_pos hk, if_pos (by omega), Nat.testBit_mod_two_pow, decide_eq_true hk, Bool.true_and]
    · rw [if_neg hj, if_neg hk, if_neg (by omega), Nat.testBit_div_two_pow]
      congr 1
      omega

theorem bits_testBit (n hi lo j : Nat) : (bits n hi lo).testBit j = (decide (j < hi - lo + 1) && n.testBit (lo + j)) := by
  rw [bits, Nat.testBit_mod_two_pow, Nat.testBit_shiftRight]

/-- The field just replaced reads the value, cut to its width. -/
theorem bits_setBits_same (w : Word) {hi lo : Nat} (v : Nat) (hle : lo ≤ hi) (hhi : hi < 32) :
    bits (setBits w hi lo v).toNat hi lo = v % 2 ^ (hi - lo + 1) := by
  refine Nat.eq_of_testBit_eq fun j => ?_
  rw [bits_testBit, Nat.testBit_mod_two_pow, setBits_testBit w v _ hle hhi, Nat.add_sub_cancel_left]
  by_cases hj : j < hi - lo + 1
  · rw [if_pos (by omega)]
  · rw [decide_eq_false hj, Bool.false_and, Bool.false_and]

/-- A field of disjoint bits reads as before. -/
theorem bits_setBits_disjoint (w : Word) {hi lo hi' lo' : Nat} (v : Nat) (hle : lo ≤ hi) (hhi : hi < 32) (hle' : lo' ≤ hi') (hd : hi' < lo ∨ hi < lo') :
    bits (setBits w hi lo v).toNat hi' lo' = bits w.toNat hi' lo' := by
  refine Nat.eq_of_testBit_eq fun j => ?_
  rw [bits_testBit, bits_testBit, setBits_testBit w v _ hle hhi]
  by_cases hj : j < hi' - lo' + 1
  · rw [if_neg (by omega)]
  · rw [decide_eq_false hj, Bool.false_and, Bool.false_and]

theorem State.rf_wf_same (s : State) {f : Fld} (v : Nat) (hle : f.lo ≤ f.hi) (hhi : f.hi < 32) : (s.wf f v).rf f = v % 2 ^ (f.hi - f.lo + 1) := by
  rw [State.rf, State.wf, State.reg_setReg_same, bits_setBits_same _ v hle hhi]

theorem State.rf_wf_other (s : State) {f g : Fld} (v : Nat) (hle : f.lo ≤ f.hi) (hhi : f.hi < 32) (hle' : g.lo ≤ g.hi)
    (hd : g.addr ≠ f.addr ∨ g.hi < f.lo ∨ f.hi < g.lo) : (s.wf f v).rf g = s.rf g := by
  rw [State.rf, State.rf, State.wf]
  by_cases ha : g.addr = f.addr
  · rw [ha, State.reg_setReg_same, bits_setBits_disjoint _ v hle hhi hle' (hd.resolve_left (not_not_intro ha))]
  · rw [State.reg_setReg_ne _ _ ha]

/-- Settles O52: a word is read back by `State.reg_setReg`, a field by the bits `setBits` leaves. -/
theorem registerWritesAreLocal : Obligations.RegisterWritesAreLocal := by
  unfold Obligations.RegisterWritesAreLocal
  intro s a w f g v
  refine ⟨s.reg_setReg_same a w, fun b hb => s.reg_setReg_ne w hb, ?_, ?_, rfl⟩
  · rintro ⟨hle, hhi⟩
    exact s.rf_wf_same v hle hhi
  · rintro ⟨hle, hhi, hle', _, hd⟩
    exact s.rf_wf_other v hle hhi hle' hd

/-! ## The commands' meanings -/

theorem exec_seedbankWindowRead (iface offset : Nat) (s : State) : exec (.seedbankWindowRead iface offset) s = execSeedbankWindowRead iface offset s := rfl

theorem exec_managementRegisterWrite (iface address value : Nat) (s : State) :
    exec (.managementRegisterWrite iface address value) s = execManagementRegisterWrite iface address value s := rfl

theorem exec_registerRead (iface address count : Nat) (s : State) : exec (.registerRead iface address count) s = execRegisterRead iface address count s := rfl

theorem exec_registerWrite (iface address : Nat) (values : List Nat) (s : State) :
    exec (.registerWrite iface address values) s = execRegisterWrite iface address values s := rfl

theorem exec_regRead (address : Nat) (s : State) : exec (.regRead address) s = execRegRead address s := rfl

/-! ## The seedbank window and the register writes -/

theorem exec_seedbankWindowRead_outside {s : State} {iface offset : Nat} (h : s.hears iface 0 = true) (ho : 0x100000 ≤ offset) :
    exec (.seedbankWindowRead iface offset) s = .next s := by
  simp only [exec_seedbankWindowRead, execSeedbankWindowRead, h, Bool.not_true, Bool.false_eq_true, if_false, if_pos ho]

theorem exec_seedbankWindowRead_inside {s : State} {iface offset : Nat} (h : s.hears iface 0 = true) (ho : offset < 0x100000) :
    exec (.seedbankWindowRead iface offset) s =
      .next ((s.windowRead iface offset).2.readOut iface (0xA00000 + offset) (s.windowRead iface offset).1) := by
  simp only [exec_seedbankWindowRead, execSeedbankWindowRead, h, Bool.not_true, Bool.false_eq_true, if_false, if_neg (Nat.not_le.mpr ho)]

theorem State.windowRead_held {s : State} {iface : Nat} (offset : Nat) (h : s.holds iface .seedbank = true) :
    s.windowRead iface offset = s.windowWord offset := by
  rw [State.windowRead, if_pos h]

theorem State.windowRead_denied {s : State} {iface : Nat} (offset : Nat) (h : s.holds iface .seedbank = false) :
    s.windowRead iface offset = (0, s.deny iface (0xA00000 + offset) .seedbank) := by
  simp only [State.windowRead, h, Bool.false_eq_true, if_false]

theorem exec_managementRegisterWrite_aligned (s : State) {iface address : Nat} (value : Nat) (h : address % 4 = 0) :
    exec (.managementRegisterWrite iface address value) s = .next (s.regWriteWord iface address (value % 2 ^ 32)) := by
  simp only [exec_managementRegisterWrite, execManagementRegisterWrite, if_pos h]

theorem exec_managementRegisterWrite_unaligned (s : State) {iface address : Nat} (value : Nat) (h : address % 4 ≠ 0) :
    exec (.managementRegisterWrite iface address value) s = .next s := by
  simp only [exec_managementRegisterWrite, execManagementRegisterWrite, if_neg h]

/-! ## REGISTER_READ and REGISTER_WRITE (R453) -/

/-- A run of n words a register command takes: from an aligned 32-bit address, fewer than 65,536 of them. -/
def wordRun (address n : Nat) : Prop := address % 4 = 0 ∧ n < 65536 ∧ address < 2 ^ 32

theorem not_wordRun_iff {address n : Nat} : ¬ wordRun address n ↔ address % 4 ≠ 0 ∨ 65536 ≤ n ∨ 2 ^ 32 ≤ address := by
  rw [wordRun]; omega

section
variable {s : State} {iface address count : Nat} {values : List Nat} (h : s.hears iface 0 = true)
include h

theorem exec_registerRead_uncarried (hc : carries iface 0xD000 = false) :
    exec (.registerRead iface address count) s = .next ((s.heard iface).reply iface 0 0xD000 .unsupported []) := by
  simp only [exec_registerRead, execRegisterRead, State.command_uncarried h hc]

theorem exec_registerWrite_uncarried (hc : carries iface 0xD001 = false) :
    exec (.registerWrite iface address values) s = .next ((s.heard iface).reply iface 0 0xD001 .unsupported []) := by
  simp only [exec_registerWrite, execRegisterWrite, State.command_uncarried h hc]

theorem exec_registerRead_run (hc : carries iface 0xD000 = true) (hr : (s.heard iface).holds iface .mgmtRead = true) (ok : wordRun address count) :
    exec (.registerRead iface address count) s =
      .next (((s.heard iface).readWords iface address count).2.reply iface 0 0xD000 .success ((s.heard iface).readWords iface address count).1) := by
  simp only [exec_registerRead, execRegisterRead, State.command_held h hc hr, if_neg (mt not_wordRun_iff.mpr (not_not_intro ok))]

theorem exec_registerWrite_run (hc : carries iface 0xD001 = true) (hr : (s.heard iface).holds iface .mgmtWrite = true) (ok : wordRun address values.length) :
    exec (.registerWrite iface address values) s = .next (((s.heard iface).writeWords iface address values).reply iface 0 0xD001 .success []) := by
  simp only [exec_registerWrite, execRegisterWrite, State.command_held h hc hr, if_neg (mt not_wordRun_iff.mpr (not_not_intro ok)), answer]

theorem exec_registerRead_noRun (hr : (s.heard iface).holds iface .mgmtRead = true) (no : ¬ wordRun address count) :
    exec (.registerRead iface address count) s =
      .next (if carries iface 0xD000 then (s.heard iface).reply iface 0 0xD000 .invalidInput [] else (s.heard iface).reply iface 0 0xD000 .unsupported []) := by
  cases hc : carries iface 0xD000 with
  | false => exact exec_registerRead_uncarried h hc
  | true => simp only [exec_registerRead, execRegisterRead, State.command_held h hc hr, if_pos (not_wordRun_iff.mp no), answer, if_true]

theorem exec_registerWrite_noRun (hr : (s.heard iface).holds iface .mgmtWrite = true) (no : ¬ wordRun address values.length) :
    exec (.registerWrite iface address values) s =
      .next (if carries iface 0xD001 then (s.heard iface).reply iface 0 0xD001 .invalidInput [] else (s.heard iface).reply iface 0 0xD001 .unsupported []) := by
  cases hc : carries iface 0xD001 with
  | false => exact exec_registerWrite_uncarried h hc
  | true => simp only [exec_registerWrite, execRegisterWrite, State.command_held h hc hr, if_pos (not_wordRun_iff.mp no), answer, if_true]

end

/-! ## Sideband commands under a right (R456) -/

/-- The response of a sideband command, laid ready to be read with its status. -/
def State.sidebandReady (s : State) (code : Nat) (out : Bytes) : State := { s with sb := { s.sb with response := out, frag := 0, status := code } }

section
variable {s : State} {cmd : Nat} {r : Right} {run : State → Nat × Bytes × State}

/-- A sideband that is not up does not acknowledge. -/
theorem State.sidebandUnder_nacked (h : s.wardenUp = false ∨ s.nacking = true ∨ s.rb F.WDN_I3C_STAT_addr_valid = false) :
    s.sidebandUnder cmd r run = s.send .nack := by
  rw [State.sidebandUnder, State.sideband, if_pos]
  rcases h with h | h | h <;> simp [h]

variable (hup : s.wardenUp = true) (hn : s.nacking = false) (hv : s.rb F.WDN_I3C_STAT_addr_valid = true)
include hup hn hv

theorem State.sidebandUnder_held (hr : (s.irqEdge irqSideband).holds 5 r = true) :
    s.sidebandUnder cmd r run = (run (s.irqEdge irqSideband)).2.2.sidebandReady (run (s.irqEdge irqSideband)).1 (run (s.irqEdge irqSideband)).2.1 := by
  simp only [State.sidebandUnder, State.sideband, State.sidebandReady, hup, hn, hv, hr, Bool.not_true, Bool.or_false, Bool.false_eq_true, if_false, if_true]

theorem State.sidebandUnder_denied (hr : (s.irqEdge irqSideband).holds 5 r = false) :
    s.sidebandUnder cmd r run = ((s.irqEdge irqSideband).deny 5 cmd r).sidebandReady 3 [] := by
  simp only [State.sidebandUnder, State.sideband, State.sidebandReady, hup, hn, hv, hr, Bool.not_true, Bool.or_false, Bool.false_eq_true, if_false]

end

/-- Settles O40: each command's forms, from the lemmas of the window, of the register commands and of the sideband. -/
theorem registerAccessCommandsTakeEffect : Obligations.RegisterAccessCommandsTakeEffect := by
  unfold Obligations.RegisterAccessCommandsTakeEffect
  intro s iface address count value offset values
  refine ⟨fun ⟨h, ho⟩ => exec_seedbankWindowRead_outside h ho, fun ⟨h, ho⟩ => ⟨fun hr => ?_, fun hr => ?_⟩,
    exec_managementRegisterWrite_aligned s value, exec_managementRegisterWrite_unaligned s value, fun h => ?_, fun h => ?_, fun ⟨hup, hn, hv⟩ => ?_⟩
  · rw [exec_seedbankWindowRead_inside h ho, State.windowRead_held offset hr]
  · rw [exec_seedbankWindowRead_inside h ho, State.windowRead_denied offset hr]
  · exact ⟨exec_registerRead_uncarried h, exec_registerWrite_uncarried h, fun ⟨hr, no⟩ => exec_registerRead_noRun h hr no,
      fun ⟨hr, no⟩ => exec_registerWrite_noRun h hr no, fun ⟨hc, hr, ok⟩ => exec_registerRead_run h hc hr ok,
      fun ⟨hc, hr, ok⟩ => exec_registerWrite_run h hc hr ok⟩
  · rw [exec_regRead, execRegRead, State.sidebandUnder_nacked h]
  · refine ⟨fun hr => ?_, fun ⟨hr, ha⟩ => ?_, fun ⟨hr, ha⟩ => ?_⟩
    · rw [exec_regRead, execRegRead, State.sidebandUnder_denied hup hn hv hr]; rfl
    · rw [exec_regRead, execRegRead, State.sidebandUnder_held hup hn hv hr]; simp only [if_neg (not_not_intro ha)]; rfl
    · rw [exec_regRead, execRegRead, State.sidebandUnder_held hup hn hv hr]; simp only [if_pos ha]; rfl

/-! ## Reserved addresses (R9) -/

theorem State.regWriteWord_reserved {s : State} {iface addr : Nat} (v : Nat) (h : s.hears iface 0 = true) (hz : reservedAddr addr = true) :
    s.regWriteWord iface addr v = s := by
  simp only [State.regWriteWord, h, hz, Bool.not_true, Bool.false_eq_true, if_false, if_true]

theorem State.regRead_reserved {s : State} {iface addr : Nat} (hw : inWindow addr = false) (hl : s.lostWords.contains (.register, true) = false)
    (hr : s.holds iface .mgmtRead = true) (hz : reservedAddr addr = true) : s.regRead iface addr = (0, s) := by
  simp only [State.regRead, hw, hl, hr, hz, Bool.not_true, Bool.false_eq_true, if_false, if_true]

/-- Settles O58: a reserved address reads 0 and takes no write, so a run of one word there leaves the state the command found. -/
theorem reservedAddressesReadZero : Obligations.ReservedAddressesReadZero := by
  unfold Obligations.ReservedAddressesReadZero
  intro s iface addr value ⟨h, hh, hl, ha, ha', hz, hw⟩
  have ok : wordRun addr 1 := ⟨ha, by decide, ha'⟩
  refine ⟨?_, fun ⟨hcr, hcw⟩ => ⟨fun hr => ?_, fun hr => ?_⟩⟩
  · rw [exec_managementRegisterWrite_aligned s value ha, State.regWriteWord_reserved _ h hz]
  · rw [exec_registerRead_run h hcr hr ok]
    simp only [State.readWords, State.regRead_reserved hw hl hr hz]
    rfl
  · rw [exec_registerWrite_run h hcw hr ok]
    simp only [State.writeWords, State.regWriteWord_reserved _ hh hz]

end Sys2Proof.Machine
end

section
/-! PROOFS. Hub, tiles and seedbank (01): a tile's isolation, its return, Tile Service, the helpers; requests that time or room lets go on; the scrubber's steps and received fabric words (05, 08). -/
namespace Sys2Proof.Machine

/-! ## The commands' meanings: hub and tiles -/

theorem exec_helperComplete (helper code : Nat) (data : Bytes) (s : State) : exec (.helperComplete helper code data) s = execHelperComplete helper code data s := rfl
theorem exec_isolate (iface tile : Nat) (s : State) : exec (.isolate iface tile) s = execIsolate iface tile s := rfl
theorem exec_restore (iface tile : Nat) (s : State) : exec (.restore iface tile) s = execRestore iface tile s := rfl
theorem exec_tileWatchdogExpire (tile : Nat) (s : State) : exec (.tileWatchdogExpire tile) s = execTileWatchdogExpire tile s := rfl
theorem exec_stewardLockup (tile : Nat) (s : State) : exec (.stewardLockup tile) s = execStewardLockup tile s := rfl
theorem exec_tileFabricLinkFail (tile : Nat) (s : State) : exec (.tileFabricLinkFail tile) s = execTileFabricLinkFail tile s := rfl
theorem exec_tileInternalError (tile : Nat) (s : State) : exec (.tileInternalError tile) s = execTileInternalError tile s := rfl
theorem exec_tileService (iface ld : Nat) (b : Bytes) (s : State) : exec (.tileService iface ld b) s = execTileService iface ld b s := rfl
theorem exec_catchEscrowDrainDone (tile : Nat) (bad : List Nat) (s : State) : exec (.catchEscrowDrainDone tile bad) s = execCatchEscrowDrainDone tile bad s := rfl
theorem exec_isolationReissue (tile : Nat) (s : State) : exec (.isolationReissue tile) s = execIsolationReissue tile s := rfl
theorem exec_restoreVerifyDone (tile : Nat) (pass : Bool) (s : State) : exec (.restoreVerifyDone tile pass) s = execRestoreVerifyDone tile pass s := rfl
theorem exec_rebuildStripe (tile : Nat) (s : State) : exec (.rebuildStripe tile) s = execRebuildStripe tile s := rfl
theorem exec_homeMoveBack (tile : Nat) (s : State) : exec (.homeMoveBack tile) s = execHomeMoveBack tile s := rfl
theorem exec_heldRequestRelease (tile : Nat) (s : State) : exec (.heldRequestRelease tile) s = execHeldRequestRelease tile s := rfl
theorem exec_writeAdmitResume (tile : Nat) (s : State) : exec (.writeAdmitResume tile) s = execWriteAdmitResume tile s := rfl
theorem exec_keyUnwrapDone (tile key : Nat) (s : State) : exec (.keyUnwrapDone tile key) s = execKeyUnwrapDone tile key s := rfl
theorem exec_readPatienceExpire (req : Nat) (s : State) : exec (.readPatienceExpire req) s = execReadPatienceExpire req s := rfl
theorem exec_levelTimingRelease (req : Nat) (late : Bool) (s : State) : exec (.levelTimingRelease req late) s = execLevelTimingRelease req late s := rfl
theorem exec_scrubLineStripe (tile : Nat) (s : State) : exec (.scrubLineStripe tile) s = execScrubLineStripe tile s := rfl
theorem exec_scrubPositionPersist (tile : Nat) (s : State) : exec (.scrubPositionPersist tile) s = execScrubPositionPersist tile s := rfl
theorem exec_sramClear (iface tile : Nat) (s : State) : exec (.sramClear iface tile) s = execSramClear iface tile s := rfl
theorem exec_fabricWordReceive (src dst : Nat) (use : Transfer) (word : Nat) (s : State) :
    exec (.fabricWordReceive src dst use word) s = execFabricWordReceive src dst use word s := rfl

/-! ## Steps that come on a tile's own clock (R490; log 171) -/

section
variable {s : State} {tile : Nat} {f : State → State}

theorem State.onAwake_awake (h : (s.tiles[tile]?.map Tile.depth).getD 0 = 0) : s.onAwake tile f = f s := if_pos h

theorem State.onAwake_asleep (h : ¬(s.tiles[tile]?.map Tile.depth).getD 0 = 0) : s.onAwake tile f = s.wakeTile tile := if_neg h

end

/-- A command under a right that the interface holds: run, or Unsupported where the interface does not carry it. -/
theorem State.command_answered {s : State} {iface ld op : Nat} {r : Right} {f : State → Answer} {a : Answer} (h : s.hears iface ld = true)
    (hr : (s.heard iface).holds iface r = true) (ha : f (s.heard iface) = a) :
    s.command iface ld op (some r) f =
      if carries iface op then a.state.reply iface ld op a.code a.payload else (s.heard iface).reply iface ld op .unsupported [] := by
  subst ha
  cases hc : carries iface op with
  | false => exact State.command_uncarried h hc
  | true => exact State.command_held h hc hr

/-! ## Isolation and the start of a return (R25, R35) -/

/-- A write of the isolate bit is taken: the tile is in service and no tile is out (R31). -/
def State.takesIsolate (s : State) (n : Nat) : Bool := decide (s.tileState n = 0) && s.tilesOut.isEmpty
/-- A write of the restore bit is taken: the tile is Isolated or Failed, and no brace keeps its rail off (R473). -/
def State.takesRestore (s : State) (n : Nat) : Bool :=
  (decide (s.tileState n = 2) || decide (s.tileState n = 6)) && ((s.power.rail (n + 2)).en || !s.rb F.SEQ_VIN_braced)

theorem State.isolateWrite_eq (s : State) (n : Nat) : s.isolateWrite n = if s.takesIsolate n then (true, s.isolate n 1) else (false, s) := by
  simp only [State.isolateWrite, State.takesIsolate, Bool.and_eq_true, decide_eq_true_eq]

theorem State.restoreWrite_eq (s : State) (n : Nat) : s.restoreWrite n = if s.takesRestore n then (true, s.startReturn n) else (false, s) := by
  simp only [State.restoreWrite, State.takesRestore, Bool.and_eq_true, Bool.or_eq_true, decide_eq_true_eq]

/-- A tile the part does not have: none of these commands finds anything to do. -/
theorem exec_absentTile {s : State} {tile : Nat} (iface : Nat) (h : s.tileCount ≤ tile) :
    exec (.isolate iface tile) s = .next s ∧ exec (.restore iface tile) s = .next s ∧ exec (.tileWatchdogExpire tile) s = .next s ∧
      exec (.stewardLockup tile) s = .next s ∧ exec (.tileFabricLinkFail tile) s = .next s ∧ exec (.tileInternalError tile) s = .next s := by
  simp only [exec_isolate, execIsolate, exec_restore, execRestore, exec_tileWatchdogExpire, execTileWatchdogExpire, exec_stewardLockup, execStewardLockup,
    exec_tileFabricLinkFail, execTileFabricLinkFail, exec_tileInternalError, execTileInternalError, h, true_or, if_true, and_self]

section
variable {s : State} {iface tile : Nat} (ht : tile < s.tileCount)
include ht

theorem exec_isolate_held (h : s.hears iface 0 = true) (hr : s.holds iface .tileService = true) (hm : s.holds iface .mgmtWrite = true) :
    exec (.isolate iface tile) s = .next (if s.takesIsolate tile then s.isolate tile 1 else s) := by
  rw [exec_isolate, execIsolate, if_neg ht.not_ge, State.regWrite_held h hr hm, State.isolateWrite_eq, apply_ite Prod.snd]

theorem exec_restore_held (h : s.hears iface 0 = true) (hr : s.holds iface .tileService = true) (hm : s.holds iface .mgmtWrite = true) :
    exec (.restore iface tile) s = .next (if s.takesRestore tile then s.startReturn tile else s) := by
  rw [exec_restore, execRestore, if_neg ht.not_ge, State.regWrite_held h hr hm, State.restoreWrite_eq, apply_ite Prod.snd]

theorem exec_tileWatchdogExpire_released (h : (s.tile tile).held = false) :
    exec (.tileWatchdogExpire tile) s = .next (((s.irqEdge (irqTile tile 0)).watchdogEvent (tile + 1) 0).tileReset tile 2 6) := by
  rw [exec_tileWatchdogExpire, execTileWatchdogExpire, if_neg (by simp [ht, h])]

theorem exec_stewardLockup_released (h : (s.tile tile).held = false) :
    exec (.stewardLockup tile) s = .next (((s.irqEdge (irqTile tile 1)).watchdogEvent (tile + 1) 1).tileReset tile 3 10) := by
  rw [exec_stewardLockup, execStewardLockup, if_neg (by simp [ht, h])]

theorem exec_tileFabricLinkFail_present : exec (.tileFabricLinkFail tile) s = .next (s.tileFails tile 4) := by
  rw [exec_tileFabricLinkFail, execTileFabricLinkFail, if_neg ht.not_ge]

theorem exec_tileInternalError_present : exec (.tileInternalError tile) s = .next (s.tileFails tile 5) := by
  rw [exec_tileInternalError, execTileInternalError, if_neg ht.not_ge]

end

theorem exec_tileWatchdogExpire_held {s : State} {tile : Nat} (h : (s.tile tile).held = true) : exec (.tileWatchdogExpire tile) s = .next s := by
  rw [exec_tileWatchdogExpire, execTileWatchdogExpire, if_pos (.inr h)]

theorem exec_stewardLockup_held {s : State} {tile : Nat} (h : (s.tile tile).held = true) : exec (.stewardLockup tile) s = .next s := by
  rw [exec_stewardLockup, execStewardLockup, if_pos (.inr h)]

/-! ## Tile Service (R38; log 140) -/

/-- An input of Tile Service for tile n that R38 allows. -/
def tileInput (b : Bytes) (n : Nat) : Prop :=
  b.length = 4 ∧ getLe b 0 1 ≤ 4 ∧ n ≤ 7 ∧ getLe b 3 1 = 0 ∧ (getLe b 0 1 = 3 → getLe b 2 1 ≤ 7) ∧ (getLe b 0 1 = 4 → getLe b 2 1 ≤ 1) ∧
    (getLe b 0 1 ≤ 2 → getLe b 2 1 = 0)

theorem not_tileInput_iff {b : Bytes} {n : Nat} : ¬ tileInput b n ↔
    b.length ≠ 4 ∨ 4 < getLe b 0 1 ∨ 7 < n ∨ getLe b 3 1 ≠ 0 ∨ (getLe b 0 1 = 3 ∧ 7 < getLe b 2 1) ∨ (getLe b 0 1 = 4 ∧ 1 < getLe b 2 1) ∨
      (getLe b 0 1 ≤ 2 ∧ getLe b 2 1 ≠ 0) := by
  rw [tileInput]; omega

/-- The answer to an operation that was taken or refused. -/
def tileAnswer (n : Nat) (p : Bool × State) : Answer := ⟨.success, p.2.tileOutput (if p.1 then 0 else 2) n, p.2⟩

section
variable {s : State} {b : Bytes} {n : Nat} (hn : getLe b 1 1 = n)
include hn

theorem State.tileService_bad (no : ¬ tileInput b n) : s.tileService b = ⟨.success, s.tileOutput 1 (n % 8), s⟩ := by
  subst hn
  exact if_pos (not_tileInput_iff.mp no)

variable (ok : tileInput b n)
include ok

theorem State.tileService_absent (ht : s.tileCount ≤ n) : s.tileService b = ⟨.success, s.tileOutput 3 n, s⟩ := by
  subst hn
  exact (if_neg (mt not_tileInput_iff.mpr (not_not_intro ok))).trans (if_pos ht)

variable (ht : n < s.tileCount)
include ht

/-- Each operation of an allowed input on a tile of the part. -/
theorem State.tileService_present :
    (getLe b 0 1 = 0 → s.tileService b = tileAnswer n (true, s)) ∧ (getLe b 0 1 = 1 → s.tileService b = tileAnswer n (s.isolateWrite n)) ∧
    (getLe b 0 1 = 2 → s.tileService b = tileAnswer n (s.restoreWrite n)) ∧
    (getLe b 0 1 = 3 → s.tileService b = tileAnswer n (s.nurseWrite n (getLe b 2 1))) ∧
    (getLe b 0 1 = 4 → s.tileService b = tileAnswer n (true, s.wf (F.WDN_TILE_CTRL_auto_restore n) (getLe b 2 1))) := by
  subst hn
  have good := mt not_tileInput_iff.mpr (not_not_intro ok)
  refine ⟨fun h => ?_, fun h => ?_, fun h => ?_, fun h => ?_, fun h => ?_⟩ <;>
    rw [State.tileService, if_neg good, if_neg ht.not_ge, h] <;> rfl

end

/-- TILE_SERVICE under its right sends the answer, or Unsupported where the interface does not carry it. -/
theorem exec_tileService_answered {s : State} {iface ld : Nat} {b : Bytes} {a : Answer} (h : s.hears iface ld = true)
    (hr : (s.heard iface).holds iface .tileService = true) (ha : (s.heard iface).tileService b = a) :
    exec (.tileService iface ld b) s = .next (if carries iface 0xC050 then a.state.reply iface ld 0xC050 a.code a.payload
      else (s.heard iface).reply iface ld 0xC050 .unsupported []) := by
  rw [exec_tileService, execTileService, State.command_answered h hr ha]

/-- Settles O33: each command from its own lemma, Tile Service from the answers of its five operations. -/
theorem isolationCommandsTakeEffect : Obligations.IsolationCommandsTakeEffect := by
  unfold Obligations.IsolationCommandsTakeEffect
  intro s iface ld tile helper code data b
  refine ⟨fun hi => ?_, fun i hi => ?_, exec_absentTile iface, ?_⟩
  · rw [exec_helperComplete, execHelperComplete, hi]
  · rw [exec_helperComplete, execHelperComplete, hi]
  intro away back
  refine ⟨fun ht => ⟨?_, ?_, ?_, ?_⟩, ?_⟩
  · rintro ⟨h, hr, hm⟩
    exact ⟨exec_isolate_held ht h hr hm, exec_restore_held ht h hr hm⟩
  · exact fun h => ⟨exec_tileWatchdogExpire_released ht h, exec_stewardLockup_released ht h⟩
  · exact fun h => ⟨exec_tileWatchdogExpire_held h, exec_stewardLockup_held h⟩
  · exact ⟨exec_tileFabricLinkFail_present ht, exec_tileInternalError_present ht⟩
  rintro hh h say op v good ends ⟨hr, hn⟩
  have answered {a : Answer} (ha : h.tileService b = a) : exec (.tileService iface ld b) s = say a := exec_tileService_answered hh hr ha
  refine ⟨fun no => answered (h.tileService_bad hn no), fun ⟨ok, ht⟩ => answered (h.tileService_absent hn ok ht), fun ⟨ok, ht⟩ => ?_⟩
  obtain ⟨shows, isolate, restore, nurse, auto⟩ := h.tileService_present hn ok ht
  refine ⟨fun ho => answered (shows ho), fun ho => ?_, fun ho => ?_, fun ho => answered (nurse ho), fun ho => answered (auto ho)⟩
  · split_ifs with hx
    · exact answered ((isolate ho).trans (congrArg (tileAnswer tile) ((h.isolateWrite_eq tile).trans (if_pos hx))))
    · exact answered ((isolate ho).trans (congrArg (tileAnswer tile) ((h.isolateWrite_eq tile).trans (if_neg hx))))
  · split_ifs with hx
    · exact answered ((restore ho).trans (congrArg (tileAnswer tile) ((h.restoreWrite_eq tile).trans (if_pos hx))))
    · exact answered ((restore ho).trans (congrArg (tileAnswer tile) ((h.restoreWrite_eq tile).trans (if_neg hx))))

/-! ## The escrow drain and the reissue (R25, R27) -/

section
variable {s : State} {tile : Nat}

theorem exec_catchEscrowDrainDone_idle (bad : List Nat) (h : s.tileState tile ≠ 1 ∨ s.rb (F.WDN_TILE_STAT_catch_drained tile) = true) :
    exec (.catchEscrowDrainDone tile bad) s = .next s := by
  rw [exec_catchEscrowDrainDone, execCatchEscrowDrainDone, if_pos h]

theorem exec_isolationReissue_idle (h : s.tileState tile ≠ 1 ∨ s.rb (F.WDN_TILE_STAT_catch_drained tile) = false) :
    exec (.isolationReissue tile) s = .next s := by
  rw [exec_isolationReissue, execIsolationReissue, if_pos (by simpa using h)]

theorem exec_restoreVerifyDone_idle (pass : Bool) (h : s.tileState tile ≠ 3 ∨ s.power.railOn (tile + 2) = false) :
    exec (.restoreVerifyDone tile pass) s = .next s := by
  rw [exec_restoreVerifyDone, execRestoreVerifyDone, if_pos (by simpa using h)]

/-! ## The return (R33, R34) -/

theorem exec_restoreVerifyDone_failed (h : s.tileState tile = 3) (hr : s.power.railOn (tile + 2) = true) :
    exec (.restoreVerifyDone tile false) s = .next (s.failReturn tile) := by
  rw [exec_restoreVerifyDone, execRestoreVerifyDone, if_neg (by simp [h, hr]), if_pos Bool.not_false]

theorem exec_rebuildStripe_asleep (h : ¬(s.tiles[tile]?.map Tile.depth).getD 0 = 0) : exec (.rebuildStripe tile) s = .next (s.wakeTile tile) := by
  rw [exec_rebuildStripe, execRebuildStripe, State.onAwake_asleep h]

/-- The tile rebuilds: it is Rebuilding or In Service, and its steward runs (R18, R33, R37). -/
def State.rebuilds (s : State) (n : Nat) : Prop := (s.tileState n = 4 ∨ s.tileState n = 0) ∧ s.coreAway (n + 1) = false

theorem State.not_rebuilds_iff : ¬ s.rebuilds tile ↔ (!(s.tileState tile == 4 || s.tileState tile == 0) || s.coreAway (tile + 1)) = true := by
  simp only [State.rebuilds, Bool.or_eq_true, Bool.not_eq_true', Bool.or_eq_false_iff, beq_eq_false_iff_ne]
  cases s.coreAway (tile + 1) <;> simp

/-- Home moves back: the tile is Rebuilding with nothing left on its list, and its maps are resident (R33 step 7). -/
def State.mayMoveBack (s : State) (n : Nat) : Prop :=
  s.tileState n = 4 ∧ s.rebuildOf n = [] ∧ s.rb (F.TRN_MAP_STAT_stem_resident n) = true ∧ s.rb (F.TRN_MAP_STAT_filter_ready n) = true

theorem State.not_mayMoveBack_iff : ¬ s.mayMoveBack tile ↔
    s.tileState tile ≠ 4 ∨ (!(s.rebuildOf tile).isEmpty) = true ∨ (!s.rb (F.TRN_MAP_STAT_stem_resident tile)) = true ∨
      (!s.rb (F.TRN_MAP_STAT_filter_ready tile)) = true := by
  simp only [State.mayMoveBack, not_and_or, Bool.not_eq_true', List.isEmpty_eq_false_iff, Bool.not_eq_true, ne_eq]

theorem exec_homeMoveBack_idle (no : ¬ s.mayMoveBack tile) : exec (.homeMoveBack tile) s = .next s := by
  rw [exec_homeMoveBack, execHomeMoveBack, if_pos (State.not_mayMoveBack_iff.mp no)]

end

/-- Settles O34: each step's guard by its lemma; where it stands, the branch that is taken is the statement's own. -/
theorem tileReturnStepsTakeEffect : Obligations.TileReturnStepsTakeEffect := by
  unfold Obligations.TileReturnStepsTakeEffect
  intro s tile bad
  refine ⟨fun ⟨h, hd⟩ => ⟨fun hu => ?_, fun u hu => ?_⟩, exec_catchEscrowDrainDone_idle bad, fun ⟨h, hd⟩ => ?_, exec_isolationReissue_idle,
    fun ⟨h, hr⟩ => ⟨exec_restoreVerifyDone_failed h hr, ?_⟩, exec_restoreVerifyDone_idle, exec_rebuildStripe_asleep, fun h0 => ?_, ?_⟩
  · rw [exec_catchEscrowDrainDone, execCatchEscrowDrainDone, if_neg (by simp [h, hd]), hu]
  · rw [exec_catchEscrowDrainDone, execCatchEscrowDrainDone, if_neg (by simp [h, hd]), hu]
  · rw [exec_isolationReissue, execIsolationReissue, if_neg (by simp [h, hd])]
  · rw [exec_restoreVerifyDone, execRestoreVerifyDone, if_neg (by simp [h, hr]), if_neg (by decide)]
  · rw [exec_rebuildStripe, execRebuildStripe, State.onAwake_awake h0]
    refine ⟨fun no => ?_, fun ⟨may, hl⟩ => ?_, fun x l ⟨may, hl⟩ => ?_⟩
    · rw [if_pos (State.not_rebuilds_iff.mp no)]
    · rw [if_neg (mt State.not_rebuilds_iff.mpr (not_not_intro may)), hl]
    · rw [if_neg (mt State.not_rebuilds_iff.mpr (not_not_intro may)), hl]
  · refine ⟨exec_homeMoveBack_idle, fun ⟨may, hl⟩ => ?_, fun ⟨may, hl⟩ => ?_⟩ <;>
      rw [exec_homeMoveBack, execHomeMoveBack, if_neg (mt State.not_mayMoveBack_iff.mpr (not_not_intro may))]
    · rw [if_pos (by simpa using hl)]
    · rw [if_neg (by simp [hl])]

/-! ## Requests that time or room lets go on (R172, R176, R184, R185, R194, R322) -/

theorem Op.waitsTarget_iff {o : Op} : o.waitsTarget = true ↔ o.phase ≠ .around ∧ o.phase ≠ .recover := by
  unfold Op.waitsTarget
  cases o.phase <;> simp

section
variable {s : State} {req : Nat}

section
variable {o : Op} (h : s.readOfReq req = some o)
include h

/-- A read that waits for its target is read around where that is allowed, else goes on waiting (R172). -/
theorem exec_readPatienceExpire_waiting (hw : o.phase ≠ .around ∧ o.phase ≠ .recover) :
    exec (.readPatienceExpire req) s = .next (if s.aroundOk o.stripe o.member then (s.countTile o.tile 113).aroundNow o else s) := by
  simp only [exec_readPatienceExpire, execReadPatienceExpire, h, Op.waitsTarget_iff.mpr hw, if_true]

/-- A read-around's missing members are an error of its path (R176). -/
theorem exec_readPatienceExpire_around (hw : o.phase = .around ∨ o.phase = .recover) :
    exec (.readPatienceExpire req) s = .next (((s.opRetry o).1.opEnded (s.opRetry o).2).run) := by
  have no : ¬ o.waitsTarget = true := fun hx => hw.elim (Op.waitsTarget_iff.mp hx).1 (Op.waitsTarget_iff.mp hx).2
  simp only [exec_readPatienceExpire, execReadPatienceExpire, h, if_neg no]

end

variable {q : Req} (h : s.req req = some q)
include h

theorem exec_levelTimingRelease_ready (late : Bool) {x : Resp} (hx : q.stage = .paced x) :
    exec (.levelTimingRelease req late) s = .next ((if q.late || late then s.incSat (F.HPT_LT_late q.port) else s).deliver q x) := by
  simp only [exec_levelTimingRelease, execLevelTimingRelease, h, hx]

theorem exec_levelTimingRelease_notReady (late : Bool) (hx : ∀ x, q.stage ≠ .paced x) (hl : s.levelTimed q.comp = true) :
    exec (.levelTimingRelease req late) s = .next (s.modReq req (fun r => { r with late := true })) := by
  rw [exec_levelTimingRelease, execLevelTimingRelease, h]
  cases hs : q.stage with
  | paced x => exact absurd hs (hx x)
  | held => simp only [hs, hl, if_true]
  | active => simp only [hs, hl, if_true]

end

theorem exec_heldRequestRelease_admitted {s : State} {tile : Nat} {q : Req} (h : s.firstHeld tile = some q) (hm : s.mayGo q = true) :
    exec (.heldRequestRelease tile) s = .next ((s.release q).run) := by
  simp only [exec_heldRequestRelease, execHeldRequestRelease, h, hm, if_true]

/-- Settles O9: the branch each event's condition selects. -/
theorem requestTimingEventsTakeEffect : Obligations.RequestTimingEventsTakeEffect := by
  unfold Obligations.RequestTimingEventsTakeEffect
  intro s tile key req late
  refine ⟨fun q ⟨h, hm⟩ => exec_heldRequestRelease_admitted h hm, exec_writeAdmitResume tile s, fun h => ?_, fun o h => ⟨fun ⟨ha, hr, ok⟩ => ?_, fun ⟨ha, hr, ok⟩ => ?_,
    exec_readPatienceExpire_around h⟩, fun q x ⟨h, hx⟩ => exec_levelTimingRelease_ready h late hx, fun q ⟨h, hx, hl⟩ => exec_levelTimingRelease_notReady h late hx hl⟩
  · rw [exec_keyUnwrapDone, execKeyUnwrapDone, if_neg (by simpa using h)]
  · rw [exec_readPatienceExpire_waiting h ⟨ha, hr⟩, if_pos ok]
    rfl
  · rw [exec_readPatienceExpire_waiting h ⟨ha, hr⟩, ok]
    rfl

/-! ## The scrubber's steps (R285, R286) -/

section
variable {s : State} {tile : Nat}

/-- The scrubber takes a step: it is enabled, its tile in service and neither flushing nor throttled, its steward runs, the device lives (R18, R285, R286). -/
def State.scrubs (s : State) (n : Nat) : Prop :=
  s.rb (F.MSC_SCR_CFG_enable n) = true ∧ s.tileInService n = true ∧ s.power.flushing = false ∧ s.tileThrottled n = false ∧ s.coreAway (n + 1) = false ∧
    (s.lifecycle == 3) = false

theorem State.not_scrubs_iff : ¬ s.scrubs tile ↔
    (!s.rb (F.MSC_SCR_CFG_enable tile) || !s.tileInService tile || s.power.flushing || s.tileThrottled tile || s.coreAway (tile + 1) || s.lifecycle == 3) = true := by
  simp only [State.scrubs, not_and_or, Bool.or_eq_true, Bool.not_eq_true', Bool.not_eq_true, Bool.not_eq_false, or_assoc]

theorem exec_scrubLineStripe_asleep (h : ¬(s.tiles[tile]?.map Tile.depth).getD 0 = 0) : exec (.scrubLineStripe tile) s = .next (s.wakeTile tile) := by
  rw [exec_scrubLineStripe, execScrubLineStripe, State.onAwake_asleep h]

theorem exec_scrubLineStripe_idle (h : (s.tiles[tile]?.map Tile.depth).getD 0 = 0) (no : ¬ s.scrubs tile) : exec (.scrubLineStripe tile) s = .next s := by
  rw [exec_scrubLineStripe, execScrubLineStripe, State.onAwake_awake h, if_pos (State.not_scrubs_iff.mp no)]

/-- The line-stripe at the scrub position, where there is one, is scrubbed. -/
def State.scrubNext (s : State) (n : Nat) : State := match s.scrubSpot n (s.tile n).scrubAt with | some x => s.scrubStripe n x | none => s

/-- The progress and the late flag follow a scrub step, with the event where the scrubber falls behind. -/
def State.scrubShow (s : State) (n permille : Nat) : State :=
  let u := (s.wf (F.MSC_SCR_STAT_permille n) permille).wf (F.MSC_SCR_STAT_late n) (b2n (s.scrubLate n))
  if s.scrubLate n && !s.rb (F.MSC_SCR_STAT_late n) then u.emit (0x20 + 8 * n + 2) 0x0303 (le 1 n ++ le 2 permille) else u

/-- A step moves the position on, or ends the pass. -/
theorem exec_scrubLineStripe_step (h : (s.tiles[tile]?.map Tile.depth).getD 0 = 0) (may : s.scrubs tile) : exec (.scrubLineStripe tile) s =
    .next (if s.scrubTotal tile ≤ (s.tile tile).scrubAt + 1
      then (((s.scrubNext tile).modTile tile (fun x => { x with scrubAt := 0 })).incSat (F.MSC_SCR_STAT_passes tile)).scrubShow tile 0
      else ((s.scrubNext tile).modTile tile (fun x => { x with scrubAt := (s.tile tile).scrubAt + 1 })).scrubShow tile
        (1000 * ((s.tile tile).scrubAt + 1) / max 1 (s.scrubTotal tile))) := by
  rw [exec_scrubLineStripe, execScrubLineStripe, State.onAwake_awake h, if_neg (mt State.not_scrubs_iff.mpr (not_not_intro may))]
  by_cases hl : s.scrubTotal tile ≤ (s.tile tile).scrubAt + 1
  · simp only [hl, decide_true, if_true]
    rfl
  · simp only [hl, decide_false, Bool.false_eq_true, if_false]
    rfl

/-! ## Internal words (R13, R275, R283, R295) -/

theorem exec_sramClear_absent (iface : Nat) (h : s.tileCount ≤ tile) : exec (.sramClear iface tile) s = .next s := by
  rw [exec_sramClear, execSramClear, if_pos h]

theorem exec_sramClear_held {iface : Nat} (ht : tile < s.tileCount) (h : s.hears iface 0 = true) (hm : s.holds iface .mgmtWrite = true) :
    exec (.sramClear iface tile) s =
      .next (((s.wf (F.MSC_SRAM_ERR_corrected tile) 0).wf (F.MSC_SRAM_ERR_uncorrectable tile) 0).wf (F.MSC_SRAM_ERR_tag_parity tile) 0) := by
  rw [exec_sramClear, execSramClear, if_neg ht.not_ge, State.regWrite_held h hm hm]

end

/-- Settles O23: the scrubber's guard and step, the clear under its right, and the three results of a fabric word's check. -/
theorem scrubAndFabricCommandsTakeEffect : Obligations.ScrubAndFabricCommandsTakeEffect := by
  unfold Obligations.ScrubAndFabricCommandsTakeEffect
  intro s tile iface src dst word use
  refine ⟨exec_scrubLineStripe_asleep, fun ⟨h, no⟩ => exec_scrubLineStripe_idle h no, fun ⟨h, may⟩ => ⟨fun hn => ?_, fun hn => ?_⟩, exec_scrubPositionPersist tile s,
    exec_sramClear_absent iface, fun ⟨ht, h, hm⟩ => exec_sramClear_held ht h hm, fun d hd => ?_, fun d hd => ?_, fun hd => ?_⟩
  · exact (exec_scrubLineStripe_step h may).trans (congrArg _ (if_neg hn.not_ge))
  · exact (exec_scrubLineStripe_step h may).trans (congrArg _ (if_pos hn))
  · rw [exec_fabricWordReceive, execFabricWordReceive, hd]
  · rw [exec_fabricWordReceive, execFabricWordReceive, hd]
  · rw [exec_fabricWordReceive, execFabricWordReceive, hd]
    rfl

end Sys2Proof.Machine
end

section
/-! PROOFS. The media package (02): blocks received, commands queued or refused, the control commands, what happens inside a package. -/
namespace Sys2Proof.Machine

/-! ## The commands' meanings: the media package -/

theorem exec_read (chan : Nat) (block : Bytes) (s : State) : exec (.read chan block) s = execRead chan block s := rfl
theorem exec_progFast (chan : Nat) (block : Bytes) (data : Line) (s : State) : exec (.progFast chan block data) s = execProgFast chan block data s := rfl
theorem exec_sheetLoad (chan : Nat) (block : Bytes) (data : Line) (s : State) : exec (.sheetLoad chan block data) s = execSheetLoad chan block data s := rfl
theorem exec_progDense (chan : Nat) (block : Bytes) (s : State) : exec (.progDense chan block) s = execProgDense chan block s := rfl
theorem exec_refLoad (chan : Nat) (block : Bytes) (s : State) : exec (.refLoad chan block) s = execRefLoad chan block s := rfl
theorem exec_refDefault (chan : Nat) (block : Bytes) (s : State) : exec (.refDefault chan block) s = execRefDefault chan block s := rfl
theorem exec_status (chan : Nat) (block : Bytes) (s : State) : exec (.status chan block) s = execStatus chan block s := rfl
theorem exec_identify (chan : Nat) (block : Bytes) (s : State) : exec (.identify chan block) s = execIdentify chan block s := rfl
theorem exec_echo (chan : Nat) (block : Bytes) (s : State) : exec (.echo chan block) s = execEcho chan block s := rfl
theorem exec_suspend (chan : Nat) (block : Bytes) (s : State) : exec (.suspend chan block) s = execSuspend chan block s := rfl
theorem exec_resume (chan : Nat) (block : Bytes) (s : State) : exec (.resume chan block) s = execResume chan block s := rfl
theorem exec_abort (chan : Nat) (block : Bytes) (s : State) : exec (.abort chan block) s = execAbort chan block s := rfl
theorem exec_denseSuspendReached (chan die : Nat) (s : State) : exec (.denseSuspendReached chan die) s = execDenseSuspendReached chan die s := rfl
theorem exec_denseAutoResume (chan die : Nat) (s : State) : exec (.denseAutoResume chan die) s = execDenseAutoResume chan die s := rfl
theorem exec_arrayReadDone (chan die : Nat) (s : State) : exec (.arrayReadDone chan die) s = execArrayReadDone chan die s := rfl
theorem exec_fastProgramDone (chan die steps unverified : Nat) (s : State) :
    exec (.fastProgramDone chan die steps unverified) s = .next (s.programEnd chan die 0x10 steps unverified) := rfl
theorem exec_denseProgramDone (chan die steps unverified : Nat) (s : State) :
    exec (.denseProgramDone chan die steps unverified) s = .next (s.programEnd chan die 0x21 steps unverified) := rfl
theorem exec_programAbortDone (chan die : Nat) (s : State) : exec (.programAbortDone chan die) s = execProgramAbortDone chan die s := rfl
theorem exec_badBlockReceive (chan discarded : Nat) (s : State) : exec (.badBlockReceive chan discarded) s = .next (s.errNotice chan discarded) := rfl
theorem exec_vmedLowDetect (chan : Nat) (s : State) : exec (.vmedLowDetect chan) s = execVmedLowDetect chan s := rfl
theorem exec_packageTs0Receive (chan : Nat) (s : State) : exec (.packageTs0Receive chan) s = .next (s.setPkg chan (s.pkg chan).linkReset) := rfl
theorem exec_unannouncedIdleTimeout (chan : Nat) (s : State) : exec (.unannouncedIdleTimeout chan) s = .next (s.setPkg chan (s.pkg chan).linkReset) := rfl

/-! ## A block is received (R64, R66, R70) -/

/-- The package has noted a good block's tag and die as the last ones (R70). -/
def State.pkgNoted (s : State) (c : Nat) (cmd : PkgCmd) : State := s.setPkg c { s.pkg c with lastTag := cmd.tag, lastDie := cmd.die }

/-- The answer to an opcode the package does not know; a tag in use keeps its record (R64, R66). -/
def State.pkgUnknown (s : State) (c : Nat) (cmd : PkgCmd) : State :=
  if (s.pkg c).tagUsed cmd.tag then s.pkgSend c 0x82 cmd.die cmd.tag stBadOpcode 0 [] [] else s.pkgAnswer c cmd stBadOpcode [] []

section
variable (s : State) (c op n : Nat) {block : Bytes} {d : Option Line} (go : PkgCmd → State → State)

theorem State.pkgReceive_bad (h : blockGood block = false) : s.pkgReceive c block op n d go = s.errNotice c (1 + n) := by
  rw [State.pkgReceive, h]
  rfl

theorem State.pkgReceive_good (h : blockGood block = true) : s.pkgReceive c block op n d go =
    if pkgOpcodes.contains (readBlock block d).op = false then (s.pkgNoted c (readBlock block d)).pkgUnknown c (readBlock block d)
    else if (readBlock block d).op = op then go (readBlock block d) (s.pkgNoted c (readBlock block d)) else s.pkgNoted c (readBlock block d) := by
  simp only [State.pkgReceive, h, Bool.not_true, Bool.false_eq_true, if_false, Bool.not_eq_true']
  rfl

variable {op}

theorem State.pkgReceive_own (h : blockGood block = true) (ho : (readBlock block d).op = op) (hk : pkgOpcodes.contains op = true) :
    s.pkgReceive c block op n d go = go (readBlock block d) (s.pkgNoted c (readBlock block d)) := by
  rw [State.pkgReceive_good s c op n go h, if_neg (by rw [ho, hk]; decide), if_pos ho]

theorem State.pkgReceive_other (h : blockGood block = true) (ho : (readBlock block d).op ≠ op) (hk : pkgOpcodes.contains (readBlock block d).op = true) :
    s.pkgReceive c block op n d go = s.pkgNoted c (readBlock block d) := by
  rw [State.pkgReceive_good s c op n go h, if_neg (by rw [hk]; decide), if_neg ho]

theorem State.pkgReceive_unknown (h : blockGood block = true) (hk : pkgOpcodes.contains (readBlock block d).op = false) :
    s.pkgReceive c block op n d go = (s.pkgNoted c (readBlock block d)).pkgUnknown c (readBlock block d) := by
  rw [State.pkgReceive_good s c op n go h, if_pos hk]

end

/-! ## Queued commands (R50, R57, R66) -/

section
variable {s : State} {c : Nat} {cmd : PkgCmd}

theorem State.pkgQueue_taken (h : (s.pkg c).refusal cmd = none) : s.pkgQueue c cmd =
    (s.setPkg c (((s.pkg c).setDie cmd.die { (s.pkg c).die cmd.die with queue := ((s.pkg c).die cmd.die).queue ++ [cmd] }).setTag cmd.tag .queued)).pkgGo c cmd.die := by
  rw [State.pkgQueue, h]

theorem State.pkgQueue_refused {st : Nat} (h : (s.pkg c).refusal cmd = some st) : s.pkgQueue c cmd =
    if (s.pkg c).tagUsed cmd.tag then s.pkgSend c (respType cmd.op) cmd.die cmd.tag st 0 [] [] else s.pkgAnswer c cmd st [] [] := by
  rw [State.pkgQueue, h]

end

/-- Settles O15: the cases of a received block, its own command's by what the queue does with it; the six commands differ in opcode and data blocks alone. -/
theorem arrayCommandsAreQueued : Obligations.ArrayCommandsAreQueued := by
  unfold Obligations.ArrayCommandsAreQueued
  intro s chan block data take queued refused accept other
  have taken {op n : Nat} {d : Option Line} {i : Instr} (good : blockGood block = true) (known : pkgOpcodes.contains op = true)
      (hi : exec i s = .next (s.pkgReceive chan block op n d (fun cmd s => s.pkgQueue chan cmd))) : accept op d i := by
    intro ho
    rw [hi, State.pkgReceive_own s chan n _ good ho known]
    exact ⟨fun hr => congrArg _ (State.pkgQueue_taken hr), fun st hr => congrArg _ (State.pkgQueue_refused hr)⟩
  have passed {op n : Nat} {d : Option Line} {i : Instr} (good : blockGood block = true)
      (hi : exec i s = .next (s.pkgReceive chan block op n d (fun cmd s => s.pkgQueue chan cmd))) : other op d i := by
    refine ⟨fun ho hk => ?_, fun hk => ?_⟩
    · rw [hi, State.pkgReceive_other s chan n _ good ho hk]
      rfl
    · rw [hi, State.pkgReceive_unknown s chan n _ good hk]
      rfl
  have hread := exec_read chan block s
  have hfast := exec_progFast chan block data s
  have hload := exec_sheetLoad chan block data s
  have hdense := exec_progDense chan block s
  have hrefs := exec_refLoad chan block s
  have hdefault := exec_refDefault chan block s
  refine ⟨fun good => ⟨taken good (by decide) hread, taken good (by decide) hfast, taken good (by decide) hload, taken good (by decide) hdense,
    taken good (by decide) hrefs, taken good (by decide) hdefault, passed good hread, passed good hfast, passed good hload, passed good hdense,
    passed good hrefs, passed good hdefault⟩, fun bad => ?_⟩
  have noticed {op n : Nat} {d : Option Line} {i : Instr}
      (hi : exec i s = .next (s.pkgReceive chan block op n d (fun cmd s => s.pkgQueue chan cmd))) : exec i s = .next (s.errNotice chan (1 + n)) :=
    hi.trans (congrArg _ (State.pkgReceive_bad s chan op n _ bad))
  exact ⟨noticed hread, noticed hdense, noticed hrefs, noticed hdefault, noticed hfast, noticed hload⟩

/-! ## Control commands (R53, R56, R57, R66) -/

theorem DieRun.isHeld_iff {r : DieRun} : r.isHeld = true ↔ ∃ b, r.susp = .held b := by
  unfold DieRun.isHeld
  cases r.susp <;> simp

/-- A block for a command that bypasses the queue: discarded, acted on at once, refused for its tag, noted alone, or answered as unknown. -/
theorem State.pkgReceive_control (s : State) (c : Nat) {op : Nat} (block : Bytes) (go : PkgCmd → State → State) (known : pkgOpcodes.contains op = true) :
    let cmd := readBlock block none
    let t := s.pkgNoted c cmd
    s.pkgReceive c block op 0 none (fun cmd s => s.pkgBypass c cmd (go cmd)) =
      if blockGood block = false then s.errNotice c 1
      else if cmd.op = op then (if (t.pkg c).tagUsed cmd.tag then t.pkgSend c (respType cmd.op) cmd.die cmd.tag stRefusedBusy 0 [] [] else go cmd t)
      else if pkgOpcodes.contains cmd.op then t else t.pkgUnknown c cmd := by
  intro cmd t
  cases good : blockGood block with
  | false => rw [State.pkgReceive_bad s c op 0 _ good, if_pos rfl]
  | true =>
    rw [if_neg (by decide)]
    by_cases ho : cmd.op = op
    · rw [if_pos ho, State.pkgReceive_own s c 0 _ good ho known]
      rfl
    · rw [if_neg ho]
      cases hk : pkgOpcodes.contains cmd.op with
      | false => rw [if_neg (by decide), State.pkgReceive_unknown s c 0 _ good hk]
      | true => rw [if_pos rfl, State.pkgReceive_other s c 0 _ good ho hk]

/-- Settles O16: every control command is received alike; what it does then follows the run of its die. -/
theorem controlCommandsBypassTheQueue : Obligations.ControlCommandsBypassTheQueue := by
  unfold Obligations.ControlCommandsBypassTheQueue
  intro s chan block cmd t run kept noEffect acts
  have control {op : Nat} {i : Instr} {r : State} {go : PkgCmd → State → State} (known : pkgOpcodes.contains op = true)
      (hi : exec i s = .next (s.pkgReceive chan block op 0 none (fun cmd s => s.pkgBypass chan cmd (go cmd)))) (hr : go cmd t = r) : acts op i r := by
    subst hr
    exact hi.trans (congrArg _ (s.pkgReceive_control chan block go known))
  have hrun : ((t.pkg chan).die cmd.die).run = run := rfl
  refine ⟨control (by decide) (exec_status chan block s) rfl, control (by decide) (exec_identify chan block s) rfl,
    control (by decide) (exec_echo chan block s) rfl, ?_, fun r ⟨hr, ho, hs⟩ => control (by decide) (exec_suspend chan block s) ?_,
    fun r ⟨hr, ho, hs⟩ => control (by decide) (exec_suspend chan block s) ?_, fun h => control (by decide) (exec_suspend chan block s) ?_, ?_,
    fun h => control (by decide) (exec_resume chan block s) ?_, fun r hr => control (by decide) (exec_abort chan block s) ?_,
    fun hr => control (by decide) (exec_abort chan block s) ?_⟩
  · rintro r ⟨hr, ho, hh⟩ u
    refine control (by decide) (exec_suspend chan block s) ?_
    simp only [hrun, hr, ho, ne_eq, not_true_eq_false, if_false]
    cases hs : r.susp with
    | none => rfl
    | asked b => rfl
    | held b => exact absurd (DieRun.isHeld_iff.mpr ⟨b, hs⟩) (by simp [hh])
  · simp only [hrun, hr, ho, hs, ne_eq, not_true_eq_false, if_false]
    rfl
  · simp only [hrun, hr, ho, hs, ne_eq, not_true_eq_false, if_false]
  · simp only [hrun]
    cases hr : run with
    | none => rfl
    | some r => exact if_pos (h r hr)
  · rintro r ⟨hr, hh⟩ u
    refine control (by decide) (exec_resume chan block s) ?_
    simp only [hrun, hr, hh, if_true]
    rfl
  · simp only [hrun]
    cases hr : run with
    | none => rfl
    | some r => simp only [h r hr]; rfl
  · simp only [hrun, hr]
    rfl
  · simp only [hrun, hr]
    rfl

/-! ## What happens inside a package (R46, R52 to R56, R62, R75) -/

section
variable {s : State} {chan die : Nat}

theorem exec_denseSuspendReached_asked {r : DieRun} {b : Bool} (hr : ((s.pkg chan).die die).run = some r) (hs : r.susp = .asked b) :
    exec (.denseSuspendReached chan die) s = .next ((each r.suspTags (s.setRun chan die (some { r with susp := .held b, suspTags := [], reads := 0 }))
      (fun s n => s.pkgDone chan { r.cmd with op := 0x22, tag := n } stOk 0 [])).pkgGo chan die) := by
  simp only [exec_denseSuspendReached, execDenseSuspendReached, hr, hs]

theorem exec_denseSuspendReached_idle (h : ∀ r, ((s.pkg chan).die die).run = some r → r.susp = .none ∨ r.isHeld = true) :
    exec (.denseSuspendReached chan die) s = .next s := by
  rw [exec_denseSuspendReached, execDenseSuspendReached]
  cases hr : ((s.pkg chan).die die).run with
  | none => rfl
  | some r =>
    rcases h r hr with hs | hs
    · simp only [hs]
    · obtain ⟨b, hs⟩ := DieRun.isHeld_iff.mp hs
      simp only [hs]

/-- A suspension that a READ began has no read left to run (R54). -/
def PkgDie.mayResume (x : PkgDie) (r : DieRun) : Prop := r.susp = .held true ∧ x.reading = none ∧ x.nextRead = none

theorem PkgDie.mayResume_iff {x : PkgDie} {r : DieRun} : x.mayResume r ↔ r.susp = .held true ∧ x.reading.isNone = true ∧ x.nextRead.isNone = true := by
  rw [PkgDie.mayResume, Option.isNone_iff_eq_none, Option.isNone_iff_eq_none]

theorem exec_denseAutoResume_ended {r : DieRun} (hr : ((s.pkg chan).die die).run = some r) (h : ((s.pkg chan).die die).mayResume r) :
    exec (.denseAutoResume chan die) s = .next ((s.resumeNow chan die r).pkgGo chan die) := by
  simp only [exec_denseAutoResume, execDenseAutoResume, hr]
  rw [if_pos (PkgDie.mayResume_iff.mp h)]

theorem exec_denseAutoResume_idle (h : ∀ r, ((s.pkg chan).die die).run = some r → ¬ ((s.pkg chan).die die).mayResume r) :
    exec (.denseAutoResume chan die) s = .next s := by
  rw [exec_denseAutoResume, execDenseAutoResume]
  cases hr : ((s.pkg chan).die die).run with
  | none => simp only [hr]
  | some r =>
    simp only [hr]
    rw [if_neg (mt PkgDie.mayResume_iff.mpr (h r hr))]

/-- The program can end so: it is of the event's mode, neither suspended nor under an ABORT, and the steps and cells are in its bounds (R41, R51, R52). -/
def DieRun.mayEnd (r : DieRun) (op steps unverified : Nat) : Prop := r.cmd.op = op ∧ r.isHeld = false ∧ r.abortTags = [] ∧ r.cmd.mayEnd steps unverified = true

theorem DieRun.not_mayEnd_iff {r : DieRun} {op steps unverified : Nat} : ¬ r.mayEnd op steps unverified ↔
    r.cmd.op ≠ op ∨ r.isHeld = true ∨ (!r.abortTags.isEmpty) = true ∨ (!r.cmd.mayEnd steps unverified) = true := by
  simp only [DieRun.mayEnd, not_and_or, Bool.not_eq_true', List.isEmpty_eq_false_iff, Bool.not_eq_true, Bool.not_eq_false, ne_eq]

variable {op steps unverified : Nat}

theorem State.programEnd_ends {r : DieRun} (hr : ((s.pkg chan).die die).run = some r) (h : r.mayEnd op steps unverified) :
    let t := s.setPkg chan ((s.pkg chan).setDie die (((s.pkg chan).die die).programmed r.cmd (unverified == 0) s.glade.elapsed))
    let u := each r.suspTags t (fun s n => s.pkgDone chan { r.cmd with op := 0x22, tag := n } stNoEffect 0 [])
    s.programEnd chan die op steps unverified =
      (u.pkgDone chan r.cmd (if unverified = 0 then stOk else stProgFail) (if unverified = 0 then steps else unverified) []).pkgGo chan die := by
  intro t u
  rw [State.programEnd, hr]
  exact if_neg (mt DieRun.not_mayEnd_iff.mpr (not_not_intro h))

theorem State.programEnd_idle (h : ∀ r, ((s.pkg chan).die die).run = some r → ¬ r.mayEnd op steps unverified) :
    s.programEnd chan die op steps unverified = s := by
  rw [State.programEnd]
  cases hr : ((s.pkg chan).die die).run with
  | none => rfl
  | some r => exact if_pos (DieRun.not_mayEnd_iff.mp (h r hr))

theorem exec_programAbortDone_asked {r : DieRun} (hr : ((s.pkg chan).die die).run = some r) (h : r.abortTags ≠ []) :
    exec (.programAbortDone chan die) s = .next (s.abortRun chan die r) := by
  simp only [exec_programAbortDone, execProgramAbortDone, hr]
  rw [if_neg (by simpa using h)]

theorem exec_programAbortDone_idle (h : ∀ r, ((s.pkg chan).die die).run = some r → r.abortTags = []) : exec (.programAbortDone chan die) s = .next s := by
  rw [exec_programAbortDone, execProgramAbortDone]
  cases hr : ((s.pkg chan).die die).run with
  | none => rfl
  | some r => simp only [h r hr, List.isEmpty_nil, if_true]

end

/-- Settles O17: each event by its lemmas, with and without the operation it ends. -/
theorem packageEventsTakeEffect : Obligations.PackageEventsTakeEffect := by
  unfold Obligations.PackageEventsTakeEffect
  intro s chan die steps unverified discarded p x
  refine ⟨fun r b ⟨hr, hs⟩ => exec_denseSuspendReached_asked hr hs, exec_denseSuspendReached_idle, fun r ⟨hr, h⟩ => exec_denseAutoResume_ended hr h,
    fun h => exec_denseAutoResume_idle fun r hr => ?_, fun c hc => ?_, fun hc => ?_,
    ⟨fun r ⟨hr, h⟩ => ?_, fun r ⟨hr, h⟩ => ?_, fun h => ?_, fun h => ?_⟩,
    fun r ⟨hr, h⟩ => exec_programAbortDone_asked hr h, exec_programAbortDone_idle, rfl, rfl, rfl, rfl⟩
  · rintro ⟨hs, hread, hnext⟩
    rcases h r hr with h | h | h
    · exact h hs
    · exact absurd h (by simp [x, p, hread])
    · exact absurd h (by simp [x, p, hnext])
  · have hc : ((s.pkg chan).die die).reading = some c := hc
    intro t got
    rw [exec_arrayReadDone, execArrayReadDone]
    simp only [hc]
    cases hg : got with
    | some l => simp only [got, t, p, x] at hg; simp only [hg]; rfl
    | none => simp only [got, t, p, x] at hg; simp only [hg]; rfl
  · have hc : ((s.pkg chan).die die).reading = none := hc
    simp only [exec_arrayReadDone, execArrayReadDone, hc]
  · rw [exec_fastProgramDone, State.programEnd_ends hr h]
  · rw [exec_denseProgramDone, State.programEnd_ends hr h]
  · rw [exec_fastProgramDone, State.programEnd_idle h]
  · rw [exec_denseProgramDone, State.programEnd_idle h]

end Sys2Proof.Machine
end

section
/-! PROOFS. The device's side of the Ozbex links (02): responses and their commands, silence, training and the link registers. -/
namespace Sys2Proof.Machine

/-! ## The commands' meanings: the links -/

theorem exec_readData (chan : Nat) (header : Bytes) (data : Line) (s : State) : exec (.readData chan header data) s = execReadData chan header data s := rfl
theorem exec_completion (chan : Nat) (header : Bytes) (s : State) : exec (.completion chan header) s = execCompletion chan header s := rfl
theorem exec_identData (chan : Nat) (header data : Bytes) (s : State) : exec (.identData chan header data) s = execIdentData chan header data s := rfl
theorem exec_echoData (chan : Nat) (header data : Bytes) (s : State) : exec (.echoData chan header data) s = execEchoData chan header data s := rfl
theorem exec_statusData (chan : Nat) (header data : Bytes) (s : State) : exec (.statusData chan header data) s = execStatusData chan header data s := rfl
theorem exec_errNotice (chan : Nat) (header : Bytes) (s : State) : exec (.errNotice chan header) s = execErrNotice chan header s := rfl
theorem exec_badResponseReceive (chan : Nat) (s : State) : exec (.badResponseReceive chan) s = .next (s.badResponse chan) := rfl
theorem exec_statusPollTimeout (chan : Nat) (s : State) : exec (.statusPollTimeout chan) s = execStatusPollTimeout chan s := rfl
theorem exec_commandResponseTimeout (chan tag : Nat) (s : State) : exec (.commandResponseTimeout chan tag) s = execCommandResponseTimeout chan tag s := rfl
theorem exec_detectTerminationSensed (chan : Nat) (s : State) : exec (.detectTerminationSensed chan) s = execDetectTerminationSensed chan s := rfl
theorem exec_bitLockAchieved (chan : Nat) (s : State) : exec (.bitLockAchieved chan) s = .next (s.trainStep chan 2 3) := rfl
theorem exec_blockLockAchieved (chan : Nat) (s : State) : exec (.blockLockAchieved chan) s = .next (s.trainStep chan 3 4) := rfl
theorem exec_trainPresetsDone (chan preset : Nat) (s : State) : exec (.trainPresetsDone chan preset) s = execTrainPresetsDone chan preset s := rfl
theorem exec_configTs2Matched (chan : Nat) (s : State) : exec (.configTs2Matched chan) s = execConfigTs2Matched chan s := rfl
theorem exec_recoveryDone (chan : Nat) (s : State) : exec (.recoveryDone chan) s = execRecoveryDone chan s := rfl
theorem exec_linkCrcErrorLimit (chan : Nat) (s : State) : exec (.linkCrcErrorLimit chan) s = .next (s.enterRecovery chan) := rfl
theorem exec_blockLockLoss (chan : Nat) (s : State) : exec (.blockLockLoss chan) s = .next (s.enterRecovery chan) := rfl
theorem exec_trainingStateTimeout (chan : Nat) (s : State) : exec (.trainingStateTimeout chan) s = execTrainingStateTimeout chan s := rfl
theorem exec_lnkRetrain (iface chan : Nat) (s : State) : exec (.lnkRetrain iface chan) s = execLnkRetrain iface chan s := rfl
theorem exec_lnkDisable (iface chan value : Nat) (s : State) : exec (.lnkDisable iface chan value) s = execLnkDisable iface chan value s := rfl
theorem exec_lnkErrClear (iface chan : Nat) (s : State) : exec (.lnkErrClear iface chan) s = execLnkErrClear iface chan s := rfl

/-! ## A response arrives (R65, R70, R71) -/

/-- The command sent on a channel that a response header answers, by its tag and die (R65). -/
def State.answeredBy (s : State) (c : Nat) (h : Bytes) : Option Sent :=
  (s.chan c).sent.find? (fun e => e.tag == getLe h 1 1 % 64 && e.m.cmd.die == getLe h 1 1 / 64)

/-- A good header's vectors are taken (R65). -/
def State.vectorsTaken (s : State) (c : Nat) (h : Bytes) : State := s.modChan c (fun x => x.takeVectors (getLe h 3 1))

/-- An answered command leaves the sent ones; an answer of a die breaks its silence (R73). -/
def State.sentAnswered (s : State) (c : Nat) (h : Bytes) (e : Sent) : State :=
  s.modChan c (fun x => let y := if e.m.cmd.op == 0x30 then x else x.answered (getLe h 1 1 / 64); { y with sent := y.sent.filter (fun z => z.tag != getLe h 1 1 % 64) })

section
variable {s : State} {c : Nat} {h : Bytes} (go : Sent → State → State)

theorem State.response_bad (bad : blockGood h = false) : s.response c h go = s.badResponse c := by
  rw [State.response, bad]
  rfl

variable (good : blockGood h = true)
include good

theorem State.response_matched {e : Sent} (he : (s.vectorsTaken c h).answeredBy c h = some e) :
    s.response c h go = go e ((s.vectorsTaken c h).sentAnswered c h e) := by
  simp only [State.answeredBy, State.vectorsTaken] at he
  simp only [State.response, good, Bool.not_true, Bool.false_eq_true, if_false, he]
  rfl

theorem State.response_unmatched (he : (s.vectorsTaken c h).answeredBy c h = none) : s.response c h go = s.vectorsTaken c h := by
  simp only [State.answeredBy, State.vectorsTaken] at he
  simp only [State.response, good, Bool.not_true, Bool.false_eq_true, if_false, he]
  rfl

theorem exec_errNotice_good :
    let w := ((s.vectorsTaken c h).incSat (F.MSC_LNK_ERR_crc_errors (tileOfChan c) (localChan c))).countTile (tileOfChan c) 110
    let last (e : Sent) : Bool := e.tag == getLe h 6 1 && e.m.cmd.die == getLe h 7 1
    exec (.errNotice c h) s = .next (w.askAll c (if (w.chan c).sent.any last then ((w.chan c).sent.dropWhile (fun e => !last e)).drop 1 else (w.chan c).sent)) := by
  rw [exec_errNotice, execErrNotice, good]
  rfl

end

/-! ## STATUS_DATA (R69, R71, R73) -/

/-- A locked tag that STATUS shows done is free again (R73). -/
def State.tagShown (s : State) (c : Nat) (h : Bytes) (asked : Nat) : State :=
  if asked < 64 ∧ getLe h 6 1 = 3 then s.modChan c (fun x => { x with lockedTags := x.lockedTags.filter (· != asked) }) else s

/-- The command a STATUS asked about that has not been answered yet. -/
def State.askedAbout (s : State) (c asked : Nat) : Option Sent := (s.chan c).sent.find? (fun z => z.tag == asked && z.asked)

/-- STATUS shows a command queued or running: it waits again, with one more such answer in a row. -/
def State.polledAgain (s : State) (c asked : Nat) : State :=
  s.modChan c (fun x => { x with sent := x.sent.map (fun z => if z.tag == asked then { z with asked := false, polls := z.polls + 1 } else z) })

/-- What STATUS says of the command asked about: done, unknown, or queued or running (R71). -/
def State.statusShown (s : State) (c : Nat) (h : Bytes) (asked : Nat) (q : Sent) : State :=
  if getLe h 6 1 = 3 then
    (s.modChan c (fun x => { x with sent := x.sent.filter (fun z => z.tag != asked), silent := tdel x.silent q.m.cmd.die })).cmdEnded c q.m (getLe h 7 1) 0 none
  else if getLe h 6 1 = 0 then (if q.waited then s.unanswered c q true else s.lostSending c q)
  else if 7 ≤ q.polls then
    ((s.polledAgain c asked).modChan c (fun x => { x with sent := x.sent.map (fun z => if z.tag == asked then { z with polls := 0 } else z) })).unanswered c q false
  else s.polledAgain c asked

section
variable {s u : State} {c : Nat} {h data : Bytes} {e : Sent} (answered : ∀ go : Sent → State → State, s.response c h go = go e u)
include answered

theorem exec_statusData_unasked (hf : (u.tagShown c h (getLe e.m.cmd.args 0 1)).askedAbout c (getLe e.m.cmd.args 0 1) = none) :
    exec (.statusData c h data) s = .next (u.tagShown c h (getLe e.m.cmd.args 0 1)) := by
  simp only [State.askedAbout, State.tagShown] at hf
  simp only [exec_statusData, execStatusData, answered, hf]
  rfl

theorem exec_statusData_asked {q : Sent} (hf : (u.tagShown c h (getLe e.m.cmd.args 0 1)).askedAbout c (getLe e.m.cmd.args 0 1) = some q) :
    exec (.statusData c h data) s = .next ((u.tagShown c h (getLe e.m.cmd.args 0 1)).statusShown c h (getLe e.m.cmd.args 0 1) q) := by
  simp only [State.askedAbout, State.tagShown] at hf
  simp only [exec_statusData, execStatusData, answered, hf]
  rfl

end

/-- Settles O18: a response is bad, answers no command, or answers one and goes on as its type says; STATUS_DATA by the state of the command asked about. -/
theorem responsesReachTheirCommand : Obligations.ResponsesReachTheirCommand := by
  unfold Obligations.ResponsesReachTheirCommand
  intro s chan header data line die tag t bad
  refine ⟨?_, fun good he => ?_, fun hb => ?_, exec_badResponseReceive chan s, fun good => exec_errNotice_good good⟩
  · intro good e he u
    have answered (go : Sent → State → State) : s.response chan header go = go e u := State.response_matched go good he
    refine ⟨congrArg _ (answered _), congrArg _ (answered _), congrArg _ (answered _), congrArg _ (answered _), ?_⟩
    intro asked state v found polled
    refine ⟨exec_statusData_unasked answered, fun q hf => ?_⟩
    have shown : exec (.statusData chan header data) s = .next (v.statusShown chan header asked q) := exec_statusData_asked answered hf
    rw [shown, State.statusShown]
    refine ⟨fun h3 => ?_, fun h0 => ?_, fun ⟨h3, h0, hp⟩ => ?_, fun ⟨h3, h0, hp⟩ => ?_⟩
    · rw [if_pos h3]
    · rw [if_neg (by omega), if_pos h0]
    · rw [if_neg h3, if_neg h0, if_neg hp.not_ge]
      rfl
    · rw [if_neg h3, if_neg h0, if_pos hp]
      rfl
  · have unmatched (go : Sent → State → State) : s.response chan header go = t := State.response_unmatched go good he
    exact ⟨congrArg _ (unmatched _), congrArg _ (unmatched _), congrArg _ (unmatched _), congrArg _ (unmatched _), congrArg _ (unmatched _)⟩
  · have isBad (go : Sent → State → State) : s.response chan header go = bad := State.response_bad go hb
    refine ⟨congrArg _ (isBad _), congrArg _ (isBad _), congrArg _ (isBad _), congrArg _ (isBad _), congrArg _ (isBad _), ?_⟩
    rw [exec_errNotice, execErrNotice, hb]
    rfl

/-! ## Silence (R69, R71, R73) -/

/-- Settles O19: the branch the silent command's state selects. -/
theorem channelTimeoutsTakeEffect : Obligations.ChannelTimeoutsTakeEffect := by
  unfold Obligations.ChannelTimeoutsTakeEffect
  intro s chan tag
  refine ⟨fun h => ?_, fun h => ?_, fun e he => ⟨fun ho => ?_, fun ⟨ho, ha⟩ => ?_, fun ⟨ho, ha⟩ => ?_⟩, fun he => ?_⟩
  · rw [exec_statusPollTimeout, execStatusPollTimeout, if_neg (by simpa using h)]
  · rw [exec_statusPollTimeout, execStatusPollTimeout, h]
    rfl
  · simp only [exec_commandResponseTimeout, execCommandResponseTimeout, he, if_pos ho]
  · simp only [exec_commandResponseTimeout, execCommandResponseTimeout, he, if_neg ho, ha, Bool.not_false, if_true]
  · simp only [exec_commandResponseTimeout, execCommandResponseTimeout, he, if_neg ho, ha, Bool.not_true, Bool.false_eq_true, if_false]
  · simp only [exec_commandResponseTimeout, execCommandResponseTimeout, he]

/-! ## Training and Recovery (R61, R62, R72, R77) -/

section
variable {s : State} {c : Nat}

theorem State.trainStep_from (now next : Nat) (h : s.lstate c = now) : s.trainStep c now next = s.setLink c next := if_pos h

theorem State.trainStep_elsewhere (now next : Nat) (h : s.lstate c ≠ now) : s.trainStep c now next = s := if_neg h

theorem State.enterRecovery_elsewhere (h : s.lstate c ≠ 6) : s.enterRecovery c = s := if_pos (by simpa using h)

/-- The entries into Recovery within the last second (R72). -/
def State.recentRecoveries (s : State) (c : Nat) : List Nat := (s.chan c).recRecent.filter (fun f => decide (s.fine ≤ f + 1000000000))

/-- An entry into Recovery is counted (R72, R78). -/
def State.recoveryCounted (s : State) (c : Nat) : State :=
  ((({ s with health := { s.health with recoveries := s.health.recoveries + 1 } } : State).modChan c
    (fun x => { x with recRecent := s.recentRecoveries c ++ [s.fine] })).incSat (F.MSC_LNK_STAT_recoveries (tileOfChan c) (localChan c))).countTile (tileOfChan c) 112

/-- An Active link with fewer than 16 recent entries goes to Recovery (R72). -/
theorem State.enterRecovery_active (h : s.lstate c = 6) (hn : (s.recentRecoveries c).length < 16) : s.enterRecovery c = (s.recoveryCounted c).setLink c 7 := by
  have few : ¬ 16 < (s.recentRecoveries c ++ [s.fine]).length := by rw [List.length_append, List.length_singleton]; omega
  rw [State.enterRecovery, if_neg (by simp [h])]
  exact if_neg few

/-- Detect can time out, and an Off link of a clocked tile retries it (R61, R62). -/
def State.detecting (s : State) (c : Nat) : Prop := s.lstate c = 1 ∨ (s.lstate c = 0 ∧ s.chanPresent c = true ∧ (s.tile (tileOfChan c)).held = false)

theorem exec_trainingStateTimeout_detect (h : s.detecting c) : exec (.trainingStateTimeout c) s = .next (s.channelDown c) := by
  rw [exec_trainingStateTimeout, execTrainingStateTimeout]
  exact congrArg _ (if_pos (by simpa [State.detecting] using h))

theorem exec_trainingStateTimeout_training (h : 2 ≤ s.lstate c ∧ s.lstate c ≤ 5) : exec (.trainingStateTimeout c) s = .next (s.setLink c 1) := by
  rw [exec_trainingStateTimeout, execTrainingStateTimeout]
  exact congrArg _ ((if_neg (by omega)).trans (if_pos h))

/-- A Recovery that times out is counted; the third in a row makes the channel Dead (R72). -/
theorem exec_trainingStateTimeout_recovery (h : s.lstate c = 7) :
    let failed := s.modChan c (fun x => { x with recFails := (s.chan c).recFails + 1 })
    exec (.trainingStateTimeout c) s = .next (if 3 ≤ (s.chan c).recFails + 1 then failed.channelDead c else failed.setLink c 1) := by
  rw [exec_trainingStateTimeout, execTrainingStateTimeout]
  exact congrArg _ ((if_neg (by omega)).trans ((if_neg (by omega)).trans (if_pos h)))

end

/-- Settles O20: each step from its state, and nothing from any other. -/
theorem linkTrainingStepsTakeEffect : Obligations.LinkTrainingStepsTakeEffect := by
  unfold Obligations.LinkTrainingStepsTakeEffect
  intro s chan preset st n failed
  refine ⟨fun h => ?_, fun h => congrArg _ (State.trainStep_from 2 3 h), fun h => congrArg _ (State.trainStep_from 3 4 h), fun h => ?_, fun h => ?_, fun h => ?_,
    ?_, exec_trainingStateTimeout_detect, exec_trainingStateTimeout_training, fun ⟨h, hn⟩ => ?_, fun ⟨h, hn⟩ => ?_,
    fun h => congrArg _ (State.trainStep_elsewhere 2 3 h), fun h => congrArg _ (State.trainStep_elsewhere 3 4 h), fun h => ?_, fun h => ?_, fun h => ?_, fun h => ?_⟩
  · rw [exec_detectTerminationSensed, execDetectTerminationSensed, if_pos (by simpa using h)]
  · rw [exec_trainPresetsDone, execTrainPresetsDone, if_pos h]
  · rw [exec_configTs2Matched, execConfigTs2Matched, if_pos h]
  · rw [exec_recoveryDone, execRecoveryDone, if_pos h]
  · intro h t u hn
    have enters : s.enterRecovery chan = u.setLink chan 7 := State.enterRecovery_active h hn
    exact ⟨congrArg _ enters, congrArg _ enters⟩
  · exact (exec_trainingStateTimeout_recovery h).trans (congrArg _ (if_neg hn.not_ge))
  · exact (exec_trainingStateTimeout_recovery h).trans (congrArg _ (if_pos hn))
  · rw [exec_trainPresetsDone, execTrainPresetsDone, if_neg h]
  · rw [exec_configTs2Matched, execConfigTs2Matched, if_neg h]
  · have stays : s.enterRecovery chan = s := State.enterRecovery_elsewhere h
    exact ⟨congrArg _ stays, congrArg _ stays⟩
  · rw [exec_recoveryDone, execRecoveryDone, if_neg h]

/-! ## Link registers (R76, R78) -/

section
variable {s : State} {iface chan value : Nat}

theorem exec_lnkRetrain_idle (h : s.chanPresent chan = false ∨ (s.lstate chan ≠ 6 ∧ s.lstate chan ≠ 10)) : exec (.lnkRetrain iface chan) s = .next s := by
  rw [exec_lnkRetrain, execLnkRetrain]
  exact congrArg _ (if_pos (by simpa using h))

theorem exec_lnkDisable_idle (h : s.chanPresent chan = false ∨ s.rf (F.MSC_LNK_CTRL_disable (tileOfChan chan) (localChan chan)) = value % 2) :
    exec (.lnkDisable iface chan value) s = .next s := by
  rw [exec_lnkDisable, execLnkDisable]
  exact congrArg _ (if_pos (by simpa using h))

theorem exec_lnkErrClear_absent (h : s.chanPresent chan = false) : exec (.lnkErrClear iface chan) s = .next s := by
  rw [exec_lnkErrClear, execLnkErrClear]
  exact congrArg _ (if_pos (by simp [h]))

/-- A channel without commands goes off with its EIOS alone. -/
theorem State.chanOff_empty (hs : (s.chan chan).sent = []) (hw : (s.chan chan).waiting = []) : s.chanOff chan =
    (s.modChan chan (fun x => { x with waiting := [], sent := [], lockedTags := x.lockedTags ++ x.sent.map Sent.tag })).linkOff chan := by
  rw [State.chanOff, hs, hw]
  rfl

variable (h : s.hears iface 0 = true) (hp : s.chanPresent chan = true) (hm : s.holds iface .mgmtWrite = true)
include h hp hm

theorem exec_lnkErrClear_held : exec (.lnkErrClear iface chan) s =
    .next ((s.wf (F.MSC_LNK_ERR_crc_errors (tileOfChan chan) (localChan chan)) 0).wf (F.MSC_LNK_ERR_timeouts (tileOfChan chan) (localChan chan)) 0) := by
  rw [exec_lnkErrClear, execLnkErrClear]
  exact congrArg _ ((if_neg (by simp [hp])).trans (State.regWrite_held h hm hm))

variable (hr : s.holds iface .tileService = true)
include hr

theorem exec_lnkRetrain_held (hl : s.lstate chan = 6 ∨ s.lstate chan = 10) :
    let f := F.MSC_LNK_CTRL_retrain (tileOfChan chan) (localChan chan)
    exec (.lnkRetrain iface chan) s = .next (if s.lstate chan = 6 then (s.wf f 1).enterRecovery chan else (s.setLink chan 1).wf f 1) := by
  rw [exec_lnkRetrain, execLnkRetrain]
  exact congrArg _ ((if_neg (by simpa [hp, or_iff_not_imp_left] using hl)).trans (State.regWrite_held h hr hm))

theorem exec_lnkDisable_held (hv : s.rf (F.MSC_LNK_CTRL_disable (tileOfChan chan) (localChan chan)) ≠ value % 2) :
    let f := F.MSC_LNK_CTRL_disable (tileOfChan chan) (localChan chan)
    exec (.lnkDisable iface chan value) s = .next (if value % 2 = 1 then s.chanOff chan else (s.wf f 0).setLink chan 1) := by
  rw [exec_lnkDisable, execLnkDisable]
  exact congrArg _ ((if_neg (by simpa [hp] using hv)).trans (State.regWrite_held h hr hm))

end

/-- Settles O21: each register write under its rights, and the writes that change nothing. -/
theorem linkControlsTakeEffect : Obligations.LinkControlsTakeEffect := by
  unfold Obligations.LinkControlsTakeEffect
  intro s iface chan value t c
  refine ⟨fun hp => ⟨exec_lnkRetrain_idle (.inl hp), exec_lnkDisable_idle (.inl hp), exec_lnkErrClear_absent hp⟩, fun hl => exec_lnkRetrain_idle (.inr hl),
    fun ⟨h, hp, hr, hm⟩ => ⟨fun hl => ?_, fun hl => ?_, fun ⟨hv, hf⟩ => ?_, fun ⟨hs, hw⟩ => State.chanOff_empty hs hw, fun ⟨hv, hf⟩ => ?_, fun hf => exec_lnkDisable_idle (.inr hf),
    exec_lnkErrClear_held h hp hm⟩⟩
  · exact (exec_lnkRetrain_held h hp hm hr (.inl hl)).trans (congrArg _ (if_pos hl))
  · exact (exec_lnkRetrain_held h hp hm hr (.inr hl)).trans (congrArg _ (if_neg (by omega)))
  · exact (exec_lnkDisable_held h hp hm hr (hf.trans_ne (by omega))).trans (congrArg _ (if_pos hv))
  · exact (exec_lnkDisable_held h hp hm hr (hf.trans_ne (by omega))).trans (congrArg _ (if_neg (by omega)))

end Sys2Proof.Machine
end

section
/-! PROOFS. The stand image (03): the home tile of a leaf; images staged, checked, marked, applied and returned. -/
namespace Sys2Proof.Machine

/-! ## The home tile of a leaf (R93) -/

/-- A granule of whole leaves counts an offset as it counts the leaf's. -/
theorem leafOffset_div_granule (a : Nat) {g : Nat} (h : 12 ≤ g) : a / 4096 * 4096 / 2 ^ g = a / 2 ^ g := by
  obtain ⟨k, rfl⟩ := Nat.exists_eq_add_of_le h
  rw [Nat.pow_add, ← Nat.div_div_eq_div_mul, ← Nat.div_div_eq_div_mul, show 2 ^ 12 = 4096 from rfl, Nat.mul_div_cancel _ (by decide)]

theorem Pattern.rank_tile (p : Pattern) (a : Nat) : (p.rank a).1 = p.tiles.getD (a / 2 ^ p.granule % p.tiles.length) 0 := rfl

theorem State.homeOf_served {s : State} {line : Nat} {c : Comp} (h : s.servedAt (lineDpa line) = some c) :
    s.homeOf line = ((s.patternOf c).rank (lineDpa line - c.lo)).1 := by
  rw [State.homeOf, State.leafOfLine, h]; rfl

/-- Settles O59: a line and its leaf lie in the same granule, so the pattern names the same tile for both. -/
theorem homeTileOfALeaf : Obligations.HomeTileOfALeaf := by
  unfold Obligations.HomeTileOfALeaf
  intro s line c ⟨hc, hg⟩ p a
  rw [State.homeOf_served hc, Pattern.rank_tile, leafOffset_div_granule _ hg]

/-! ## The commands' meanings: stand images -/

theorem exec_stageImage (iface ld : Nat) (b : Bytes) (s : State) : exec (.stageImage iface ld b) s = execStageImage iface ld b s := rfl
theorem exec_imageControl (iface ld : Nat) (b : Bytes) (s : State) : exec (.imageControl iface ld b) s = execImageControl iface ld b s := rfl
theorem exec_verify (iface : Nat) (s : State) : exec (.verify iface) s = execVerify iface s := rfl
theorem exec_applyLive (iface : Nat) (s : State) : exec (.applyLive iface) s = execApplyLive iface s := rfl
theorem exec_applyAtResume (iface value : Nat) (s : State) : exec (.applyAtResume iface value) s = execApplyAtResume iface value s := rfl
theorem exec_returnPrev (iface : Nat) (s : State) : exec (.returnPrev iface) s = execReturnPrev iface s := rfl
theorem exec_discardStaged (iface : Nat) (s : State) : exec (.discardStaged iface) s = execDiscardStaged iface s := rfl
theorem exec_imageChecksDone (s : State) : exec .imageChecksDone s = execImageChecksDone s := rfl

/-! ## What a command sends (R142, R453) -/

/-- What a command under a right that the interface holds sends: its answer, or Unsupported where the interface does not carry it. -/
def State.answers (s : State) (iface ld op : Nat) (a : Answer) : State :=
  if carries iface op then a.state.reply iface ld op a.code a.payload else (s.heard iface).reply iface ld op .unsupported []

theorem State.command_answers {s : State} {iface ld op : Nat} {r : Right} {f : State → Answer} {a : Answer} (h : s.hears iface ld = true)
    (hr : (s.heard iface).holds iface r = true) (ha : f (s.heard iface) = a) : s.command iface ld op (some r) f = s.answers iface ld op a :=
  State.command_answered h hr ha

/-! ## Stage Image (R104, R105; log 73) -/

/-- The transfer's bytes a part goes on from: none for a part that begins one. -/
def State.stageGot (s : State) (action : Nat) : Bytes := match s.img.xfer with | some x => if action ≤ 1 then [] else x.2.2 | none => []
/-- Another operation runs, and the part is one of a load. -/
def State.stageBusy (s : State) (action : Nat) : Bool := s.stdBusy && (decide (action ≤ 1) || (decide (action ≤ 3) && s.img.xfer.isSome))
/-- The transfer under way is another interface's. -/
def State.stageOther (s : State) (iface : Nat) : Bool := match s.img.xfer with | some x => x.1 != iface | none => false
/-- The part has a wrong shape or place, or no transfer to go on with. -/
def State.stageMisplaced (s : State) (b : Bytes) : Bool :=
  !stageShape b || getLe b 4 4 != (s.stageGot (getLe b 0 1)).length || (decide (2 ≤ getLe b 0 1) && s.img.xfer.isNone)
/-- The whole image would be checked in the background of a mailbox that runs one already. -/
def State.stageWaits (s : State) (iface ld action : Nat) : Bool := (action == 0 || action == 3) && decide (iface < 4) && (s.ld iface ld).bg.isSome

section
variable {s : State} {iface ld : Nat} {b : Bytes}

theorem State.stageWaits_other {action : Nat} (h0 : action ≠ 0) (h3 : action ≠ 3) : s.stageWaits iface ld action = false := by
  simp [State.stageWaits, h0, h3]

theorem State.stageImage_busy (hb : s.stageBusy (getLe b 0 1) = true) : s.stageImage iface ld b = ⟨.busy, [], s⟩ := if_pos hb

variable (hb : s.stageBusy (getLe b 0 1) = false)
include hb

theorem State.stageImage_other (ho : s.stageOther iface = true) : s.stageImage iface ld b = ⟨.invalidInput, [], s⟩ :=
  (if_neg (Bool.eq_false_iff.mp hb)).trans (if_pos ho)

variable (ho : s.stageOther iface = false)
include ho

theorem State.stageImage_misplaced (hm : s.stageMisplaced b = true) : s.stageImage iface ld b = s.stageBad iface :=
  (if_neg (Bool.eq_false_iff.mp hb)).trans ((if_neg (Bool.eq_false_iff.mp ho)).trans (if_pos hm))

variable (hm : s.stageMisplaced b = false)
include hm

/-- A part that is in its place: its own mailbox may be busy, else it is taken as its action says. -/
theorem State.stageImage_placed : s.stageImage iface ld b =
    if s.stageWaits iface ld (getLe b 0 1) then ⟨.busy, [], s⟩
    else if getLe b 0 1 = 4 then ⟨.success, zeros 8, s.dropStage⟩
    else if getLe b 0 1 = 0 ∨ getLe b 0 1 = 3 then ⟨.background, [], s.stageWhole iface ld (s.stageGot (getLe b 0 1) ++ b.drop 16)⟩
    else
      let t := if getLe b 0 1 = 1 then s.setStaged none else s
      ⟨.success, zeros 8, ({ t with img := { t.img with xfer := some (iface, ld, s.stageGot (getLe b 0 1) ++ b.drop 16) } } : State).seedProgram.stdState 1⟩ :=
  (if_neg (Bool.eq_false_iff.mp hb)).trans ((if_neg (Bool.eq_false_iff.mp ho)).trans (if_neg (Bool.eq_false_iff.mp hm)))

theorem State.stageImage_waits (hw : s.stageWaits iface ld (getLe b 0 1) = true) : s.stageImage iface ld b = ⟨.busy, [], s⟩ :=
  (State.stageImage_placed hb ho hm).trans (if_pos hw)

theorem State.stageImage_whole (hw : s.stageWaits iface ld (getLe b 0 1) = false) (ha : getLe b 0 1 = 0 ∨ getLe b 0 1 = 3) :
    s.stageImage iface ld b = ⟨.background, [], s.stageWhole iface ld (s.stageGot (getLe b 0 1) ++ b.drop 16)⟩ := by
  rw [State.stageImage_placed hb ho hm, if_neg (Bool.eq_false_iff.mp hw), if_neg (by omega), if_pos ha]

theorem State.stageImage_dropped (ha : getLe b 0 1 = 4) : s.stageImage iface ld b = ⟨.success, zeros 8, s.dropStage⟩ := by
  rw [State.stageImage_placed hb ho hm, if_neg (Bool.eq_false_iff.mp (State.stageWaits_other (by omega) (by omega))), if_pos ha]

theorem State.stageImage_part (ha : getLe b 0 1 = 1 ∨ getLe b 0 1 = 2) : s.stageImage iface ld b =
    let t := if getLe b 0 1 = 1 then s.setStaged none else s
    ⟨.success, zeros 8, ({ t with img := { t.img with xfer := some (iface, ld, s.stageGot (getLe b 0 1) ++ b.drop 16) } } : State).seedProgram.stdState 1⟩ := by
  rw [State.stageImage_placed hb ho hm, if_neg (Bool.eq_false_iff.mp (State.stageWaits_other (by omega) (by omega))), if_neg (by omega), if_neg (by omega)]

end

theorem exec_stageImage_answers {s : State} {iface ld : Nat} {b : Bytes} {a : Answer} (h : s.hears iface ld = true)
    (hr : (s.heard iface).holds iface .imageStage = true) (ha : (s.heard iface).fits iface b.length (fun t => t.stageImage iface ld b) = a) :
    exec (.stageImage iface ld b) s = .next (s.answers iface ld 0xC030 a) := by
  rw [exec_stageImage, execStageImage, State.command_answers h hr ha]

/-! ## Image Control (R107) -/

/-- The answer to an op that ran: status 2 where another operation ran. -/
def State.controlRan (s t : State) : Answer := ⟨.success, t.controlOutput (if s.stdBusy then 2 else 0), t⟩

section
variable {s : State} {b : Bytes}

theorem State.imageControl_bad (no : b.length ≠ 4 ∨ allZero (slice b 1 3) = false ∨ getLe b 0 1 = 0 ∨ 7 < getLe b 0 1) :
    s.imageControl b = ⟨.success, s.controlOutput 1, s⟩ := if_pos (by simpa using no)

variable (hl : b.length = 4) (hz : allZero (slice b 1 3) = true)
include hl hz

/-- Each op of a well-formed input. -/
theorem State.imageControl_good :
    (getLe b 0 1 = 1 → s.imageControl b = s.controlRan s.verifyImage) ∧ (getLe b 0 1 = 2 → s.imageControl b = s.controlRan s.applyLive) ∧
    (getLe b 0 1 = 3 → s.imageControl b =
      if [0, 1, 2, 4].contains (s.rf F.STD_STAT_state) then ⟨.success, s.controlOutput 3, s⟩ else s.controlRan (s.markResume true)) ∧
    (getLe b 0 1 = 4 → s.imageControl b = ⟨.success, (s.markResume false).controlOutput 0, s.markResume false⟩) ∧
    (getLe b 0 1 = 5 → s.imageControl b = s.controlRan s.returnPrev) ∧ (getLe b 0 1 = 6 → s.imageControl b = s.controlRan s.discardStaged) ∧
    (getLe b 0 1 = 7 → s.imageControl b = ⟨.success, s.controlOutput 0, s⟩) := by
  refine ⟨fun h => ?_, fun h => ?_, fun h => ?_, fun h => ?_, fun h => ?_, fun h => ?_, fun h => ?_⟩ <;>
    rw [State.imageControl, if_neg (by simp [hl, hz, h]), h] <;> rfl

end

theorem exec_imageControl_answers {s : State} {iface ld : Nat} {b : Bytes} {a : Answer} {r : Right} (h : s.hears iface ld = true)
    (hc : s.controlRight iface (getLe b 0 1) = some r) (hr : (s.heard iface).holds iface r = true) (ha : (s.heard iface).imageControl b = a) :
    exec (.imageControl iface ld b) s = .next (s.answers iface ld 0xC031 a) := by
  rw [exec_imageControl, execImageControl, hc, State.command_answers h hr ha]

/-! ## The control register's operations (R106, R119, R121, R122) -/

section
variable {s : State} {iface : Nat} (value : Nat) (h : s.hears iface 0 = true) (hm : s.holds iface .mgmtWrite = true)
include h hm

theorem exec_verify_held (hr : s.holds iface .imageStage = true) : exec (.verify iface) s = .next s.verifyImage := by
  rw [exec_verify, execVerify, State.regWrite_held h hr hm]

theorem exec_discardStaged_held (hr : s.holds iface .imageStage = true) : exec (.discardStaged iface) s = .next s.discardStaged := by
  rw [exec_discardStaged, execDiscardStaged, State.regWrite_held h hr hm]

theorem exec_applyLive_held (hr : s.holds iface .imageApply = true) : exec (.applyLive iface) s = .next s.applyLive := by
  rw [exec_applyLive, execApplyLive, State.regWrite_held h hr hm]

theorem exec_applyAtResume_held (hr : s.holds iface .imageApply = true) : exec (.applyAtResume iface value) s = .next (s.markResume (value % 2 == 1)) := by
  rw [exec_applyAtResume, execApplyAtResume, State.regWrite_held h hr hm]

theorem exec_returnPrev_held (hr : s.holds iface .imageReturn = true) : exec (.returnPrev iface) s = .next s.returnPrev := by
  rw [exec_returnPrev, execReturnPrev, State.regWrite_held h hr hm]

end

section
variable {s : State}

theorem State.markResume_off : s.markResume false = s.setMark false := rfl

theorem State.markResume_unmarkable (hu : [0, 1, 2, 4].contains (s.rf F.STD_STAT_state) = true) : s.markResume true = s := if_pos hu

section
variable (hb : s.stdBusy = true)
include hb

theorem State.verifyImage_busy : s.verifyImage = s.notNow := if_pos hb
theorem State.discardStaged_busy : s.discardStaged = s.notNow := if_pos hb
theorem State.applyLive_busy : s.applyLive = s.notNow := if_pos hb
theorem State.returnPrev_busy : s.returnPrev = s.notNow := if_pos hb

theorem State.markResume_busy (hu : [0, 1, 2, 4].contains (s.rf F.STD_STAT_state) = false) : s.markResume true = s.notNow :=
  (if_neg (Bool.eq_false_iff.mp hu)).trans (if_pos hb)

end

variable (hb : s.stdBusy = false)
include hb

theorem State.verifyImage_free :
    s.verifyImage = ({ s with img := { s.img with checking := some (0, 0), checkFor := 0 } } : State).wf F.STD_CTRL_verify 1 :=
  if_neg (Bool.eq_false_iff.mp hb)

theorem State.discardStaged_free : s.discardStaged = s.dropStage := if_neg (Bool.eq_false_iff.mp hb)

theorem State.applyLive_free : s.applyLive =
    let r := s.checkStaged
    let i := r.2.stagedImg
    if r.1.1 ≠ 0 then r.2.imageRefused r.2.epochStaged r.1.1 r.1.2
    else if i.flags / 2 % 2 = 1 then r.2.imageRefused i.epoch 0x13 0xFFFF
    else if r.2.applyCheck i ≠ 0 then r.2.imageRefused i.epoch (r.2.applyCheck i) 0xFFFF else r.2.beginApply false i :=
  if_neg (Bool.eq_false_iff.mp hb)

theorem State.returnPrev_none (hp : s.img.prev = none) : s.returnPrev = s.imageRefused 0 0x13 0xFFFF := by
  rw [State.returnPrev, if_neg (Bool.eq_false_iff.mp hb), hp]

theorem State.returnPrev_some {p : ImgSlot} (hp : s.img.prev = some p) : s.returnPrev =
    let r := s.checkImage (.previous s.returnFloor) (some p) p.bytes
    let t := s.slhCount r.1 p.bytes.length
    if r.1 ≠ 0 then t.imageRefused (slotEpoch (some p)) r.1 r.2.1
    else if t.applyCheck (parseImg p.bytes) ≠ 0 then t.imageRefused (parseImg p.bytes).epoch (t.applyCheck (parseImg p.bytes)) 0xFFFF
    else (t.stdResult 0 0xFFFF).beginApply true (parseImg p.bytes) := by
  rw [State.returnPrev, if_neg (Bool.eq_false_iff.mp hb), hp]

theorem State.markResume_free (hu : [0, 1, 2, 4].contains (s.rf F.STD_STAT_state) = false) : s.markResume true = s.setMark true :=
  (if_neg (Bool.eq_false_iff.mp hu)).trans (if_neg (Bool.eq_false_iff.mp hb))

end

/-! ## The checks of a staged image end (R103, R104) -/

theorem exec_imageChecksDone_idle {s : State} (h : s.img.checking = none) : exec .imageChecksDone s = .next s := by
  rw [exec_imageChecksDone, execImageChecksDone, h]

/-- Settles O28: Stage Image by the part's refusals and actions, Image Control by its op, each register command by what holds it back. -/
theorem imageStagingCommandsTakeEffect : Obligations.ImageStagingCommandsTakeEffect := by
  unfold Obligations.ImageStagingCommandsTakeEffect
  intro s iface ld value b notNow
  refine ⟨fun h => ?_, fun ⟨h, hm⟩ => ⟨fun hr => ?_, fun hr => ?_, fun hr => ?_⟩, exec_imageChecksDone_idle, fun i l hc => ?_⟩
  · refine ⟨fun hr => ⟨fun long => ?_, fun short => ?_⟩, fun r ⟨hc, hr⟩ => ?_⟩
    · exact exec_stageImage_answers h hr (if_pos long)
    · have staged {a : Answer} (ha : (s.heard iface).stageImage iface ld b = a) := exec_stageImage_answers h hr ((if_neg short).trans ha)
      exact ⟨fun hb => staged (State.stageImage_busy hb), fun ⟨hb, ho⟩ => staged (State.stageImage_other hb ho),
        fun ⟨hb, ho, hm⟩ => staged (State.stageImage_misplaced hb ho hm), fun ⟨hb, ho, hm⟩ => ⟨fun hw => staged (State.stageImage_waits hb ho hm hw),
          fun ⟨hw, ha⟩ => staged (State.stageImage_whole hb ho hm hw ha), fun ha => staged (State.stageImage_dropped hb ho hm ha),
          fun ha => staged (State.stageImage_part hb ho hm ha)⟩⟩
    · have controlled {a : Answer} (ha : (s.heard iface).imageControl b = a) := exec_imageControl_answers (ld := ld) h hc hr ha
      refine ⟨fun no => controlled (State.imageControl_bad no), fun ⟨hl, hz⟩ => ?_⟩
      obtain ⟨verify, apply, mark, unmark, back, discard, ask⟩ := State.imageControl_good (s := s.heard iface) hl hz
      exact ⟨fun e => controlled (verify e), fun e => controlled (apply e), fun ⟨e, hu⟩ => controlled ((mark e).trans (if_pos hu)),
        fun ⟨e, hu⟩ => controlled ((mark e).trans (if_neg (Bool.eq_false_iff.mp hu))), fun e => controlled (unmark e), fun e => controlled (back e),
        fun e => controlled (discard e), fun e => controlled (ask e)⟩
  · rw [exec_verify_held h hm hr, exec_discardStaged_held h hm hr]
    refine ⟨fun hb => ?_, fun hb => ?_⟩
    · rw [State.verifyImage_free hb, State.discardStaged_free hb]
      exact ⟨rfl, rfl⟩
    · rw [State.verifyImage_busy hb, State.discardStaged_busy hb]
      exact ⟨rfl, rfl⟩
  · rw [exec_applyLive_held h hm hr, exec_applyAtResume_held value h hm hr]
    refine ⟨fun hb => congrArg _ (State.applyLive_busy hb), fun hb => congrArg _ (State.applyLive_free hb), fun hv => ?_, fun hv => ?_⟩
    · rw [hv]
      exact congrArg _ State.markResume_off
    · rw [hv]
      exact ⟨fun hu => congrArg _ (State.markResume_unmarkable hu), fun ⟨hu, hb⟩ => congrArg _ (State.markResume_busy hb hu),
        fun ⟨hu, hb⟩ => congrArg _ (State.markResume_free hb hu)⟩
  · rw [exec_returnPrev_held h hm hr]
    exact ⟨fun hb => congrArg _ (State.returnPrev_busy hb), fun ⟨hb, hp⟩ => congrArg _ (State.returnPrev_none hb hp),
      fun p ⟨hb, hp⟩ => congrArg _ (State.returnPrev_some hb hp)⟩
  · rewrite [exec_imageChecksDone, execImageChecksDone, hc]
    rfl

end Sys2Proof.Machine
end

section
/-! PROOFS. The live apply and the check at resume (03). -/
namespace Sys2Proof.Machine

/-! ## The commands' meanings: the live apply -/

theorem exec_applyComparisonDone (s : State) : exec .applyComparisonDone s = execApplyComparisonDone s := rfl
theorem exec_compartmentQuiet (comp : Nat) (s : State) : exec (.compartmentQuiet comp) s = execCompartmentQuiet comp s := rfl
theorem exec_quietWaitExpire (comp : Nat) (s : State) : exec (.quietWaitExpire comp) s = execQuietWaitExpire comp s := rfl
theorem exec_forcedHoldExpire (comp : Nat) (s : State) : exec (.forcedHoldExpire comp) s = execForcedHoldExpire comp s := rfl
theorem exec_switchDeadlineExpire (comp : Nat) (s : State) : exec (.switchDeadlineExpire comp) s = execSwitchDeadlineExpire comp s := rfl
theorem exec_applyCommit (s : State) : exec .applyCommit s = execApplyCommit s := rfl
theorem exec_applyCommitDone (s : State) : exec .applyCommitDone s = execApplyCommitDone s := rfl
theorem exec_standImageResumeCheck (s : State) : exec .standImageResumeCheck s = execStandImageResumeCheck s := rfl

/-! ## Where no apply, no order or no commit stands -/

section
variable {s : State}

/-- With no apply, or no image to apply it over, no comparison ends and no compartment switches. -/
theorem exec_noApply (comp : Nat) (h : s.img.apply = none ∨ s.active = none) :
    exec (.compartmentQuiet comp) s = .next s ∧ exec .applyComparisonDone s = .next s := by
  rw [exec_compartmentQuiet, execCompartmentQuiet, exec_applyComparisonDone, execApplyComparisonDone]
  obtain h | h := h
  · rw [h]
    exact ⟨rfl, rfl⟩
  · rw [h]
    cases s.img.apply <;> exact ⟨rfl, rfl⟩

/-- A compartment without a switch order has none of an order's times. -/
theorem exec_unordered {comp : Nat} (h : ∀ a, s.img.apply = some a → a.ordering comp = false) :
    exec (.quietWaitExpire comp) s = .next s ∧ exec (.forcedHoldExpire comp) s = .next s ∧ exec (.switchDeadlineExpire comp) s = .next s := by
  rw [exec_quietWaitExpire, execQuietWaitExpire, exec_forcedHoldExpire, execForcedHoldExpire, exec_switchDeadlineExpire, execSwitchDeadlineExpire]
  cases ha : s.img.apply with
  | none => exact ⟨rfl, rfl, rfl⟩
  | some a => simp [h a ha]

theorem exec_applyCommit_early
    (h : ∀ a, s.img.apply = some a → a.comparing = true ∨ a.rolling = true ∨ a.committing = true ∨ a.switched.length ≠ a.changed.length) :
    exec .applyCommit s = .next s := by
  rw [exec_applyCommit, execApplyCommit]
  cases ha : s.img.apply with
  | none => rfl
  | some a => exact congrArg _ (if_pos (by simpa [or_assoc] using h a ha))

theorem exec_applyCommitDone_early (h : ∀ a, s.img.apply = some a → a.committing = false) : exec .applyCommitDone s = .next s := by
  rw [exec_applyCommitDone, execApplyCommitDone]
  cases ha : s.img.apply with
  | none => rfl
  | some a => exact congrArg _ (if_pos (by simp [h a ha]))

end

section
variable {s : State} {a : Apply} (ha : s.img.apply = some a)
include ha

/-! ## The comparison and the switches (R111, R114, R117) -/

section
variable {old : Img} (ho : s.active = some old)
include ho

theorem exec_applyComparisonDone_over (hc : a.comparing = false) : exec .applyComparisonDone s = .next s := by
  rw [exec_applyComparisonDone, execApplyComparisonDone, ha, ho]
  exact congrArg _ (if_pos (by simp [hc]))

theorem exec_applyComparisonDone_refused (hc : a.comparing = true) (hr : s.compareRefused old a.img = true) :
    let t := (s.applyOver a).wf F.STD_APPLY_STAT_outcome 0
    exec .applyComparisonDone s = .next ((if a.isReturn then t else t.stdState 3).imageRefused a.img.epoch 0x13 0xFFFF) := by
  rw [exec_applyComparisonDone, execApplyComparisonDone, ha, ho]
  exact congrArg _ ((if_neg (by simp [hc])).trans (if_pos hr))

theorem exec_applyComparisonDone_passed (hc : a.comparing = true) (hr : s.compareRefused old a.img = false) :
    let changed := s.changedComps old a.img
    let t := s.wf F.STD_APPLY_STAT_total changed.length
    exec .applyComparisonDone s = .next (t.wakeForApply.setApply (some (t.orderMore
      { a with comparing := false, changed := changed, placement := changed.filter (s.placementChange old a.img) }))) := by
  rw [exec_applyComparisonDone, execApplyComparisonDone, ha, ho]
  exact congrArg _ ((if_neg (by simp [hc])).trans (if_neg (Bool.eq_false_iff.mp hr)))

variable {comp : Nat}

theorem exec_compartmentQuiet_inFlight (hq : s.compInFlight comp ≠ 0) : exec (.compartmentQuiet comp) s = .next s := by
  rw [exec_compartmentQuiet, execCompartmentQuiet, ha, ho]
  exact congrArg _ (if_pos hq)

variable (hq : s.compInFlight comp = 0)
include hq

/-- While rolling back, the compartment that switched last switches back, and no other. -/
theorem exec_compartmentQuiet_rolling (hr : a.rolling = true) :
    exec (.compartmentQuiet comp) s = .next (if a.switched.getLast? = some comp then s.switchBack a old comp else s) := by
  rw [exec_compartmentQuiet, execCompartmentQuiet, ha, ho]
  exact congrArg _ ((if_neg (not_not_intro hq)).trans (if_pos hr))

variable (hr : a.rolling = false)
include hr

theorem exec_compartmentQuiet_unordered (h : a.ordered.contains comp = false ∨ a.switched.contains comp = true) : exec (.compartmentQuiet comp) s = .next s := by
  rw [exec_compartmentQuiet, execCompartmentQuiet, ha, ho]
  exact congrArg _ ((if_neg (not_not_intro hq)).trans ((if_neg (Bool.eq_false_iff.mp hr)).trans (if_pos (by simpa using h))))

/-- An ordered compartment fails or switches. -/
theorem exec_compartmentQuiet_ordered (h : a.ordered.contains comp = true) (hs : a.switched.contains comp = false) : exec (.compartmentQuiet comp) s =
    .next (if a.placement.contains comp && !s.compEmpty comp then s.failApply 6 comp 0
      else match s.refuser a.img comp with | some t => s.failApply 4 comp t | none => s.switchComp a old comp) := by
  rw [exec_compartmentQuiet, execCompartmentQuiet, ha, ho]
  exact congrArg _ ((if_neg (not_not_intro hq)).trans ((if_neg (Bool.eq_false_iff.mp hr)).trans (if_neg (by rw [h, hs]; decide))))

end

/-! ## The times of a switch order (R114, R117) -/

section
variable {comp : Nat}

theorem exec_quietWaitExpire_apply : exec (.quietWaitExpire comp) s =
    .next (if a.ordering comp && !thas a.forced comp then s.setApply (some { a with forced := a.forced ++ [(comp, s.fine)] }) else s) := by
  rw [exec_quietWaitExpire, execQuietWaitExpire, ha]

theorem exec_forcedHoldExpire_apply : exec (.forcedHoldExpire comp) s = .next (if a.ordering comp && thas a.forced comp then s.failApply 1 comp 0 else s) := by
  rw [exec_forcedHoldExpire, execForcedHoldExpire, ha]

theorem exec_switchDeadlineExpire_apply : exec (.switchDeadlineExpire comp) s = .next (if a.ordering comp then s.failApply 2 comp 0 else s) := by
  rw [exec_switchDeadlineExpire, execSwitchDeadlineExpire, ha]

end

/-! ## The commit (R108, R112; log 77) -/

theorem exec_applyCommit_switched (hc : a.comparing = false) (hr : a.rolling = false) (hm : a.committing = false) (hs : a.switched.length = a.changed.length) :
    exec .applyCommit s = .next (((s.setApply (some { a with committing := true })).sections a.img).beginRecord (s.commitRec a.isReturn)) := by
  rw [exec_applyCommit, execApplyCommit, ha]
  exact congrArg _ (if_neg (by simp [hc, hr, hm, hs]))

theorem exec_applyCommitDone_committing (hm : a.committing = true) :
    let t := (((s.applyOver a).commitRecord a.isReturn).commitEffects s.activeSlotImg a.img).wf F.STD_APPLY_STAT_outcome 1
    exec .applyCommitDone s = .next ((if a.isReturn then t else t.stdState 0).imageEvent s.epochActive a.img.epoch 0 1 0) := by
  rw [exec_applyCommitDone, execApplyCommitDone, ha]
  exact congrArg _ (if_neg (by simp [hm]))

end

/-! ## The check at resume (R83, R106, R109; log 151) -/

section
variable {s : State}

theorem exec_standImageResumeCheck_done (h : s.clocks.imageChecked = true ∨ s.wardenUp = false) : exec .standImageResumeCheck s = .next s := by
  rw [exec_standImageResumeCheck, execStandImageResumeCheck]
  exact congrArg _ (if_pos (by simpa using h))

/-- The newest slot record is taken, once. -/
def State.resumeRecord (s : State) : State := { s.newestRecord with clocks := { s.clocks with imageChecked := true } }

variable (hc : s.clocks.imageChecked = false) (hw : s.wardenUp = true)
include hc hw

theorem exec_standImageResumeCheck_romOnly (hf : s.resumeRecord.rb F.WDN_FW_STAT_rom_only = true) :
    exec .standImageResumeCheck s = .next { s.resumeRecord with active := none } := by
  rw [exec_standImageResumeCheck, execStandImageResumeCheck]
  exact congrArg _ ((if_neg (by simp [hc, hw])).trans (if_pos hf))

/-- The Active image is checked; then the mark acts, and is cleared. -/
theorem exec_standImageResumeCheck_checked (hf : s.resumeRecord.rb F.WDN_FW_STAT_rom_only = false) :
    let t := s.resumeRecord.resumeActive
    let r := t.resumeResult
    let u := t.setMark false
    exec .standImageResumeCheck s =
      .next (if !s.resumeRecord.img.mark then u else if r.1 = 0 then u.resumeMarked r.2.2 else u.imageRefused u.epochStaged r.1 r.2.1) := by
  rw [exec_standImageResumeCheck, execStandImageResumeCheck]
  exact congrArg _ ((if_neg (by simp [hc, hw])).trans (if_neg (Bool.eq_false_iff.mp hf)))

end

/-- Settles O29: each event by what stands of the apply, the order or the commit; the resume check by the firmware and the mark. -/
theorem applyStepsTakeEffect : Obligations.ApplyStepsTakeEffect := by
  unfold Obligations.ApplyStepsTakeEffect
  intro s comp
  refine ⟨fun a old ⟨ha, ho⟩ => ⟨fun hc => ⟨exec_applyComparisonDone_refused ha ho hc, exec_applyComparisonDone_passed ha ho hc⟩, fun hq => ?_,
      exec_compartmentQuiet_inFlight ha ho, exec_applyComparisonDone_over ha ho⟩, exec_noApply comp, exec_unordered, exec_applyCommit_early,
    exec_applyCommitDone_early, fun a ha => ?_, exec_standImageResumeCheck_done, fun ⟨hc, hw⟩ => ?_⟩
  · exact ⟨fun ⟨hr, hl⟩ => (exec_compartmentQuiet_rolling ha ho hq hr).trans (congrArg _ (if_pos hl)),
      fun ⟨hr, h, hs⟩ => exec_compartmentQuiet_ordered ha ho hq hr h hs,
      fun ⟨hr, hl⟩ => (exec_compartmentQuiet_rolling ha ho hq hr).trans (congrArg _ (if_neg hl)),
      fun ⟨hr, h⟩ => exec_compartmentQuiet_unordered ha ho hq hr h⟩
  · rw [exec_quietWaitExpire_apply ha, exec_forcedHoldExpire_apply ha, exec_switchDeadlineExpire_apply ha]
    refine ⟨fun ⟨h, hf⟩ => ?_, fun ⟨h, hf⟩ => ?_, fun hf => ?_, fun h => congrArg _ (if_pos h),
      fun ⟨hc, hr, hm, hs⟩ => exec_applyCommit_switched ha hc hr hm hs, exec_applyCommitDone_committing ha⟩
    · rw [h, hf]; rfl
    · rw [h, hf]; exact ⟨rfl, rfl⟩
    · rw [hf, Bool.and_false]; rfl
  · refine ⟨exec_standImageResumeCheck_romOnly hc hw, fun hf => ?_⟩
    have checked := exec_standImageResumeCheck_checked hc hw hf
    exact ⟨fun hm => checked.trans (congrArg _ (if_pos (congrArg not hm))),
      fun ⟨hm, hr⟩ => checked.trans (congrArg _ ((if_neg (ne_true_of_eq_false (congrArg not hm))).trans (if_pos hr))),
      fun ⟨hm, hr⟩ => checked.trans (congrArg _ ((if_neg (ne_true_of_eq_false (congrArg not hm))).trans (if_neg hr)))⟩

end Sys2Proof.Machine
end

section
/-! PROOFS. Keyed-access queues (04): queue pairs, doorbells, descriptors and completions. -/
namespace Sys2Proof.Machine

/-! ## The commands' meanings: keyed-access queues -/

theorem exec_createQueuePair (iface ld : Nat) (b : Bytes) (s : State) : exec (.createQueuePair iface ld b) s = execCreateQueuePair iface ld b s := rfl
theorem exec_deleteQueuePair (iface ld : Nat) (b : Bytes) (s : State) : exec (.deleteQueuePair iface ld b) s = execDeleteQueuePair iface ld b s := rfl
theorem exec_getQueuePairStatus (iface ld : Nat) (b : Bytes) (s : State) :
    exec (.getQueuePairStatus iface ld b) s = execGetQueuePairStatus iface ld b s := rfl
theorem exec_sqTailDoorbell (iface ld queue value : Nat) (s : State) :
    exec (.sqTailDoorbell iface ld queue value) s = execSqTailDoorbell iface ld queue value s := rfl
theorem exec_cqHeadDoorbell (iface ld queue value : Nat) (s : State) :
    exec (.cqHeadDoorbell iface ld queue value) s = execCqHeadDoorbell iface ld queue value s := rfl
theorem exec_descriptorFetchDone (queue : Nat) (b : Bytes) (ok : Bool) (s : State) :
    exec (.descriptorFetchDone queue b ok) s = execDescriptorFetchDone queue b ok s := rfl
theorem exec_copy (queue desc : Nat) (srcUpsets upsets : List Upset) (s : State) :
    exec (.copy queue desc srcUpsets upsets) s = execCopy queue desc srcUpsets upsets s := rfl
theorem exec_fill (queue desc : Nat) (upsets : List Upset) (s : State) : exec (.fill queue desc upsets) s = .next (s.fillNext queue desc 2 upsets Desc.filled) := rfl
theorem exec_clear (queue desc : Nat) (s : State) : exec (.clear queue desc) s = .next (s.fillNext queue desc 3 [] (fun _ => 0)) := rfl
theorem exec_discard (queue desc : Nat) (s : State) : exec (.discard queue desc) s = execDiscard queue desc s := rfl
theorem exec_queueCompletionPost (queue desc : Nat) (s : State) : exec (.queueCompletionPost queue desc) s = execQueueCompletionPost queue desc s := rfl

/-! ## Queue pairs (R145, R151, R154) -/

/-- An input that makes a queue pair: a free number, and fields R145 allows. -/
def State.makesPair (s : State) (b : Bytes) : Prop :=
  b.length = 32 ∧ getLe b 0 2 < 4096 ∧ s.queue (getLe b 0 2) = none ∧ 4 ≤ getLe b 2 1 ∧ getLe b 2 1 ≤ 12 ∧ getLe b 8 8 % 4096 = 0 ∧
    getLe b 16 8 % 4096 = 0 ∧ getLe b 4 2 < 2048 ∧ getLe b 3 1 ≤ 1 ∧ allZero (slice b 6 2) = true ∧ allZero (slice b 24 8) = true

theorem State.not_makesPair_iff {s : State} {b : Bytes} : ¬ s.makesPair b ↔
    b.length ≠ 32 ∨ 4096 ≤ getLe b 0 2 ∨ (s.queue (getLe b 0 2)).isSome ∨ getLe b 2 1 < 4 ∨ 12 < getLe b 2 1 ∨ getLe b 8 8 % 4096 ≠ 0 ∨
      getLe b 16 8 % 4096 ≠ 0 ∨ 2048 ≤ getLe b 4 2 ∨ 1 < getLe b 3 1 ∨ !allZero (slice b 6 2) ∨ !allZero (slice b 24 8) := by
  simp only [State.makesPair, not_and_or, not_lt, not_le, ← Option.not_isSome_iff_eq_none, Bool.not_eq_true, Bool.not_eq_false, Bool.not_eq_true', ne_eq]

/-- An input that deletes a queue pair of the requester's. -/
def Queue.deletedBy (x : Queue) (iface ld : Nat) (b : Bytes) : Prop := b.length = 4 ∧ getLe b 2 1 ≤ 1 ∧ allZero (slice b 3 1) = true ∧ x.port = iface ∧ x.ld = ld

theorem Queue.not_deletedBy_iff {x : Queue} {iface ld : Nat} {b : Bytes} : ¬ x.deletedBy iface ld b ↔
    b.length ≠ 4 ∨ 1 < getLe b 2 1 ∨ !allZero (slice b 3 1) ∨ x.port ≠ iface ∨ x.ld ≠ ld := by
  simp only [Queue.deletedBy, not_and_or, not_le, Bool.not_eq_true, Bool.not_eq_true', ne_eq]

section
variable {s : State} {iface ld : Nat} {b : Bytes} (h : s.hears iface ld = true) (hr : (s.heard iface).holds iface .queue = true)
include h hr

theorem exec_createQueuePair_made (ok : (s.heard iface).makesPair b) : exec (.createQueuePair iface ld b) s =
    .next (s.answers iface ld 0xC000 ⟨.success, [], (s.heard iface).putQueue (getLe b 0 2)
      ⟨iface, ld, getLe b 2 1, getLe b 3 1 == 1, getLe b 4 2, getLe b 8 8, getLe b 16 8, 0, 0, 0, 0, true, false, [], 0, none, false, [], 0⟩⟩) := by
  rw [exec_createQueuePair, execCreateQueuePair]
  exact congrArg _ (State.command_answers h hr (if_neg (mt State.not_makesPair_iff.mpr (not_not_intro ok))))

theorem exec_createQueuePair_refused (no : ¬ (s.heard iface).makesPair b) :
    exec (.createQueuePair iface ld b) s = .next (s.answers iface ld 0xC000 ⟨.invalidInput, [], s.heard iface⟩) := by
  rw [exec_createQueuePair, execCreateQueuePair]
  exact congrArg _ (State.command_answers h hr (if_pos (State.not_makesPair_iff.mp no)))

/-- A number without a pair: nothing to delete or show. -/
theorem exec_queuePair_absent (hx : (s.heard iface).queue (getLe b 0 2) = none) :
    exec (.deleteQueuePair iface ld b) s = .next (s.answers iface ld 0xC001 ⟨.invalidInput, [], s.heard iface⟩) ∧
    exec (.getQueuePairStatus iface ld b) s = .next (s.answers iface ld 0xC002 ⟨.invalidInput, [], s.heard iface⟩) := by
  rw [exec_deleteQueuePair, execDeleteQueuePair, exec_getQueuePairStatus, execGetQueuePairStatus]
  exact ⟨congrArg _ (State.command_answers h hr (by simp only [hx, answer])), congrArg _ (State.command_answers h hr (by simp only [hx, answer]))⟩

variable {x : Queue} (hx : (s.heard iface).queue (getLe b 0 2) = some x)
include hx

theorem exec_deleteQueuePair_deleted (ok : x.deletedBy iface ld b) :
    let y : Queue := { x with deleting := true, fetching := false, descs := x.descs.map (fun d => if getLe b 2 1 == 1 then d.aborted else d) }
    exec (.deleteQueuePair iface ld b) s = .next (s.answers iface ld 0xC001
      ⟨.success, [], (((s.heard iface).putQueue (getLe b 0 2) y).freeQueue (getLe b 0 2)).fetchRound (getLe b 0 2)⟩) := by
  rw [exec_deleteQueuePair, execDeleteQueuePair]
  exact congrArg _ (State.command_answers h hr (by
    simp only [hx, if_neg (mt Queue.not_deletedBy_iff.mpr (not_not_intro ok)), answer]))

theorem exec_deleteQueuePair_refused (no : ¬ x.deletedBy iface ld b) :
    exec (.deleteQueuePair iface ld b) s = .next (s.answers iface ld 0xC001 ⟨.invalidInput, [], s.heard iface⟩) := by
  rw [exec_deleteQueuePair, execDeleteQueuePair]
  exact congrArg _ (State.command_answers h hr (by simp only [hx, if_pos (Queue.not_deletedBy_iff.mp no), answer]))

theorem exec_getQueuePairStatus_own (hp : x.port = iface ∧ x.ld = ld) : exec (.getQueuePairStatus iface ld b) s =
    .next (s.answers iface ld 0xC002 ⟨.success, le 1 (if x.error.isSome then 2 else b2n x.deleting) ++ le 8 (x.error.getD 0) ++ le 4 x.lastBad, s.heard iface⟩) := by
  rw [exec_getQueuePairStatus, execGetQueuePairStatus]
  exact congrArg _ (State.command_answers h hr (by simp only [hx, if_neg (mt not_and_or.mpr (not_not_intro hp))]))

theorem exec_getQueuePairStatus_other (hp : ¬ (x.port = iface ∧ x.ld = ld)) :
    exec (.getQueuePairStatus iface ld b) s = .next (s.answers iface ld 0xC002 ⟨.invalidInput, [], s.heard iface⟩) := by
  rw [exec_getQueuePairStatus, execGetQueuePairStatus]
  exact congrArg _ (State.command_answers h hr (by simp only [hx, if_pos (not_and_or.mp hp), answer]))

end

/-! ## Doorbells (R153, R154) -/

section
variable {s : State} {iface ld queue : Nat} (value : Nat)

theorem exec_doorbells_insecure (h : s.ioInsecure iface ld = true) :
    exec (.sqTailDoorbell iface ld queue value) s = .next (s.discardIo iface ld) ∧ exec (.cqHeadDoorbell iface ld queue value) s = .next (s.discardIo iface ld) := by
  rw [exec_sqTailDoorbell, execSqTailDoorbell, exec_cqHeadDoorbell, execCqHeadDoorbell, if_pos h, if_pos h]
  exact ⟨rfl, rfl⟩

variable (h : s.ioInsecure iface ld = false)
include h

theorem exec_doorbells_absent (hx : s.queue queue = none) :
    exec (.sqTailDoorbell iface ld queue value) s = .next s ∧ exec (.cqHeadDoorbell iface ld queue value) s = .next s := by
  rw [exec_sqTailDoorbell, execSqTailDoorbell, exec_cqHeadDoorbell, execCqHeadDoorbell, h, hx]
  exact ⟨rfl, rfl⟩

variable {x : Queue} (hx : s.queue queue = some x)
include hx

theorem exec_doorbells_own (hp : x.port = iface ∧ x.ld = ld) :
    exec (.sqTailDoorbell iface ld queue value) s = .next ((s.putQueue queue { x with tail := value % x.entries }).fetchNext queue) ∧
    exec (.cqHeadDoorbell iface ld queue value) s = .next (s.putQueue queue { x with cqHead := value % x.entries }) := by
  rw [exec_sqTailDoorbell, execSqTailDoorbell, exec_cqHeadDoorbell, execCqHeadDoorbell, h, hx]
  exact ⟨congrArg _ (if_pos hp), congrArg _ (if_pos hp)⟩

theorem exec_doorbells_other (hp : ¬ (x.port = iface ∧ x.ld = ld)) :
    exec (.sqTailDoorbell iface ld queue value) s = .next s ∧ exec (.cqHeadDoorbell iface ld queue value) s = .next s := by
  rw [exec_sqTailDoorbell, execSqTailDoorbell, exec_cqHeadDoorbell, execCqHeadDoorbell, h, hx]
  exact ⟨congrArg _ (if_neg hp), congrArg _ (if_neg hp)⟩

end

/-! ## Descriptors fetched (R147, R154) -/

section
variable {s : State} {queue : Nat} (b : Bytes)

theorem exec_descriptorFetchDone_absent (ok : Bool) (hx : s.queue queue = none) : exec (.descriptorFetchDone queue b ok) s = .next s := by
  rw [exec_descriptorFetchDone, execDescriptorFetchDone, hx]

variable {x : Queue} (hx : s.queue queue = some x)
include hx

theorem exec_descriptorFetchDone_idle (ok : Bool) (hf : x.fetching = false) : exec (.descriptorFetchDone queue b ok) s = .next s := by
  rw [exec_descriptorFetchDone, execDescriptorFetchDone, hx]
  exact congrArg _ (if_pos (by rw [hf]; rfl))

variable (hf : x.fetching = true)
include hf

theorem exec_descriptorFetchDone_failed : exec (.descriptorFetchDone queue b false) s =
    .next ((s.putQueue queue { x with fetching := false, error := some (x.sq + 64 * x.head) }).fetchRound queue) := by
  rw [exec_descriptorFetchDone, execDescriptorFetchDone, hx]
  exact congrArg _ ((if_neg (by rw [hf]; decide)).trans (if_pos rfl))

/-- The descriptor is taken with the status its checks give it. -/
theorem exec_descriptorFetchDone_taken :
    let head := (x.head + 1) % x.entries
    let d := parseDesc (fit 64 b) x.next head
    let e := { d with status := s.descCheck x (fit 64 b) d }
    let t := s.putQueue queue { x with fetching := false, head := head, next := x.next + 1, descs := x.descs ++ [e] }
    exec (.descriptorFetchDone queue b true) s = .next ((t.countHub 29 ((t.rangeComp x e.dst e.len).map Comp.id).toList).fetchRound queue) := by
  rw [exec_descriptorFetchDone, execDescriptorFetchDone, hx]
  exact congrArg _ ((if_neg (by rw [hf]; decide)).trans (if_neg (by decide)))

end

/-! ## Execution (R148, R151; log 33) -/

section
variable {s : State} {queue desc : Nat} (srcUpsets upsets : List Upset)

theorem State.fillNext_idle {op : Nat} (v : Desc → HostLine) (h : s.running queue desc op = none) : s.fillNext queue desc op upsets v = s := by
  rw [State.fillNext, h]

theorem exec_copy_idle (h : s.running queue desc 1 = none) : exec (.copy queue desc srcUpsets upsets) s = .next s := by
  rw [exec_copy, execCopy, h]

theorem exec_discard_idle (h : s.running queue desc 4 = none) : exec (.discard queue desc) s = .next s := by
  rw [exec_discard, execDiscard, h]

variable {x : Queue} {d : Desc} {c : Comp} {r : LeafRef}

section
variable {op : Nat} (v : Desc → HostLine) (h : s.running queue desc op = some (x, d))
include h

theorem State.fillNext_unserved (hn : s.rangeComp x d.dst d.len = none ∨ s.leafOfLine (d.dst / 64 + d.done) = none) :
    s.fillNext queue desc op upsets v = s.putDesc queue d.aborted := by
  simp only [State.fillNext, h]
  split
  · next c r hc hl => simp [hc, hl] at hn
  · rfl

theorem State.fillNext_served (hc : s.rangeComp x d.dst d.len = some c) (hl : s.leafOfLine (d.dst / 64 + d.done) = some r) :
    s.fillNext queue desc op upsets v = if s.destReady c r (d.dst / 64 + d.done)
      then (s.meetAt (d.dst / 64 + d.done) 3 c r upsets).descWrite queue d c r (d.dst / 64 + d.done) (v d) else s := by
  simp only [State.fillNext, h, hc, hl]

end

section
variable (h : s.running queue desc 1 = some (x, d))
include h

theorem exec_copy_unserved (hn : s.rangeComp x d.dst d.len = none ∨ s.rangeComp x d.src d.len = none ∨
    s.leafOfLine (d.dst / 64 + d.done) = none ∨ s.leafOfLine (d.src / 64 + d.done) = none) :
    exec (.copy queue desc srcUpsets upsets) s = .next (s.putDesc queue d.aborted) := by
  simp only [exec_copy, execCopy, h]
  split
  · next c e r f hc he hl hf => simp [hc, he, hl, hf] at hn
  · rfl

theorem exec_copy_served {e : Comp} {f : LeafRef} (hc : s.rangeComp x d.dst d.len = some c) (he : s.rangeComp x d.src d.len = some e)
    (hl : s.leafOfLine (d.dst / 64 + d.done) = some r) (hf : s.leafOfLine (d.src / 64 + d.done) = some f) :
    let line := d.dst / 64 + d.done
    let read := d.src / 64 + d.done
    exec (.copy queue desc srcUpsets upsets) s = .next (if s.destReady c r line && !s.compHeld e.id && !s.lineHeld read
      then ((s.meetAt read 3 e f srcUpsets).meetAt line 3 c r upsets).copyFrom queue d c e r f line read else s) := by
  simp only [exec_copy, execCopy, h, hc, he, hl, hf]

end

variable (h : s.running queue desc 4 = some (x, d))
include h

theorem exec_discard_unserved (hn : s.rangeComp x d.dst d.len = none ∨ s.leafOfLine (d.dst / 64 + 64 * d.done) = none) :
    exec (.discard queue desc) s = .next (s.putDesc queue d.aborted) := by
  simp only [exec_discard, execDiscard, h]
  split
  · next c r hc hl => simp [hc, hl] at hn
  · rfl

theorem exec_discard_served (hc : s.rangeComp x d.dst d.len = some c) (hl : s.leafOfLine (d.dst / 64 + 64 * d.done) = some r) :
    exec (.discard queue desc) s = .next (if s.readOnly then s.lineFailed queue d
      else if s.compHeld c.id || s.reqs.any (fun q => q.atTile && q.line / 64 == d.dst / 4096 + d.done) then s
      else (s.discardLeaf r).lineDone queue d c.id) := by
  simp only [exec_discard, execDiscard, h, hc, hl]

end

/-! ## Completions (R154) -/

/-- The descriptor ended first, the completion queue has room, and no flush has stopped the engine. -/
def State.posts (s : State) (x : Queue) (desc : Nat) : Prop :=
  s.power.flushing = false ∧ x.ended.head? = some desc ∧ ((x.cqTail + 1) % x.entries == x.cqHead) = false
/-- The descriptor of a number, once it has ended. -/
def Queue.endedDesc (x : Queue) (desc : Nat) : Option Desc := x.descs.find? (fun d => d.num == desc && d.status.isSome)
/-- The completion could not be written: the queue is in Error at its address, and one that is being deleted drops the descriptor. -/
def Queue.completionLost (x : Queue) (desc : Nat) : Queue :=
  { x with error := some (x.error.getD (x.cq + 16 * x.cqTail)), descs := if x.deleting then x.descs.filter (fun e => e.num != desc) else x.descs }
/-- The completion is written: the tail moves on, the phase turns where it wraps, and the descriptor is gone. -/
def Queue.completionSent (x : Queue) (desc : Nat) (d : Desc) : Queue :=
  let next := (x.cqTail + 1) % x.entries
  { x with
    cqTail := next, phase := if next = 0 then !x.phase else x.phase, descs := x.descs.filter (fun e => e.num != desc)
    lastBad := if d.status == some 6 then d.bad else x.lastBad }

section
variable {s : State} {queue desc : Nat}

theorem exec_queueCompletionPost_absent (hx : s.queue queue = none) : exec (.queueCompletionPost queue desc) s = .next s := by
  rw [exec_queueCompletionPost, execQueueCompletionPost, hx]

variable {x : Queue} (hx : s.queue queue = some x)
include hx

theorem exec_queueCompletionPost_idle (h : ¬ s.posts x desc ∨ x.endedDesc desc = none) : exec (.queueCompletionPost queue desc) s = .next s := by
  rw [exec_queueCompletionPost, execQueueCompletionPost, hx]
  by_cases hg : (s.power.flushing || x.ended.head? != some desc) = true
  · simp only [if_pos hg]
  · simp only [if_neg hg]
    split
    · rfl
    · next d hd =>
      simp only [Bool.or_eq_true, bne_iff_ne, not_or, Bool.not_eq_true, not_not] at hg
      have full := Bool.eq_true_of_not_eq_false fun hn => (h.resolve_right (Option.ne_none_iff_exists'.mpr ⟨d, hd⟩)) ⟨hg.1, hg.2, hn⟩
      exact congrArg _ (if_pos full)

variable {d : Desc} (h : s.posts x desc) (hd : x.endedDesc desc = some d)
include h hd

/-- The descriptor that ended first: its link is down, or its completion goes out. -/
theorem exec_queueCompletionPost_posts : exec (.queueCompletionPost queue desc) s = .next (
    if !(s.link x.port (s.linkOf x.port x.ld)).up then (s.putQueue queue (x.completionLost desc)).freeQueue queue
    else
      let t := s.putQueue queue (x.completionSent desc d)
      let u := (if d.status == some 0 then t else t.countHub 30 []).send (.dmaWrite x.port (x.cq + 16 * x.cqTail) (d.completion queue x.phase))
      ((if x.irq && d.interrupt then u.msix x.port x.ld x.vector else u).freeQueue queue).fetchRound queue) := by
  obtain ⟨hfl, hh, hn⟩ := h
  have hg : ¬(s.power.flushing || x.ended.head? != some desc) = true := by simp [hfl, hh]
  rw [Queue.endedDesc] at hd
  rw [exec_queueCompletionPost, execQueueCompletionPost, hx]
  simp only [if_neg hg, hd]
  exact congrArg _ (if_neg (Bool.eq_false_iff.mp hn))

end

/-- Settles O30: the pair commands by their input, doorbells and fetches by the pair they find, execution by what serves its range
and lines, completions by `State.posts`. -/
theorem queueCommandsTakeEffect : Obligations.QueueCommandsTakeEffect := by
  unfold Obligations.QueueCommandsTakeEffect
  intro s iface ld queue desc value b srcUpsets upsets h say id
  refine ⟨fun ⟨hh, hr⟩ => ⟨⟨exec_createQueuePair_made hh hr, exec_createQueuePair_refused hh hr⟩, fun x hx => ?_, exec_queuePair_absent hh hr⟩,
    exec_doorbells_insecure value, fun hx => ?_,
    fun x hx => ⟨fun ⟨hs, hp⟩ => exec_doorbells_own value hs hx hp, fun ⟨hs, hp⟩ => exec_doorbells_other value hs hx hp, fun hf => ?_, fun hf => ?_, ?_⟩, ?_,
    fun op x d hrun => ⟨fun c r ⟨hc, hl⟩ => ⟨?_, ?_, ?_⟩, fun hn => ⟨?_, ?_, ?_⟩, ?_, ?_, ?_⟩⟩
  · exact ⟨exec_deleteQueuePair_deleted hh hr hx, exec_deleteQueuePair_refused hh hr hx, exec_getQueuePairStatus_own hh hr hx,
      exec_getQueuePairStatus_other hh hr hx⟩
  · exact ⟨fun hs => exec_doorbells_absent value hs hx, exec_descriptorFetchDone_absent b true hx, exec_descriptorFetchDone_absent b false hx,
      exec_queueCompletionPost_absent hx⟩
  · exact ⟨exec_descriptorFetchDone_idle b hx true hf, exec_descriptorFetchDone_idle b hx false hf⟩
  · exact ⟨exec_descriptorFetchDone_failed b hx hf, exec_descriptorFetchDone_taken b hx hf⟩
  · refine ⟨exec_queueCompletionPost_idle hx, fun d ⟨hp, hd⟩ => ⟨fun hl => ?_, fun hl => ?_⟩⟩
    · exact (exec_queueCompletionPost_posts hx hp hd).trans (congrArg _ (if_pos (by rw [hl]; rfl)))
    · exact (exec_queueCompletionPost_posts hx hp hd).trans (congrArg _ (if_neg (by rw [hl]; decide)))
  · exact ⟨exec_copy_idle srcUpsets upsets, fun h => congrArg _ (State.fillNext_idle upsets _ h), fun h => congrArg _ (State.fillNext_idle [] _ h),
      exec_discard_idle⟩
  · rintro e f ⟨rfl, he, hf⟩
    exact exec_copy_served srcUpsets upsets hrun hc he hl hf
  · rintro rfl
    exact congrArg _ (State.fillNext_served upsets _ hrun hc hl)
  · rintro rfl
    exact congrArg _ (State.fillNext_served [] _ hrun hc hl)
  · rintro rfl
    exact exec_copy_unserved srcUpsets upsets hrun (hn.elim .inl (.inr ∘ .inr ∘ .inl))
  · rintro rfl
    exact congrArg _ (State.fillNext_unserved upsets _ hrun hn)
  · rintro rfl
    exact congrArg _ (State.fillNext_unserved [] _ hrun hn)
  · rintro ⟨rfl, hn⟩
    exact exec_copy_unserved srcUpsets upsets hrun (hn.elim (.inr ∘ .inl) (.inr ∘ .inr ∘ .inr))
  · rintro ⟨rfl, hn⟩
    exact exec_discard_unserved hrun hn
  · rintro c r ⟨rfl, hc, hl⟩
    exact exec_discard_served hrun hc hl

end Sys2Proof.Machine
end

section
/-! PROOFS. Host links and host requests (04): arrival of CXL.mem requests; link training, IDE, configuration space and DOE; the FM API. -/
namespace Sys2Proof.Machine

/-! ## The commands' meanings: host links -/

theorem exec_cxlMemRead (port ld tag hpa : Nat) (upsets : List Upset) (s : State) :
    exec (.cxlMemRead port ld tag hpa upsets) s = .next (s.arrive .read port ld tag hpa 0 0 upsets) := rfl
theorem exec_cxlMemWrite (port ld tag hpa : Nat) (data : HostLine) (upsets : List Upset) (s : State) :
    exec (.cxlMemWrite port ld tag hpa data upsets) s = .next (s.arrive .write port ld tag hpa data 0 upsets) := rfl
theorem exec_cxlMemPartialWrite (port ld tag hpa : Nat) (data : HostLine) (enables : Nat) (upsets : List Upset) (s : State) :
    exec (.cxlMemPartialWrite port ld tag hpa data enables upsets) s = .next (s.arrive .partialWrite port ld tag hpa data enables upsets) := rfl
theorem exec_hostLinkTrained (port link rate width : Nat) (s : State) :
    exec (.hostLinkTrained port link rate width) s = execHostLinkTrained port link rate width s := rfl
theorem exec_ideKeyProgram (port link stream : Nat) (key : Bytes) (s : State) :
    exec (.ideKeyProgram port link stream key) s = execIdeKeyProgram port link stream key s := rfl
theorem exec_ideIntegrityFail (port link stream : Nat) (s : State) : exec (.ideIntegrityFail port link stream) s = execIdeIntegrityFail port link stream s := rfl
theorem exec_hostLinkL1Entry (port link : Nat) (s : State) : exec (.hostLinkL1Entry port link) s = execHostLinkL1Entry port link s := rfl
theorem exec_configRequest (port ld offset value : Nat) (write : Bool) (s : State) :
    exec (.configRequest port ld offset write value) s = execConfigRequest port ld offset write value s := rfl
theorem exec_cdatRead (port ld handle : Nat) (s : State) : exec (.cdatRead port ld handle) s = execCdatRead port ld handle s := rfl
theorem exec_spdmRequest (port ld : Nat) (request : Bytes) (s : State) : exec (.spdmRequest port ld request) s = execSpdmRequest port ld request s := rfl
theorem exec_getLdInfo (port link : Nat) (s : State) : exec (.getLdInfo port link) s = execGetLdInfo port link s := rfl
theorem exec_getLdAllocations (port link : Nat) (b : Bytes) (s : State) : exec (.getLdAllocations port link b) s = execGetLdAllocations port link b s := rfl
theorem exec_setLdAllocations (port link : Nat) (b : Bytes) (s : State) : exec (.setLdAllocations port link b) s = execSetLdAllocations port link b s := rfl

/-! ## Requests arrive (R129, R130, R134, R159, R191, R192) -/

/-- The device address a request goes to: decoded by the HDM decoders, or the host's own. -/
def State.requestDpa (s : State) (port ld hpa : Nat) : Nat := (s.hdmDecode port ld hpa).getD hpa
/-- The compartment a request goes to: one its logical device sees, at the decoded address. -/
def State.requestComp (s : State) (port ld hpa : Nat) : Option Comp :=
  if (s.hdmDecode port ld hpa).isNone then none
  else ((s.linkAwake port ld).visibleTo port ld).find? (fun c => decide (c.lo ≤ s.requestDpa port ld hpa ∧ s.requestDpa port ld hpa < c.hi))

section
variable {s : State} {port ld : Nat} (kind : ReqKind) (tag hpa : Nat) (data : HostLine) (enables : Nat) (upsets : List Upset)

theorem State.arrive_closed (ho : s.portOpen port ld = false) : s.arrive kind port ld tag hpa data enables upsets = s := if_pos (by rw [ho]; rfl)

variable (ho : s.portOpen port ld = true)
include ho

theorem State.arrive_insecure (hi : s.insecure port ld = true) : s.arrive kind port ld tag hpa data enables upsets =
    s.emit (0x10 + port) 0x0800 (portLink port (s.linkOf port ld) ++ le 1 0) :=
  (if_neg (by rw [ho]; decide)).trans (if_pos hi)

variable (hi : s.insecure port ld = false)
include hi

theorem State.arrive_mapped {c : Comp} (hc : s.requestComp port ld hpa = some c) :
    s.arrive kind port ld tag hpa data enables upsets =
      let r := ((s.linkAwake port ld).countHub ((if kind == .read then 5 else 9) + port) [c.id]).takeReq kind port ld tag (s.requestDpa port ld hpa / 64) data enables c
      (r.1.meetUpsets r.2 c upsets).startReq r.2 := by
  refine (if_neg (by rw [ho]; decide)).trans ((if_neg (by rw [hi]; decide)).trans ?_)
  dsimp only
  split
  · next h => cases h.symm.trans hc
  · next d h => cases h.symm.trans hc; rw [h]; rfl

/-- An unmapped request is counted and noted; then a read is answered with poisoned data, a write noted as failed and completed with an error. -/
theorem State.arrive_unmapped (hc : s.requestComp port ld hpa = none) : s.arrive kind port ld tag hpa data enables upsets =
    let t := ((s.linkAwake port ld).countHub ((if kind == .read then 5 else 9) + port) []).noteUnmapped port ld (s.requestDpa port ld hpa / 64)
    if kind == .read then (t.countHub (17 + port)).send (.hostData port ld tag 0 true)
    else (t.noteWriteFail port ld (s.requestDpa port ld hpa / 64) 5 none).send (.hostCmp port ld tag true) := by
  refine (if_neg (by rw [ho]; decide)).trans ((if_neg (by rw [hi]; decide)).trans ?_)
  dsimp only
  split
  · next h => rw [h]; rfl
  · next c h => cases h.symm.trans hc

end

/-- Settles O8: the three requests arrive alike; the port, the link and the compartment decide how. -/
theorem hostMemoryRequestsArrive : Obligations.HostMemoryRequestsArrive := by
  unfold Obligations.HostMemoryRequestsArrive
  intro s port ld tag hpa enables data upsets dec dpa t at_ failed started
  refine ⟨fun ⟨ho, hi⟩ c hc => ?_, fun ⟨ho, hi⟩ hc => ?_, fun ho => ?_, fun ⟨ho, hi⟩ => ?_, rfl⟩
  · exact ⟨congrArg _ (State.arrive_mapped _ _ _ _ _ _ ho hi hc), congrArg _ (State.arrive_mapped _ _ _ _ _ _ ho hi hc),
      congrArg _ (State.arrive_mapped _ _ _ _ _ _ ho hi hc)⟩
  · exact ⟨congrArg _ (State.arrive_unmapped _ _ _ _ _ _ ho hi hc), congrArg _ (State.arrive_unmapped _ _ _ _ _ _ ho hi hc),
      congrArg _ (State.arrive_unmapped _ _ _ _ _ _ ho hi hc)⟩
  · rw [exec_cxlMemRead, exec_cxlMemWrite, exec_cxlMemPartialWrite]
    simp only [State.arrive_closed _ _ _ _ _ _ ho, and_self]
  · rw [exec_cxlMemRead, exec_cxlMemWrite, exec_cxlMemPartialWrite]
    simp only [State.arrive_insecure _ _ _ _ _ _ ho hi, and_self]

/-! ## Links (R125, R134, R491) -/

/-- Training ends in a link that is up where the port is out of reset, has the link, and rate and width are of R125. -/
theorem exec_hostLinkTrained_up {s : State} {port link rate width : Nat} (hw : s.wardenUp = true) (hk : s.clocks.held.contains (3 + port) = false)
    (hl : s.linkExists port link = true) (hlo : 1 ≤ rate) (hhi : rate ≤ 6) (hwd : linkWidth (s.rb (F.HPT_LINK_bif port)) width = true)
    (hp : s.power.pins.perst.getD port true = true) : exec (.hostLinkTrained port link rate width) s =
      .next ((((((({ s with power := { s.power with pstate := 0 } } : State).setHostLink port link
        { s.link port link with up := true, cxl := decide (3 ≤ rate), l1 := false }).wf (rateField port link) rate).wf
          (widthField port link) width).showIde port link).irqEdge (irqLink port))) := by
  have hr : (rate == 0) = false := beq_false_of_ne (by omega)
  rw [exec_hostLinkTrained, execHostLinkTrained, if_neg (by simp only [hw, hk, hl, hr, hwd, hp, decide_eq_false hhi.not_gt]; decide)]
  rfl

theorem exec_ideKeyProgram_up {s : State} {port link : Nat} (stream : Nat) (key : Bytes) (h : (s.link port link).up = true) :
    exec (.ideKeyProgram port link stream key) s =
      .next ((s.setHostLink port link { s.link port link with ide := tput (s.link port link).ide stream true }).showIde port link) := by
  rw [exec_ideKeyProgram, execIdeKeyProgram]
  exact congrArg _ (if_neg (by rw [h]; decide))

theorem exec_hostLinkL1Entry_up {s : State} {port link : Nat} (h : (s.link port link).up = true) :
    exec (.hostLinkL1Entry port link) s = .next (s.setHostLink port link { s.link port link with l1 := true }) := by
  rw [exec_hostLinkL1Entry, execHostLinkL1Entry]
  exact congrArg _ (if_pos h)

theorem exec_ideIntegrityFail_keyed {s : State} {port link stream : Nat} (h : (tget (s.link port link).ide stream).isSome = true) :
    exec (.ideIntegrityFail port link stream) s =
      .next ((((s.setHostLink port link { s.link port link with ide := tput (s.link port link).ide stream false }).showIde port link).countHub 51).emit
        (0x10 + port) 0x0800 (portLink port link ++ le 1 stream)) := by
  obtain ⟨secure, hs⟩ := Option.isSome_iff_exists.mp h
  rw [exec_ideIntegrityFail, execIdeIntegrityFail, hs]

/-! ## Configuration and DOE (R129, R387, R477) -/

/-- On an Insecure CXL.io stream the DOE requests are discarded. -/
theorem exec_doe_insecure {s : State} {port ld : Nat} (handle : Nat) (request : Bytes) (h : s.ioInsecure port ld = true) :
    exec (.cdatRead port ld handle) s = .next (s.discardIo port ld) ∧ exec (.spdmRequest port ld request) s = .next (s.discardIo port ld) := by
  rw [exec_cdatRead, execCdatRead, exec_spdmRequest, execSpdmRequest, if_pos h, if_pos h]
  exact ⟨rfl, rfl⟩

section
variable {s : State} {port ld : Nat} (handle : Nat) (request : Bytes) (h : s.ioInsecure port ld = false)
include h

theorem exec_cdatRead_secure : exec (.cdatRead port ld handle) s =
    .next ((s.doe port).reply port ld 2 .success (((s.visibleTo port ld).map dsmas).flatten ++ dslbis)) := by
  rw [exec_cdatRead, execCdatRead, h]
  rfl

theorem exec_spdmRequest_secure : exec (.spdmRequest port ld request) s =
    .next (({ s.doe port with freeCtr := (s.doe port).freeCtr + 1 } : State).reply port ld 1 .success
      (Config.spdmAnswer (s.doe port).vault.spdm (s.doe port).vault.spdmChain (s.doe port).spdmBlocks request (s.doe port).freeCtr)) := by
  rw [exec_spdmRequest, execSpdmRequest, h]
  rfl

end

section
variable {s : State} {port ld : Nat} (offset value : Nat) (write : Bool) (hu : (s.link port (s.linkOf port ld)).up = true)
include hu

theorem exec_configRequest_insecure (hi : s.ioInsecure port ld = true) : exec (.configRequest port ld offset write value) s = .next (s.discardIo port ld) := by
  rw [exec_configRequest, execConfigRequest, hu, hi]
  rfl

variable (hi : s.ioInsecure port ld = false)
include hi

theorem exec_configRequest_retry (hr : s.ldsReady = false) :
    exec (.configRequest port ld offset write value) s = .next (s.send (.config port ld offset none)) := by
  rw [exec_configRequest, execConfigRequest, hu, hi, hr]
  rfl

theorem exec_configRequest_ready (hr : s.ldsReady = true) : exec (.configRequest port ld offset write value) s =
    .next (if write then (s.writeConfig port ld offset value).send (.config port ld offset (some value))
      else s.send (.config port ld offset (some (s.configWord port ld offset)))) := by
  rw [exec_configRequest, execConfigRequest, hu, hi, hr]
  rfl

end

/-- Settles O6: each event by the state of its link, each request by its stream and the readiness of the logical devices. -/
theorem hostLinkCommandsTakeEffect : Obligations.HostLinkCommandsTakeEffect := by
  unfold Obligations.HostLinkCommandsTakeEffect
  intro s port link rate width stream ld offset value phase handle key request l
  refine ⟨fun ⟨hw, hk, hl, hlo, hhi, hwd, hp⟩ => exec_hostLinkTrained_up hw hk hl hlo hhi hwd hp, exec_ideKeyProgram_up stream key,
    exec_ideIntegrityFail_keyed, exec_hostLinkL1Entry_up, rfl, fun ⟨hu, hi, hr⟩ w => exec_configRequest_retry offset value w hu hi hr,
    fun ⟨hu, hi, hr⟩ => ⟨exec_configRequest_ready offset value true hu hi hr, exec_configRequest_ready offset value false hu hi hr⟩,
    fun ⟨hu, hi⟩ w => exec_configRequest_insecure offset value w hu hi, exec_doe_insecure handle request,
    fun hi => ⟨exec_cdatRead_secure handle hi, exec_spdmRequest_secure request hi⟩⟩

/-! ## The FM API (R127, R133) -/

section
variable {s : State} {port link : Nat} (b : Bytes)

theorem exec_fmApi_absent (h : s.linkExists port link = false) : exec (.getLdInfo port link) s = .next s ∧
    exec (.getLdAllocations port link b) s = .next s ∧ exec (.setLdAllocations port link b) s = .next s := by
  rw [exec_getLdInfo, execGetLdInfo, exec_getLdAllocations, execGetLdAllocations, exec_setLdAllocations, execSetLdAllocations, h]
  exact ⟨rfl, rfl, rfl⟩

variable (h : s.linkExists port link = true)
include h

theorem exec_getLdInfo_present : exec (.getLdInfo port link) s = .next ((s.fmApi port).reply port (fmLd link) 0x5400 .success
    (le 2 (s.linkLds port link).length ++ le 8 (((s.linkLds port link).map (s.ldCapacity port)) : List Nat).sum)) := by
  rw [exec_getLdInfo, execGetLdInfo, h]
  rfl

theorem exec_getLdAllocations_present : exec (.getLdAllocations port link b) s = .next ((s.fmApi port).reply port (fmLd link) 0x5401 .success
    (((s.linkLds port link).map (fun ld => le 1 (s.ldId port ld) ++ le 8 (s.ldCapacity port ld))).flatten)) := by
  rw [exec_getLdAllocations, execGetLdAllocations, h]
  rfl

theorem exec_setLdAllocations_present : exec (.setLdAllocations port link b) s = .next ((s.fmApi port).reply port (fmLd link) 0x5402 .unsupported []) := by
  rw [exec_setLdAllocations, execSetLdAllocations, h]
  rfl

end

/-- Settles O4: each command by whether the port has the link; the devices shown are `State.linkLds`. -/
theorem fmApiCommandsAnswer : Obligations.FmApiCommandsAnswer := by
  unfold Obligations.FmApiCommandsAnswer
  intro s port link input lds
  exact ⟨fun h => ⟨exec_getLdInfo_present h, exec_getLdAllocations_present input h, exec_setLdAllocations_present input h⟩, exec_fmApi_absent input⟩

end Sys2Proof.Machine
end

section
/-! PROOFS. Mailbox commands (04): queries, settings, what is unsupported, and the rights commands need. -/
namespace Sys2Proof.Machine

/-! ## The commands' meanings: the mailbox -/

theorem exec_getEventRecords (iface ld log : Nat) (s : State) : exec (.getEventRecords iface ld log) s = execGetEventRecords iface ld log s := rfl
theorem exec_getFwInfo (iface ld : Nat) (s : State) : exec (.getFwInfo iface ld) s = execGetFwInfo iface ld s := rfl
theorem exec_getLog (iface ld log : Nat) (s : State) : exec (.getLog iface ld log) s = execGetLog iface ld log s := rfl
theorem exec_getLsa (iface ld offset length : Nat) (s : State) : exec (.getLsa iface ld offset length) s = execGetLsa iface ld offset length s := rfl
theorem exec_clearEventRecords (iface ld log : Nat) (all : Bool) (handles : List Nat) (s : State) :
    exec (.clearEventRecords iface ld log all handles) s = execClearEventRecords iface ld log all handles s := rfl
theorem exec_setEventInterruptPolicy (iface ld : Nat) (vectors : List Nat) (s : State) :
    exec (.setEventInterruptPolicy iface ld vectors) s = execSetEventInterruptPolicy iface ld vectors s := rfl
theorem exec_setLsa (iface ld offset : Nat) (data : Bytes) (s : State) : exec (.setLsa iface ld offset data) s = execSetLsa iface ld offset data s := rfl
theorem exec_setAlertConfig (iface ld spare : Nat) (s : State) : exec (.setAlertConfig iface ld spare) s = execSetAlertConfig iface ld spare s := rfl
theorem exec_unsupportedCommand (iface ld opcode : Nat) (s : State) :
    exec (.unsupportedCommand iface ld opcode) s = execUnsupportedCommand iface ld opcode s := rfl

/-! ## What a command that needs no right sends (R142, R453) -/

section
variable {s : State} {iface ld : Nat} (h : s.hears iface ld = true)
include h

/-- A command that needs no right sends its answer, or Unsupported where the interface does not carry it. -/
theorem State.command_free_answers {op : Nat} {f : State → Answer} {a : Answer} (ha : f (s.heard iface) = a) :
    s.command iface ld op none f = s.answers iface ld op a := by
  subst ha
  cases hc : carries iface op with
  | false => rw [State.command_uncarried h hc, State.answers, hc]; rfl
  | true => rw [State.command_free h hc, State.answers, hc]; rfl

theorem State.next_command_free (op : Nat) (f : State → Answer) :
    (.next (s.command iface ld op none f) : Host.Outcome State Fault Refusal) = .next (s.answers iface ld op (f (s.heard iface))) :=
  congrArg _ (State.command_free_answers h rfl)

/-- A command whose answer is Unsupported is answered so on every channel. -/
theorem State.command_unsupported (op : Nat) : s.command iface ld op none (answer .unsupported) = (s.heard iface).reply iface ld op .unsupported [] :=
  (State.command_free_answers h rfl).trans (ite_self _)

/-! ## Queries (R128, R139 to R141, R259) -/

theorem exec_getEventRecords_log {log : Nat} (hl : log < 4) :
    let l := (s.heard iface).cxlLog iface ld log
    exec (.getEventRecords iface ld log) s = .next (s.answers iface ld 0x0100 ⟨.success,
      le 1 (b2n l.overflow) ++ le 2 l.dropped ++ le 8 l.firstOver ++ le 8 l.lastOver ++ le 2 l.recs.length ++
        (l.recs.map ((s.heard iface).recBytes iface)).flatten, s.heard iface⟩) := by
  rw [exec_getEventRecords, execGetEventRecords]
  exact congrArg _ (State.command_free_answers h (if_neg hl.not_ge))

theorem exec_getEventRecords_noLog {log : Nat} (hl : 4 ≤ log) :
    exec (.getEventRecords iface ld log) s = .next (s.answers iface ld 0x0100 ⟨.invalidInput, [], s.heard iface⟩) := by
  rw [exec_getEventRecords, execGetEventRecords]
  exact congrArg _ (State.command_free_answers h (if_pos hl))

theorem exec_getFwInfo_slots :
    let rev (i : Nat) := (((s.heard iface).fwSlot i).map (fun b => fit 16 (slice b 0x48 16))).getD (zeros 16)
    exec (.getFwInfo iface ld) s = .next (s.answers iface ld 0x0200 ⟨.success, le 1 2 ++ le 1 ((s.heard iface).rf F.WDN_FW_STAT_active_slot) ++
      le 1 (((s.heard iface).fw.marked.map (· + 1)).getD 0) ++ rev 0 ++ rev 1, s.heard iface⟩) := by
  rw [exec_getFwInfo, execGetFwInfo]
  refine congrArg _ (State.command_free_answers h ?_)
  dsimp only
  cases (s.heard iface).fwSlot 0 <;> cases (s.heard iface).fwSlot 1 <;> cases (s.heard iface).fw.marked <;> rfl

theorem exec_getLog_cel : exec (.getLog iface ld 0) s = .next (s.answers iface ld 0x0401 ⟨.success, celBytes, s.heard iface⟩) := by
  rw [exec_getLog, execGetLog]
  exact congrArg _ (State.command_free_answers h (if_pos rfl))

theorem exec_getLog_unknown {log : Nat} (hl : log ≠ 0) :
    exec (.getLog iface ld log) s = .next (s.answers iface ld 0x0401 ⟨.invalidInput, [], s.heard iface⟩) := by
  rw [exec_getLog, execGetLog]
  exact congrArg _ (State.command_free_answers h (if_neg hl))

theorem exec_getLsa_inside {offset length : Nat} (hl : offset + length ≤ lsaSize) : exec (.getLsa iface ld offset length) s =
    .next (s.answers iface ld 0x4102 ⟨.success, (upto length).map (fun i => tgetD ((s.heard iface).ld iface ld).lsa (offset + i) 0#8), s.heard iface⟩) := by
  rw [exec_getLsa, execGetLsa]
  exact congrArg _ (State.command_free_answers h (if_neg hl.not_gt))

theorem exec_getLsa_outside {offset length : Nat} (hl : lsaSize < offset + length) :
    exec (.getLsa iface ld offset length) s = .next (s.answers iface ld 0x4102 ⟨.invalidInput, [], s.heard iface⟩) := by
  rw [exec_getLsa, execGetLsa]
  exact congrArg _ (State.command_free_answers h (if_pos hl))

end

/-- Settles O1: every query is a command without a right, so it sends its answer where it is carried. -/
theorem mailboxQueriesAnswer : Obligations.MailboxQueriesAnswer := by
  unfold Obligations.MailboxQueriesAnswer
  intro s iface ld log offset length hs h say
  have free := State.next_command_free (ld := ld) hs
  refine ⟨exec_getEventRecords_log hs, exec_getEventRecords_noLog hs, free 0x0102 _, exec_getFwInfo_slots hs, free 0x0300 _, free 0x0400 _, ?_,
    exec_getLog_unknown hs, free 0x4000 _, free 0x4100 _, exec_getLsa_inside hs, exec_getLsa_outside hs, free 0x4200 _, free 0x4201 _, free 0x4203 _⟩
  rintro rfl
  exact exec_getLog_cel hs

/-! ## Settings (R139 to R141, R259) -/

/-- A log without its overflow, keeping some of its records. -/
def CxlLog.keep (l : CxlLog) (recs : List CxlRec) : CxlLog := { l with recs := recs, overflow := false, dropped := 0, firstOver := 0, lastOver := 0 }
/-- Every handle is a record's of the log. -/
def CxlLog.hasAll (l : CxlLog) (handles : List Nat) : Prop := ∀ x ∈ handles, ∃ r ∈ l.recs, r.handle = x
/-- A number that is neither a vector nor stands for none (log 156). -/
def badVector (v : Nat) : Prop := 2048 ≤ v ∧ v ≠ noVector
/-- A policy of R139: a vector, or none, for each of the four logs. -/
def eventPolicy (vectors : List Nat) : Prop := vectors.length = 4 ∧ ∀ v ∈ vectors, ¬badVector v

theorem CxlLog.hasAll_iff {l : CxlLog} {handles : List Nat} :
    l.hasAll handles ↔ handles.all (fun h => l.recs.any (fun r => r.handle == h)) = true := by
  simp only [CxlLog.hasAll, List.all_eq_true, List.any_eq_true, beq_iff_eq]

theorem not_eventPolicy_iff {vectors : List Nat} :
    ¬eventPolicy vectors ↔ vectors.length ≠ 4 ∨ vectors.any (fun v => decide (2048 ≤ v ∧ v ≠ noVector)) = true := by
  simp only [eventPolicy, not_and_or, not_forall, not_not, List.any_eq_true, decide_eq_true_eq, exists_prop, ne_eq]
  rfl

/-- The four logs' vectors, as a policy sets them. -/
def State.setVectors (s : State) (iface ld : Nat) (vectors : List Nat) : State :=
  each (upto 4) s (fun t i => t.putCxlLog iface ld i
    { t.cxlLog iface ld i with vector := if vectors.getD i 0 = noVector then none else some (vectors.getD i 0) })
/-- Bytes written to a label area. -/
def Ld.writeLsa (d : Ld) (offset : Nat) (data : Bytes) : Ld :=
  { d with lsa := each (upto data.length) d.lsa (fun t i => tput t (offset + i) (data.getD i 0#8)) }

section
variable {s : State} {iface ld : Nat} (h : s.hears iface ld = true)
include h

section
variable {log : Nat} {handles : List Nat}

theorem exec_clearEventRecords_noLog (hl : 4 ≤ log) (all : Bool) :
    exec (.clearEventRecords iface ld log all handles) s = .next (s.answers iface ld 0x0101 ⟨.invalidInput, [], s.heard iface⟩) := by
  rw [exec_clearEventRecords, execClearEventRecords]
  exact congrArg _ (State.command_free_answers h (if_pos hl))

variable (hl : log < 4)
include hl

theorem exec_clearEventRecords_all : exec (.clearEventRecords iface ld log true handles) s = .next (s.answers iface ld 0x0101
    ⟨.success, [], (s.heard iface).putCxlLog iface ld log (((s.heard iface).cxlLog iface ld log).keep [])⟩) := by
  rw [exec_clearEventRecords, execClearEventRecords]
  exact congrArg _ (State.command_free_answers h (if_neg hl.not_ge))

theorem exec_clearEventRecords_some (ha : ((s.heard iface).cxlLog iface ld log).hasAll handles) :
    let l := (s.heard iface).cxlLog iface ld log
    exec (.clearEventRecords iface ld log false handles) s = .next (s.answers iface ld 0x0101
      ⟨.success, [], (s.heard iface).putCxlLog iface ld log (l.keep (l.recs.filter (fun r => !handles.contains r.handle)))⟩) := by
  rw [exec_clearEventRecords, execClearEventRecords]
  exact congrArg _ (State.command_free_answers h ((if_neg hl.not_ge).trans ((if_neg Bool.false_ne_true).trans
    (if_neg (by rw [CxlLog.hasAll_iff.mp ha]; decide)))))

theorem exec_clearEventRecords_unknown (ha : ¬((s.heard iface).cxlLog iface ld log).hasAll handles) :
    exec (.clearEventRecords iface ld log false handles) s = .next (s.answers iface ld 0x0101 ⟨.invalidHandle, [], s.heard iface⟩) := by
  rw [exec_clearEventRecords, execClearEventRecords]
  exact congrArg _ (State.command_free_answers h ((if_neg hl.not_ge).trans ((if_neg Bool.false_ne_true).trans
    (if_pos (by rw [Bool.eq_false_iff.mpr (mt CxlLog.hasAll_iff.mpr ha)]; decide)))))

end

theorem exec_setEventInterruptPolicy_set {vectors : List Nat} (hv : eventPolicy vectors) : exec (.setEventInterruptPolicy iface ld vectors) s =
    .next (s.answers iface ld 0x0103 ⟨.success, [], (s.heard iface).setVectors iface ld vectors⟩) := by
  rw [exec_setEventInterruptPolicy, execSetEventInterruptPolicy]
  exact congrArg _ (State.command_free_answers h (if_neg (mt not_eventPolicy_iff.mpr (not_not_intro hv))))

theorem exec_setEventInterruptPolicy_bad {vectors : List Nat} (hv : ¬eventPolicy vectors) :
    exec (.setEventInterruptPolicy iface ld vectors) s = .next (s.answers iface ld 0x0103 ⟨.invalidInput, [], s.heard iface⟩) := by
  rw [exec_setEventInterruptPolicy, execSetEventInterruptPolicy]
  exact congrArg _ (State.command_free_answers h (if_pos (not_eventPolicy_iff.mp hv)))

section
variable {offset : Nat} {data : Bytes}

theorem exec_setLsa_long (hm : iface < 4 ∧ mailboxSize < 8 + data.length) :
    exec (.setLsa iface ld offset data) s = .next (s.answers iface ld 0x4103 ⟨.invalidLength, [], s.heard iface⟩) := by
  rw [exec_setLsa, execSetLsa]
  exact congrArg _ (State.command_free_answers h (if_pos hm))

variable (hm : ¬(iface < 4 ∧ mailboxSize < 8 + data.length))
include hm

theorem exec_setLsa_inside (hl : offset + data.length ≤ lsaSize) : exec (.setLsa iface ld offset data) s =
    .next (s.answers iface ld 0x4103 ⟨.success, [], (s.heard iface).modLd iface ld (fun d => d.writeLsa offset data)⟩) := by
  rw [exec_setLsa, execSetLsa]
  exact congrArg _ (State.command_free_answers h ((if_neg hm).trans (if_neg hl.not_gt)))

theorem exec_setLsa_outside (hl : lsaSize < offset + data.length) :
    exec (.setLsa iface ld offset data) s = .next (s.answers iface ld 0x4103 ⟨.invalidInput, [], s.heard iface⟩) := by
  rw [exec_setLsa, execSetLsa]
  exact congrArg _ (State.command_free_answers h ((if_neg hm).trans (if_pos hl)))

end

theorem exec_setAlertConfig_percent {spare : Nat} (hp : spare ≤ 100) : exec (.setAlertConfig iface ld spare) s =
    .next (s.answers iface ld 0x4202 ⟨.success, [], (s.heard iface).modLd iface ld (fun d => { d with spareAlert := spare })⟩) := by
  rw [exec_setAlertConfig, execSetAlertConfig]
  exact congrArg _ (State.command_free_answers h (if_neg hp.not_gt))

theorem exec_setAlertConfig_bad {spare : Nat} (hp : 100 < spare) :
    exec (.setAlertConfig iface ld spare) s = .next (s.answers iface ld 0x4202 ⟨.invalidInput, [], s.heard iface⟩) := by
  rw [exec_setAlertConfig, execSetAlertConfig]
  exact congrArg _ (State.command_free_answers h (if_pos hp))

end

/-- Settles O2: every setting is a command without a right; its operand selects the answer. -/
theorem mailboxSettingsTakeEffect : Obligations.MailboxSettingsTakeEffect := by
  unfold Obligations.MailboxSettingsTakeEffect
  intro s iface ld log offset spare value handles vectors data dirty hs h l done no bad
  have free := State.next_command_free (ld := ld) hs
  refine ⟨exec_clearEventRecords_all hs, fun ⟨hl, ha⟩ => exec_clearEventRecords_some hs hl ha, fun ⟨hl, ha⟩ => exec_clearEventRecords_unknown hs hl ?_,
    exec_clearEventRecords_noLog hs, exec_setEventInterruptPolicy_set hs, fun hv => exec_setEventInterruptPolicy_bad hs ?_, free 0x0301 _,
    fun ⟨hm, hl⟩ => exec_setLsa_inside hs hm hl, exec_setLsa_long hs, fun ⟨hm, hl⟩ => exec_setLsa_outside hs hm hl, exec_setAlertConfig_percent hs,
    exec_setAlertConfig_bad hs, free 0x4204 _⟩
  · obtain ⟨x, hx, hr⟩ := ha
    intro all
    obtain ⟨r, hmem, rfl⟩ := all x hx
    exact hr r hmem rfl
  · rintro ⟨hlen, hgood⟩
    exact hv.elim (absurd hlen) (fun ⟨v, hmem, hbad⟩ => hgood v hmem hbad)

/-! ## Unsupported commands (R141) -/

theorem exec_unsupportedCommand_unknown {s : State} {iface ld opcode : Nat} (h : s.hears iface ld = true) (hn : ∀ p ∈ supported, p.1 ≠ opcode) :
    exec (.unsupportedCommand iface ld opcode) s = .next ((s.heard iface).reply iface ld opcode .unsupported []) := by
  have no : ¬supported.any (fun p => p.1 == opcode) = true := by
    simpa only [List.any_eq_true, beq_iff_eq, not_exists, not_and] using hn
  rw [exec_unsupportedCommand, execUnsupportedCommand, if_neg no, State.command_unsupported h]

theorem exec_unsupportedCommand_known {s : State} (iface ld : Nat) {opcode : Nat} (hk : ∃ p ∈ supported, p.1 = opcode) :
    exec (.unsupportedCommand iface ld opcode) s = .next s := by
  have known : supported.any (fun p => p.1 == opcode) = true := by
    simpa only [List.any_eq_true, beq_iff_eq] using hk
  rw [exec_unsupportedCommand, execUnsupportedCommand, if_pos known]

/-- Settles O3: each is answered Unsupported by its body, or as not carried; an opcode with a command is none of them. -/
theorem unsupportedCommandsAnswerUnsupported : Obligations.UnsupportedCommandsAnswerUnsupported := by
  unfold Obligations.UnsupportedCommandsAnswerUnsupported
  intro s iface ld opcode h
  exact ⟨congrArg _ (State.command_unsupported h 0x4400), congrArg _ (State.command_unsupported h 0x4401), exec_unsupportedCommand_unknown h,
    exec_unsupportedCommand_known iface ld⟩

/-! ## Rights (R358) -/

/-- The command's body runs as a mailbox command under a right. -/
def State.runsUnder (s : State) (iface ld op : Nat) (r : Right) (c : Instr) : Prop := ∃ f, exec c s = .next (s.command iface ld op (some r) f)

/-- What such a command comes to before its body is looked at. -/
theorem State.runsUnder.refused {s : State} {iface ld op : Nat} {r : Right} {c : Instr} (hc : s.runsUnder iface ld op r c) :
    (s.hears iface ld = true ∧ carries iface op = true ∧ (s.heard iface).holds iface r = false →
      exec c s = .next (((s.heard iface).deny iface op r).reply iface ld op .invalidSecurityState [])) ∧
    (s.hears iface ld = true ∧ carries iface op = false → exec c s = .next ((s.heard iface).reply iface ld op .unsupported [])) ∧
    (s.hears iface ld = false → exec c s = .next (s.unheard iface ld)) := by
  obtain ⟨f, hf⟩ := hc
  rw [hf]
  exact ⟨fun ⟨h, hc, hr⟩ => congrArg _ (State.command_denied h hc hr), fun ⟨h, hc⟩ => congrArg _ (State.command_uncarried h hc),
    fun h => congrArg _ (State.command_unheard h)⟩

/-- Inject Poison runs while no host access holds its line. -/
theorem State.runsUnder_injectPoison {s : State} (iface ld : Nat) {dpa : Nat} (hd : s.lineHeld (dpa / 64) = false) :
    s.runsUnder iface ld 0x4301 .test (.injectPoison iface ld dpa) :=
  ⟨_, congrArg _ (if_neg (by rw [hd]; decide))⟩

/-- Settles O51: each command of the table runs its body under its right. -/
theorem commandsNeedTheirRight : Obligations.CommandsNeedTheirRight := by
  unfold Obligations.CommandsNeedTheirRight
  intro s iface ld slot offset dpa b on act table hd x hx
  have runs : ∀ x ∈ table, s.runsUnder iface ld x.1 x.2.1 x.2.2 := by
    simp only [table, List.forall_mem_cons, List.not_mem_nil, false_implies, implies_true, and_true]
    exact ⟨⟨_, rfl⟩, ⟨_, rfl⟩, ⟨_, rfl⟩, ⟨_, rfl⟩, ⟨_, rfl⟩, ⟨_, rfl⟩, ⟨_, rfl⟩, ⟨_, rfl⟩, ⟨_, rfl⟩, ⟨_, rfl⟩, ⟨_, rfl⟩, ⟨_, rfl⟩, ⟨_, rfl⟩, ⟨_, rfl⟩,
      ⟨_, rfl⟩, ⟨_, rfl⟩, State.runsUnder_injectPoison iface ld hd⟩
  exact (runs x hx).refused

end Sys2Proof.Machine
end

section
/-! PROOFS. The frame of the control commands (04, 14, 18): the sideband's codes, interrupts, the TAP and the mailbox queries leave the medium alone. -/
namespace Sys2Proof.Machine

/-- A command goes to a state of the same medium. -/
def State.leavesMedium (s : State) (c : Instr) : Prop := ∃ t, exec c s = .next t ∧ t.medium = s.medium

/-! ## The sideband's codes (R454) -/

section
variable (s : State)

theorem State.medium_directCcc (go : State → State) (h : (go s).medium = s.medium) : (s.directCcc go).medium = s.medium := by
  rw [State.directCcc, apply_ite State.medium, State.medium_send, h, ite_self]

theorem State.leavesMedium_entdaa (addr : Nat) : s.leavesMedium (.entdaa addr) := by
  refine ⟨_, rfl, ?_⟩
  rw [apply_ite State.medium, State.medium_send, State.medium_wf, State.medium_wf, State.medium_wf, State.medium_ccc, ite_self]

theorem State.leavesMedium_directCodes : s.leavesMedium .getpid ∧ s.leavesMedium .getbcr ∧ s.leavesMedium .getdcr ∧ s.leavesMedium .getmwl ∧
    s.leavesMedium .getmrl ∧ s.leavesMedium .getstatus :=
  have direct (go : State → State) (h : (go s).medium = s.medium) := s.medium_directCcc go h
  ⟨⟨_, rfl, direct _ rfl⟩, ⟨_, rfl, direct _ rfl⟩, ⟨_, rfl, direct _ rfl⟩, ⟨_, rfl, direct _ rfl⟩, ⟨_, rfl, direct _ rfl⟩, ⟨_, rfl, direct _ rfl⟩⟩

/-! ## Interrupts (R443 to R446) -/

theorem State.leavesMedium_irqClaim (target : Nat) : s.leavesMedium (.irqClaim target) := by
  refine ⟨_, rfl, ?_⟩
  split
  · rw [State.medium_countHub, State.medium_wf]
  · rw [State.medium_dropLines, State.medium_countHub, State.medium_wf]
    split
    · rfl
    · exact State.medium_wf _ _ _

theorem State.leavesMedium_irqDone (target source : Nat) : s.leavesMedium (.irqDone target source) := by
  refine ⟨_, rfl, ?_⟩
  split
  · exact State.medium_wf _ _ _
  · rfl

/-! ## The test access port (R530) -/

theorem State.leavesMedium_statics (b : Bytes) : s.leavesMedium (.extest b) ∧ s.leavesMedium .highz ∧ s.leavesMedium .clamp := by
  refine ⟨⟨_, rfl, ?_⟩, ⟨_, rfl, ?_⟩, ⟨_, rfl, ?_⟩⟩ <;> split <;> rfl

/-! ## Mailbox queries (R139) -/

/-- A query's answer leaves the state it was computed from. -/
theorem State.leavesMedium_query {c : Instr} {iface ld op : Nat} {f : State → Answer} (hc : exec c s = .next (s.command iface ld op none f))
    (h : ∀ t, (f t).state = t) : s.leavesMedium c :=
  ⟨_, hc, s.medium_command iface ld op f (fun t => congrArg State.medium (h t))⟩

end

/-- Settles O60: no command of the list touches a part of `State.medium`. -/
theorem controlCommandsLeaveTheMediumAlone : Obligations.ControlCommandsLeaveTheMediumAlone := by
  unfold Obligations.ControlCommandsLeaveTheMediumAlone
  intro s iface ld n m b c hc still
  have leaves : s.leavesMedium c := by
    obtain ⟨getpid, getbcr, getdcr, getmwl, getmrl, getstatus⟩ := s.leavesMedium_directCodes
    obtain ⟨extest, highz, clamp⟩ := s.leavesMedium_statics b
    have query {c : Instr} {op : Nat} {f : State → Answer} (hc : exec c s = .next (s.command iface ld op none f)) (h : ∀ t, (f t).state = t) :=
      s.leavesMedium_query hc h
    revert c
    simp only [List.forall_mem_cons, List.not_mem_nil, false_implies, implies_true, and_true]
    refine ⟨⟨_, rfl, rfl⟩, ⟨_, rfl, rfl⟩, ⟨_, rfl, rfl⟩, ⟨_, rfl, rfl⟩, s.leavesMedium_entdaa n, getpid, getbcr, getdcr, getmwl, getmrl, getstatus,
      ⟨_, rfl, rfl⟩, ⟨_, rfl, s.medium_irqEdge n⟩, s.leavesMedium_irqClaim n, s.leavesMedium_irqDone n m, ⟨_, rfl, s.medium_assertLine n⟩,
      ⟨_, rfl, rfl⟩, ⟨_, rfl, rfl⟩, extest, highz, clamp, ⟨_, rfl, rfl⟩, ⟨_, rfl, rfl⟩, query rfl fun t => ?_, query rfl fun t => rfl, query rfl fun t => rfl,
      query rfl fun t => rfl, query rfl fun t => rfl, query rfl fun t => ?_, query rfl fun t => rfl, query rfl fun t => rfl, query rfl fun t => ?_,
      query rfl fun t => rfl, query rfl fun t => rfl, query rfl fun t => rfl⟩
    all_goals split <;> rfl
  obtain ⟨t, ht, hm⟩ := leaves
  simp only [State.medium, Prod.mk.injEq] at hm
  exact ⟨t, ht, hm⟩

end Sys2Proof.Machine
end

section
/-! PROOFS. Destage (06): lines become eligible, leaves go to the log head, line-stripes fill, the leaf map switches. -/
namespace Sys2Proof.Machine

/-! ## The commands' meanings: destage -/

theorem exec_lingerExpire (tile line : Nat) (s : State) : exec (.lingerExpire tile line) s = execLingerExpire tile line s := rfl
theorem exec_destageLeaf (tile : Nat) (upsets : List (Nat × Upset)) (s : State) : exec (.destageLeaf tile upsets) s = execDestageLeaf tile upsets s := rfl
theorem exec_lineStripeFillTimeout (tile : Nat) (s : State) : exec (.lineStripeFillTimeout tile) s = execLineStripeFillTimeout tile s := rfl
theorem exec_leafSwitch (tile leaf : Nat) (s : State) : exec (.leafSwitch tile leaf) s = execLeafSwitch tile leaf s := rfl

/-! ## The next leaf goes to the log head (R197, R201; log 171) -/

section
variable {s : State} {tile : Nat} {upsets : List (Nat × Upset)}

/-- The tile destages: the device is not read-only and not flushing, nothing pauses the tile's destage, and the tile is in service (R201, R212, R250). -/
def State.mayDestage (s : State) (n : Nat) : Prop :=
  s.readOnly = false ∧ s.power.flushing = false ∧ s.destagePaused n = false ∧ s.tileInService n = true

theorem State.not_mayDestage_iff : ¬ s.mayDestage tile ↔ (s.readOnly || s.power.flushing || s.destagePaused tile || !s.tileInService tile) = true := by
  simp only [State.mayDestage, not_and_or, Bool.or_eq_true, Bool.not_eq_true', Bool.not_eq_true, Bool.not_eq_false, or_assoc]

theorem exec_destageLeaf_asleep (h : ¬(s.tiles[tile]?.map Tile.depth).getD 0 = 0) : exec (.destageLeaf tile upsets) s = .next (s.wakeTile tile) := by
  rw [exec_destageLeaf, execDestageLeaf, State.onAwake_asleep h]

variable (h : (s.tiles[tile]?.map Tile.depth).getD 0 = 0)
include h

theorem exec_destageLeaf_stopped (no : ¬ s.mayDestage tile) : exec (.destageLeaf tile upsets) s = .next s := by
  rw [exec_destageLeaf, execDestageLeaf, State.onAwake_awake h, if_pos (State.not_mayDestage_iff.mp no)]

variable (may : s.mayDestage tile)
include may

theorem exec_destageLeaf_nothing (hn : s.nextLeaf tile = none) : exec (.destageLeaf tile upsets) s = .next s := by
  rw [exec_destageLeaf, execDestageLeaf, State.onAwake_awake h, if_neg (mt State.not_mayDestage_iff.mpr (not_not_intro may)), hn]

variable {n : Nat} (hn : s.nextLeaf tile = some n)
include hn

/-- A leaf that no compartment holds leaves the catch. -/
theorem exec_destageLeaf_unmapped (hl : s.leafNum n = none) : exec (.destageLeaf tile upsets) s =
    .next (s.modTile tile (fun x => { x with catchQ := x.catchQ.filter (fun e => e.line / 64 != n), urgent := x.urgent.filter (· != n) })) := by
  rw [exec_destageLeaf, execDestageLeaf, State.onAwake_awake h, if_neg (mt State.not_mayDestage_iff.mpr (not_not_intro may))]
  simp only [hn, hl]

/-- The leaf's path has been read, and the SRAM words in error among its lines have been met. -/
def State.destageRead (s : State) (n : Nat) (c : Comp) (r : LeafRef) (upsets : List (Nat × Upset)) : State :=
  each upsets (s.loadPath c r.tile r.rank 6 (64 * n)) (fun s u => s.meetAt (64 * n + u.1 % 64) 6 c r [u.2])

/-- The leaf goes to the place the log finds for it from its head, where it finds one. -/
theorem exec_destageLeaf_taken {r : LeafRef} {c : Comp} (hl : s.leafNum n = some r) (hc : s.served r.comp = some c) :
    exec (.destageLeaf tile upsets) s =
      .next (let t := s.destageRead n c r upsets
        let spot := t.logSpot tile 40 (t.tile tile).head
        match spot.2 with
        | some pos => spot.1.destageAt tile n pos c r
        | none => spot.1) := by
  rw [exec_destageLeaf, execDestageLeaf, State.onAwake_awake h, if_neg (mt State.not_mayDestage_iff.mpr (not_not_intro may))]
  simp only [hn, hl, hc]
  rfl

end

/-! ## The leaf switch (R199) -/

/-- The destage of a leaf is over. -/
def State.destageOver (s : State) (tile leaf : Nat) : State := s.modTile tile (fun x => { x with destages := x.destages.filter (fun y => y.leaf != leaf) })

section
variable {s : State} {tile leaf : Nat}

theorem exec_leafSwitch_none (h : (s.tile tile).destages.find? (fun d => d.leaf == leaf) = none) : exec (.leafSwitch tile leaf) s = .next s := by
  rw [exec_leafSwitch, execLeafSwitch, h]

variable {d : Destage} (h : (s.tile tile).destages.find? (fun d => d.leaf == leaf) = some d)
include h

theorem exec_leafSwitch_open (ho : (s.tile tile).destageOpen d = true) : exec (.leafSwitch tile leaf) s = .next s := by
  rw [exec_leafSwitch, execLeafSwitch, h]
  simp only [ho, if_true]

variable (ho : (s.tile tile).destageOpen d = false)
include ho

theorem exec_leafSwitch_unmapped (hl : s.leafNum leaf = none) : exec (.leafSwitch tile leaf) s = .next ((s.destageOver tile leaf).advanceTail tile) := by
  rw [exec_leafSwitch, execLeafSwitch, h]
  simp only [ho, hl, Bool.false_eq_true, if_false]
  rfl

variable {r : LeafRef} (hl : s.leafNum leaf = some r)
include hl

/-- A leaf written anew since its copy was taken: the copy is dead, and counted. -/
theorem exec_leafSwitch_dead (hg : (s.leafOf r).gen ≠ d.gen) :
    exec (.leafSwitch tile leaf) s = .next (((s.destageOver tile leaf).countTile tile 75 [d.comp]).advanceTail tile) := by
  rw [exec_leafSwitch, execLeafSwitch, h]
  simp only [ho, hl, bne_iff_ne.mpr hg, Bool.false_eq_true, if_false, if_true]
  rfl

/-- The leaf map names the new position; the entries taken and the victims that left are freed. -/
theorem exec_leafSwitch_switched (hg : (s.leafOf r).gen = d.gen) :
    exec (.leafSwitch tile leaf) s =
      .next ((((((s.mapRoom r.tile).setLeaf r.tile (s.leafIdx r) ((s.tile tile).entryAt d (s.leafOf r))).modTile tile
          (fun x => { x with catchQ := x.catchQ.filter (fun y => !d.taken.contains (y.line, y.ver)) })).modTile tile
          (fun x => { x with victims := x.victims.filter (fun v => !(v.left && v.line / 64 == leaf)) })).destageOver tile leaf).advanceTail tile) := by
  rw [exec_leafSwitch, execLeafSwitch, h]
  simp only [ho, hl, hg, bne_self_eq_false, Bool.false_eq_true, if_false]
  rfl

end

/-- Settles O12: the next leaf by what stops the destage and what serves the leaf, the fill by the line-stripe begun, the switch by the state of its destage. -/
theorem destageCommandsTakeEffect : Obligations.DestageCommandsTakeEffect := by
  unfold Obligations.DestageCommandsTakeEffect
  intro s tile line leaf upsets
  refine ⟨exec_lingerExpire tile line s, fun n r c ⟨h, hro, hf, hp, hs, hn, hl, hc⟩ => exec_destageLeaf_taken h ⟨hro, hf, hp, hs⟩ hn hl hc,
    fun n ⟨h, hro, hf, hp, hs, hn, hl⟩ => exec_destageLeaf_unmapped h ⟨hro, hf, hp, hs⟩ hn hl, fun ⟨h, hstop⟩ => ?_, exec_destageLeaf_asleep,
    fun z hz => ?_, fun hz => ?_,
    fun d r ⟨h, ho, hl⟩ => ⟨exec_leafSwitch_switched h ho hl, exec_leafSwitch_dead h ho hl⟩, fun d ⟨h, ho, hl⟩ => exec_leafSwitch_unmapped h ho hl,
    exec_leafSwitch_none, fun d ⟨h, ho⟩ => exec_leafSwitch_open h ho⟩
  · by_cases may : s.mayDestage tile
    · have ⟨hro, hf, hp, hs⟩ := may
      exact exec_destageLeaf_nothing h may (by simpa [hro, hf, hp, hs] using hstop)
    · exact exec_destageLeaf_stopped h may
  · rw [exec_lineStripeFillTimeout, execLineStripeFillTimeout, hz]
  · rw [exec_lineStripeFillTimeout, execLineStripeFillTimeout, hz]

end Sys2Proof.Machine
end

section
/-! PROOFS. Power (06, 15): the power input, the rails, the flush at a power-off and the push button. -/
namespace Sys2Proof.Machine

/-! ## The commands' meanings: power -/

theorem exec_vinWarn (mv : Nat) (s : State) : exec (.vinWarn mv) s = execVinWarn mv s := rfl
theorem exec_vinCommit (mv : Nat) (s : State) : exec (.vinCommit mv) s = execVinCommit mv s := rfl
theorem exec_vinOff (mv : Nat) (s : State) : exec (.vinOff mv) s = execVinOff mv s := rfl
theorem exec_vinValid (mv : Nat) (s : State) : exec (.vinValid mv) s = execVinValid mv s := rfl
theorem exec_commitOffTimeout (s : State) : exec .commitOffTimeout s = execCommitOffTimeout s := rfl
theorem exec_minOffTimeEnd (s : State) : exec .minOffTimeEnd s = execMinOffTimeEnd s := rfl
theorem exec_flushDone (unsealed : List Nat) (s : State) : exec (.flushDone unsealed) s = execFlushDone unsealed s := rfl
theorem exec_pgChange (rail : Nat) (good : Bool) (s : State) : exec (.pgChange rail good) s = execPgChange rail good s := rfl
theorem exec_railOffDone (rail : Nat) (s : State) : exec (.railOffDone rail) s = execRailOffDone rail s := rfl
theorem exec_pbtnPress (s : State) : exec .pbtnPress s = execPbtnPress s := rfl
theorem exec_pbtnRelease (s : State) : exec .pbtnRelease s = execPbtnRelease s := rfl
theorem exec_pbtnHold8s (s : State) : exec .pbtnHold8s s = execPbtnHold8s s := rfl
theorem exec_pbtnHold15s (s : State) : exec .pbtnHold15s s = execPbtnHold15s s := rfl

/-! ## The power input (R211, R468, R472, R473) -/

section
variable {s : State} {mv : Nat}

/-- A powered device begins a brace: its lowest VIN and its start are noted, the interrupt raised. -/
def State.braceBegins (s : State) (mv : Nat) : State :=
  let t : State := { s with power := { s.power with braceFine := s.fine, braceLow := mv } }
  ((t.brace true).braceEvent 0 mv 0).irqEdge irqVinWarn

/-- A brace ends, with its lowest VIN and its duration; the rails of tiles whose regulator failed in it go off. -/
def State.braceEnds (s : State) : State := ((s.brace false).braceEvent 1 s.power.braceLow ((s.fine - s.power.braceFine) / 1000)).shedFailed

theorem exec_vinWarn_braces (hb : (s.setVin mv false).rb F.SEQ_VIN_braced = false) (hp : (s.setVin mv false).powered = true) :
    exec (.vinWarn mv) s =
      .next (let u := (s.setVin mv false).braceBegins mv; (each u.tileList u (fun s t => s.closeChecker t)).failApply 5 0 0) := by
  rw [exec_vinWarn, execVinWarn, if_neg (by simp [hb, hp])]
  rfl

theorem exec_vinWarn_samples (h : (s.setVin mv false).rb F.SEQ_VIN_braced = true ∨ (s.setVin mv false).powered = false) :
    exec (.vinWarn mv) s = .next (s.setVin mv false) := by
  rw [exec_vinWarn, execVinWarn, if_pos (by simpa using h)]

theorem exec_vinCommit_on (h : (s.setVin mv false).phase ≠ 0) :
    exec (.vinCommit mv) s = .next (((s.setVin mv false).irqEdge irqVinCommit).powerOff 13 0 .valid) := by
  rw [exec_vinCommit, execVinCommit, if_neg h]

theorem exec_vinCommit_off (h : (s.setVin mv false).phase = 0) : exec (.vinCommit mv) s = .next (s.setVin mv false) := by
  rw [exec_vinCommit, execVinCommit, if_pos h]

theorem exec_vinValid_off (h : (s.setVin mv true).phase = 0) : exec (.vinValid mv) s = .next (s.setVin mv true).tryPowerUp := by
  rw [exec_vinValid, execVinValid, if_pos h]

theorem exec_vinValid_braced (h : (s.setVin mv true).phase ≠ 0) (hb : (s.setVin mv true).rb F.SEQ_VIN_braced = true)
    (hf : (s.setVin mv true).power.flushing = false) : exec (.vinValid mv) s = .next (s.setVin mv true).braceEnds := by
  rw [exec_vinValid, execVinValid, if_neg h, if_pos (by simp [hb, hf])]
  rfl

theorem exec_vinValid_unbraced (h : (s.setVin mv true).phase ≠ 0)
    (hb : (s.setVin mv true).rb F.SEQ_VIN_braced = false ∨ (s.setVin mv true).power.flushing = true) :
    exec (.vinValid mv) s = .next (s.setVin mv true) := by
  rw [exec_vinValid, execVinValid, if_neg h, if_neg (by simpa [imp_iff_not_or] using hb)]

theorem exec_commitOffTimeout_low (h : s.power.flushing = true ∧ s.power.vin < 10400) : exec .commitOffTimeout s = .next s.railsOff.offSeen := by
  rw [exec_commitOffTimeout, execCommitOffTimeout, if_pos h]

theorem exec_commitOffTimeout_idle (h : s.power.flushing = false ∨ 10400 ≤ s.power.vin) : exec .commitOffTimeout s = .next s := by
  rw [exec_commitOffTimeout, execCommitOffTimeout, if_neg (by simpa [imp_iff_not_or] using h)]

theorem exec_minOffTimeEnd_off (h : s.phase = 0) :
    exec .minOffTimeEnd s = .next ({ s with power := { s.power with minOff := true } } : State).tryPowerUp := by
  rw [exec_minOffTimeEnd, execMinOffTimeEnd, if_pos h]

theorem exec_minOffTimeEnd_on (h : s.phase ≠ 0) : exec .minOffTimeEnd s = .next s := by
  rw [exec_minOffTimeEnd, execMinOffTimeEnd, if_neg h]

end

/-! ## The end of the flush (R212, R467) -/

section
variable {s : State} {unsealed : List Nat}

/-- The seals stand and the power-down record is written, with VIN still valid also the sealed set. -/
def State.flushSealed (s : State) (unsealed : List Nat) : State :=
  let r := (s.sealTiles unsealed).commitSeal.powerDownRecord
  if r.power.vinValid && r.rootsAccepted then r.saveSealed else r

theorem exec_flushDone_ends (hf : s.power.flushing = true) (hd : s.power.flushed = false) (hp : s.phase = 1 ∨ s.phase = 2) :
    exec (.flushDone unsealed) s = .next
      ({ s.flushSealed unsealed with power := { (s.flushSealed unsealed).power with flushed := true } } : State).startShutdown := by
  rw [exec_flushDone, execFlushDone, if_neg (by simp [hf, hd, hp])]
  rfl

theorem exec_flushDone_idle (h : s.power.flushing = false ∨ s.power.flushed = true ∨ (s.phase ≠ 1 ∧ s.phase ≠ 2)) :
    exec (.flushDone unsealed) s = .next s := by
  rw [exec_flushDone, execFlushDone, if_pos (by simpa using h)]

end

/-! ## The rails (R462, R467, R468, R475) -/

section
variable {s : State} {rail : Nat}

/-- The rail's power good is lost; with VMED (rail 14) goes what the packages held. -/
def State.railLost (s : State) (rail : Nat) : State :=
  let a := s.setRail rail (fun x => { x with pg := false, on := x.on && rail != 14 })
  if rail = 14 then a.vmedOff else a

theorem exec_pgChange_noRail (good : Bool) (h : rail = 0 ∨ 16 ≤ rail) : exec (.pgChange rail good) s = .next s := by
  rw [exec_pgChange, execPgChange, if_pos h]

theorem exec_railOffDone_idle (h : rail = 0 ∨ (s.power.rail rail).en = true ∨ (s.power.rail rail).on = false) : exec (.railOffDone rail) s = .next s := by
  rw [exec_railOffDone, execRailOffDone, if_pos (by simpa using h)]

theorem exec_railOffDone_discharged (h0 : rail ≠ 0) (he : (s.power.rail rail).en = false) (ho : (s.power.rail rail).on = true) :
    exec (.railOffDone rail) s = .next (let a := s.setRail rail (fun x => { x with on := false, pg := false })
      (if rail = 14 then a.vmedOff else a).seqRecheck) := by
  rw [exec_railOffDone, execRailOffDone, if_neg (by simp [h0, he, ho])]

variable (h : ¬(rail = 0 ∨ 16 ≤ rail))
include h

theorem exec_pgChange_good : exec (.pgChange rail true) s =
    .next (if (s.power.rail rail).en then s.railUp rail else s.setRail rail (fun x => { x with on := true, pg := true })) := by
  rw [exec_pgChange, execPgChange, if_neg h, if_pos rfl]

theorem exec_pgChange_lost : exec (.pgChange rail false) s =
    .next (let was := (s.power.rail rail).en && (s.power.rail rail).pg
      let b := s.railLost rail
      if was && b.phase == 1 then b.seqFault 6 rail else if was && b.phase == 2 && (b.power.dep rail).required then b.regulatorFault rail else b) := by
  rw [exec_pgChange, execPgChange, if_neg h, if_neg Bool.false_ne_true]
  rfl

end

/-! ## The push button (R476) -/

section
variable {s : State}

theorem exec_pbtnHold8s_idle (h : s.power.pressed = false ∨ s.powered = false) : exec .pbtnHold8s s = .next s := by
  rw [exec_pbtnHold8s, execPbtnHold8s, if_neg (by simpa [imp_iff_not_or] using h)]

theorem exec_pbtnHold15s_idle (h : s.power.pressed = false) : exec .pbtnHold15s s = .next s := by
  rw [exec_pbtnHold15s, execPbtnHold15s, if_pos (by rw [h]; rfl)]

variable (h : s.power.pressed = true)
include h

theorem exec_pbtnHold8s_powered (hp : s.powered = true) : exec .pbtnHold8s s = .next ((s.pbtnEvent 1).powerOff 12 0 .press) := by
  rw [exec_pbtnHold8s, execPbtnHold8s, if_pos (by rw [h, hp]; rfl)]

theorem exec_pbtnHold15s_pressed : exec .pbtnHold15s s = .next (
    if (s.pbtnEvent 2).phase = 0 then s.pbtnEvent 2
    else (if (s.pbtnEvent 2).powered then (s.pbtnEvent 2).powerOff 12 0 .press else s.pbtnEvent 2).railsOff) := by
  rw [exec_pbtnHold15s, execPbtnHold15s, if_neg (by rw [h]; decide)]

end

/-- Settles O35: each event by the phase, the brace, the rail or the press it finds. -/
theorem powerEventsTakeEffect : Obligations.PowerEventsTakeEffect := by
  unfold Obligations.PowerEventsTakeEffect
  intro s mv rail unsealed low
  refine ⟨fun ⟨hb, hp⟩ => exec_vinWarn_braces hb hp, exec_vinWarn_samples, exec_vinCommit_on, exec_vinCommit_off, exec_vinOff mv s, exec_commitOffTimeout_low,
    ⟨exec_vinValid_off, fun ⟨h, hb, hf⟩ => exec_vinValid_braced h hb hf, fun ⟨h, hb⟩ => exec_vinValid_unbraced h hb⟩,
    fun ⟨hf, hd, hp⟩ => exec_flushDone_ends hf hd hp, exec_flushDone_idle, exec_commitOffTimeout_idle, exec_minOffTimeEnd_on, exec_minOffTimeEnd_off,
    fun h => ⟨exec_pgChange_noRail true h, exec_pgChange_noRail false h⟩, exec_railOffDone_idle, fun ⟨h1, h16⟩ => ?_, exec_pbtnPress s, exec_pbtnRelease s,
    exec_pbtnHold8s_idle, exec_pbtnHold15s_idle, fun h => ⟨exec_pbtnHold8s_powered h, exec_pbtnHold15s_pressed h⟩⟩
  have present : ¬(rail = 0 ∨ 16 ≤ rail) := by omega
  refine ⟨fun he => ?_, fun he => ?_, exec_pgChange_lost present, fun ⟨he, ho⟩ => exec_railOffDone_discharged (by omega) he ho⟩
  · rw [exec_pgChange_good present, if_pos he]
  · rw [exec_pgChange_good present, if_neg (Bool.eq_false_iff.mp he)]

end Sys2Proof.Machine
end

section
/-! PROOFS. Resets and clocks (06, 15, 18): trim loads, the cold and the warm reset, the litter's replay, clock failures, the Glade domain's loss. -/
namespace Sys2Proof.Machine

/-! ## The commands' meanings: resets and clocks -/

theorem exec_clockGateRelease (domain : Nat) (s : State) : exec (.clockGateRelease domain) s = execClockGateRelease domain s := rfl
theorem exec_trimLoadDone (s : State) : exec .trimLoadDone s = execTrimLoadDone s := rfl
theorem exec_coldReset (s : State) : exec .coldReset s = execColdReset s := rfl
theorem exec_warmReset (failed : List Nat) (s : State) : exec (.warmReset failed) s = execWarmReset failed s := rfl
theorem exec_litterReplay (tile : Nat) (groups : List (Nat × Nat)) (lines : List Nat) (s : State) :
    exec (.litterReplay tile groups lines) s = execLitterReplay tile groups lines s := rfl
theorem exec_clockFail (domain : Nat) (s : State) : exec (.clockFail domain) s = execClockFail domain s := rfl
theorem exec_oscillatorRestartDone (stable : Bool) (s : State) : exec (.oscillatorRestartDone stable) s = execOscillatorRestartDone stable s := rfl
theorem exec_gladeReset (s : State) : exec .gladeReset s = execGladeReset s := rfl
theorem exec_vgladeFirstPresent (s : State) : exec .vgladeFirstPresent s = execVgladeFirstPresent s := rfl

/-! ## Trim loads (R484) -/

theorem exec_trimLoadDone_loading {s : State} (h : s.clocks.trimming = true) : exec .trimLoadDone s =
    .next ((({ s with clocks := { s.clocks with trimming := false } } : State).wf F.RST_STAT_interrupted_loads 0).wf F.RST_STAT_trim_safe 0).showPending := by
  rw [exec_trimLoadDone, execTrimLoadDone, if_pos h]

theorem exec_trimLoadDone_idle {s : State} (h : s.clocks.trimming = false) : exec .trimLoadDone s = .next s := by
  rw [exec_trimLoadDone, execTrimLoadDone, if_neg (Bool.eq_false_iff.mp h)]

/-! ## The cold and the warm reset (R479, R482) -/

section
variable {s : State} {failed : List Nat}

/-- A reset asked for may start: the device is On and not flushing, and its oscillator runs. -/
def State.resetMayStart (s : State) : Prop := s.phase = 2 ∧ s.power.flushing = false ∧ s.clocks.oscFailed = false

theorem State.not_resetMayStart_iff : ¬ s.resetMayStart ↔ s.phase ≠ 2 ∨ s.power.flushing = true ∨ s.clocks.oscFailed = true := by
  simp only [State.resetMayStart, not_and_or, Bool.not_eq_false, ne_eq]

/-- The request that stands for a scope. -/
def State.resetAsked (s : State) (scope : Nat) : Option ResetReq := s.resets.find? (fun r => r.scope == scope)

theorem exec_coldReset_idle (h : s.resetAsked 2 = none ∨ ¬ s.resetMayStart) : exec .coldReset s = .next s := by
  rw [State.resetAsked, State.not_resetMayStart_iff] at h
  rw [exec_coldReset, execColdReset]
  split
  · next r hr => rw [if_pos (h.resolve_left (by rw [hr]; exact Option.some_ne_none r))]
  · rfl

theorem exec_warmReset_idle (h : s.resetAsked 3 = none ∨ ¬ s.resetMayStart) : exec (.warmReset failed) s = .next s := by
  rw [State.resetAsked, State.not_resetMayStart_iff] at h
  rw [exec_warmReset, execWarmReset]
  split
  · next r hr => rw [if_pos (h.resolve_left (by rw [hr]; exact Option.some_ne_none r))]
  · rfl

variable (may : s.resetMayStart) {r : ResetReq}
include may

theorem exec_coldReset_starts (h : s.resetAsked 2 = some r) : exec .coldReset s = .next (s.coldReset r.cause r.detail) := by
  rw [State.resetAsked] at h
  rw [exec_coldReset, execColdReset, h]
  exact congrArg _ (if_neg (mt State.not_resetMayStart_iff.mpr (not_not_intro may)))

/-- The warm reset is recorded, the part flushes, and its tiles return but those that failed. -/
def State.warmReset (s : State) (cause detail : Nat) (failed : List Nat) : State :=
  let t := (({ s with resets := [] } : State).resetEvent 3 cause detail).noteReset 3 cause detail
  (t.resetFlush.warmShow ((failed.filter (fun u => decide (u < t.tileCount))).eraseDups)).drainGlade

/-- A warm reset starts, or is dropped while the warden's domain is held, as in a cold reset (R480). -/
theorem exec_warmReset_asked (h : s.resetAsked 3 = some r) : exec (.warmReset failed) s =
    .next (if s.clocks.held.contains 1 then { s with resets := s.resets.filter (fun q => decide (q.scope < 3)) } else s.warmReset r.cause r.detail failed) := by
  rw [State.resetAsked] at h
  rw [exec_warmReset, execWarmReset, h]
  exact congrArg _ (if_neg (mt State.not_resetMayStart_iff.mpr (not_not_intro may)))

end

/-! ## The litter's replay (R217, R218) -/

section
variable {s : State} {tile : Nat} {groups : List (Nat × Nat)} {lines : List Nat}

/-- The litter of a tile may be replayed: the warden is up, image and taproots are accepted, and the tile has not replayed its own and is not in service but held. -/
def State.mayReplay (s : State) (n : Nat) : Prop :=
  s.wardenUp = true ∧ s.clocks.imageChecked = true ∧ s.clocks.taprootsAccepted = true ∧ n < s.tileCount ∧ (s.tile n).replayed = false ∧
    (s.tileInService n && (s.tile n).held) = false

theorem State.not_mayReplay_iff : ¬ s.mayReplay tile ↔ (!s.wardenUp) = true ∨ (!s.clocks.imageChecked) = true ∨ (!s.clocks.taprootsAccepted) = true ∨
    s.tileCount ≤ tile ∨ (s.tile tile).replayed = true ∨ (s.tileInService tile && (s.tile tile).held) = true := by
  simp only [State.mayReplay, not_and_or, Bool.not_eq_true', Bool.not_eq_true, Bool.not_eq_false, not_lt]

/-- The halves a tile replays; a scrapped part replays none. -/
def State.litterHalves (s : State) (n : Nat) : List LitterHalf := if s.lifecycle = 3 then [] else (s.tile n).replayHalves

/-- The map lines that only skipped groups held have gone back, and the halves are replayed in order. -/
def State.litterReplayed (s : State) (n : Nat) (groups : List (Nat × Nat)) (lines : List Nat) : State :=
  each (s.litterHalves n) (each (mapsLost (s.litterHalves n) groups) s (fun s k => s.mapBack n k)) (fun s h => s.replayHalf n h (h.skips groups) lines)

theorem exec_litterReplay_idle (no : ¬ s.mayReplay tile) : exec (.litterReplay tile groups lines) s = .next s := by
  rw [exec_litterReplay, execLitterReplay, if_pos (State.not_mayReplay_iff.mp no)]

variable (may : s.mayReplay tile)
include may

theorem exec_litterReplay_empty (h : (s.litterHalves tile).getLast? = none) : exec (.litterReplay tile groups lines) s =
    .next (((s.litterReplayed tile groups lines).flushStat tile none []).undRefreshAll.replayDone tile) := by
  rw [State.litterHalves] at h
  rw [exec_litterReplay, execLitterReplay, if_neg (mt State.not_mayReplay_iff.mpr (not_not_intro may))]
  simp only [h]
  rfl

/-- The newest half decides: without its seal it was a dirty flush. -/
theorem exec_litterReplay_newest {x : LitterHalf} (h : (s.litterHalves tile).getLast? = some x) : exec (.litterReplay tile groups lines) s =
    .next (let t := s.litterReplayed tile groups lines
      ((if x.sealed_ then t else t.dirtyFlush tile (x.skips groups).eraseDups.length).flushStat tile (some x) (x.skips groups)).undRefreshAll.replayDone tile) := by
  rw [State.litterHalves] at h
  rw [exec_litterReplay, execLitterReplay, if_neg (mt State.not_mayReplay_iff.mpr (not_not_intro may))]
  simp only [h]
  rfl

end

/-! ## Clock failures (R481) -/

section
variable {s : State} {n : Nat}

theorem exec_clockFail_stopped (h : s.phase ≠ 2 ∨ s.clocks.held.contains n = true) : exec (.clockFail n) s = .next s := by
  rw [exec_clockFail, execClockFail, if_pos h]

section
variable (run : ¬(s.phase ≠ 2 ∨ s.clocks.held.contains n = true))
include run

/-- The oscillator's failure holds every domain. -/
theorem exec_clockFail_oscillator (h : n = 0) : exec (.clockFail n) s =
    .next { (s.clockNote 0) with clocks := { (s.clockNote 0).clocks with oscFailed := true, restarts := 0, held := s.resetDomains } } := by
  rw [exec_clockFail, execClockFail, if_neg run, if_pos h]

/-- The warden's and the fabric's failure asks for a cold reset. -/
theorem exec_clockFail_core (h : n = 1 ∨ n = 2) : exec (.clockFail n) s = .next ((s.clockNote n).requestReset ⟨2, 9, n⟩) := by
  rw [exec_clockFail, execClockFail, if_neg run, if_neg (by omega), if_pos (by omega)]

theorem exec_clockFail_port (h : 3 ≤ n ∧ n ≤ 6) :
    exec (.clockFail n) s = .next (if n - 3 < s.portCount then (s.clockNote n).portReset (n - 3) 9 else s) := by
  rw [exec_clockFail, execClockFail, if_neg run, if_neg (by omega), if_neg (by omega), if_pos h.2]

/-- The channels of the service port, interfaces 4 and 7, are reset with their clock (R354, R365). -/
theorem exec_clockFail_usb4 (h : n = 7) :
    exec (.clockFail n) s = .next (((((s.clockNote 7).resetInterface 4).resetInterface 7).abortFwOf 4).abortStageOf 4) := by
  rw [exec_clockFail, execClockFail, if_neg run, if_neg (by omega), if_neg (by omega), if_neg (by omega), if_pos h]

theorem exec_clockFail_sideband (h : n = 8) : exec (.clockFail n) s = .next (s.clockNote 8).resetSideband := by
  rw [exec_clockFail, execClockFail, if_neg run, if_neg (by omega), if_neg (by omega), if_neg (by omega), if_neg (by omega), if_pos h]

/-- The tiles' domains are those from 10 on; the debug domain 9 has no monitor (R19). -/
theorem exec_clockFail_tile (h : 9 ≤ n) :
    exec (.clockFail n) s = .next (if 10 ≤ n ∧ n - 10 < s.tileCount then (s.clockNote n).tileReset (n - 10) 6 9 else s) := by
  rw [exec_clockFail, execClockFail, if_neg run, if_neg (by omega), if_neg (by omega), if_neg (by omega), if_neg (by omega), if_neg (by omega)]

end

/-! ## The oscillator's restart (R481; log 118) -/

theorem exec_oscillatorRestartDone_idle (stable : Bool) (h : s.clocks.oscFailed = false) : exec (.oscillatorRestartDone stable) s = .next s := by
  rw [exec_oscillatorRestartDone, execOscillatorRestartDone, if_pos (by rw [h]; rfl)]

variable (h : s.clocks.oscFailed = true)
include h

theorem exec_oscillatorRestartDone_stable : exec (.oscillatorRestartDone true) s =
    .next (({ s with clocks := { s.clocks with oscFailed := false, held := [] } } : State).requestReset ⟨2, 9, 0⟩) := by
  rw [exec_oscillatorRestartDone, execOscillatorRestartDone, if_neg (by rw [h]; decide), if_pos rfl]

theorem exec_oscillatorRestartDone_again (hr : s.clocks.restarts < 2) :
    exec (.oscillatorRestartDone false) s = .next { s with clocks := { s.clocks with restarts := s.clocks.restarts + 1 } } := by
  rw [exec_oscillatorRestartDone, execOscillatorRestartDone, if_neg (by rw [h]; decide), if_neg Bool.false_ne_true, if_pos hr]

theorem exec_oscillatorRestartDone_last (hr : 2 ≤ s.clocks.restarts) : exec (.oscillatorRestartDone false) s =
    .next (let t := (s.resetEvent 1 9 0).noteReset 1 9 0
      (({ t with clocks := { t.clocks with oscFailed := false }, power := { t.power with after := .again } } : State).endWork).railsOff) := by
  rw [exec_oscillatorRestartDone, execOscillatorRestartDone, if_neg (by rw [h]; decide), if_neg Bool.false_ne_true, if_neg (by omega)]

end

/-- Settles O37: the resets by the request and the state they find, the replay by the newest half, a failed clock by its domain. -/
theorem resetsAndClocksTakeEffect : Obligations.ResetsAndClocksTakeEffect := by
  unfold Obligations.ResetsAndClocksTakeEffect
  intro s n failed lines groups
  refine ⟨exec_clockGateRelease n s, exec_trimLoadDone_loading, exec_trimLoadDone_idle,
    ⟨exec_coldReset_idle, exec_warmReset_idle, fun may => ⟨fun r => exec_coldReset_starts may, fun r hr => ⟨fun hh => ?_, fun hh => ?_⟩⟩⟩,
    ⟨exec_litterReplay_idle, fun ⟨may, h⟩ => exec_litterReplay_empty may h, fun x ⟨may, h⟩ => exec_litterReplay_newest may h⟩,
    exec_clockFail_stopped, fun ⟨hp, hh⟩ => ?_, fun h stable => exec_oscillatorRestartDone_idle stable h,
    fun h => ⟨exec_oscillatorRestartDone_stable h, exec_oscillatorRestartDone_again h, exec_oscillatorRestartDone_last h⟩,
    exec_gladeReset s, exec_vgladeFirstPresent s⟩
  · rw [exec_warmReset_asked may hr, if_pos hh]
  · rw [exec_warmReset_asked may hr, if_neg (Bool.eq_false_iff.mp hh)]
    rfl
  · have run : ¬(s.phase ≠ 2 ∨ s.clocks.held.contains n = true) := not_or_intro (not_not_intro hp) (Bool.eq_false_iff.mp hh)
    refine ⟨exec_clockFail_oscillator run, exec_clockFail_core run, exec_clockFail_port run, exec_clockFail_usb4 run, exec_clockFail_sideband run,
      fun h => ?_, fun h => ?_⟩
    · rw [exec_clockFail_tile run (by omega), if_pos h]
    · rw [exec_clockFail_tile run (by omega), if_neg (by omega)]

end Sys2Proof.Machine
end

section
/-! PROOFS. Translation, wear and health (07): what is permanent and read-only, the stem map and wear levelling, the health report, error records and retirement, what reset leaves. -/
namespace Sys2Proof.Machine

/-! ## What is permanent (R242, R250, R257, R367, R368, R420, R437) -/

theorem Kept.permanent {a b : State} (h : Kept a b) : permanent a b := by
  obtain ⟨_, _, _, _, _, _, _, hp, _⟩ := h
  exact hp

theorem Kept.fusesLe {a b : State} (h : Kept a b) : fusesLe a b := by
  obtain ⟨_, _, _, _, _, _, _, _, hf⟩ := h
  exact hf

/-- Taking a command off the queue touches nothing permanent, so a step keeps what is permanent from the state it finds. -/
theorem step_permanent {s t : State} (h : step s = .next t) : permanent s t := by
  obtain ⟨_, hk⟩ := step_next_kept h
  exact hk.permanent

theorem step_fusesLe {s t : State} (h : step s = .next t) : fusesLe s t := by
  obtain ⟨_, hk⟩ := step_next_kept h
  exact hk.fusesLe

/-- Settles O55: the heartwood, the deadwood and the spare base are a part of what every step keeps, and so is the order of the fuses. -/
theorem whatIsPermanentStays : Obligations.WhatIsPermanentStays := by
  unfold Obligations.WhatIsPermanentStays
  intro s t h
  obtain ⟨hheart, hdead, hspare, _⟩ := step_permanent h
  exact ⟨hheart, hdead, hspare, step_fusesLe h⟩

/-- Settles O56: read-only is a part of what is permanent, for a step as for a command run alone. -/
theorem readOnlyIsNeverLeft : Obligations.ReadOnlyIsNeverLeft := by
  unfold Obligations.ReadOnlyIsNeverLeft
  intro s t hs
  refine ⟨fun h => ?_, fun c h => ?_⟩
  · obtain ⟨_, _, _, hro⟩ := step_permanent h
    exact hro hs
  · obtain ⟨_, _, _, hro⟩ := (exec_next_kept h).permanent
    exact hro hs

/-! ## The commands' meanings: translation, wear and health -/

theorem exec_censusEnd (tile : Nat) (s : State) : exec (.censusEnd tile) s = execCensusEnd tile s := rfl
theorem exec_filterRebuildDone (tile : Nat) (s : State) : exec (.filterRebuildDone tile) s = execFilterRebuildDone tile s := rfl
theorem exec_stemMapResident (tile : Nat) (s : State) : exec (.stemMapResident tile) s = execStemMapResident tile s := rfl
theorem exec_wearLevelTick (tile : Nat) (s : State) : exec (.wearLevelTick tile) s = execWearLevelTick tile s := rfl
theorem exec_getHealthReport (iface ld : Nat) (s : State) : exec (.getHealthReport iface ld) s = execGetHealthReport iface ld s := rfl
theorem exec_getMediaErrorRecords (iface ld : Nat) (b : Bytes) (s : State) :
    exec (.getMediaErrorRecords iface ld b) s = execGetMediaErrorRecords iface ld b s := rfl
theorem exec_health (offset length : Nat) (s : State) : exec (.health offset length) s = execHealth offset length s := rfl
theorem exec_retire (iface ld : Nat) (b : Bytes) (s : State) : exec (.retire iface ld b) s = execRetire iface ld b s := rfl
theorem exec_retireDone (s : State) : exec .retireDone s = execRetireDone s := rfl

/-! ## Census and the resident stem map (R163, R231, R235) -/

section
variable {s : State} {tile : Nat}

/-- The slots of the stem map lines a census is for. -/
def State.censusSlots (s : State) (tile : Nat) : List Nat := ((s.tile tile).census.map (fun n => (upto 4).map (fun i => 4 * n + i))).flatten

/-- The entries of the census's lines are rebuilt. -/
def State.censusRebuilt (s : State) (tile : Nat) : State :=
  (each (s.censusSlots tile) s (fun s slot => s.rebuildEntry tile slot)).modTile tile (fun x => { x with census := [] })

theorem exec_censusEnd_running (h : s.rb (F.TRN_MAP_STAT_census tile) = true) : exec (.censusEnd tile) s =
    .next (let t := s.censusRebuilt tile
      ((t.wf (F.TRN_MAP_STAT_census tile) 0).emit (0x20 + 8 * tile) 0x0403
        (le 1 tile ++ le 4 ((s.censusSlots tile).filter (fun k => ((t.tile tile).stem k).valid)).length)).undRefreshAll) := by
  rw [exec_censusEnd, execCensusEnd, if_pos h]
  rfl

theorem exec_censusEnd_idle (h : s.rb (F.TRN_MAP_STAT_census tile) = false) : exec (.censusEnd tile) s = .next s := by
  rw [exec_censusEnd, execCensusEnd, if_neg (Bool.eq_false_iff.mp h)]

/-- Every run of the tile's stem map lies within its cache (R163, R231). -/
def State.stemMapFits (s : State) (tile : Nat) : Prop := ∀ d ∈ (s.tile tile).dir, d.2.1 + d.2.2 ≤ s.cpt * 49152

theorem State.stemMapFits_iff : s.stemMapFits tile ↔ ¬ (s.tile tile).dir.any (fun d => decide (s.cpt * 49152 < d.2.1 + d.2.2)) = true := by
  simp only [State.stemMapFits, List.any_eq_true, decide_eq_true_eq, not_exists, not_and, not_lt]

theorem exec_stemMapResident_fits (h : s.stemMapFits tile) : exec (.stemMapResident tile) s = .next (s.wf (F.TRN_MAP_STAT_stem_resident tile) 1) := by
  rw [exec_stemMapResident, execStemMapResident, if_neg (State.stemMapFits_iff.mp h)]

theorem exec_stemMapResident_beyond (h : ¬ s.stemMapFits tile) : exec (.stemMapResident tile) s = .next s := by
  rw [exec_stemMapResident, execStemMapResident, if_pos (by_contra (mt State.stemMapFits_iff.mpr h))]

end

/-! ## Wear levelling (R246) -/

section
variable {s : State} {tile : Nat}

/-- The least worn stem of the 4,096 slots a tick scans and the best kept. -/
def State.levelFound (s : State) (tile : Nat) : Option Nat :=
  s.leastWorn tile (s.tile tile).levelBest ((upto 4096).map (fun i => ((s.tile tile).levelAt + i) % 50331648))

/-- The scan has moved on. -/
def State.levelScanned (s : State) (tile : Nat) : State :=
  s.modTile tile (fun x => { x with levelAt := (x.levelAt + 4096) % 50331648, levelBest := s.levelFound tile })

/-- A stem found is levelled: nothing bars it, its wear is gap times 100 units below the mean, and it is not under copy. -/
def State.levelWanted (s : State) (tile k : Nat) : Bool :=
  let t := s.levelScanned tile
  !t.levelBarred tile && decide ((t.placeRec ((s.tile tile).stem k).place).wear + t.rf (F.TRN_WEAR_CFG_gap tile) * 100 < t.meanWear) && ((s.tile tile).copyOf k).isNone

/-- The stem found is queued for a wear copy. -/
def State.levelQueued (s : State) (tile k : Nat) : State :=
  (s.levelScanned tile).modTile tile (fun x => { x with levelBest := none, copyQueue := x.copyQueue ++ [(k, .wear)] })

theorem exec_wearLevelTick_idle (h : s.rb (F.TRN_WEAR_CFG_level_en tile) = false ∨ s.tileInService tile = false) : exec (.wearLevelTick tile) s = .next s := by
  rw [exec_wearLevelTick, execWearLevelTick, if_pos (by simpa using h)]

variable (on : s.rb (F.TRN_WEAR_CFG_level_en tile) = true ∧ s.tileInService tile = true)
include on

theorem exec_wearLevelTick_nothing (hf : s.levelFound tile = none) : exec (.wearLevelTick tile) s = .next (s.levelScanned tile) := by
  rw [State.levelScanned, hf]
  rw [State.levelFound] at hf
  rw [exec_wearLevelTick, execWearLevelTick, if_neg (by simp [on])]
  simp only [hf]

theorem exec_wearLevelTick_found {k : Nat} (hf : s.levelFound tile = some k) :
    exec (.wearLevelTick tile) s = .next (if s.levelWanted tile k then s.levelQueued tile k else s.levelScanned tile) := by
  simp only [State.levelWanted, State.levelQueued, State.levelScanned, hf]
  rw [State.levelFound] at hf
  rw [exec_wearLevelTick, execWearLevelTick, if_neg (by simp [on])]
  simp only [hf]

end

/-- Settles O14: a census runs or not, the map fits its cache or not, and a levelling tick is idle, finds nothing, levels the stem found or leaves it. -/
theorem stemMapCommandsTakeEffect : Obligations.StemMapCommandsTakeEffect := by
  unfold Obligations.StemMapCommandsTakeEffect
  intro s tile
  refine ⟨exec_censusEnd_running, exec_censusEnd_idle, exec_filterRebuildDone tile s, exec_stemMapResident_fits, fun on => ⟨exec_wearLevelTick_nothing on,
    fun k ⟨hf, hb, hw, hc⟩ => ?_, fun k ⟨hf, no⟩ => ?_⟩, exec_wearLevelTick_idle, fun ⟨d, hd, hlt⟩ => ?_⟩
  · have wanted : s.levelWanted tile k = true := by
      rw [State.levelWanted, Bool.and_eq_true, Bool.and_eq_true, Bool.not_eq_true', decide_eq_true_eq, Option.isNone_iff_eq_none]
      exact ⟨⟨hb, hw⟩, hc⟩
    exact (exec_wearLevelTick_found on hf).trans (congrArg _ (if_pos wanted))
  · have unwanted : s.levelWanted tile k = false := by
      rw [State.levelWanted, Bool.and_eq_false_iff, Bool.and_eq_false_iff, Bool.not_eq_false', decide_eq_false_iff_not, Nat.not_lt, or_assoc]
      exact no
    exact (exec_wearLevelTick_found on hf).trans (congrArg _ (if_neg (Bool.eq_false_iff.mp unwanted)))
  · exact exec_stemMapResident_beyond (fun fits => Nat.not_lt.mpr (fits d hd) hlt)

/-! ## The health report and the error records (R258, R293, R453, R456) -/

section
variable {s : State} {iface ld : Nat} {b : Bytes} (h : s.hears iface ld = true) (hr : (s.heard iface).holds iface .healthRead = true)

/-- An input of Get Media Error Records that R293 allows. -/
def errInput (b : Bytes) : Prop := b.length = 8 ∧ 1 ≤ getLe b 4 2 ∧ getLe b 4 2 ≤ errMost ∧ allZero (slice b 6 2) = true

theorem not_errInput_iff : ¬ errInput b ↔ b.length ≠ 8 ∨ getLe b 4 2 = 0 ∨ errMost < getLe b 4 2 ∨ (!allZero (slice b 6 2)) = true := by
  simp only [errInput, not_and_or, Nat.not_le, Nat.lt_one_iff, ne_eq, Bool.not_eq_true', Bool.not_eq_true]

/-- The records a reader gets: the first it sees from the number asked for. -/
def State.errsRead (s : State) (iface ld : Nat) (b : Bytes) : List MErr :=
  (s.errs.reverse.filter (fun e => decide (getLe b 0 4 ≤ e.num) && s.seesErr iface ld e)).take (getLe b 4 2)

/-- The payload of Get Media Error Records. -/
def State.errsOutput (s : State) (iface ld : Nat) (b : Bytes) : Bytes :=
  le 4 (s.errsRead iface ld b).length ++ le 4 s.errOldest ++ le 4 s.errNext ++ zeros 4 ++ ((s.errsRead iface ld b).map (s.errBytes iface)).flatten

include h hr

theorem exec_getHealthReport_held : exec (.getHealthReport iface ld) s =
    .next (s.answers iface ld 0xC021 ⟨.success, (s.heard iface).healthReport, s.heard iface⟩) := by
  rw [exec_getHealthReport, execGetHealthReport, State.command_answers h hr rfl]

theorem exec_getMediaErrorRecords_held (ok : errInput b) : exec (.getMediaErrorRecords iface ld b) s =
    .next (s.answers iface ld 0xC022 ⟨.success, (s.heard iface).errsOutput iface ld b, s.heard iface⟩) := by
  rw [exec_getMediaErrorRecords, execGetMediaErrorRecords, State.command_answers h hr (if_neg (mt not_errInput_iff.mpr (not_not_intro ok)))]
  rfl

theorem exec_getMediaErrorRecords_badInput (bad : ¬ errInput b) : exec (.getMediaErrorRecords iface ld b) s =
    .next (s.answers iface ld 0xC022 ⟨.invalidInput, [], s.heard iface⟩) := by
  rw [exec_getMediaErrorRecords, execGetMediaErrorRecords, State.command_answers h hr (if_pos (not_errInput_iff.mp bad))]
  rfl

end

section
variable {s : State} {offset length : Nat} (hup : s.wardenUp = true) (hn : s.nacking = false) (hv : s.rb F.WDN_I3C_STAT_addr_valid = true)
  (hr : (s.irqEdge irqSideband).holds 5 .healthRead = true)
include hup hn hv hr

theorem exec_health_inside (hl : offset + length ≤ 2112) : exec (.health offset length) s =
    .next ((s.irqEdge irqSideband).sidebandReady 0 (slice (s.irqEdge irqSideband).healthReport offset length)) := by
  rw [exec_health, execHealth, State.sidebandUnder_held hup hn hv hr]
  simp only [if_pos hl]

theorem exec_health_pastEnd (hl : 2112 < offset + length) : exec (.health offset length) s = .next ((s.irqEdge irqSideband).sidebandReady 4 []) := by
  rw [exec_health, execHealth, State.sidebandUnder_held hup hn hv hr]
  simp only [if_neg (Nat.not_le.mpr hl)]

end

/-! ## The Retire command (R253, R254, R255) -/

section
variable {s : State} {iface ld : Nat} {b : Bytes}

/-- The retirement a Retire command starts. -/
def State.retiringOf (s : State) (iface ld : Nat) (b : Bytes) (e : Effect) : Retiring :=
  ⟨getLe b 0 1, 0, e.places, e.stems, e.leaves, e.stems.length + e.leaves.length, getLe b 16 2, getLe b 18 1, iface, ld, true, s.deadwood.length, e.first, 0⟩

/-- The output of a Retire command that names an effect (R253). -/
def State.retireReport (s : State) (b : Bytes) (e : Effect) (status : Nat) : Bytes :=
  retireOutput status (getLe b 0 1) (s.deadOf e) (e.stems.length + e.leaves.length) (s.spare - s.deadOf e) s.deadwood.length

/-- What a Retire command that names an effect answers: an estimate or a refusal, Busy, or the retirement begun in the background. -/
def State.retireNamed (s : State) (iface ld : Nat) (b : Bytes) (e : Effect) : Answer :=
  if s.retireStatus e ≠ 0 ∨ (getLe b 1 1 == 1) = true then ⟨.success, s.retireReport b e (s.retireStatus e), s⟩
  else if (s.ld iface ld).bg.isSome then answer .busy s
  else ⟨.background, s.retireReport b e 0, (s.modLd iface ld (fun d => { d with bg := some 0xC020 })).startRetire (s.retiringOf iface ld b e) e⟩

/-- A right over all compartments is asked of a die or a channel only. -/
theorem State.not_unitBarred (hk : getLe b 0 1 < 4 ∨ s.coversAll iface .retire = true) : (decide (4 ≤ getLe b 0 1) && !s.coversAll iface .retire) = false := by
  rcases hk with hk | hk
  · rw [decide_eq_false (Nat.not_le.mpr hk), Bool.false_and]
  · rw [hk, Bool.not_true, Bool.and_false]

theorem State.retire_malformed (h : s.retireInput b = false) :
    s.retire iface ld b = ⟨.success, retireOutput 1 (getLe b 0 1) 0 0 s.spare 0, s⟩ := by
  simp only [State.retire, h, Bool.not_false, if_true]

variable (ok : s.retireInput b = true)
include ok

theorem State.retire_uncovered (hk : 4 ≤ getLe b 0 1) (hc : s.coversAll iface .retire = false) :
    s.retire iface ld b = ⟨.invalidSecurityState, [], s.deny iface 0xC020 .retire⟩ := by
  simp [State.retire, ok, hk, hc, answer]

variable (hk : getLe b 0 1 < 4 ∨ s.coversAll iface .retire = true)
include hk

theorem State.retire_unseen (he : s.retireEffect iface ld b = none) :
    s.retire iface ld b = ⟨.success, retireOutput 2 (getLe b 0 1) 0 0 s.spare 0, s⟩ := by
  simp only [State.retire, ok, State.not_unitBarred hk, he, Bool.not_true, Bool.false_eq_true, if_false]

variable {e : Effect} (he : s.retireEffect iface ld b = some e)
include he

theorem State.retire_named : s.retire iface ld b = s.retireNamed iface ld b e := by
  simp only [State.retire, ok, State.not_unitBarred hk, he, Bool.not_true, Bool.false_eq_true, if_false, Bool.or_eq_true, decide_eq_true_eq]
  rfl

theorem State.retire_reports (h : s.retireStatus e ≠ 0 ∨ (getLe b 1 1 == 1) = true) :
    s.retire iface ld b = ⟨.success, s.retireReport b e (s.retireStatus e), s⟩ := by
  rw [State.retire_named ok hk he, State.retireNamed, if_pos h]

variable (hz : s.retireStatus e = 0) (hest : (getLe b 1 1 == 1) = false)
include hz hest

theorem State.retire_busy (hb : (s.ld iface ld).bg.isSome = true) : s.retire iface ld b = ⟨.busy, [], s⟩ := by
  rw [State.retire_named ok hk he, State.retireNamed, if_neg (by simp [hz, hest]), if_pos hb, answer]

theorem State.retire_starts (hb : (s.ld iface ld).bg = none) : s.retire iface ld b =
    ⟨.background, s.retireReport b e 0, (s.modLd iface ld (fun d => { d with bg := some 0xC020 })).startRetire (s.retiringOf iface ld b e) e⟩ := by
  rw [State.retire_named ok hk he, State.retireNamed, if_neg (by simp [hz, hest]), if_neg (by simp [hb])]

end

theorem exec_retire_held {s : State} {iface ld : Nat} {b : Bytes} {a : Answer} (h : s.hears iface ld = true)
    (hr : (s.heard iface).holds iface .retire = true) (ha : (s.heard iface).retire iface ld b = a) :
    exec (.retire iface ld b) s = .next (s.answers iface ld 0xC020 a) := by
  rw [exec_retire, execRetire, State.command_answers h hr ha]

/-! ## The end of a retirement (R254, R256, R257) -/

section
variable {s : State}

/-- The deadwood entry of a unit retired by command is made; a die retired on the device's own has had it at the start (R255). -/
def State.retireMarked (s : State) (r : Retiring) : State := if r.cause = 2 then s else s.unitEntry r

/-- The retirement's places are Dead: a die's, a channel's with its link off, or those listed. -/
def State.retireKilled (s : State) (r : Retiring) : State :=
  let marked := s.retireMarked r
  if r.cause = 2 then marked
  else if r.kind = 4 then marked.killDie r.chan r.die
  else if r.kind = 5 then ({ (each (upto 4) marked (fun s d => s.killDie r.chan d)) with retiredChans := (marked.retiredChans ++ [r.chan]).eraseDups } : State).linkOff r.chan
  else each r.places marked (fun s p => s.killPlace p (if r.kind == 3 then 0 else 4))

/-- The places a retirement has made Dead in all. -/
def State.retireDead (s : State) (r : Retiring) : Nat := if r.cause = 2 then r.dead else r.dead + ((s.retireKilled r).deadPlaces - s.deadPlaces)

/-- The retirement is over and reported. -/
def State.retireOver (s : State) (r : Retiring) : State := ({ s.retireKilled r with retiring := none } : State).retireEvent r (s.retireDead r) 0

theorem exec_retireDone_idle (h : ∀ r, s.retiring = some r → s.retireDone r = false ∨ s.active = none) : exec .retireDone s = .next s := by
  rw [exec_retireDone, execRetireDone]
  cases hr : s.retiring with
  | none => rfl
  | some r => exact congrArg Host.Outcome.next (if_pos (by rcases h r hr with h | h <;> simp [h]))

variable {r : Retiring} (hr : s.retiring = some r) (hd : s.retireDone r = true) (ha : s.active.isSome = true)
include hr hd ha

omit hr in
theorem State.retireEnds : ¬ (!s.retireDone r || s.active.isNone) = true := by simp [hd, Option.isSome_iff_ne_none.mp ha]

theorem exec_retireDone_destages {line : Nat} (hf : r.first = some line) : exec .retireDone s = .next (s.retireDestaged r line) := by
  simp only [exec_retireDone, execRetireDone, hr, if_neg (State.retireEnds hd ha), hf]

theorem exec_retireDone_ends (hf : r.first = none) : exec .retireDone s =
    .next (let u := s.retireOver r
      (if r.byHost then u.endBackground r.iface r.ld 0xC020 .success (retireOutput 0 r.kind (s.retireDead r) r.total u.spare r.entry) else u).retireNext) := by
  simp only [exec_retireDone, execRetireDone, hr, if_neg (State.retireEnds hd ha), hf]
  rfl

end

/-- Settles O22: the mailbox commands by their input, Retire by what its input names and by the status, RETIRE_DONE by what the retirement still waits for. -/
theorem healthAndRetireCommandsTakeEffect : Obligations.HealthAndRetireCommandsTakeEffect := by
  unfold Obligations.HealthAndRetireCommandsTakeEffect
  intro s iface ld offset length b
  refine ⟨fun h => ⟨fun hr => ⟨exec_getHealthReport_held h hr, exec_getMediaErrorRecords_held h hr, fun bad => ?_⟩,
      fun hr => ⟨fun no => ?_, fun ⟨ok, hk, hc⟩ => ?_, fun ⟨ok, hk⟩ => ⟨fun he => ?_, fun e he => ⟨fun hq => ?_, fun ⟨hz, hest, hb⟩ => ?_, fun ⟨hz, hest, hb⟩ => ?_⟩⟩⟩⟩,
    fun ⟨hup, hn, hv, hr⟩ => ⟨exec_health_inside hup hn hv hr, exec_health_pastEnd hup hn hv hr⟩,
    fun r ⟨hr, hd, ha⟩ => ⟨fun line => exec_retireDone_destages hr hd ha, exec_retireDone_ends hr hd ha⟩, exec_retireDone_idle⟩
  · exact exec_getMediaErrorRecords_badInput h hr (not_errInput_iff.mpr (by simpa using bad))
  · exact exec_retire_held h hr (State.retire_malformed no)
  · exact exec_retire_held h hr (State.retire_uncovered ok hk hc)
  · exact exec_retire_held h hr (State.retire_unseen ok hk he)
  · exact exec_retire_held h hr (State.retire_reports ok hk he hq)
  · exact exec_retire_held h hr (State.retire_busy ok hk he hz hest hb)
  · exact exec_retire_held h hr (State.retire_starts ok hk he hz hest hb)

/-! ## What reset leaves (R237, R242, R319, R416, R420, R454, R466) -/

theorem reset_tilesInService : ∀ t < 8, State.reset.tileInService t = true ∧ (State.reset.tile t).filterAll = true := by
  decide

/-- Settles O49: the reset state's fields are read off, its registers evaluated. -/
theorem resetLeaves : Obligations.ResetLeaves := by
  unfold Obligations.ResetLeaves
  refine ⟨rfl, rfl, rfl, rfl, rfl, rfl, rfl, rfl, rfl, rfl, rfl, rfl, rfl, ?_, ?_, rfl, rfl, ?_, rfl, ?_, reset_tilesInService⟩ <;> decide

end Sys2Proof.Machine
end

section
/-! PROOFS. Codes, scrub and errors (08): the queues' bounds, at reset and at every step; the media checker. -/
namespace Sys2Proof.Machine

/-! ## The queues' bounds (R289, R414, R415, R426) -/

/-- What `Kept` says of the event FIFO, the Glade buffer and the error list, taken together. -/
theorem Kept.bounded {a b : State} (h : Kept a b) (ha : a.bounded) : b.bounded := by
  obtain ⟨_, _, _, _, hfifo, hbuffer, herrs, _⟩ := h
  obtain ⟨afifo, abuffer, aerrs⟩ := ha
  exact ⟨hfifo afifo, hbuffer abuffer, herrs aerrs⟩

/-- Settles O54: a step takes a command off the queue, which is none of the three, and then keeps their bounds. -/
theorem queuesStayBounded : Obligations.QueuesStayBounded := by
  unfold Obligations.QueuesStayBounded
  intro s t hs h
  obtain ⟨_, hk⟩ := step_next_kept h
  exact hk.bounded hs

/-! ## Reset (R289, R414, R426) -/

/-- The registers reset sets stand in rising order, none at its cold value. -/
theorem reset_regsCanonical : State.reset.regsCanonical := by
  decide

theorem reset_bounded : State.reset.bounded :=
  ⟨Nat.zero_le _, Nat.zero_le _, Nat.zero_le _⟩

/-- Settles O50: the registers are evaluated, and the three queues are empty. -/
theorem resetMeetsTheInvariants : Obligations.ResetMeetsTheInvariants := by
  unfold Obligations.ResetMeetsTheInvariants
  exact ⟨reset_regsCanonical, reset_bounded⟩

/-! ## The commands' meanings: the checker -/

theorem exec_checkerOpen (iface tile : Nat) (s : State) : exec (.checkerOpen iface tile) s = execCheckerOpen iface tile s := rfl
theorem exec_checkerWrite (iface tile : Nat) (s : State) : exec (.checkerWrite iface tile) s = execCheckerWrite iface tile s := rfl
theorem exec_checkerRead (iface tile : Nat) (s : State) : exec (.checkerRead iface tile) s = execCheckerRead iface tile s := rfl
theorem exec_checkerClose (iface tile : Nat) (s : State) : exec (.checkerClose iface tile) s = execCheckerClose iface tile s := rfl
theorem exec_checkerOpDone (tile : Nat) (s : State) : exec (.checkerOpDone tile) s = execCheckerOpDone tile s := rfl

/-! ## The checker's register writes (R297, R298, R299, R300, R301) -/

section
variable {s : State} {iface tile : Nat} {p : Place}

/-- A checker register write is ignored while the checker is busy, and on a tile the part does not have. -/
theorem State.chkUnder_ignored {f : Fld} {go : State → State} (h : s.tileCount ≤ tile ∨ s.chkBusy tile = true) : s.chkUnder iface tile f go = s := by
  rw [State.chkUnder, if_pos (by simpa using h)]

theorem exec_checkerOpen_ignored (h : s.tileCount ≤ tile ∨ s.chkBusy tile = true) : exec (.checkerOpen iface tile) s = .next s := by
  rw [exec_checkerOpen, execCheckerOpen, State.chkUnder_ignored h]

theorem exec_checkerWrite_ignored (h : s.tileCount ≤ tile ∨ s.chkBusy tile = true) : exec (.checkerWrite iface tile) s = .next s := by
  rw [exec_checkerWrite, execCheckerWrite, State.chkUnder_ignored h]

theorem exec_checkerRead_ignored (h : s.tileCount ≤ tile ∨ s.chkBusy tile = true) : exec (.checkerRead iface tile) s = .next s := by
  rw [exec_checkerRead, execCheckerRead, State.chkUnder_ignored h]

theorem exec_checkerClose_ignored (h : s.tileCount ≤ tile ∨ s.chkBusy tile = true) : exec (.checkerClose iface tile) s = .next s := by
  rw [exec_checkerClose, execCheckerClose, State.chkUnder_ignored h]

/-- The tile's checker takes a register write of the interface: it is not busy, and the interface is heard and holds the test right. -/
def State.chkTakes (s : State) (iface tile : Nat) : Prop :=
  tile < s.tileCount ∧ s.chkBusy tile = false ∧ s.hears iface 0 = true ∧ s.holds iface .test = true ∧ s.holds iface .mgmtWrite = true

/-- The place taken is lent, worn once and shown as the scratch place, its opening under way. -/
def State.chkLends (s : State) (tile : Nat) (p : Place) : State :=
  let a := ((s.placeTo p .lent).wearPlace p 1).setChecker tile ⟨some p, .opening, 0, false⟩
  let b := (((a.wf (F.MSC_CHK_PLACE_place tile) p.num).wf (F.MSC_CHK_PLACE_group tile) p.group).wf (F.MSC_CHK_PLACE_die_index tile) p.die).wf (F.MSC_CHK_PLACE_valid tile) 1
  ((b.wf (F.MSC_CHK_CTRL_open tile) 1).wf (F.MSC_CHK_STAT_busy tile) 1).chkOutcome tile 0

/-- The fast line-stripes of a scratch place are programmed: filler in the data members, its parity in the last two. -/
def State.chkFills (s : State) (tile : Nat) (p : Place) : State :=
  let pq := parityOf ((upto 14).map (fun d => (d, stripeVector fillerLine)))
  each (upto lentStripes) s (fun s n => each (upto 16) s (fun s m =>
    s.chkProgram tile (fastStripe p n) m (if m < 14 then fillerLine else parityLine (if m = 14 then pq.1 else pq.2)) false))

/-- The line the checker's data registers hold, encoded where asked. -/
def State.chkStaged (s : State) (tile : Nat) : Line :=
  let raw := s.chkLine (F.MSC_CHK_DATA tile)
  if s.rb (F.MSC_CHK_CTRL_encode tile) then recodeLine raw else raw

/-- The staged line is programmed with its flips, its writing under way. -/
def State.chkWrites (s : State) (tile : Nat) (p : Place) : State :=
  let spot := s.chkSpot tile p
  let a := ((s.setChecker tile ⟨some p, .writing, 0, false⟩).wf (F.MSC_CHK_STAT_busy tile) 1).wf (F.MSC_CHK_CTRL_write tile) 1
  (a.chkOutcome tile 0).chkProgram tile spot.1 spot.2 (s.chkStaged tile ^^^ s.chkLine (F.MSC_CHK_FLIP tile)) true

variable (takes : s.chkTakes iface tile)
include takes

theorem State.chkUnder_taken {f : Fld} {go : State → State} : s.chkUnder iface tile f go = go s := by
  obtain ⟨ht, idle, heard, test, write⟩ := takes
  rw [State.chkUnder, if_neg (by simp [ht, idle]), State.regWrite_held heard test write]

theorem exec_checkerClose_taken : exec (.checkerClose iface tile) s = .next (s.closeChecker tile) := by
  rw [exec_checkerClose, execCheckerClose, State.chkUnder_taken takes]

theorem exec_checkerOpen_refused (h : s.tileInService tile = false ∨ 2 ≤ s.spareState ∨ (s.tile tile).checker.place.isSome = true) :
    exec (.checkerOpen iface tile) s = .next (s.chkOutcome tile 6) := by
  rw [exec_checkerOpen, execCheckerOpen, State.chkUnder_taken takes, if_pos (by simpa [or_assoc] using h)]

section
variable (may : s.tileInService tile = true ∧ s.spareState < 2 ∧ (s.tile tile).checker.place = none)
include may

theorem exec_checkerOpen_noPlace (h : (s.takePlace tile false false).2 = none) :
    exec (.checkerOpen iface tile) s = .next ((s.takePlace tile false false).1.chkOutcome tile 6) := by
  obtain ⟨service, spare, closed⟩ := may
  rw [exec_checkerOpen, execCheckerOpen, State.chkUnder_taken takes, if_neg (by simp [service, spare, closed])]
  simp only [h]

theorem exec_checkerOpen_lends (h : (s.takePlace tile false false).2 = some p) :
    exec (.checkerOpen iface tile) s = .next (((s.takePlace tile false false).1.chkLends tile p).chkFills tile p) := by
  obtain ⟨service, spare, closed⟩ := may
  rw [exec_checkerOpen, execCheckerOpen, State.chkUnder_taken takes, if_neg (by simp [service, spare, closed])]
  simp only [h]
  rfl

end

theorem exec_checkerRead_closed (h : (s.tile tile).checker.place = none) : exec (.checkerRead iface tile) s = .next (s.chkOutcome tile 6) := by
  rw [exec_checkerRead, execCheckerRead, State.chkUnder_taken takes, h]

theorem exec_checkerWrite_closed (h : (s.tile tile).checker.place = none) : exec (.checkerWrite iface tile) s = .next (s.chkOutcome tile 6) := by
  rw [exec_checkerWrite, execCheckerWrite, State.chkUnder_taken takes, h]

theorem exec_checkerRead_open (h : (s.tile tile).checker.place = some p) : exec (.checkerRead iface tile) s =
    .next ((((s.setChecker tile ⟨some p, .reading, 0, false⟩).wf (F.MSC_CHK_STAT_busy tile) 1).wf (F.MSC_CHK_CTRL_read tile) 1).chkOutcome tile 0) := by
  rw [exec_checkerRead, execCheckerRead, State.chkUnder_taken takes, h]

/-- The parity programmed where asked is that of the staged line, without its flips. -/
theorem exec_checkerWrite_open (h : (s.tile tile).checker.place = some p) : exec (.checkerWrite iface tile) s =
    .next (let spot := s.chkSpot tile p
      let pq := s.newParity spot.1 [(spot.2, s.chkStaged tile)]
      let b := s.chkWrites tile p
      if b.rb (F.MSC_CHK_CTRL_parity tile) && decide (spot.2 < 14) then (b.chkProgram tile spot.1 14 pq.1 false).chkProgram tile spot.1 15 pq.2 false else b) := by
  rw [exec_checkerWrite, execCheckerWrite, State.chkUnder_taken takes, h]
  rfl

end

/-! ## The end of a checker operation (R297, R298, R299, R301) -/

section
variable {s : State} {tile : Nat} {p : Place}

/-- The operation under way has ended: the place stays open, and the registers show nothing under way. -/
def State.chkEnds (s : State) (tile : Nat) (p : Place) : State :=
  each [F.MSC_CHK_CTRL_open tile, F.MSC_CHK_CTRL_write tile, F.MSC_CHK_CTRL_read tile]
    ((s.setChecker tile ⟨some p, .none, 0, false⟩).wf (F.MSC_CHK_STAT_busy tile) 0) (fun s f => s.wf f 0)

/-- What an operation that did not fail leaves: a read's result, the place open, or outcome 1 of a write. -/
def State.chkDoes (s : State) (tile : Nat) (p : Place) (op : ChkOp) : State :=
  if op == .reading then s.chkResult tile p else if op == .opening then s.wf (F.MSC_CHK_STAT_open tile) 1 else s.chkOutcome tile 1

/-- Nothing ends where no place is open, where programs are still waited for, or where no operation is under way. -/
theorem exec_checkerOpDone_idle (h : (s.tile tile).checker.place = none ∨ (s.tile tile).checker.waiting ≠ 0 ∨ (s.tile tile).checker.op = .none) :
    exec (.checkerOpDone tile) s = .next s := by
  rw [exec_checkerOpDone, execCheckerOpDone]
  cases hp : (s.tile tile).checker.place with
  | none => rfl
  | some p =>
    have busy : (s.tile tile).checker.waiting ≠ 0 ∨ (s.tile tile).checker.op = .none := h.resolve_left (by simp [hp])
    exact congrArg _ (if_pos (by simpa using busy))

variable (place : (s.tile tile).checker.place = some p) (done : (s.tile tile).checker.waiting = 0) (under : (s.tile tile).checker.op ≠ .none)
include place done under

theorem exec_checkerOpDone_failed (failed : (s.tile tile).checker.failed = true) :
    exec (.checkerOpDone tile) s = .next (((s.killPlace p 1).closeChecker tile).chkOutcome tile 5) := by
  rw [exec_checkerOpDone, execCheckerOpDone, place]
  simp [done, under, failed]

theorem exec_checkerOpDone_sound (sound : (s.tile tile).checker.failed = false) :
    exec (.checkerOpDone tile) s = .next ((s.chkDoes tile p (s.tile tile).checker.op).chkEnds tile p) := by
  rw [exec_checkerOpDone, execCheckerOpDone, place]
  simp only [done, sound]
  rw [if_neg (by simpa using under)]
  rfl

end

/-- Settles O24: a register write by whether it is taken and by the scratch place, CHECKER_OP_DONE by the operation under way. -/
theorem checkerCommandsTakeEffect : Obligations.CheckerCommandsTakeEffect := by
  unfold Obligations.CheckerCommandsTakeEffect
  intro s tile iface p
  refine ⟨fun h => ⟨exec_checkerOpen_ignored h, exec_checkerWrite_ignored h, exec_checkerRead_ignored h, exec_checkerClose_ignored h⟩, exec_checkerOpDone_idle,
    fun takes => ⟨exec_checkerClose_taken takes, exec_checkerOpen_refused takes, fun may => ⟨exec_checkerOpen_noPlace takes may, exec_checkerOpen_lends takes may⟩,
      fun h => ⟨exec_checkerRead_open takes h, exec_checkerWrite_open takes h⟩, fun h => ⟨exec_checkerRead_closed takes h, exec_checkerWrite_closed takes h⟩⟩,
    fun ⟨place, done⟩ => ⟨fun ⟨under, failed⟩ => exec_checkerOpDone_failed place done under failed, fun sound => ?_⟩⟩
  have ends (op : ChkOp) (under : op ≠ .none) (h : (s.tile tile).checker.op = op) :
      exec (.checkerOpDone tile) s = .next ((s.chkDoes tile p op).chkEnds tile p) := by
    subst h
    exact exec_checkerOpDone_sound place done under sound
  exact ⟨ends .reading (by decide), ends .opening (by decide), ends .writing (by decide)⟩

end Sys2Proof.Machine
end

section
/-! PROOFS. The tile cache (09): the range operations, begun, refused and ended. -/
namespace Sys2Proof.Machine

/-! ## The commands' meanings: the range operations -/

theorem exec_clean (iface tile : Nat) (s : State) : exec (.clean iface tile) s = .next (s.rangeGo iface tile 1 (fun s o => s.rangeClean tile o.leaves)) := rfl
theorem exec_invalidate (iface tile : Nat) (s : State) : exec (.invalidate iface tile) s = .next (s.rangeGo iface tile 2 (fun s o =>
    if o.leaves.isEmpty then s.rangeDrop tile o else (s.rangeTake tile o false).rangeClean tile o.leaves)) := rfl
theorem exec_cleanAndInvalidate (iface tile : Nat) (s : State) :
    exec (.cleanAndInvalidate iface tile) s = .next (s.rangeGo iface tile 3 (fun s o => s.rangeClean tile o.leaves)) := rfl
theorem exec_lock (iface tile : Nat) (s : State) : exec (.lock iface tile) s = .next (s.rangeGo iface tile 4 (fun s o => s.rangeLock tile o)) := rfl
theorem exec_unlock (iface tile : Nat) (s : State) : exec (.unlock iface tile) s = .next (s.rangeGo iface tile 5 (fun s o => s.rangeUnlock tile o)) := rfl
theorem exec_rangeOpDone (tile : Nat) (s : State) : exec (.rangeOpDone tile) s = execRangeOpDone tile s := rfl

/-- The commands of CCH_RM_CTRL, each with its op code (R312). -/
def rangeCodes (iface tile : Nat) : List (Nat × Instr) :=
  [(1, .clean iface tile), (2, .invalidate iface tile), (3, .cleanAndInvalidate iface tile), (4, .lock iface tile), (5, .unlock iface tile)]

/-- The range commands differ in their op code and in how they act; what comes before they share. -/
theorem exec_rangeCodes {iface tile : Nat} {s : State} {x : Nat × Instr} (hx : x ∈ rangeCodes iface tile) :
    ∃ run, exec x.2 s = .next (s.rangeGo iface tile x.1 run) := by
  simp only [rangeCodes, List.mem_cons, List.not_mem_nil, or_false] at hx
  obtain rfl | rfl | rfl | rfl | rfl := hx
  · exact ⟨_, exec_clean iface tile s⟩
  · exact ⟨_, exec_invalidate iface tile s⟩
  · exact ⟨_, exec_cleanAndInvalidate iface tile s⟩
  · exact ⟨_, exec_lock iface tile s⟩
  · exact ⟨_, exec_unlock iface tile s⟩

/-! ## A range operation is asked for (R312, R313, R314, R316) -/

section
variable {s : State} {iface tile op : Nat} {run : State → RangeOp → State} {c : Comp} {x : Nat × Instr}

/-- The tile takes a write of CCH_RM_CTRL from the interface: it is clocked and of the member, and the interface is heard and holds the tile-service right. -/
def State.takesRange (s : State) (iface tile : Nat) : Prop :=
  tile < s.tileCount ∧ (s.tile tile).held = false ∧ s.hears iface 0 = true ∧ s.holds iface .tileService = true ∧ s.holds iface .mgmtWrite = true

/-- The skip count is zeroed and the operation shown. -/
def State.rangeShown (s : State) (tile op : Nat) : State := (s.wf (F.CCH_RM_SKIP_count tile) 0).wf (F.CCH_RM_CTRL_op tile) op

/-- The operation the registers ask for, before its leaves are gathered. -/
def State.rangeAsked (s : State) (tile op : Nat) : RangeOp :=
  let a := s.rangeShown tile op
  ⟨op, a.rb (F.CCH_RM_CTRL_force tile), s.rf (F.CCH_RM_COMP_id tile), a.rmFirst tile, a.rmCount tile, false, []⟩

/-- The operation with the leaves it cleans: the dirty ones, or under a forced INVALIDATE those of locked lines (R312, R313). -/
def State.rangeFull (s : State) (tile op : Nat) : RangeOp :=
  let a := s.rangeShown tile op
  let o := s.rangeAsked tile op
  { o with leaves := if op == 1 || op == 3 then a.dirtyLeaves tile o else if op == 2 && o.force then a.lockedLeaves tile o else [] }

/-- The operation is under way: noted, shown as busy, its range counted. -/
def State.rangeBegun (s : State) (tile op : Nat) : State :=
  let a := (s.rangeShown tile op).modTile tile (fun x => { x with range := some (s.rangeFull tile op) })
  (((a.wf (F.CCH_RM_STAT_busy tile) 1).wf (F.CCH_RM_CTRL_go tile) 1).wf (F.CCH_RM_STAT_outcome tile) 0).countTile
    tile 119 [s.rf (F.CCH_RM_COMP_id tile)] (s.rangeAsked tile op).count

/-- The range is not empty and ends within the compartment. -/
def State.rangeFits (s : State) (tile op : Nat) (c : Comp) : Prop :=
  (s.rangeShown tile op).served (s.rf (F.CCH_RM_COMP_id tile)) = some c ∧ (s.rangeAsked tile op).count ≠ 0 ∧
    c.lo + ((s.rangeAsked tile op).first + (s.rangeAsked tile op).count) * 64 ≤ c.hi

theorem State.rangeGo_ignored (h : s.tileCount ≤ tile ∨ (s.tile tile).held = true) : s.rangeGo iface tile op run = s := by
  rw [State.rangeGo, if_pos (by simpa using h)]

theorem exec_rangeCodes_ignored (h : s.tileCount ≤ tile ∨ (s.tile tile).held = true) (hx : x ∈ rangeCodes iface tile) : exec x.2 s = .next s := by
  obtain ⟨run, hrun⟩ := exec_rangeCodes hx (s := s)
  rw [hrun, State.rangeGo_ignored h]

variable (takes : s.takesRange iface tile)
include takes

theorem exec_rangeCodes_busy (busy : s.rb (F.CCH_RM_STAT_busy tile) = true) (hx : x ∈ rangeCodes iface tile) :
    exec x.2 s = .next (s.wf (F.CCH_RM_STAT_outcome tile) 2) := by
  obtain ⟨run, hrun⟩ := exec_rangeCodes hx (s := s)
  obtain ⟨ht, clocked, heard, service, write⟩ := takes
  rw [hrun, State.rangeGo, if_neg (by simp [ht, clocked]), State.regWrite_held heard service write, if_pos busy]

variable (idle : s.rb (F.CCH_RM_STAT_busy tile) = false)
include idle

/-- A write taken while no range operation runs: refused for the compartment, refused for the range, or begun. -/
theorem State.rangeGo_idle : s.rangeGo iface tile op run = match (s.rangeShown tile op).served (s.rf (F.CCH_RM_COMP_id tile)) with
    | none => (s.rangeShown tile op).wf (F.CCH_RM_STAT_outcome tile) 3
    | some c =>
      if (s.rangeAsked tile op).count = 0 ∨ c.hi < c.lo + ((s.rangeAsked tile op).first + (s.rangeAsked tile op).count) * 64 then
        (s.rangeShown tile op).wf (F.CCH_RM_STAT_outcome tile) 3
      else run (s.rangeBegun tile op) (s.rangeFull tile op) := by
  obtain ⟨ht, clocked, heard, service, write⟩ := takes
  rw [State.rangeGo, if_neg (by simp [ht, clocked]), State.regWrite_held heard service write, if_neg (by simp [idle])]
  rfl

theorem exec_rangeCodes_unserved (hx : x ∈ rangeCodes iface tile) (h : (s.rangeShown tile x.1).served (s.rf (F.CCH_RM_COMP_id tile)) = none) :
    exec x.2 s = .next ((s.rangeShown tile x.1).wf (F.CCH_RM_STAT_outcome tile) 3) := by
  obtain ⟨run, hrun⟩ := exec_rangeCodes hx (s := s)
  rw [hrun, State.rangeGo_idle takes idle, h]

theorem exec_rangeCodes_outside (hx : x ∈ rangeCodes iface tile) (hc : (s.rangeShown tile x.1).served (s.rf (F.CCH_RM_COMP_id tile)) = some c)
    (h : (s.rangeAsked tile x.1).count = 0 ∨ c.hi < c.lo + ((s.rangeAsked tile x.1).first + (s.rangeAsked tile x.1).count) * 64) :
    exec x.2 s = .next ((s.rangeShown tile x.1).wf (F.CCH_RM_STAT_outcome tile) 3) := by
  obtain ⟨run, hrun⟩ := exec_rangeCodes hx (s := s)
  rw [hrun, State.rangeGo_idle takes idle, hc]
  exact congrArg _ (if_pos h)

theorem State.rangeGo_fits (fits : s.rangeFits tile op c) : s.rangeGo iface tile op run = run (s.rangeBegun tile op) (s.rangeFull tile op) := by
  obtain ⟨served, count, inside⟩ := fits
  rw [State.rangeGo_idle takes idle, served]
  exact if_neg (by simp [count, inside])

end

/-! ## The end of a range operation (R312, R313, R316) -/

section
variable {s : State} {tile : Nat} {o : RangeOp}

/-- A leaf of the operation has still to switch: it waits for its destage or is under it. -/
def State.rangeWaits (s : State) (tile : Nat) (o : RangeOp) : Bool :=
  o.leaves.any (fun n => (s.tile tile).urgent.contains n || (s.tile tile).destages.any (fun d => d.leaf == n))

/-- What a finished operation drops: the lines of a clean-and-invalidate, and those of an INVALIDATE that cleaned first. -/
def State.rangeLast (s : State) (tile : Nat) (o : RangeOp) : State :=
  if o.op == 3 || (o.op == 2 && !o.leaves.isEmpty) then s.rangeDrop tile o else s

theorem exec_rangeOpDone_none (h : (s.tile tile).range = none) : exec (.rangeOpDone tile) s = .next s := by
  rw [exec_rangeOpDone, execRangeOpDone, h]

variable (range : (s.tile tile).range = some o)
include range

theorem exec_rangeOpDone_some : exec (.rangeOpDone tile) s = .next (if s.coreAway (tile + 1) || s.rangeWaits tile o then s
    else ((((s.rangeLast tile o).modTile tile (fun x => { x with range := none })).wf (F.CCH_RM_STAT_busy tile) 0).wf (F.CCH_RM_CTRL_go tile) 0).wf
      (F.CCH_RM_STAT_outcome tile) (if o.badLine then 4 else 1)) := by
  rw [exec_rangeOpDone, execRangeOpDone, range]
  rfl

theorem exec_rangeOpDone_waits (h : s.coreAway (tile + 1) = true ∨ s.rangeWaits tile o = true) : exec (.rangeOpDone tile) s = .next s := by
  rw [exec_rangeOpDone_some range, if_pos (by simpa using h)]

theorem exec_rangeOpDone_ends (h : s.coreAway (tile + 1) = false ∧ s.rangeWaits tile o = false) : exec (.rangeOpDone tile) s =
    .next (((((s.rangeLast tile o).modTile tile (fun x => { x with range := none })).wf (F.CCH_RM_STAT_busy tile) 0).wf (F.CCH_RM_CTRL_go tile) 0).wf
      (F.CCH_RM_STAT_outcome tile) (if o.badLine then 4 else 1)) := by
  rw [exec_rangeOpDone_some range, if_neg (by simp [h])]

end

/-- Settles O25: a write of CCH_RM_CTRL by whether it is taken, by busy and by the range; RANGE_OP_DONE by whether a range operation runs and waits. -/
theorem cacheRangeCommandsTakeEffect : Obligations.CacheRangeCommandsTakeEffect := by
  unfold Obligations.CacheRangeCommandsTakeEffect
  intro s tile iface
  refine ⟨fun h => ?_, fun takes => ⟨fun busy x => exec_rangeCodes_busy takes busy, fun idle => ⟨fun x => exec_rangeCodes_unserved takes idle,
    fun c x hx ⟨served, outside⟩ => exec_rangeCodes_outside takes idle hx served outside, fun c fits => ?_⟩⟩,
    fun o range => ⟨exec_rangeOpDone_waits range, exec_rangeOpDone_ends range⟩, exec_rangeOpDone_none⟩
  case refine_1 =>
    have ignored (x : Nat × Instr) (hx : x ∈ rangeCodes iface tile) : exec x.2 s = .next s := exec_rangeCodes_ignored h hx
    simpa [rangeCodes] using ignored
  case refine_2 =>
    have runs (op : Nat) (hop : 1 ≤ op ∧ op ≤ 5) (run : State → RangeOp → State) :
        s.rangeGo iface tile op run = run (s.rangeBegun tile op) (s.rangeFull tile op) := State.rangeGo_fits takes idle (fits op hop)
    rw [exec_clean, exec_invalidate, exec_cleanAndInvalidate, exec_lock, exec_unlock,
      runs 1 (by decide), runs 2 (by decide), runs 3 (by decide), runs 4 (by decide), runs 5 (by decide)]
    exact ⟨rfl, rfl, rfl, rfl, rfl⟩

end Sys2Proof.Machine
end

section
/-! PROOFS. Key slots and live re-keying (10): slots created, destroyed and shown; a re-key begun, its lines passed, its end. -/
namespace Sys2Proof.Machine

/-! ## The commands' meanings: key slots and re-keys -/

theorem exec_createKeySlot (iface ld : Nat) (b : Bytes) (s : State) : exec (.createKeySlot iface ld b) s = execCreateKeySlot iface ld b s := rfl
theorem exec_destroyKeySlot (iface ld : Nat) (b : Bytes) (s : State) : exec (.destroyKeySlot iface ld b) s = execDestroyKeySlot iface ld b s := rfl
theorem exec_getKeySlotInfo (iface ld : Nat) (b : Bytes) (s : State) : exec (.getKeySlotInfo iface ld b) s = execGetKeySlotInfo iface ld b s := rfl
theorem exec_startRekey (iface ld : Nat) (b : Bytes) (s : State) : exec (.startRekey iface ld b) s = execStartRekey iface ld b s := rfl
theorem exec_rekeyLine (tile slot : Nat) (upsets : List Upset) (s : State) : exec (.rekeyLine tile slot upsets) s = execRekeyLine tile slot upsets s := rfl
theorem exec_rekeyEnd (slot : Nat) (s : State) : exec (.rekeyEnd slot) s = execRekeyEnd slot s := rfl

section
variable {s : State} {iface ld : Nat} {b : Bytes} {a : Answer} (h : s.hears iface ld = true) (hr : (s.heard iface).holds iface .keyAdmin = true)
include h hr

theorem exec_createKeySlot_held (ha : (s.heard iface).createSlot iface ld b = a) :
    exec (.createKeySlot iface ld b) s = .next (s.answers iface ld 0xC010 a) := by
  rw [exec_createKeySlot, execCreateKeySlot, State.command_answers h hr ha]

theorem exec_destroyKeySlot_held (ha : (s.heard iface).destroySlot iface ld b = a) :
    exec (.destroyKeySlot iface ld b) s = .next (s.answers iface ld 0xC011 a) := by
  rw [exec_destroyKeySlot, execDestroyKeySlot, State.command_answers h hr ha]

theorem exec_getKeySlotInfo_held :
    exec (.getKeySlotInfo iface ld b) s = .next (s.answers iface ld 0xC012 ⟨.success, (s.heard iface).slotInfo iface b, s.heard iface⟩) := by
  rw [exec_getKeySlotInfo, execGetKeySlotInfo, State.command_answers h hr rfl]

theorem exec_startRekey_held (ha : (s.heard iface).startRekey iface ld b = a) :
    exec (.startRekey iface ld b) s = .next (s.answers iface ld 0xC013 a) := by
  rw [exec_startRekey, execStartRekey, State.command_answers h hr ha]

end

/-! ## Create and Destroy Key Slot (R319, R321, R325) -/

section
variable {s : State} {iface ld : Nat} {b : Bytes}

/-- The slot a Create or Destroy input names. -/
def State.namedSlot (s : State) (b : Bytes) : Slot := s.slot (getLe b 0 4)

/-- A Create or Destroy that leaves the slot as it is: its status, and the slot's generation. -/
def State.slotRefused (s : State) (b : Bytes) (status : Nat) : Answer := ⟨.success, keyOutput status (s.namedSlot b).gen, s⟩

/-- The slot made Active: the next generation, bound as asked, with a fresh key (R319, R320). -/
def State.slotCreated (s : State) (iface ld : Nat) (b : Bytes) : Answer :=
  let k := getLe b 0 4
  let g := (s.namedSlot b).gen + 1
  let n : Slot := ⟨1, g, if getLe b 4 1 == 1 then none else some (iface, ld), s.glade.opsec, s.glade.pwrcyc, Config.slotKey k g s.freeCtr⟩
  ⟨.success, keyOutput 0 g, (({ s with freeCtr := s.freeCtr + 1 } : State).setSlot k n).keyEvent k g iface⟩

/-- The slot made Destroyed: its key is gone, from the slot, the caches and the medium's structures (R321, R322). -/
def State.slotDestroyed (s : State) (iface : Nat) (b : Bytes) : Answer :=
  let k := getLe b 0 4
  let x := s.namedSlot b
  ⟨.success, keyOutput 0 x.gen, (((s.setSlot k { x with state := 2, key := 0 }).dropKey k).writeStructures).keyEvent k x.gen iface⟩

theorem State.createSlot_malformed (bad : keyInput b = false) : s.createSlot iface ld b = ⟨.success, keyOutput 1 0, s⟩ :=
  if_pos (by rw [bad, Bool.not_false])

theorem State.destroySlot_malformed (bad : keyInput b = false) : s.destroySlot iface ld b = ⟨.success, keyOutput 1 0, s⟩ :=
  if_pos (by rw [bad, Bool.not_false])

variable (ok : keyInput b = true)
include ok

theorem State.createSlot_uncovered (no : s.keyCovered iface (getLe b 0 4) = false) : s.createSlot iface ld b = s.slotRefused b 4 :=
  (if_neg (by simp [ok])).trans (if_pos (by simp [no]))

theorem State.destroySlot_uncovered (no : s.keyCovered iface (getLe b 0 4) = false) : s.destroySlot iface ld b = s.slotRefused b 4 :=
  (if_neg (by simp [ok])).trans (if_pos (by simp [no]))

variable (covered : s.keyCovered iface (getLe b 0 4) = true)
include covered

/-- A Create of a covered slot comes to its state, then its generation. -/
theorem State.createSlot_covered : s.createSlot iface ld b =
    if (s.namedSlot b).state == 1 then s.slotRefused b 2 else if 0xFFF ≤ (s.namedSlot b).gen then s.slotRefused b 3 else s.slotCreated iface ld b :=
  (if_neg (by simp [ok])).trans (if_neg (by simp [covered]))

/-- A Destroy of a covered slot comes to its state, its binding, the running re-keys, then what still names its key. -/
theorem State.destroySlot_covered : s.destroySlot iface ld b =
    if (s.namedSlot b).state != 1 then s.slotRefused b 2
    else if !(s.namedSlot b).boundTo iface ld then s.slotRefused b 4
    else if s.keyInRekey (getLe b 0 4) then s.slotRefused b 5
    else if s.namedKey (getLe b 0 4) && getLe b 4 1 == 0 then s.slotRefused b 6
    else s.slotDestroyed iface b :=
  (if_neg (by simp [ok])).trans (if_neg (by simp [covered]))

theorem State.createSlot_active (active : (s.namedSlot b).state = 1) : s.createSlot iface ld b = s.slotRefused b 2 := by
  rw [State.createSlot_covered ok covered, if_pos (by simp [active])]

theorem State.createSlot_worn (idle : (s.namedSlot b).state ≠ 1) (last : 0xFFF ≤ (s.namedSlot b).gen) : s.createSlot iface ld b = s.slotRefused b 3 := by
  rw [State.createSlot_covered ok covered, if_neg (by simp [idle]), if_pos last]

theorem State.createSlot_creates (idle : (s.namedSlot b).state ≠ 1) (more : (s.namedSlot b).gen < 0xFFF) :
    s.createSlot iface ld b = s.slotCreated iface ld b := by
  rw [State.createSlot_covered ok covered, if_neg (by simp [idle]), if_neg more.not_ge]

theorem State.destroySlot_idle (idle : (s.namedSlot b).state ≠ 1) : s.destroySlot iface ld b = s.slotRefused b 2 := by
  rw [State.destroySlot_covered ok covered, if_pos (by simp [idle])]

variable (active : (s.namedSlot b).state = 1)
include active

theorem State.destroySlot_unbound (other : (s.namedSlot b).boundTo iface ld = false) : s.destroySlot iface ld b = s.slotRefused b 4 := by
  rw [State.destroySlot_covered ok covered, if_neg (by simp [active]), if_pos (by simp [other])]

variable (own : (s.namedSlot b).boundTo iface ld = true)
include own

theorem State.destroySlot_inRekey (used : s.keyInRekey (getLe b 0 4) = true) : s.destroySlot iface ld b = s.slotRefused b 5 := by
  rw [State.destroySlot_covered ok covered, if_neg (by simp [active]), if_neg (by simp [own]), if_pos used]

variable (free : s.keyInRekey (getLe b 0 4) = false)
include free

theorem State.destroySlot_named (named : s.namedKey (getLe b 0 4) = true ∧ getLe b 4 1 = 0) : s.destroySlot iface ld b = s.slotRefused b 6 := by
  rw [State.destroySlot_covered ok covered, if_neg (by simp [active]), if_neg (by simp [own]), if_neg (by simp [free]), if_pos (by simpa using named)]

theorem State.destroySlot_destroys (loose : s.namedKey (getLe b 0 4) = false ∨ getLe b 4 1 ≠ 0) :
    s.destroySlot iface ld b = s.slotDestroyed iface b := by
  rw [State.destroySlot_covered ok covered, if_neg (by simp [active]), if_neg (by simp [own]), if_neg (by simp [free]),
    if_neg (by simpa [← Bool.not_eq_true, imp_iff_not_or] using loose)]

end

/-! ## Start Re-key (R350) -/

section
variable {s : State} {iface ld : Nat} {b : Bytes}

/-- An input of Start Re-key that R350 allows. -/
def rekeyInput (b : Bytes) : Prop := b.length = 16 ∧ allZero (slice b 2 2) = true ∧ getLe b 12 4 < 2 ^ 20

theorem not_rekeyInput_iff : ¬rekeyInput b ↔ (b.length != 16 || !allZero (slice b 2 2) || decide (2 ^ 20 ≤ getLe b 12 4)) = true := by
  simp only [rekeyInput, not_and_or, Nat.not_lt, Bool.or_eq_true, bne_iff_ne, ne_eq, Bool.not_eq_true', Bool.not_eq_true, decide_eq_true_eq, or_assoc]

/-- The key the range has now: its first slice's, or the new one where no compartment is served. -/
def State.rekeyOld (s : State) (b : Bytes) : Nat := match s.served (getLe b 0 2) with | some c => s.effKey c (getLe b 4 4) | none => getLe b 12 4

/-- The status of the range and the keys the input names. -/
def State.rekeyCheck (s : State) (iface ld : Nat) (b : Bytes) : Nat := s.rekeyStatus iface ld (getLe b 0 2) (getLe b 4 4) (getLe b 8 4) (getLe b 12 4)

/-- The re-key begun in the background, with its re-key slot. -/
def State.rekeyBegun (s : State) (iface ld : Nat) (b : Bytes) : Answer :=
  let k := s.freeRekey.getD 0
  ⟨.background, rekeyOutput 0 k, s.rekeyBegin ⟨k, getLe b 0 2, getLe b 4 4, getLe b 8 4, s.rekeyOld b, getLe b 12 4, iface, ld⟩⟩

theorem State.startRekey_malformed (bad : ¬rekeyInput b) : s.startRekey iface ld b = ⟨.invalidInput, [], s⟩ :=
  if_pos (not_rekeyInput_iff.mp bad)

variable (ok : rekeyInput b)
include ok

theorem State.startRekey_uncovered (no : s.keyCovered iface (getLe b 12 4) = false ∨ s.keyCovered iface (s.rekeyOld b) = false) :
    s.startRekey iface ld b = ⟨.invalidSecurityState, [], s.deny iface 0xC013 .keyAdmin⟩ :=
  have lacks : (!s.keyCovered iface (getLe b 12 4) || !s.keyCovered iface (s.rekeyOld b)) = true := by simpa using no
  (if_neg (mt not_rekeyInput_iff.mpr (not_not_intro ok))).trans (if_pos lacks)

variable (covered : s.keyCovered iface (getLe b 12 4) = true ∧ s.keyCovered iface (s.rekeyOld b) = true)
include covered

/-- A Start Re-key whose two keys are covered comes to its status, then the mailbox's background. -/
theorem State.startRekey_covered : s.startRekey iface ld b =
    if s.rekeyCheck iface ld b ≠ 0 then ⟨.success, rekeyOutput (s.rekeyCheck iface ld b) 0, s⟩
    else if (s.ld iface ld).bg.isSome then answer .busy s else s.rekeyBegun iface ld b :=
  have holds : ¬(!s.keyCovered iface (getLe b 12 4) || !s.keyCovered iface (s.rekeyOld b)) = true := by simpa using covered
  (if_neg (mt not_rekeyInput_iff.mpr (not_not_intro ok))).trans (if_neg holds)

theorem State.startRekey_refused (bad : s.rekeyCheck iface ld b ≠ 0) :
    s.startRekey iface ld b = ⟨.success, rekeyOutput (s.rekeyCheck iface ld b) 0, s⟩ := by
  rw [State.startRekey_covered ok covered, if_pos bad]

variable (good : s.rekeyCheck iface ld b = 0)
include good

theorem State.startRekey_begins (free : (s.ld iface ld).bg = none) : s.startRekey iface ld b = s.rekeyBegun iface ld b := by
  rw [State.startRekey_covered ok covered, if_neg (not_not_intro good), if_neg (by simp [free])]

theorem State.startRekey_busy (busy : (s.ld iface ld).bg.isSome = true) : s.startRekey iface ld b = ⟨.busy, [], s⟩ := by
  rw [State.startRekey_covered ok covered, if_neg (not_not_intro good), if_pos busy, answer]

end

/-! ## A re-key passes its lines (R347, R348; log 171) -/

section
variable {s : State} {tile slot : Nat} {upsets : List Upset}

theorem exec_rekeyLine_asleep (h : (s.tiles[tile]?.map Tile.depth).getD 0 ≠ 0) : exec (.rekeyLine tile slot upsets) s = .next (s.wakeTile tile) := by
  rw [exec_rekeyLine, execRekeyLine, State.onAwake_asleep h]

theorem exec_rekeyEnd_none (hk : s.rekeys.find? (fun r => r.slot == slot) = none) : exec (.rekeyEnd slot) s = .next s := by
  rw [exec_rekeyEnd, execRekeyEnd, hk]

section
variable (awake : (s.tiles[tile]?.map Tile.depth).getD 0 = 0)
include awake

theorem exec_rekeyLine_none (hk : s.rekeys.find? (fun r => r.slot == slot) = none) : exec (.rekeyLine tile slot upsets) s = .next s := by
  rw [exec_rekeyLine, execRekeyLine, State.onAwake_awake awake, hk]

variable {r : Rekey} (hr : s.rekeys.find? (fun r => r.slot == slot) = some r)
include hr

/-- No line of the re-key is left on the tile, or its compartment is served no more. -/
theorem exec_rekeyLine_over (past : s.served r.comp = none ∨ s.rekeyLines r tile ≤ tgetD (s.tile tile).bounds slot 0) :
    exec (.rekeyLine tile slot upsets) s = .next s := by
  rw [exec_rekeyLine, execRekeyLine, State.onAwake_awake awake, hr]
  dsimp only
  split
  · rfl
  next hc => rw [if_pos (past.resolve_left (by simp [hc]))]

/-- The leaf of the next line: the boundary counts the range's lines on the tile. -/
def State.rekeyLeaf (s : State) (r : Rekey) (tile slot : Nat) : LeafRef := ⟨r.comp, tile, s.rekeyFirst r tile + tgetD (s.tile tile).bounds slot 0 / 64⟩

/-- The next line of the range on the tile. -/
def State.rekeyNext (s : State) (r : Rekey) (tile slot : Nat) : Nat := s.lineOfLeaf (s.rekeyLeaf r tile slot) + tgetD (s.tile tile).bounds slot 0 % 64

/-- The line may be touched: the steward of the tile that serves it runs, the tile is not braced, the catch has room, and no host access holds the line. -/
def State.mayRekey (s : State) (r : Rekey) (tile slot : Nat) : Prop :=
  s.coreAway (s.server tile + 1) = false ∧ s.rb (F.MSC_WR_STAT_braced (s.server tile)) = false ∧
    s.admits (s.server tile) (s.rekeyNext r tile slot) = true ∧ s.reqs.any (fun q => q.atTile && q.line == s.rekeyNext r tile slot) = false

omit awake hr in
theorem State.not_mayRekey_iff : ¬s.mayRekey r tile slot ↔ (s.coreAway (s.server tile + 1) || s.rb (F.MSC_WR_STAT_braced (s.server tile)) ||
    !s.admits (s.server tile) (s.rekeyNext r tile slot) || s.reqs.any (fun q => q.atTile && q.line == s.rekeyNext r tile slot)) = true := by
  simp only [State.mayRekey, not_and_or, Bool.or_eq_true, Bool.not_eq_true', Bool.not_eq_true, Bool.not_eq_false, or_assoc]

variable {c : Comp} (hc : s.served r.comp = some c) (left : tgetD (s.tile tile).bounds slot 0 < s.rekeyLines r tile)
include hc left

theorem exec_rekeyLine_passes (may : s.mayRekey r tile slot) : exec (.rekeyLine tile slot upsets) s =
    .next (((s.meetAt (s.rekeyNext r tile slot) 7 c (s.rekeyLeaf r tile slot) upsets).rekeyLine (s.server tile) c r (s.rekeyLeaf r tile slot)
      (s.rekeyNext r tile slot)).passLine tile r) := by
  rw [exec_rekeyLine, execRekeyLine, State.onAwake_awake awake, hr]
  simp only [hc, if_neg left.not_ge]
  exact congrArg _ (if_neg (mt State.not_mayRekey_iff.mpr (not_not_intro may)))

theorem exec_rekeyLine_waits (no : ¬s.mayRekey r tile slot) : exec (.rekeyLine tile slot upsets) s = .next s := by
  rw [exec_rekeyLine, execRekeyLine, State.onAwake_awake awake, hr]
  simp only [hc, if_neg left.not_ge]
  exact congrArg _ (if_pos (State.not_mayRekey_iff.mp no))

end

/-! ## The end of a re-key (R349; log 164) -/

variable {r : Rekey} (hr : s.rekeys.find? (fun r => r.slot == slot) = some r)
include hr

/-- Every boundary has passed its tile's lines. -/
def State.rekeyPassed (s : State) (r : Rekey) (slot : Nat) : Bool := s.tileList.all (fun t => decide (s.rekeyLines r t ≤ tgetD (s.tile t).bounds slot 0))

theorem exec_rekeyEnd_ends (passed : s.rekeyPassed r slot = true) (room : (overlayPut s.overlay r).length ≤ overlayMost) :
    exec (.rekeyEnd slot) s = .next ((s.rekeyFinish r).endBackground r.iface r.ld 0xC013 .success (rekeyOutput 0 slot)) := by
  rw [exec_rekeyEnd, execRekeyEnd, hr]
  exact congrArg _ (if_pos (Bool.and_eq_true_iff.mpr ⟨passed, decide_eq_true room⟩))

theorem exec_rekeyEnd_waits (no : s.rekeyPassed r slot = false ∨ overlayMost < (overlayPut s.overlay r).length) : exec (.rekeyEnd slot) s = .next s := by
  rw [exec_rekeyEnd, execRekeyEnd, hr]
  exact congrArg _ (if_neg (by
    rintro both
    obtain ⟨passed, room⟩ := Bool.and_eq_true_iff.mp both
    exact no.elim (fun h => Bool.false_ne_true (h.symm.trans passed)) (fun h => h.not_ge (of_decide_eq_true room))))

end

/-- Settles O26: Create and Destroy by the input, the slot's coverage and its state, Start Re-key by its input, its keys and its status; a re-key's line by the tile and what holds the line back, its end by the boundaries and the overlay. -/
theorem keySlotCommandsTakeEffect : Obligations.KeySlotCommandsTakeEffect := by
  unfold Obligations.KeySlotCommandsTakeEffect
  intro s iface ld tile slot b upsets h say k x
  refine ⟨fun ⟨hs, hr⟩ => ?_, fun r hk => ⟨fun c ⟨awake, hc, left⟩ => ⟨exec_rekeyLine_passes awake hk hc left, fun no => exec_rekeyLine_waits awake hk hc left ?_⟩,
    fun ⟨awake, past⟩ => exec_rekeyLine_over awake hk past, fun ⟨passed, room⟩ => exec_rekeyEnd_ends hk passed room, exec_rekeyEnd_waits hk⟩,
    exec_rekeyLine_asleep, fun hk => ⟨exec_rekeyEnd_none hk, fun awake => exec_rekeyLine_none awake hk⟩⟩
  case refine_1 =>
    have creates {a : Answer} := exec_createKeySlot_held (b := b) (a := a) hs hr
    have destroys {a : Answer} := exec_destroyKeySlot_held (b := b) (a := a) hs hr
    have rekeys {a : Answer} := exec_startRekey_held (b := b) (a := a) hs hr
    refine ⟨fun bad => ⟨creates (State.createSlot_malformed bad), destroys (State.destroySlot_malformed bad)⟩,
      fun ⟨ok, no⟩ => ⟨creates (State.createSlot_uncovered ok no), destroys (State.destroySlot_uncovered ok no)⟩,
      fun ⟨ok, covered⟩ => ⟨fun active => creates (State.createSlot_active ok covered active),
        fun ⟨idle, last⟩ => creates (State.createSlot_worn ok covered idle last),
        fun ⟨idle, more⟩ => creates (State.createSlot_creates ok covered idle more),
        fun idle => destroys (State.destroySlot_idle ok covered idle),
        fun ⟨active, other⟩ => destroys (State.destroySlot_unbound ok covered active other),
        fun ⟨active, own, used⟩ => destroys (State.destroySlot_inRekey ok covered active own used),
        fun ⟨active, own, free⟩ => ⟨fun named => destroys (State.destroySlot_named ok covered active own free named),
          fun loose => destroys (State.destroySlot_destroys ok covered active own free loose)⟩⟩,
      exec_getKeySlotInfo_held hs hr, fun bad => rekeys (State.startRekey_malformed ?_),
      fun ok => ⟨fun no => rekeys (State.startRekey_uncovered ok no), fun covered => ⟨fun bad => rekeys (State.startRekey_refused ok covered bad),
        fun ⟨good, free⟩ => rekeys (State.startRekey_begins ok covered good free), fun ⟨good, busy⟩ => rekeys (State.startRekey_busy ok covered good busy)⟩⟩⟩
    rw [not_rekeyInput_iff]
    simpa [or_assoc] using bad
  case refine_2 =>
    simp only [State.not_mayRekey_iff, Bool.or_eq_true, Bool.not_eq_true', or_assoc]
    exact no

end Sys2Proof.Machine
end

section
/-! PROOFS. Re-roots, the sealed taproots, warrants and the attestation report (10, 11). -/
namespace Sys2Proof.Machine

/-! ## The commands' meanings: re-roots, taproots, warrants, attestation -/

theorem exec_reroot (iface value : Nat) (s : State) : exec (.reroot iface value) s = execReroot iface value s := rfl
theorem exec_rerootDone (tile : Nat) (s : State) : exec (.rerootDone tile) s = execRerootDone tile s := rfl
theorem exec_taprootAccept (s : State) : exec .taprootAccept s = execTaprootAccept s := rfl
theorem exec_sealedSetSave (s : State) : exec .sealedSetSave s = execSealedSetSave s := rfl
theorem exec_submitWarrant (iface ld : Nat) (b : Bytes) (s : State) : exec (.submitWarrant iface ld b) s = execSubmitWarrant iface ld b s := rfl
theorem exec_attestationReport (iface ld : Nat) (secured : Bool) (b : Bytes) (s : State) :
    exec (.attestationReport iface ld secured b) s = execAttestationReport iface ld secured b s := rfl

/-! ## A re-root is asked for (R341, R351; log 65) -/

section
variable {s : State} {iface value : Nat}

/-- The scope a write of CIF_REROOT_CTRL names is taken, and the poisoned count begins anew. -/
def State.rerootScoped (s : State) (value : Nat) : State :=
  (((s.wf F.CIF_REROOT_CTRL_compartment (bits value 11 0)).wf F.CIF_REROOT_CTRL_tile (bits value 14 12)).wf F.CIF_REROOT_CTRL_all_tiles (bits value 15 15)).wf
    F.CIF_REROOT_STAT_poisoned 0

variable (h : s.hears iface 0 = true) (hr : s.holds iface .reRoot = true) (hm : s.holds iface .mgmtWrite = true)
include h hr hm

theorem exec_reroot_busy (busy : s.rb F.CIF_REROOT_STAT_busy = true) : exec (.reroot iface value) s = .next s := by
  rw [exec_reroot, execReroot, State.regWrite_held h hr hm, if_pos busy]

variable (idle : s.rb F.CIF_REROOT_STAT_busy = false)
include idle

theorem exec_reroot_uncovered (no : s.covers iface .reRoot (bits value 11 0) = false) :
    exec (.reroot iface value) s = .next (s.deny iface F.CIF_REROOT_CTRL_go.addr .reRoot) := by
  rw [exec_reroot, execReroot, State.regWrite_held h hr hm, if_neg (Bool.eq_false_iff.mp idle), if_pos (by rw [no, Bool.not_false])]

variable (covered : s.covers iface .reRoot (bits value 11 0) = true)
include covered

/-- A covered re-root comes to whether its scope holds an unverifiable node. -/
theorem exec_reroot_covered : exec (.reroot iface value) s = .next (let t := s.rerootScoped value
    if t.rerootLeft then ((t.wf F.CIF_REROOT_CTRL_go 1).wf F.CIF_REROOT_STAT_busy 1).wf F.CIF_REROOT_STAT_outcome 0
    else t.wf F.CIF_REROOT_STAT_outcome 2) := by
  rw [exec_reroot, execReroot, State.regWrite_held h hr hm, if_neg (Bool.eq_false_iff.mp idle), if_neg (by simp [covered])]
  rfl

theorem exec_reroot_starts (left : (s.rerootScoped value).rerootLeft = true) : exec (.reroot iface value) s =
    .next ((((s.rerootScoped value).wf F.CIF_REROOT_CTRL_go 1).wf F.CIF_REROOT_STAT_busy 1).wf F.CIF_REROOT_STAT_outcome 0) := by
  rw [exec_reroot_covered h hr hm idle covered]
  exact congrArg _ (if_pos left)

theorem exec_reroot_nothing (noneLeft : (s.rerootScoped value).rerootLeft = false) :
    exec (.reroot iface value) s = .next ((s.rerootScoped value).wf F.CIF_REROOT_STAT_outcome 2) := by
  rw [exec_reroot_covered h hr hm idle covered]
  exact congrArg _ (if_neg (Bool.eq_false_iff.mp noneLeft))

end

/-! ## The re-root of a tile ends (R341, R351) -/

section
variable {s : State} {tile : Nat}

/-- A re-root runs, the tile is in its scope, and one of the compartment's nodes is unverifiable there. -/
def State.reroots (s : State) (tile : Nat) : Prop :=
  s.rb F.CIF_REROOT_STAT_busy = true ∧ s.rerootTiles.contains tile = true ∧ (s.badOf (s.rf F.CIF_REROOT_CTRL_compartment) tile).isEmpty = false

theorem State.not_reroots_iff : ¬s.reroots tile ↔
    (!s.rb F.CIF_REROOT_STAT_busy || !s.rerootTiles.contains tile || (s.badOf (s.rf F.CIF_REROOT_CTRL_compartment) tile).isEmpty) = true := by
  simp only [State.reroots, not_and_or, Bool.or_eq_true, Bool.not_eq_true', Bool.not_eq_true, Bool.not_eq_false, or_assoc]

/-- The compartment's subtrees on the tile rebuilt; of a compartment served no more the nodes are forgotten. -/
def State.rerootWork (s : State) (tile : Nat) : Rerooted :=
  match s.served (s.rf F.CIF_REROOT_CTRL_compartment) with
  | some c => s.rerootTile c tile
  | none => ⟨s.modTile tile (fun x => { x with badNodes := x.badNodes.filter (fun b => b.1 != s.rf F.CIF_REROOT_CTRL_compartment) }), 0, 0⟩

/-- A tile's re-root counted and recorded. -/
def State.rerootNoted (s : State) (tile : Nat) : State :=
  let comp := s.rf F.CIF_REROOT_CTRL_compartment
  let a := s.rerootWork tile
  let t := a.state.wf F.CIF_ROOT_STAT_unverifiable (a.state.rf F.CIF_ROOT_STAT_unverifiable - ((s.badOf comp tile).length - (a.state.badOf comp tile).length))
  (({ t with rerooted := if t.rerooted.contains comp then t.rerooted else t.rerooted ++ [comp] } : State).incSat F.CIF_REROOT_STAT_poisoned a.lines).raise
    0x0502 (le 2 comp ++ le 1 tile ++ le 4 a.nodes ++ le 4 a.lines) [comp]

theorem exec_rerootDone_idle (no : ¬s.reroots tile) : exec (.rerootDone tile) s = .next s := by
  rw [exec_rerootDone, execRerootDone]
  exact congrArg _ (if_pos (State.not_reroots_iff.mp no))

variable (runs : s.reroots tile)
include runs

theorem exec_rerootDone_runs : exec (.rerootDone tile) s = .next (let u := s.rerootNoted tile
    if u.rerootLeft then u else ((u.wf F.CIF_REROOT_STAT_busy 0).wf F.CIF_REROOT_CTRL_go 0).wf F.CIF_REROOT_STAT_outcome 1) := by
  rw [exec_rerootDone, execRerootDone]
  exact congrArg _ (if_neg (mt State.not_reroots_iff.mpr (not_not_intro runs)))

theorem exec_rerootDone_goesOn (left : (s.rerootNoted tile).rerootLeft = true) : exec (.rerootDone tile) s = .next (s.rerootNoted tile) := by
  rw [exec_rerootDone_runs runs]
  exact congrArg _ (if_pos left)

theorem exec_rerootDone_ends (noneLeft : (s.rerootNoted tile).rerootLeft = false) : exec (.rerootDone tile) s =
    .next ((((s.rerootNoted tile).wf F.CIF_REROOT_STAT_busy 0).wf F.CIF_REROOT_CTRL_go 0).wf F.CIF_REROOT_STAT_outcome 1) := by
  rw [exec_rerootDone_runs runs]
  exact congrArg _ (if_neg (Bool.eq_false_iff.mp noneLeft))

end

/-! ## The taproots are accepted, the accepted set saved (R333, R344; log 66) -/

section
variable {s : State}

/-- The taproots are still to be accepted: the image has been checked, and the warden runs. -/
def State.awaitsRoots (s : State) : Prop := s.rootsAccepted = false ∧ s.clocks.imageChecked = true ∧ s.wardenUp = true

theorem State.not_awaitsRoots_iff : ¬s.awaitsRoots ↔ s.rootsAccepted = true ∨ (!s.clocks.imageChecked) = true ∨ (!s.wardenUp) = true := by
  simp only [State.awaitsRoots, not_and_or, Bool.not_eq_true', Bool.not_eq_true, Bool.not_eq_false]

/-- The set an accept may take: after a loss of the committed digest the newest, else the one the device goes by. -/
def State.offeredSet (s : State) : Option SealSet := if s.glade.lost then newestSet (s.sealBay ++ s.sealBook) else s.acceptedSet

/-- Where the taproots come from (CIF_ROOT_STAT.source): 0 the root bay, or a device that has sealed none; 1 the seedbank; 2 the newest set, after a loss; 3 no set. -/
def State.rootSource (s : State) : Nat :=
  if s.glade.committed.isNone && s.sealBay.isEmpty && s.sealBook.isEmpty then 0
  else if s.glade.lost then 2
  else if s.offeredSet.isNone || s.glade.committed.isNone then 3
  else if (match s.glade.committed, newestSet s.sealBay with | some d, some y => y.digest == d | _, _ => false) then 0 else 1

/-- The taproots taken from the source: a set's content, or every node unverifiable. -/
def State.rootsTaken (s : State) : State :=
  let t := (({ s with rootsAccepted := true, sealing := none } : State).wf F.CIF_ROOT_STAT_source s.rootSource).resumeAllocs s.offeredSet
  let u := match (if s.rootSource == 3 then none else s.offeredSet) with | some y => (t.takeSet y).loadBoles | none => t
  if s.rootSource == 3 then u.allUnverifiable else u

theorem exec_taprootAccept_idle (no : ¬s.awaitsRoots) : exec .taprootAccept s = .next s := by
  rw [exec_taprootAccept, execTaprootAccept, if_pos (State.not_awaitsRoots_iff.mp no)]

theorem exec_taprootAccept_accepts (awaits : s.awaitsRoots) : exec .taprootAccept s =
    .next (let w := if 2 ≤ s.rootSource then s.rootsTaken.raise 0x0503 (le 1 s.rootSource) else s.rootsTaken
      { w with clocks := { w.clocks with taprootsAccepted := true }, glade := { w.glade with lost := false } }) := by
  rw [exec_taprootAccept, execTaprootAccept, if_neg (mt State.not_awaitsRoots_iff.mpr (not_not_intro awaits))]
  rfl

theorem exec_sealedSetSave_unaccepted (h : s.rootsAccepted = false) : exec .sealedSetSave s = .next s := by
  rw [exec_sealedSetSave, execSealedSetSave, if_pos (by rw [h, Bool.not_false])]

theorem State.saveSealed_none (h : s.acceptedSet = none) : s.saveSealed = s := by
  rw [State.saveSealed, h]

theorem State.saveSealed_some {x : SealSet} (h : s.acceptedSet = some x) : s.saveSealed =
    if s.sealBook.contains x then s else { s with sealBook := (newestSet s.sealBook).toList ++ [x] } := by
  rw [State.saveSealed, h]
  cases newestSet s.sealBook <;> rfl

theorem State.saveSealed_unchanged (h : s.acceptedSet = none ∨ ∃ x, s.acceptedSet = some x ∧ s.sealBook.contains x = true) : s.saveSealed = s := by
  obtain unset | ⟨x, hx, saved⟩ := h
  · exact State.saveSealed_none unset
  · rw [State.saveSealed_some hx, if_pos saved]

theorem exec_sealedSetSave_unchanged (h : s.rootsAccepted = false ∨ s.acceptedSet = none ∨ ∃ x, s.acceptedSet = some x ∧ s.sealBook.contains x = true) :
    exec .sealedSetSave s = .next s := by
  obtain no | kept := h
  · exact exec_sealedSetSave_unaccepted no
  · rw [exec_sealedSetSave, execSealedSetSave, State.saveSealed_unchanged kept, ite_self]

theorem exec_sealedSetSave_saves {x : SealSet} (accepted : s.rootsAccepted = true) (hx : s.acceptedSet = some x) (new : s.sealBook.contains x = false) :
    exec .sealedSetSave s = .next { s with sealBook := (newestSet s.sealBook).toList ++ [x] } := by
  rw [exec_sealedSetSave, execSealedSetSave, if_neg (by simp [accepted]), State.saveSealed_some hx, if_neg (Bool.eq_false_iff.mp new)]

end

/-! ## Warrants (R363, R364, R365; log 166) -/

section
variable {s : State} {iface : Nat} {b : Bytes}

/-- An input of Submit Warrant with a known op, its reserved bytes 0 (R363; log 166). -/
def warrantInput (b : Bytes) : Prop := 8 ≤ b.length ∧ getLe b 0 1 ≤ 3 ∧ allZero (slice b 2 2) = true

theorem not_warrantInput_iff : ¬warrantInput b ↔ b.length < 8 ∨ 3 < getLe b 0 1 ∨ (!allZero (slice b 2 2)) = true := by
  simp only [warrantInput, not_and_or, Nat.not_le, Bool.not_eq_true', Bool.not_eq_true]

/-- The warrant's bytes in the input, and the record behind them. -/
def warrantBytes (b : Bytes) : Bytes := slice b 8 (getLe b 4 4)
def warrantRecord (b : Bytes) : Bytes := b.drop (8 + getLe b 4 4)

/-- The output after the command has left a state. -/
def State.warrantEnds (s : State) (iface status : Nat) : Answer := ⟨.success, s.warrantOutput iface status, s⟩

/-- The input is the key set record that is missing (R374). -/
def State.keySetSupplied (s : State) (b : Bytes) : Bool := s.suppliesKeySet (getLe b 0 1) (getLe b 1 1) (getLe b 4 4) (warrantRecord b)

/-- The checks of R364 on the input. -/
def State.warrantChecked (s : State) (iface : Nat) (b : Bytes) : Nat :=
  s.warrantStatus iface (getLe b 0 1) (getLe b 1 1) (warrantBytes b) (warrantRecord b) (getLe b 4 4)

/-- The act of an accepted warrant is done (R370, R372, R373); a nonce-bound warrant has used its challenge up. -/
def State.warrantActs (s : State) (iface : Nat) (b : Bytes) : State :=
  let pw := parseWarrant (warrantBytes b)
  let t := (if pw.nonceBound then s.newChallenge iface else s).warrantEvent iface 0 pw
  if getLe b 1 1 = 1 then t.act1 (warrantRecord b) else if getLe b 1 1 = 2 then t.act2 else t.act3

theorem State.submitWarrant_malformed (bad : ¬warrantInput b) : s.submitWarrant iface b = ⟨.invalidInput, [], s⟩ :=
  if_pos (not_warrantInput_iff.mp bad)

variable (ok : warrantInput b)
include ok

/-- A well-formed input comes to its op, then the missing key set, then the checks. -/
theorem State.submitWarrant_wellFormed : s.submitWarrant iface b =
    if getLe b 0 1 = 0 then s.warrantEnds iface 0
    else if getLe b 0 1 = 2 then (s.dropWarrants iface).warrantEnds iface 0
    else if s.keySetSupplied b then (s.storeOwnerSet (warrantRecord b)).warrantEnds iface 0
    else if s.warrantChecked iface b ≠ 0 then
      (s.warrantEvent iface (s.warrantChecked iface b) (parseWarrant (warrantBytes b))).warrantEnds iface (s.warrantChecked iface b)
    else if getLe b 0 1 = 1 then
      ((s.holdWarrant iface (parseWarrant (warrantBytes b))).warrantEvent iface 0 (parseWarrant (warrantBytes b))).warrantEnds iface 0
    else (s.warrantActs iface b).warrantEnds iface 0 :=
  if_neg (mt not_warrantInput_iff.mpr (not_not_intro ok))

theorem State.submitWarrant_query (op : getLe b 0 1 = 0) : s.submitWarrant iface b = s.warrantEnds iface 0 := by
  rw [State.submitWarrant_wellFormed ok, if_pos op]

theorem State.submitWarrant_drop (op : getLe b 0 1 = 2) : s.submitWarrant iface b = (s.dropWarrants iface).warrantEnds iface 0 := by
  rw [State.submitWarrant_wellFormed ok, if_neg (by omega), if_pos op]

variable (h0 : getLe b 0 1 ≠ 0) (h2 : getLe b 0 1 ≠ 2)
include h0 h2

theorem State.submitWarrant_keySet (supplied : s.keySetSupplied b = true) :
    s.submitWarrant iface b = (s.storeOwnerSet (warrantRecord b)).warrantEnds iface 0 := by
  rw [State.submitWarrant_wellFormed ok, if_neg h0, if_neg h2, if_pos supplied]

variable (unsupplied : s.keySetSupplied b = false)
include unsupplied

theorem State.submitWarrant_refused (bad : s.warrantChecked iface b ≠ 0) : s.submitWarrant iface b =
    (s.warrantEvent iface (s.warrantChecked iface b) (parseWarrant (warrantBytes b))).warrantEnds iface (s.warrantChecked iface b) := by
  rw [State.submitWarrant_wellFormed ok, if_neg h0, if_neg h2, if_neg (Bool.eq_false_iff.mp unsupplied), if_pos bad]

variable (good : s.warrantChecked iface b = 0)
include good

theorem State.submitWarrant_holds (op : getLe b 0 1 = 1) : s.submitWarrant iface b =
    ((s.holdWarrant iface (parseWarrant (warrantBytes b))).warrantEvent iface 0 (parseWarrant (warrantBytes b))).warrantEnds iface 0 := by
  rw [State.submitWarrant_wellFormed ok, if_neg h0, if_neg h2, if_neg (Bool.eq_false_iff.mp unsupplied), if_neg (not_not_intro good), if_pos op]

theorem State.submitWarrant_acts (op : getLe b 0 1 ≠ 1) : s.submitWarrant iface b = (s.warrantActs iface b).warrantEnds iface 0 := by
  rw [State.submitWarrant_wellFormed ok, if_neg h0, if_neg h2, if_neg (Bool.eq_false_iff.mp unsupplied), if_neg (not_not_intro good), if_neg op]

end

theorem exec_submitWarrant_heard {s : State} {iface ld : Nat} {b : Bytes} {a : Answer} (h : s.hears iface ld = true)
    (ha : (s.heard iface).submitWarrant iface b = a) : exec (.submitWarrant iface ld b) s = .next (s.answers iface ld 0xC060 a) := by
  rw [exec_submitWarrant, execSubmitWarrant, State.command_free_answers h ha]

/-! ## The attestation report (R387, R388) -/

section
variable {s : State} {iface : Nat} (ld : Nat) (secured : Bool) (b : Bytes)

/-- The report sent, or Invalid Input for a nonce that is not of 32 bytes. -/
def State.sendsReport (s : State) (iface ld op : Nat) (nonce : Bytes) : State :=
  (s.report388 nonce).state.reply iface ld op (s.report388 nonce).code (s.report388 nonce).payload

theorem exec_attestationReport_service (channel : 4 ≤ iface) (h : s.hears iface 0 = true) (hc : carries iface 0xD030 = true)
    (hr : (s.heard iface).holds iface .attest = true) :
    exec (.attestationReport iface ld secured b) s = .next ((s.heard iface).sendsReport iface 0 0xD030 b) := by
  have run : s.command iface 0 0xD030 (some .attest) (fun s => s.report388 b) = (s.heard iface).sendsReport iface 0 0xD030 b := State.command_held h hc hr
  obtain rfl | above := channel.eq_or_lt
  · rw [exec_attestationReport, execAttestationReport, if_pos rfl, run]
  · rw [exec_attestationReport, execAttestationReport, if_neg above.ne', if_pos above, run]

variable {ld} (port : iface < 4) (h : s.hears iface ld = true)
include port h

/-- At a host port the request comes to its session, then the right. -/
theorem exec_attestationReport_port : exec (.attestationReport iface ld secured b) s = .next (
    if !secured then (s.doe iface).reply iface ld 1 .invalidSecurityState []
    else if !(s.doe iface).holds iface .attest then ((s.doe iface).deny iface 0xD030 .attest).reply iface ld 1 .invalidSecurityState []
    else (s.doe iface).sendsReport iface ld 1 b) := by
  rw [exec_attestationReport, execAttestationReport, if_neg port.ne, if_neg port.not_gt, if_neg (by simp [h])]
  rfl

theorem exec_attestationReport_unsecured :
    exec (.attestationReport iface ld false b) s = .next ((s.doe iface).reply iface ld 1 .invalidSecurityState []) :=
  exec_attestationReport_port false b port h

theorem exec_attestationReport_denied (no : (s.doe iface).holds iface .attest = false) : exec (.attestationReport iface ld true b) s =
    .next (((s.doe iface).deny iface 0xD030 .attest).reply iface ld 1 .invalidSecurityState []) := by
  rw [exec_attestationReport_port true b port h, if_neg (by decide), if_pos (by rw [no, Bool.not_false])]

theorem exec_attestationReport_reports (hr : (s.doe iface).holds iface .attest = true) :
    exec (.attestationReport iface ld true b) s = .next ((s.doe iface).sendsReport iface ld 1 b) := by
  rw [exec_attestationReport_port true b port h, if_neg (by decide), if_neg (by simp [hr])]

end

/-- Settles O27: REROOT and REROOT_DONE by what they find, the taproots and the sealed set by their guards, Submit Warrant by its op and its checks, the report by its channel, its session and the right. -/
theorem rootAndRightsCommandsTakeEffect : Obligations.RootAndRightsCommandsTakeEffect := by
  unfold Obligations.RootAndRightsCommandsTakeEffect
  intro s iface ld tile value secured b h
  refine ⟨fun ⟨hs, hr, hm, busy⟩ => exec_reroot_busy hs hr hm busy, fun ⟨hs, hr, hm, idle, no⟩ => exec_reroot_uncovered hs hr hm idle no,
    fun ⟨hs, idle, hr, hm, covered⟩ => ⟨exec_reroot_starts hs hr hm idle covered, exec_reroot_nothing hs hr hm idle covered⟩,
    ⟨fun no => exec_rerootDone_idle ?_, fun runs => ⟨exec_rerootDone_goesOn runs, exec_rerootDone_ends runs⟩⟩,
    fun no => exec_taprootAccept_idle ?_, exec_taprootAccept_accepts, exec_sealedSetSave_unchanged,
    fun x ⟨accepted, hx, new⟩ => exec_sealedSetSave_saves accepted hx new, fun hs => ?_, rfl, ?_, fun ⟨port, hs⟩ => ⟨?_, ?_, ?_⟩⟩
  case refine_1 => rw [State.not_reroots_iff]; simpa [or_assoc] using no
  case refine_2 => rw [State.not_awaitsRoots_iff]; simpa using no
  case refine_3 =>
    have submits {a : Answer} := exec_submitWarrant_heard (b := b) (a := a) hs
    refine ⟨fun bad => submits (State.submitWarrant_malformed ?_), fun ok => ⟨fun op => submits (State.submitWarrant_query ok op),
      fun op => submits (State.submitWarrant_drop ok op), fun ⟨h0, h2, supplied⟩ => submits (State.submitWarrant_keySet ok h0 h2 supplied),
      fun ⟨h0, h2, unsupplied⟩ => ⟨fun bad => submits (State.submitWarrant_refused ok h0 h2 unsupplied bad),
        fun ⟨good, op⟩ => submits (State.submitWarrant_holds ok h0 h2 unsupplied good op),
        fun ⟨good, op⟩ => submits (State.submitWarrant_acts ok h0 h2 unsupplied good op)⟩⟩⟩
    rw [not_warrantInput_iff]
    simpa using bad
  case refine_4 =>
    rintro ⟨channel, hs, hc, hr⟩
    simp only [if_neg channel.not_gt]
    exact exec_attestationReport_service ld secured b channel hs hc hr
  case refine_5 => rintro rfl; exact exec_attestationReport_unsecured b port hs
  case refine_6 => rintro ⟨rfl, no⟩; exact exec_attestationReport_denied b port hs no
  case refine_7 =>
    rintro ⟨rfl, hr⟩
    simp only [if_pos port]
    exact exec_attestationReport_reports b port hs hr

end Sys2Proof.Machine
end

section
/-! PROOFS. The sideband's messages (11, 13, 14). -/
namespace Sys2Proof.Machine

/-! ## A sideband message is not acknowledged, or runs and lays its response ready (R440, R450, R456) -/

/-- The sideband acknowledges: the warden is up and an address is assigned and not NACKed. -/
def State.sidebandUp (s : State) : Prop := s.wardenUp = true ∧ s.nacking = false ∧ s.rb F.WDN_I3C_STAT_addr_valid = true

theorem State.not_sidebandUp_iff {s : State} : ¬s.sidebandUp ↔ (!s.wardenUp || s.nacking || !s.rb F.WDN_I3C_STAT_addr_valid) = true := by
  simp only [State.sidebandUp, not_and_or, Bool.or_eq_true, Bool.not_eq_true', Bool.not_eq_true, Bool.not_eq_false, or_assoc]

/-- What a message that ran with a status, a response and a state comes to. -/
def sidebandSends (x : Nat × Bytes × State) : Host.Outcome State Fault Refusal := .next (x.2.2.sidebandReady x.1 x.2.1)

section
variable {s : State} {run : State → Nat × Bytes × State}

theorem State.next_sideband_nacked (down : ¬s.sidebandUp) : (.next (s.sideband run) : Host.Outcome State Fault Refusal) = .next (s.send .nack) :=
  congrArg _ (if_pos (State.not_sidebandUp_iff.mp down))

variable (up : s.sidebandUp)
include up

theorem State.next_sideband : .next (s.sideband run) = sidebandSends (run (s.irqEdge irqSideband)) :=
  congrArg _ (if_neg (mt State.not_sidebandUp_iff.mpr (not_not_intro up)))

theorem State.next_sidebandUnder_held {cmd : Nat} {r : Right} (hr : (s.irqEdge irqSideband).holds 5 r = true) :
    .next (s.sidebandUnder cmd r run) = sidebandSends (run (s.irqEdge irqSideband)) := by
  obtain ⟨hup, hn, hv⟩ := up
  rw [State.sidebandUnder_held hup hn hv hr, sidebandSends]

theorem State.next_sidebandUnder_denied {cmd : Nat} {r : Right} (hr : (s.irqEdge irqSideband).holds 5 r = false) :
    .next (s.sidebandUnder cmd r run) = sidebandSends (3, [], (s.irqEdge irqSideband).deny 5 cmd r) := by
  obtain ⟨hup, hn, hv⟩ := up
  rw [State.sidebandUnder_denied hup hn hv hr, sidebandSends]

end

/-! ## The commands' meanings: the sideband's messages -/

theorem exec_ident (s : State) : exec .ident s = execIdent s := rfl
theorem exec_logRead (b : Bytes) (s : State) : exec (.logRead b) s = execLogRead b s := rfl
theorem exec_warrant (b : Bytes) (s : State) : exec (.warrant b) s = execWarrant b s := rfl
theorem exec_lRead (address length : Nat) (s : State) : exec (.lRead address length) s = execLRead address length s := rfl
theorem exec_lWrite (address : Nat) (b : Bytes) (s : State) : exec (.lWrite address b) s = execLWrite address b s := rfl
theorem exec_lUnlock (b : Bytes) (s : State) : exec (.lUnlock b) s = execLUnlock b s := rfl
theorem exec_lLock (s : State) : exec .lLock s = execLLock s := rfl
theorem exec_lSetpw (old new : Bytes) (s : State) : exec (.lSetpw old new) s = execLSetpw old new s := rfl

/-- Each message is a sideband command, so none is acknowledged while the sideband is not up. -/
theorem exec_messages_nacked {s : State} (address length : Nat) (b new : Bytes) (down : ¬s.sidebandUp) :
    ∀ c ∈ ([.ident, .logRead b, .warrant b, .lRead address length, .lWrite address b, .lUnlock b, .lLock, .lSetpw b new] : List Instr),
      exec c s = .next (s.send .nack) := by
  have nacked {run : State → Nat × Bytes × State} : (.next (s.sideband run) : Host.Outcome State Fault Refusal) = .next (s.send .nack) :=
    State.next_sideband_nacked down
  simp only [List.forall_mem_cons, List.not_mem_nil, false_imp_iff, implies_true, and_true, exec_ident, exec_logRead, exec_warrant, exec_lRead, exec_lWrite,
    exec_lUnlock, exec_lLock, exec_lSetpw]
  exact ⟨nacked, nacked, nacked, nacked, nacked, nacked, nacked, nacked⟩

section
variable {s : State} {address length : Nat} {b new : Bytes} (up : s.sidebandUp)
include up

/-! ## Identity, log and warrant (R363, R427, R456) -/

theorem exec_logRead_denied (hr : (s.irqEdge irqSideband).holds 5 .logRead = false) :
    exec (.logRead b) s = sidebandSends (3, [], (s.irqEdge irqSideband).deny 5 0x04 .logRead) :=
  (exec_logRead b s).trans (State.next_sidebandUnder_denied up hr)

theorem exec_logRead_held (hr : (s.irqEdge irqSideband).holds 5 .logRead = true) :
    exec (.logRead b) s = sidebandSends (let a := (s.irqEdge irqSideband).readRingLog 5 0x04 b 16
      (if a.code = .success then 0 else if a.code = .invalidSecurityState then 3 else 4, a.payload, a.state)) :=
  (exec_logRead b s).trans (State.next_sidebandUnder_held up hr)

/-! ## The legacy bytes (R457) -/

theorem exec_lRead_locked (locked : (s.irqEdge irqSideband).legacyLocked = true) : exec (.lRead address length) s = sidebandSends (3, [], s.irqEdge irqSideband) :=
  (State.next_sideband up).trans (congrArg _ (if_pos locked))

theorem exec_lWrite_locked (locked : (s.irqEdge irqSideband).legacyLocked = true) : exec (.lWrite address b) s = sidebandSends (3, [], s.irqEdge irqSideband) :=
  (State.next_sideband up).trans (congrArg _ (if_pos locked))

section
variable (unlocked : (s.irqEdge irqSideband).legacyLocked = false)
include unlocked

/-- An unlocked read: its bytes, or 4 outside the area or for a length that is not 1 to 32. -/
theorem exec_lRead_unlocked : exec (.lRead address length) s = sidebandSends (
    if length = 0 ∨ 32 < length ∨ 8192 < address + length then (4, [], s.irqEdge irqSideband)
    else (0, (upto length).map (fun k => (s.irqEdge irqSideband).legacyByte (address + k)), s.irqEdge irqSideband)) :=
  (State.next_sideband up).trans (congrArg _ (if_neg (Bool.eq_false_iff.mp unlocked)))

theorem exec_lRead_outside (bad : length = 0 ∨ 32 < length ∨ 8192 < address + length) :
    exec (.lRead address length) s = sidebandSends (4, [], s.irqEdge irqSideband) := by
  rw [exec_lRead_unlocked up unlocked, if_pos bad]

theorem exec_lRead_inside (ok : 1 ≤ length ∧ length ≤ 32 ∧ address + length ≤ 8192) : exec (.lRead address length) s =
    sidebandSends (0, (upto length).map (fun k => (s.irqEdge irqSideband).legacyByte (address + k)), s.irqEdge irqSideband) := by
  rw [exec_lRead_unlocked up unlocked, if_neg (by omega)]

end

/-- The record an L_WRITE stores: the word's bytes with the new ones in their place. -/
def State.legacyRecord (s : State) (address : Nat) (b : Bytes) : PsRec :=
  let key := 0xC000 + address / 16
  let old := (upto 16).map (fun k => s.legacyByte (address / 16 * 16 + k))
  ⟨key, ((s.ps.newest key).map (·.gen)).getD 0 + 1, PsArea.legacy.num, false, old.take (address % 16) ++ b ++ old.drop (address % 16 + b.length)⟩

/-- The store begins to write a record for no interface that waits. -/
def State.startsRecord (s : State) (r : PsRec) : State :=
  (({ s with ps := { s.ps with writing := some r, waiter := none } } : State).wf F.WDN_PS_STAT_busy 1).wf F.WDN_PS_CTRL_go 1

/-- An unlocked write: 4 for bytes outside a word or the area, 1 while the store cannot take it, 4 where the area is full, 1 with no erased sector, else its record is begun. -/
theorem exec_lWrite_unlocked (unlocked : (s.irqEdge irqSideband).legacyLocked = false) : exec (.lWrite address b) s =
    let i := s.irqEdge irqSideband
    if b.isEmpty = true ∨ 8192 ≤ address ∨ 16 < address % 16 + b.length then sidebandSends (4, [], i)
    else if i.ps.writing.isSome = true ∨ i.power.committed = true then sidebandSends (1, [], i)
    else if i.psOver (0xC000 + address / 16) 16 = true then sidebandSends (4, [], i)
    else if i.glade.fallback.isNone = true ∧ i.ps.erased.isEmpty = true then sidebandSends (1, [], i)
    else sidebandSends (0, [], i.startsRecord (i.legacyRecord address b)) := by
  rw [exec_lWrite, execLWrite, State.next_sideband up, if_neg (Bool.eq_false_iff.mp unlocked)]
  simp only [apply_ite sidebandSends]
  rfl

/-! ## The password (R457) -/

theorem exec_lUnlock_badLength (bad : b.length ≠ 8) : exec (.lUnlock b) s = sidebandSends (4, [], s.irqEdge irqSideband) :=
  (State.next_sideband up).trans (congrArg _ (if_pos bad))

section
variable (len : b.length = 8)
include len

theorem exec_lUnlock_exhausted (many : 8 ≤ (s.irqEdge irqSideband).sb.wrong) : exec (.lUnlock b) s = sidebandSends (3, [], s.irqEdge irqSideband) := by
  rw [exec_lUnlock, execLUnlock, State.next_sideband up, if_neg (not_not_intro len), if_pos many]

variable (few : (s.irqEdge irqSideband).sb.wrong < 8)
include few

theorem exec_lUnlock_unset (unset : (s.irqEdge irqSideband).psGet 0x0010 = none) : exec (.lUnlock b) s = sidebandSends (0, [], s.irqEdge irqSideband) := by
  rw [exec_lUnlock, execLUnlock, State.next_sideband up, if_neg (not_not_intro len), if_neg (Nat.not_le.mpr few)]
  simp only [unset]

/-- A password is set: the right one unlocks, a wrong one is counted. -/
theorem exec_lUnlock_set {d : Bytes} (set : (s.irqEdge irqSideband).psGet 0x0010 = some d) : exec (.lUnlock b) s =
    let i := s.irqEdge irqSideband
    if d = i.passwordDigest b then sidebandSends (0, [], i.wf F.WDN_PS_STAT_unlocked 1)
    else sidebandSends (3, [], { i with sb := { i.sb with wrong := i.sb.wrong + 1 } }) := by
  rw [exec_lUnlock, execLUnlock, State.next_sideband up, if_neg (not_not_intro len), if_neg (Nat.not_le.mpr few)]
  simp only [set, apply_ite sidebandSends]

end

theorem exec_lSetpw_denied (hr : (s.irqEdge irqSideband).holds 5 .paramWrite = false) :
    exec (.lSetpw b new) s = sidebandSends (3, [], (s.irqEdge irqSideband).deny 5 0x84 .paramWrite) :=
  (exec_lSetpw b new s).trans (State.next_sidebandUnder_denied up hr)

variable (hr : (s.irqEdge irqSideband).holds 5 .paramWrite = true)
include hr

theorem exec_lSetpw_badLength (bad : b.length ≠ 8 ∨ new.length ≠ 8) : exec (.lSetpw b new) s = sidebandSends (4, [], s.irqEdge irqSideband) := by
  rw [exec_lSetpw, execLSetpw, State.next_sidebandUnder_held up hr, if_pos bad]

variable (len : b.length = 8 ∧ new.length = 8)
include len

theorem exec_lSetpw_wrong {d : Bytes} (set : (s.irqEdge irqSideband).psGet 0x0010 = some d) (wrong : d ≠ (s.irqEdge irqSideband).passwordDigest b) :
    exec (.lSetpw b new) s = sidebandSends (3, [], s.irqEdge irqSideband) := by
  rw [exec_lSetpw, execLSetpw, State.next_sidebandUnder_held up hr, if_neg (by omega)]
  simp only [set, bne_iff_ne.mpr wrong, if_true]

/-- With no password set, or under the old one, the new one is stored, or cleared where it is zero. -/
theorem exec_lSetpw_stores
    (right : (s.irqEdge irqSideband).psGet 0x0010 = none ∨ (s.irqEdge irqSideband).psGet 0x0010 = some ((s.irqEdge irqSideband).passwordDigest b)) :
    exec (.lSetpw b new) s = sidebandSends (0, [],
      (s.irqEdge irqSideband).devicePut 0x0010 (if allZero new then none else some ((s.irqEdge irqSideband).passwordDigest new))) := by
  rw [exec_lSetpw, execLSetpw, State.next_sidebandUnder_held up hr, if_neg (by omega)]
  obtain unset | set := right
  · simp only [unset, Bool.false_eq_true, if_false]
  · simp only [set, bne_self_eq_false, Bool.false_eq_true, if_false]

end

/-- Settles O46: no message is acknowledged while the sideband is not up; else each by its right, its length, the lock and the password. -/
theorem sidebandMessagesTakeEffect : Obligations.SidebandMessagesTakeEffect := by
  unfold Obligations.SidebandMessagesTakeEffect
  intro s address length b new
  refine ⟨exec_messages_nacked address length b new, fun (up : s.sidebandUp) => ⟨State.next_sideband up, exec_logRead_denied up, exec_logRead_held up,
    State.next_sideband up, fun locked => ⟨exec_lRead_locked up locked, exec_lWrite_locked up locked⟩,
    fun unlocked => ⟨exec_lRead_inside up unlocked, exec_lRead_outside up unlocked, exec_lWrite_unlocked up unlocked⟩,
    exec_lUnlock_badLength up, fun len => ⟨fun ⟨few, unset⟩ => exec_lUnlock_unset up len few unset, exec_lUnlock_exhausted up len,
      fun d ⟨few, set⟩ => exec_lUnlock_set up len few set⟩,
    State.next_sideband up, exec_lSetpw_denied up, fun ⟨hr, bad⟩ => exec_lSetpw_badLength up hr bad,
    fun d ⟨hr, old, len, set, wrong⟩ => exec_lSetpw_wrong up hr ⟨old, len⟩ set wrong,
    fun ⟨old, len, hr, right⟩ => exec_lSetpw_stores up hr ⟨old, len⟩ right⟩⟩

end Sys2Proof.Machine
end

section
/-! PROOFS. The interrupt hub, the USB4 connection and the TAP (11, 14, 18). -/
namespace Sys2Proof.Machine

/-! ## The commands' meanings: interrupts, USB4, TAP -/

theorem exec_irqSourceEdge (source : Nat) (s : State) : exec (.irqSourceEdge source) s = execIrqSourceEdge source s := rfl
theorem exec_irqClaim (target : Nat) (s : State) : exec (.irqClaim target) s = execIrqClaim target s := rfl
theorem exec_irqDone (target source : Nat) (s : State) : exec (.irqDone target source) s = execIrqDone target source s := rfl
theorem exec_irqHoldExpire (target : Nat) (s : State) : exec (.irqHoldExpire target) s = execIrqHoldExpire target s := rfl
theorem exec_usb4Connect (s : State) : exec .usb4Connect s = execUsb4Connect s := rfl
theorem exec_usb4Disconnect (s : State) : exec .usb4Disconnect s = execUsb4Disconnect s := rfl
theorem exec_extest (b : Bytes) (s : State) : exec (.extest b) s = execExtest b s := rfl
theorem exec_highz (s : State) : exec .highz s = execHighz s := rfl
theorem exec_clamp (s : State) : exec .clamp s = execClamp s := rfl
theorem exec_bypass (code : Nat) (s : State) : exec (.bypass code) s = execBypass code s := rfl
theorem exec_tapWarrant (b : Bytes) (s : State) : exec (.tapWarrant b) s = execTapWarrant b s := rfl

/-! ## Interrupts are claimed and ended (R445, R446) -/

section
variable {s : State} {target source : Nat}

/-- A source that is claimed waits no longer, for any target. -/
def State.waitsNoMore (s : State) (source : Nat) : State := { s with irq := { s.irq with waiting := s.irq.waiting.filter (fun p => p.1 != source) } }

/-- The claim's number is shown and counted, and lines with nothing left to claim fall. -/
def State.showsClaim (s : State) (target source : Nat) : State := ((s.wf (F.IRQ_CLAIM_source target) source).countHub 46).dropLines

theorem exec_irqClaim_nothing (h : s.pickSource target = none) : exec (.irqClaim target) s = .next ((s.wf (F.IRQ_CLAIM_source target) 0x3FF).countHub 47) := by
  rw [exec_irqClaim, execIrqClaim, h]

theorem exec_irqClaim_picked (h : s.pickSource target = some source) : exec (.irqClaim target) s =
    .next (State.showsClaim (let t := s.waitsNoMore source
      if t.rb (F.IRQ_SRC_level source) then { t with irq := { t.irq with service := t.irq.service ++ [(target, source)] } }
      else t.wf (F.IRQ_SRC_pending source) 0) target source) := by
  rw [exec_irqClaim, execIrqClaim, h]
  rfl

/-- A level source goes into service. -/
theorem exec_irqClaim_level (h : s.pickSource target = some source) (level : (s.waitsNoMore source).rb (F.IRQ_SRC_level source) = true) :
    exec (.irqClaim target) s = .next (let t := s.waitsNoMore source
      State.showsClaim { t with irq := { t.irq with service := t.irq.service ++ [(target, source)] } } target source) := by
  rw [exec_irqClaim_picked h]
  simp only [if_pos level]

/-- An edge source's pending bit clears. -/
theorem exec_irqClaim_edge (h : s.pickSource target = some source) (edge : (s.waitsNoMore source).rb (F.IRQ_SRC_level source) = false) :
    exec (.irqClaim target) s = .next (State.showsClaim ((s.waitsNoMore source).wf (F.IRQ_SRC_pending source) 0) target source) := by
  rw [exec_irqClaim_picked h]
  simp only [if_neg (Bool.eq_false_iff.mp edge)]

theorem exec_irqDone_serviced (h : s.irq.service.contains (target, source) = true) : exec (.irqDone target source) s =
    .next (({ s with irq := { s.irq with service := s.irq.service.filter (fun p => p != (target, source)) } } : State).wf (F.IRQ_SRC_pending source) 0) := by
  rw [exec_irqDone, execIrqDone, if_pos h]

theorem exec_irqDone_idle (h : s.irq.service.contains (target, source) = false) : exec (.irqDone target source) s = .next s := by
  rw [exec_irqDone, execIrqDone, if_neg (Bool.eq_false_iff.mp h)]

end

section
variable {s : State} {b : Bytes}

/-! ## USB4 connects and drops (R443, R453) -/

theorem exec_usb4Connect_idle (h : s.usb4 = true ∨ s.clocks.held.contains 7 = true) : exec .usb4Connect s = .next s := by
  rw [exec_usb4Connect, execUsb4Connect, if_pos (Bool.or_eq_true _ _ |>.mpr h)]

theorem exec_usb4Connect_connects (off : s.usb4 = false) (released : s.clocks.held.contains 7 = false) : exec .usb4Connect s =
    .next (({ s with usb4 := true, power := { s.power with pstate := 0 } } : State).irqEdge irqServiceConnect) := by
  rw [exec_usb4Connect, execUsb4Connect, off, released, Bool.or_false, if_neg Bool.false_ne_true]

theorem exec_usb4Disconnect_idle (off : s.usb4 = false) : exec .usb4Disconnect s = .next s := by
  rw [exec_usb4Disconnect, execUsb4Disconnect, off, Bool.not_false, if_pos rfl]

theorem exec_usb4Disconnect_drops (on : s.usb4 = true) : exec .usb4Disconnect s =
    .next ((((((({ s with usb4 := false } : State).resetInterface 4).resetInterface 7).abortFwOf 4).abortStageOf 4).forgetSender 4).forgetSender 7) := by
  rw [exec_usb4Disconnect, execUsb4Disconnect, if_neg (by simp [on])]

/-! ## The TAP's instructions on the static pins, under RST# (R530) -/

section
variable (low : s.power.pins.rst = false)
include low

theorem State.heldWarm_of_low : s.heldWarm = true := by rw [State.heldWarm, low, Bool.not_false]

theorem exec_extest_drives : exec (.extest b) s =
    .next ((({ s with tap := { s.tap with boundary := b } } : State).tapLoad 0x03 b).send (.pin .statics true)) := by
  rw [exec_extest, execExtest, if_pos (State.heldWarm_of_low low)]

theorem exec_highz_releases : exec .highz s = .next ((s.tapLoad 0x04 (zeros 1)).send (.pin .statics false)) := by
  rw [exec_highz, execHighz, if_pos (State.heldWarm_of_low low)]

theorem exec_clamp_drives : exec .clamp s = .next ((s.tapLoad 0x05 (zeros 1)).send (.pin .statics true)) := by
  rw [exec_clamp, execClamp, if_pos (State.heldWarm_of_low low)]

end

/-- With RST# high the three instructions are BYPASS. -/
theorem exec_pinInstructions_bypass (code : Nat) (high : s.power.pins.rst = true) :
    exec (.extest b) s = exec (.bypass code) s ∧ exec .highz s = exec (.bypass code) s ∧ exec .clamp s = exec (.bypass code) s := by
  have released : ¬s.heldWarm = true := by simp [State.heldWarm, high]
  rw [exec_extest, execExtest, if_neg released, exec_highz, execHighz, if_neg released, exec_clamp, execClamp, if_neg released, exec_bypass, execBypass]
  exact ⟨rfl, rfl, rfl⟩

/-! ## The warrant register (R363; log 98) -/

theorem exec_tapWarrant_down (down : s.wardenUp = false) : exec (.tapWarrant b) s = .next (s.tapLoad 0x21 []) := by
  rw [exec_tapWarrant, execTapWarrant, down, Bool.not_false, if_pos rfl]

theorem exec_tapWarrant_up (up : s.wardenUp = true) : exec (.tapWarrant b) s =
    .next ((s.submitWarrant 6 b).state.tapLoad 0x21 (s.submitWarrant 6 b).payload) := by
  rw [exec_tapWarrant, execTapWarrant, if_neg (by simp [up])]

end

/-- Settles O44: a claim by the source picked and its kind, USB4 by whether it is connected, the pin instructions by RST#, the TAP's warrant by the warden; the other commands are their one effect. -/
theorem interruptTapAndLinkCommandsTakeEffect : Obligations.InterruptTapAndLinkCommandsTakeEffect := by
  unfold Obligations.InterruptTapAndLinkCommandsTakeEffect
  intro s n target source code b
  exact ⟨exec_irqSourceEdge n s, exec_irqClaim_nothing, fun src picked => ⟨exec_irqClaim_level picked, exec_irqClaim_edge picked⟩,
    exec_irqDone_serviced, exec_irqDone_idle, exec_irqHoldExpire target s,
    exec_usb4Connect_idle, fun ⟨off, released⟩ => exec_usb4Connect_connects off released, exec_usb4Disconnect_idle, exec_usb4Disconnect_drops,
    rfl, rfl, fun low => ⟨exec_extest_drives low, exec_highz_releases low, exec_clamp_drives low⟩, exec_pinInstructions_bypass code,
    exec_bypass code s, rfl, exec_tapWarrant_down, exec_tapWarrant_up, rfl⟩

end Sys2Proof.Machine
end

section
/-! PROOFS. Debug line accesses and the performance counters (11, 17). -/
namespace Sys2Proof.Machine

/-! ## The commands' meanings: debug lines and counters -/

theorem exec_lineRead (iface dpa : Nat) (ups : List Upset) (s : State) : exec (.lineRead iface dpa ups) s = execLineRead iface dpa ups s := rfl
theorem exec_lineWrite (iface dpa enables : Nat) (data : HostLine) (ups : List Upset) (s : State) :
    exec (.lineWrite iface dpa enables data ups) s = execLineWrite iface dpa enables data ups s := rfl
theorem exec_structureRead (iface group die grove line member : Nat) (s : State) :
    exec (.structureRead iface group die grove line member) s = execStructureRead iface group die grove line member s := rfl
theorem exec_pmcEvenRead (iface block index : Nat) (s : State) : exec (.pmcEvenRead iface block index) s = execPmcEvenRead iface block index s := rfl
theorem exec_pmcSelWrite (iface block index value : Nat) (s : State) : exec (.pmcSelWrite iface block index value) s = execPmcSelWrite iface block index value s := rfl
theorem exec_pmcFiltWrite (iface block index value : Nat) (s : State) : exec (.pmcFiltWrite iface block index value) s = execPmcFiltWrite iface block index value s := rfl
theorem exec_readCounters (iface ld : Nat) (b : Bytes) (s : State) : exec (.readCounters iface ld b) s = execReadCounters iface ld b s := rfl

/-! ## Debug line accesses (R379) -/

section
variable {s : State} {iface dpa enables : Nat} {data : HostLine} {ups : List Upset}

theorem exec_lineRead_waits (held : s.lineHeld (dpa / 64) = true) : exec (.lineRead iface dpa ups) s = .next s := by
  rw [exec_lineRead, execLineRead, if_pos held]

theorem exec_lineWrite_waits (held : s.lineHeld (dpa / 64) = true) : exec (.lineWrite iface dpa enables data ups) s = .next s := by
  rw [exec_lineWrite, execLineWrite, if_pos held]

variable (h : s.hears iface 0 = true) (free : s.lineHeld (dpa / 64) = false)
include h free

theorem exec_lineRead_unmapped (unmapped : (s.heard iface).debugLine dpa = none) :
    exec (.lineRead iface dpa ups) s = .next (s.answers iface 0 0xD100 (dbgRefuse iface 0xD100 .mediaRead (s.heard iface))) := by
  rw [exec_lineRead, execLineRead, if_neg (Bool.eq_false_iff.mp free), State.next_command_free h]
  simp only [unmapped]

theorem exec_lineWrite_unmapped (unmapped : (s.heard iface).debugLine dpa = none) :
    exec (.lineWrite iface dpa enables data ups) s = .next (s.answers iface 0 0xD101 (dbgRefuse iface 0xD101 .mediaWrite (s.heard iface))) := by
  rw [exec_lineWrite, execLineWrite, if_neg (Bool.eq_false_iff.mp free), State.next_command_free h]
  simp only [unmapped]

variable {c : Comp} {r : LeafRef} (mapped : (s.heard iface).debugLine dpa = some (c, r))
include mapped

/-- A read of a compartment's line: plaintext, the medium's line, or refused, by the rights over the compartment and its cipher. -/
theorem exec_lineRead_mapped : exec (.lineRead iface dpa ups) s = .next (s.answers iface 0 0xD100 (
    let t := s.heard iface
    if t.covers iface .mediaRead c.id = false then dbgRefuse iface 0xD100 .mediaRead t
    else if t.covers iface .plaintext c.id then (t.meetAt (dpa / 64) 4 c r ups).readPlain c r (dpa / 64)
    else if c.cipher = 0 then dbgRefuse iface 0xD100 .plaintext t
    else (t.meetAt (dpa / 64) 4 c r ups).readMedia c r (dpa / 64))) := by
  rw [exec_lineRead, execLineRead, if_neg (Bool.eq_false_iff.mp free), State.next_command_free h]
  simp only [mapped, Bool.not_eq_true']

/-- A write needs both rights over the compartment. -/
theorem exec_lineWrite_mapped : exec (.lineWrite iface dpa enables data ups) s = .next (s.answers iface 0 0xD101 (
    let t := s.heard iface
    if t.covers iface .mediaWrite c.id = false then dbgRefuse iface 0xD101 .mediaWrite t
    else if t.covers iface .plaintext c.id = false then dbgRefuse iface 0xD101 .plaintext t
    else (t.meetAt (dpa / 64) 4 c r ups).debugWrite iface c r (dpa / 64) enables data)) := by
  rw [exec_lineWrite, execLineWrite, if_neg (Bool.eq_false_iff.mp free), State.next_command_free h]
  simp only [mapped, Bool.not_eq_true']

end

/-! ## STRUCTURE_READ (R379; log 114) -/

section
variable {s : State} {iface member : Nat} {x : Stripe}

/-- An interface may read structure lines, and the place and the member it names exist. -/
def State.structureSeen (s : State) (iface : Nat) (x : Stripe) (member : Nat) : Prop :=
  s.coversAll iface .mediaRead = true ∧ x.grove / 25 < 4096 ∧ x.group < s.groupCount ∧ x.die < 4 ∧ x.line < 16 ∧ member < 16

theorem State.not_structureSeen_iff : ¬s.structureSeen iface x member ↔
    (!s.coversAll iface .mediaRead) = true ∨ 4096 ≤ x.grove / 25 ∨ s.groupCount ≤ x.group ∨ 4 ≤ x.die ∨ 16 ≤ x.line ∨ 16 ≤ member := by
  simp only [State.structureSeen, not_and_or, Nat.not_lt, Bool.not_eq_true', Bool.not_eq_true]

/-- The answer with the line found, and poisoned with an error report where it is lost. -/
def State.structureAnswer (s : State) (x : Stripe) (member : Nat) : Found → Answer
  | .good l _ => dbg okMedia (lineBytes l) (s.chargeRead x member false 9 [])
  | .recovered l => dbg okMedia (lineBytes l) (s.chargeRead x member true 9 [])
  | .lost => let t := s.chargeRead x member true 9 []
    dbg dbgPoisoned (zeros 64)
      (({ t with health := { t.health with uncorrectable := t.health.uncorrectable + 1 } } : State).report (t.spotReport 3 4 x member none none none false false 0))

variable (h : s.hears iface 0 = true)
include h

theorem exec_structureRead_refused (no : ¬(s.heard iface).structureSeen iface x member) : exec (.structureRead iface x.group x.die x.grove x.line member) s =
    .next (s.answers iface 0 0xD102 (dbgRefuse iface 0xD102 .mediaRead (s.heard iface))) := by
  rw [exec_structureRead, execStructureRead, State.next_command_free h, if_pos (State.not_structureSeen_iff.mp no)]

theorem exec_structureRead_found (sparse : x.dense = false) (seen : (s.heard iface).structureSeen iface x member) {f : Found}
    (found : (s.heard iface).stripeRead x member [3, 4] = f) : exec (.structureRead iface x.group x.die x.grove x.line member) s =
    .next (s.answers iface 0 0xD102 ((s.heard iface).structureAnswer x member f)) := by
  have place : (⟨x.group, x.die, x.grove, x.line, false⟩ : Stripe) = x := by rw [← sparse]
  rw [exec_structureRead, execStructureRead, State.next_command_free h, if_neg (mt State.not_structureSeen_iff.mpr (not_not_intro seen))]
  simp only [place, found]
  cases f <;> rfl

end

/-! ## PMC_EVEN_READ (R514) -/

section
variable {s : State} {iface block index : Nat}

/-- An even counter's value is answered and the one above it latched; a block the member lacks reads 0. -/
theorem exec_pmcEvenRead_even (h : s.hears iface 0 = true) (ok : index % 2 = 0 ∧ index < pmcCount (pmcBlock block)) :
    exec (.pmcEvenRead iface block index) s = .next (
      let p := pmcBlock block
      let a := (pmcCnt p index).addr
      if s.holds iface .mgmtRead = false then (s.deny iface a .mgmtRead).send (.regValue iface a 0)
      else if s.holds iface .counterRead = false then (s.deny iface a .counterRead).send (.regValue iface a 0)
      else if s.pmcPresent p then (s.wf (pmcHi p) (s.pmcValue iface p (index + 1))).send (.regValue iface a (s.pmcValue iface p index))
      else s.send (.regValue iface a 0)) := by
  rw [exec_pmcEvenRead, execPmcEvenRead, if_neg (by omega)]
  cases hm : s.holds iface .mgmtRead with
  | false => rw [State.under_denied h hm, if_pos rfl]
  | true =>
    simp only [State.under_held h hm, Bool.true_eq_false, if_false]
    cases hc : s.holds iface .counterRead with
    | false => rw [State.under_denied h hc, if_pos rfl]
    | true => simp only [State.under_held h hc, Bool.true_eq_false, if_false]

end

/-! ## PMC_SEL_WRITE (R513, R519) -/

section
variable {s : State} {iface block index value : Nat} (h : s.hears iface 0 = true)

/-- A selection that changes is taken: it zeroes its counter unless that is chained, and the odd one chained to it. -/
def State.pmcTakesSel (s : State) (p : Option Nat) (i sel : Nat) : State :=
  if s.rf (pmcSel p i) ≠ sel then
    let t := if s.pmcChained p i then s.wf (pmcSel p i) sel else (s.wf (pmcSel p i) sel).pmcZero p i
    if i % 2 = 0 ∧ t.pmcChained p (i + 1) = true then t.pmcZero p (i + 1) else t
  else s

/-- A chain bit that changes is taken: it zeroes both counters of the pair. -/
def State.pmcTakesChain (s : State) (p : Option Nat) (i ch : Nat) : State :=
  if s.rf (pmcChain p i) ≠ ch then ((s.wf (pmcChain p i) ch).pmcZero p i).pmcZero p (i - 1) else s

/-- The k-th selection and chain bit of a written word; only odd counters have a chain bit. -/
def State.pmcTakes (p : Option Nat) (index value : Nat) (s : State) (k : Nat) : State :=
  let i := 8 * index + k
  (s.pmcTakesSel p i (bits value (4 * k + 2) (4 * k))).pmcTakesChain p i (if i % 2 = 1 then bits value (4 * k + 3) (4 * k + 3) else 0)

include h

theorem exec_pmcSelWrite_absent (no : s.pmcPresent (pmcBlock block) = false ∨ pmcCount (pmcBlock block) ≤ 8 * index) :
    exec (.pmcSelWrite iface block index value) s = .next s := by
  rw [exec_pmcSelWrite, execPmcSelWrite, if_neg (by simp [h]), if_pos (no.imp_left (by simp))]

variable (here : s.pmcPresent (pmcBlock block) = true ∧ 8 * index < pmcCount (pmcBlock block))
include here

theorem exec_pmcSelWrite_present : exec (.pmcSelWrite iface block index value) s = .next (
    if (!(s.coversAll iface .counterRead && s.holds iface .mgmtWrite)) = true then
      (if s.reg (pmcSel (pmcBlock block) (8 * index)).addr = BitVec.ofNat 32 value then s
      else s.deny iface (pmcSel (pmcBlock block) (8 * index)).addr .counterRead)
    else each (upto 8) s (State.pmcTakes (pmcBlock block) index value)) := by
  obtain ⟨present, inside⟩ := here
  rw [exec_pmcSelWrite, execPmcSelWrite, if_neg (by simp [h]), if_neg (by simpa [present] using inside)]
  rfl

/-- Without the rights only a word that would change anything is denied. -/
theorem exec_pmcSelWrite_denied (no : ¬(s.coversAll iface .counterRead = true ∧ s.holds iface .mgmtWrite = true)) :
    exec (.pmcSelWrite iface block index value) s = .next (
      if s.reg (pmcSel (pmcBlock block) (8 * index)).addr = BitVec.ofNat 32 value then s
      else s.deny iface (pmcSel (pmcBlock block) (8 * index)).addr .counterRead) := by
  rw [exec_pmcSelWrite_present h here, if_pos (by simpa [imp_iff_not_or] using no)]

theorem exec_pmcSelWrite_takes (may : s.coversAll iface .counterRead = true ∧ s.holds iface .mgmtWrite = true) :
    exec (.pmcSelWrite iface block index value) s = .next (each (upto 8) s (State.pmcTakes (pmcBlock block) index value)) := by
  rw [exec_pmcSelWrite_present h here, if_neg (by simp [may])]

end

/-! ## PMC_FILT_WRITE (R519; log 172) -/

section
variable {s : State} {iface block index value : Nat} (h : s.hears iface 0 = true)

/-- A filter the block has is written with another compartment or another enable. -/
def State.pmcFiltChanges (s : State) (p : Option Nat) (index value : Nat) : Prop :=
  s.pmcPresent p = true ∧ 1 ≤ index ∧ index ≤ 7 ∧ ¬(bits value 11 0 = s.rf (pmcFiltComp p index) ∧ bits value 12 12 = s.rf (pmcFiltEn p index))

theorem State.not_pmcFiltChanges_iff {p : Option Nat} : ¬s.pmcFiltChanges p index value ↔ (!s.pmcPresent p) = true ∨ index = 0 ∨ 7 < index ∨
    (bits value 11 0 = s.rf (pmcFiltComp p index) ∧ bits value 12 12 = s.rf (pmcFiltEn p index)) := by
  simp only [State.pmcFiltChanges, not_and_or, not_or, not_not, Bool.not_eq_true', Bool.not_eq_true, Nat.not_le, Nat.lt_one_iff]

/-- The writer's scope: the new compartment, and the old one while its filter is enabled. -/
def State.mayPmcFilt (s : State) (iface : Nat) (p : Option Nat) (index value : Nat) : Prop :=
  s.holds iface .mgmtWrite = true ∧ s.covers iface .counterRead (bits value 11 0) = true ∧
    (s.rf (pmcFiltEn p index) = 0 ∨ s.covers iface .counterRead (s.rf (pmcFiltComp p index)) = true)

theorem State.mayPmcFilt_iff {p : Option Nat} : s.mayPmcFilt iface p index value ↔ (s.holds iface .mgmtWrite && s.covers iface .counterRead (bits value 11 0) &&
    (s.rf (pmcFiltEn p index) == 0 || s.covers iface .counterRead (s.rf (pmcFiltComp p index)))) = true := by
  simp only [State.mayPmcFilt, Bool.and_eq_true, Bool.or_eq_true, beq_iff_eq, and_assoc]

/-- A counter that selects the filter, itself or through its chain, is zeroed. -/
def State.pmcZeroFiltered (p : Option Nat) (index : Nat) (s : State) (i : Nat) : State :=
  if s.rf (pmcSel p (if s.pmcChained p i then i - 1 else i)) = index then s.pmcZero p i else s

include h

theorem exec_pmcFiltWrite_idle (same : ¬s.pmcFiltChanges (pmcBlock block) index value) : exec (.pmcFiltWrite iface block index value) s = .next s := by
  rw [exec_pmcFiltWrite, execPmcFiltWrite, if_neg (by simp [h]), if_pos (State.not_pmcFiltChanges_iff.mp same)]

variable (changes : s.pmcFiltChanges (pmcBlock block) index value)
include changes

theorem exec_pmcFiltWrite_denied (no : ¬s.mayPmcFilt iface (pmcBlock block) index value) :
    exec (.pmcFiltWrite iface block index value) s = .next (s.deny iface (pmcFiltComp (pmcBlock block) index).addr .counterRead) := by
  rw [exec_pmcFiltWrite, execPmcFiltWrite, if_neg (by simp [h]), if_neg (mt State.not_pmcFiltChanges_iff.mpr (not_not_intro changes)),
    if_neg (mt State.mayPmcFilt_iff.mpr no)]

theorem exec_pmcFiltWrite_takes (may : s.mayPmcFilt iface (pmcBlock block) index value) : exec (.pmcFiltWrite iface block index value) s =
    .next (each (upto (pmcCount (pmcBlock block)))
      ((s.wf (pmcFiltComp (pmcBlock block) index) (bits value 11 0)).wf (pmcFiltEn (pmcBlock block) index) (bits value 12 12))
      (State.pmcZeroFiltered (pmcBlock block) index)) := by
  rw [exec_pmcFiltWrite, execPmcFiltWrite, if_neg (by simp [h]), if_neg (mt State.not_pmcFiltChanges_iff.mpr (not_not_intro changes)),
    if_pos (State.mayPmcFilt_iff.mp may)]
  rfl

end

/-! ## READ_COUNTERS (R522) -/

section
variable {s : State} {iface ld : Nat} {b : Bytes}

/-- An input of Read Counters: a block, flags of 0 or 1, a run of 1 to 224 counters the block has, its reserved bytes 0. -/
def counterInput (b : Bytes) : Prop :=
  b.length = 8 ∧ (getLe b 0 1 < 8 ∨ getLe b 0 1 = 0xFF) ∧ getLe b 1 1 ≤ 1 ∧ 1 ≤ getLe b 4 2 ∧ getLe b 4 2 ≤ 224 ∧ allZero (slice b 6 2) = true ∧
    getLe b 2 2 + getLe b 4 2 ≤ pmcCount (pmcBlock (getLe b 0 1))

theorem not_counterInput_iff : ¬counterInput b ↔ b.length ≠ 8 ∨ (8 ≤ getLe b 0 1 ∧ getLe b 0 1 ≠ 0xFF) ∨ 1 < getLe b 1 1 ∨ getLe b 4 2 = 0 ∨ 224 < getLe b 4 2 ∨
    (!allZero (slice b 6 2)) = true ∨ pmcCount (pmcBlock (getLe b 0 1)) < getLe b 2 2 + getLe b 4 2 := by
  simp only [counterInput, not_and_or, not_or, Nat.not_lt, Nat.not_le, Nat.lt_one_iff, Bool.not_eq_true', Bool.not_eq_true, ne_eq]

/-- The fine time, the count and the run's entries. -/
def State.countersShown (s : State) (iface : Nat) (b : Bytes) : Bytes :=
  le 6 s.fine ++ le 2 (getLe b 4 2) ++ ((upto (getLe b 4 2)).map (fun i => s.counterEntry iface (pmcBlock (getLe b 0 1)) (getLe b 2 2 + i))).flatten

variable (h : s.hears iface ld = true) (hc : carries iface 0xC041 = true) (hr : (s.heard iface).holds iface .counterRead = true)
include h hc hr

theorem exec_readCounters_badInput (bad : ¬counterInput b) :
    exec (.readCounters iface ld b) s = .next ((s.heard iface).reply iface ld 0xC041 .invalidInput []) := by
  rw [exec_readCounters, execReadCounters, State.command_held h hc hr, if_pos (not_counterInput_iff.mp bad)]
  rfl

theorem exec_readCounters_shows (good : counterInput b) :
    exec (.readCounters iface ld b) s = .next ((s.heard iface).reply iface ld 0xC041 .success ((s.heard iface).countersShown iface b)) := by
  rw [exec_readCounters, execReadCounters, State.command_held h hc hr, if_neg (mt not_counterInput_iff.mpr (not_not_intro good))]
  rfl

end

/-- Settles O39: a debug access by the line it names and the rights over its compartment, a structure read by what it finds, a counter register by its rights and what changes, Read Counters by its input. -/
theorem debugAndCounterCommandsTakeEffect : Obligations.DebugAndCounterCommandsTakeEffect := by
  unfold Obligations.DebugAndCounterCommandsTakeEffect
  intro s iface ld dpa enables index value block b data ups
  refine ⟨fun held => ⟨exec_lineRead_waits held, exec_lineWrite_waits held⟩, fun h => ⟨fun free => ⟨fun unmapped => ?_, fun c r mapped => ?_⟩, fun x member => ?_⟩,
    fun h => ⟨exec_pmcEvenRead_even h, fun here => ⟨exec_pmcSelWrite_denied h here, exec_pmcSelWrite_takes h here⟩, exec_pmcSelWrite_absent h, ?_⟩, fun h => ?_⟩
  case refine_1 => exact ⟨exec_lineRead_unmapped h free unmapped, exec_lineWrite_unmapped h free unmapped⟩
  case refine_2 => exact ⟨exec_lineRead_mapped h free mapped, exec_lineWrite_mapped h free mapped⟩
  case refine_3 =>
    exact ⟨exec_structureRead_refused h, fun ⟨sparse, seen⟩ => ⟨fun l e => exec_structureRead_found h sparse seen,
      fun l => exec_structureRead_found h sparse seen, exec_structureRead_found h sparse seen⟩⟩
  case refine_4 =>
    exact ⟨exec_pmcFiltWrite_idle h, fun ⟨changes, no⟩ => exec_pmcFiltWrite_denied h changes no, fun ⟨changes, may⟩ => exec_pmcFiltWrite_takes h changes may⟩
  case refine_5 =>
    rintro _ _ good ⟨hc, hr⟩
    by_cases ok : good
    · rw [if_pos ok]; exact exec_readCounters_shows h hc hr ok
    · rw [if_neg ok]; exact exec_readCounters_badInput h hc hr ok

end Sys2Proof.Machine
end

section
/-! PROOFS. A step: the command at the front of the queue, or one tick of the fabric clock (13, R405; log 2). -/
namespace Sys2Proof.Machine

section
variable {s : State}

theorem step_command {c : Instr} {rest : List Instr} (h : s.pending = c :: rest) : step s = exec c { s with pending := rest } := by
  rw [step, h]

theorem step_empty (h : s.pending = []) : step s = .next s.tick := by
  rw [step, h]

theorem State.tick_stopped (stopped : s.fabricRuns = false) : s.tick = s := by
  rw [State.tick, stopped]
  rfl

theorem State.tick_p2 (runs : s.fabricRuns = true) (p2 : s.power.pstate = 2) : s.tick = (s.advance 10).countHub 50 := by
  rw [State.tick, if_neg (by simp [runs]), if_pos p2]

theorem State.tick_cycle (runs : s.fabricRuns = true) (awake : s.power.pstate ≠ 2) :
    s.tick = (each s.tileList (s.advance 1) State.tileCycle).countHub 0 := by
  rw [State.tick, if_neg (by simp [runs]), if_neg awake]

end

/-- Settles O47: a step by the front of the queue. -/
theorem stepRunsTheFrontCommand : Obligations.StepRunsTheFrontCommand := by
  unfold Obligations.StepRunsTheFrontCommand
  exact fun _ _ _ => step_command

/-- Settles O48: on an empty queue a step is a tick, which turns on whether the fabric clock runs and on P2. -/
theorem emptyQueueTicks : Obligations.EmptyQueueTicks := by
  unfold Obligations.EmptyQueueTicks
  intro s empty
  rw [step_empty empty]
  exact ⟨fun stopped => congrArg _ (State.tick_stopped stopped), fun ⟨runs, p2⟩ => congrArg _ (State.tick_p2 runs p2),
    fun ⟨runs, awake⟩ => congrArg _ (State.tick_cycle runs awake)⟩

end Sys2Proof.Machine
end

section
/-! PROOFS. Resets of a host port and of a logical device (04, R144, R188, R487), and resets asked for by a register, the sideband or a pin (15, R477, R495). -/
namespace Sys2Proof.Machine

/-! ## The commands' meanings: resets -/

theorem exec_perstAssert (port : Nat) (s : State) : exec (.perstAssert port) s = execPerstAssert port s := rfl
theorem exec_functionLevelReset (port ld : Nat) (s : State) : exec (.functionLevelReset port ld) s = .next (s.ldReset port ld) := rfl
theorem exec_cxlReset (port ld : Nat) (s : State) : exec (.cxlReset port ld) s = .next (s.ldReset port ld) := rfl
theorem exec_hptWfailClear (iface port : Nat) (s : State) : exec (.hptWfailClear iface port) s = execHptWfailClear iface port s := rfl
theorem exec_hptRdlatClear (iface port : Nat) (s : State) : exec (.hptRdlatClear iface port) s = execHptRdlatClear iface port s := rfl
theorem exec_hptLtClear (iface port : Nat) (s : State) : exec (.hptLtClear iface port) s = execHptLtClear iface port s := rfl

/-! ## Ports and logical devices (R144, R188, R487) -/

section
variable {s : State} {iface port link ld : Nat}

theorem exec_hotReset_link (linked : s.linkExists port link = true) : exec (.hotReset port link) s = .next (s.portReset port 15) :=
  congrArg _ (if_pos linked)

theorem exec_hostLinkDown_up (up : (s.link port link).up = true) : exec (.hostLinkDown port link) s = .next (s.portReset port 15) :=
  congrArg _ (if_pos up)

section
variable (here : port < s.portCount)
include here

theorem exec_perstAssert_present : exec (.perstAssert port) s =
    .next (({ s with power := { s.power with pins := { s.power.pins with perst := s.power.pins.perst.set port false } } } : State).portReset port 15) := by
  rw [exec_perstAssert, execPerstAssert, if_neg here.not_ge]

theorem State.ldReset_present : s.ldReset port ld =
    let t := ((s.resetEvent 5 15 port).noteReset 5 15 port).modLd port ld Ld.unconfigured
    (t.dropQueues (fun q => q.port == port && q.ld == ld)).discardReqs (fun q => q.port == port && q.ld == ld) :=
  if_neg here.not_ge

theorem State.hptWrite_held {f : Fld} {go : State → State} (h : s.hears iface 0 = true) (hm : s.holds iface .mgmtWrite = true) :
    s.hptWrite iface port f go = go s := by
  rw [State.hptWrite, if_neg here.not_ge, State.regWrite_held h hm hm]

end

end

/-- Settles O7: a reset of the port or of the logical device where the port or the link is there, a clearing write under management write. -/
theorem hostPortResetsTakeEffect : Obligations.HostPortResetsTakeEffect := by
  unfold Obligations.HostPortResetsTakeEffect
  intro s iface port link ld
  refine ⟨exec_perstAssert_present, exec_hotReset_link, exec_hostLinkDown_up, fun here => ⟨?_, ?_⟩, fun ⟨h, here, hm⟩ => ⟨?_, ?_, ?_⟩⟩
  case refine_1 => rw [exec_functionLevelReset, State.ldReset_present here]
  case refine_2 => rw [exec_cxlReset, State.ldReset_present here]
  case refine_3 => rw [exec_hptWfailClear, execHptWfailClear, State.hptWrite_held here h hm]
  case refine_4 => rw [exec_hptRdlatClear, execHptRdlatClear, State.hptWrite_held here h hm]
  case refine_5 => rw [exec_hptLtClear, execHptLtClear, State.hptWrite_held here h hm]

/-! ## RST_CTRL (R495) -/

section
variable {s : State} {iface code target : Nat}

/-- A held write takes the scope and the target into the register and starts the reset they name. -/
theorem State.rstCtrl_held (h : s.hears iface 0 = true) (hr : s.holds iface .reset = true) (hm : s.holds iface .mgmtWrite = true) :
    s.rstCtrl iface code target = ((s.wf F.RST_CTRL_scope code).wf F.RST_CTRL_target target).softReset iface code target :=
  State.regWrite_held h hr hm

/-- The cause a software reset is recorded with: 8 from the debug interfaces 6 and 7, else 7. -/
def softCause (iface : Nat) : Nat := if iface = 6 ∨ iface = 7 then 8 else 7

/-- A tile whose reset is taken up: the tile is there and in service, and no tile is out. -/
def State.resetsTile (s : State) (k : Nat) : Prop := k < s.tileCount ∧ s.tileState k = 0 ∧ s.tilesOut = []

theorem State.resetsTile_iff {k : Nat} : s.resetsTile k ↔ k < s.tileCount ∧ s.tileState k = 0 ∧ s.tilesOut.isEmpty = true := by
  rw [State.resetsTile, List.isEmpty_iff]

/-- The tile is isolated with cause 1 and restored at once, unless the reset's own note has taken it out. -/
theorem State.softReset_tile (takes : s.resetsTile target) : s.softReset iface 3 target =
    let v := ((s.resetEvent 4 (softCause iface) target).noteReset 4 (softCause iface) target).wf (F.WDN_TILE_CTRL_restore target) 1
    if v.tileState target = 0 ∧ v.tilesOut.isEmpty = true then v.isolate target 1 else v := by
  refine (if_pos (State.resetsTile_iff.mp takes)).trans ?_
  rw [State.isolateWrite_eq, State.takesIsolate]
  exact (apply_ite Prod.snd _ _ _).trans (if_congr (by rw [Bool.and_eq_true, decide_eq_true_eq]; rfl) rfl rfl)

theorem State.softReset_noTile (no : ¬s.resetsTile target) : s.softReset iface 3 target = s :=
  if_neg (mt State.resetsTile_iff.mpr no)

end

/-! ## The sideband's RESET and the pins (R456, R477, R492, R504) -/

section
variable {s : State} {scope : Nat}

theorem exec_reset_nacked (h : s.wardenUp = false ∨ s.nacking = true ∨ s.rb F.WDN_I3C_STAT_addr_valid = false) : exec (.reset scope) s = .next (s.send .nack) :=
  congrArg _ (State.sidebandUnder_nacked h)

section
variable (up : s.sidebandUp) (hr : (s.irqEdge irqSideband).holds 5 .reset = true)
include up hr

theorem exec_reset_held : exec (.reset scope) s = sidebandSends (
    if scope = 1 ∨ scope = 2 ∨ scope = 5 ∨ scope = 6 then (0, [], (s.irqEdge irqSideband).softReset 5 scope 0) else (4, [], s.irqEdge irqSideband)) :=
  State.next_sidebandUnder_held up hr

theorem exec_reset_starts (untargeted : scope = 1 ∨ scope = 2 ∨ scope = 5 ∨ scope = 6) :
    exec (.reset scope) s = sidebandSends (0, [], (s.irqEdge irqSideband).softReset 5 scope 0) := by
  rw [exec_reset_held up hr, if_pos untargeted]

theorem exec_reset_refused (other : ¬(scope = 1 ∨ scope = 2 ∨ scope = 5 ∨ scope = 6)) :
    exec (.reset scope) s = sidebandSends (4, [], s.irqEdge irqSideband) := by
  rw [exec_reset_held up hr, if_neg other]

end

/-- MRST# reads low. -/
def State.mrstLow (s : State) : State := { s with power := { s.power with pins := { s.power.pins with mrst := false } } }

theorem exec_mrstAssert_on (on : s.phase = 2) : exec .mrstAssert s = .next (s.mrstLow.requestReset ⟨2, 4, 0⟩) := by
  have hp : s.mrstLow.phase = 2 := on
  exact congrArg _ ((if_neg (show s.mrstLow.phase ≠ 0 by omega)).trans (if_pos hp))

theorem exec_mrstAssert_off (off : s.phase = 0) : exec .mrstAssert s =
    .next (if s.power.after = .locked ∨ s.power.after = .thermalLocked then s.mrstLow.askPowerUp else s.mrstLow) :=
  congrArg _ (if_pos (show s.mrstLow.phase = 0 from off))

theorem exec_mrstAssert_between (between : s.phase ≠ 2 ∧ s.phase ≠ 0) : exec .mrstAssert s = .next s.mrstLow := by
  have hp : s.mrstLow.phase ≠ 2 ∧ s.mrstLow.phase ≠ 0 := between
  exact congrArg _ ((if_neg hp.2).trans (if_neg hp.1))

end

/-- Settles O36: a write of RST_CTRL under the reset right, the sideband's RESET by its scope, a pin by the phase. -/
theorem resetRequestsTakeEffect : Obligations.ResetRequestsTakeEffect := by
  unfold Obligations.ResetRequestsTakeEffect
  intro s iface n scope
  refine ⟨fun ⟨h, hr, hm⟩ => ?_, exec_reset_nacked, fun ⟨hup, hn, hv, hr⟩ => ?_, rfl, ⟨exec_mrstAssert_on, exec_mrstAssert_off, exec_mrstAssert_between⟩, rfl, rfl, rfl⟩
  case refine_1 =>
    have ctrl (code target : Nat) : (.next (s.rstCtrl iface code target) : Host.Outcome State Fault Refusal) =
        .next (((s.wf F.RST_CTRL_scope code).wf F.RST_CTRL_target target).softReset iface code target) := congrArg _ (State.rstCtrl_held h hr hm)
    exact ⟨ctrl 1 0, ctrl 2 0, ctrl 4 (n % 8), ctrl 5 0, ctrl 6 0, fun takes => (ctrl 3 (n % 8)).trans (congrArg _ (State.softReset_tile takes)),
      fun no => (ctrl 3 (n % 8)).trans (congrArg _ (State.softReset_noTile no))⟩
  case refine_2 =>
    have up : s.sidebandUp := ⟨hup, hn, hv⟩
    exact ⟨exec_reset_starts up hr, exec_reset_refused up hr⟩

end Sys2Proof.Machine
end

section
/-! PROOFS. The power sequencer's steps, events and timeouts (15, R462 to R471, R494). -/
namespace Sys2Proof.Machine

/-! ## The commands' meanings: the sequencer -/

/-- What a step command does: its effect where the sequencer stands at a step of its operation, else nothing (R465). -/
def State.atStep (s : State) (op : Nat) (f : SeqStep → State) : State :=
  match s.stepNow with
  | some st => if st.op = op then f st else s
  | none => s

theorem exec_dependencyEnable (rail : Nat) (s : State) : exec (.dependencyEnable rail) s = execDependencyEnable rail s := rfl
theorem exec_stepEnable (s : State) : exec .stepEnable s =
    .next (s.atStep 0x01 (fun st => if s.power.depsMet st.a then ((s.enHigh st.a).stepWait (.railOn st.a)).seqRecheck else s)) := by
  change execStepEnable s = _
  rw [execStepEnable, State.atStep]
  cases s.stepNow with
  | none => rfl
  | some st => exact congrArg _ (ite_and _ _ _ _)
theorem exec_stepDisable (s : State) : exec .stepDisable s = .next (s.atStep 0x02 (fun st => ((s.enLow st.a).stepWait (.railOff st.a)).seqRecheck)) := rfl
theorem exec_stepWait (s : State) : exec .stepWait s = .next (s.atStep 0x03 (fun _ => s.stepWait .duration)) := rfl
theorem exec_stepCheck (s : State) : exec .stepCheck s = .next (s.atStep 0x04 (fun st => (s.stepWait (.level st.b (st.a % 2 == 1))).seqRecheck)) := rfl
theorem exec_stepJump (s : State) : exec .stepJump s = .next (s.atStep 0x05 (fun st =>
    let c := bits st.a 5 4
    let on := s.power.railOn (bits st.a 3 0)
    if c = 0 ∨ (c = 1 ∧ on) ∨ (c = 2 ∧ !on) then s.stepTo st.b else s.stepTo (s.seqStep + 1))) := rfl
theorem exec_stepSafe (s : State) : exec .stepSafe s = .next (s.atStep 0x06 (fun _ =>
    (({ s with power := { s.power with safe := s.seqStep + 1, order := [] } } : State).wf F.SEQ_STAT_retries 0).stepTo (s.seqStep + 1))) := rfl
theorem exec_stepSync (s : State) : exec .stepSync s = .next (s.atStep 0x07 (fun st => (s.stepWait (.sync st.b)).seqsync true)) := rfl
theorem exec_stepEnd (s : State) : exec .stepEnd s = .next (s.atStep 0x0F (fun _ =>
    if s.phase = 1 then (s.stepWait .required).seqRecheck else ((s.stepWait .allOff).seqsync true).seqRecheck)) := rfl

theorem exec_seqsyncHigh (s : State) : exec .seqsyncHigh s = execSeqsyncHigh s := rfl
theorem exec_railOnDone (rail : Nat) (s : State) : exec (.railOnDone rail) s = execRailOnDone rail s := rfl
theorem exec_onTimeoutExpire (rail : Nat) (s : State) : exec (.onTimeoutExpire rail) s = execOnTimeoutExpire rail s := rfl
theorem exec_checkTimeoutExpire (s : State) : exec .checkTimeoutExpire s = execCheckTimeoutExpire s := rfl
theorem exec_syncTimeoutExpire (s : State) : exec .syncTimeoutExpire s = execSyncTimeoutExpire s := rfl
theorem exec_dischargeTimeout (rail : Nat) (s : State) : exec (.dischargeTimeout rail) s = execDischargeTimeout rail s := rfl
theorem exec_pgChatter (rail : Nat) (s : State) : exec (.pgChatter rail) s = execPgChatter rail s := rfl

/-! ## The step the sequencer stands at (R465) -/

section
variable {s : State} {op : Nat} {f : SeqStep → State}

theorem State.atStep_same {st : SeqStep} (here : s.stepNow = some st) (same : st.op = op) : s.atStep op f = f st := by
  rw [State.atStep, here]
  exact if_pos same

theorem State.atStep_other (other : ∀ st, s.stepNow = some st → st.op ≠ op) : s.atStep op f = s := by
  rw [State.atStep]
  cases h : s.stepNow with
  | none => rfl
  | some st => exact if_neg (other st h)

variable {c : Instr} (means : exec c s = .next (s.atStep op f))
include means

theorem exec_step_same {st : SeqStep} (now : s.stepNow = some st) (same : st.op = op) : exec c s = .next (f st) := by
  rw [means, State.atStep_same now same]

theorem exec_step_other (other : ∀ st, s.stepNow = some st → st.op ≠ op) : exec c s = .next s := by
  rw [means, State.atStep_other other]

end

/-! ## The dependency engine (R464) -/

section
variable {s : State} {rail : Nat}

theorem exec_dependencyEnable_enables (h : s.phase = 1 ∧ s.rollsBack = false ∧ (s.power.dep rail).mode = 1 ∧ (s.power.rail rail).en = false ∧ s.power.depsMet rail = true) :
    exec (.dependencyEnable rail) s = .next (s.enHigh rail) := by
  rw [exec_dependencyEnable, execDependencyEnable, if_pos (by simpa using h)]

theorem exec_dependencyEnable_idle (h : s.phase ≠ 1 ∨ s.rollsBack = true ∨ (s.power.dep rail).mode ≠ 1 ∨ (s.power.rail rail).en = true ∨ s.power.depsMet rail = false) :
    exec (.dependencyEnable rail) s = .next s := by
  rw [exec_dependencyEnable, execDependencyEnable, if_neg (by simpa [imp_iff_not_or] using h)]

end

/-! ## The steps with a condition of their own (R465 to R467) -/

section
variable {s : State} {st : SeqStep} (now : s.stepNow = some st)
include now

theorem exec_stepEnable_enables (op : st.op = 0x01) (met : s.power.depsMet st.a = true) :
    exec .stepEnable s = .next ((s.enHigh st.a).stepWait (.railOn st.a)).seqRecheck := by
  rw [exec_step_same (exec_stepEnable s) now op, if_pos met]

theorem exec_stepJump_jumps (op : st.op = 0x05) (on : bits st.a 5 4 = 0 ∨ bits st.a 5 4 = 1 ∧ s.power.railOn (bits st.a 3 0) = true ∨
    bits st.a 5 4 = 2 ∧ s.power.railOn (bits st.a 3 0) = false) : exec .stepJump s = .next (s.stepTo st.b) := by
  rw [exec_step_same (exec_stepJump s) now op]
  exact congrArg _ (if_pos (by simpa using on))

theorem exec_stepJump_goesOn (op : st.op = 0x05) (off : bits st.a 5 4 = 1 ∧ s.power.railOn (bits st.a 3 0) = false ∨
    bits st.a 5 4 = 2 ∧ s.power.railOn (bits st.a 3 0) = true) : exec .stepJump s = .next (s.stepTo (s.seqStep + 1)) := by
  rw [exec_step_same (exec_stepJump s) now op]
  refine congrArg _ (if_neg ?_)
  obtain ⟨c, on⟩ | ⟨c, on⟩ := off <;> simp [c, on]

theorem exec_stepEnd_up (op : st.op = 0x0F) (up : s.phase = 1) : exec .stepEnd s = .next (s.stepWait .required).seqRecheck := by
  rw [exec_step_same (exec_stepEnd s) now op, if_pos up]

theorem exec_stepEnd_down (op : st.op = 0x0F) (down : s.phase ≠ 1) : exec .stepEnd s = .next ((s.stepWait .allOff).seqsync true).seqRecheck := by
  rw [exec_step_same (exec_stepEnd s) now op, if_neg down]

end

/-- Settles O31: the dependency engine by its condition; a step command by the operation at the sequencer, where ENABLE, JUMP and END have a condition of their own. -/
theorem sequencerStepsTakeEffect : Obligations.SequencerStepsTakeEffect := by
  unfold Obligations.SequencerStepsTakeEffect
  intro s st rail
  exact ⟨exec_dependencyEnable_enables, exec_dependencyEnable_idle,
    fun now => ⟨fun ⟨op, met⟩ => exec_stepEnable_enables now op met, exec_step_same (exec_stepDisable s) now, exec_step_same (exec_stepWait s) now,
      exec_step_same (exec_stepCheck s) now, fun op => ⟨exec_stepJump_jumps now op, exec_stepJump_goesOn now op⟩, exec_step_same (exec_stepSafe s) now,
      exec_step_same (exec_stepSync s) now, fun ⟨op, up⟩ => exec_stepEnd_up now op up, fun ⟨op, down⟩ => exec_stepEnd_down now op down⟩,
    exec_step_other (exec_stepEnable s), exec_step_other (exec_stepDisable s), exec_step_other (exec_stepWait s), exec_step_other (exec_stepCheck s),
    exec_step_other (exec_stepJump s), exec_step_other (exec_stepSafe s), exec_step_other (exec_stepSync s), exec_step_other (exec_stepEnd s)⟩

/-! ## Events of a waiting step (R465, R467, R468, R471) -/

section
variable {s : State} {n : Nat} {b : Bool}

theorem exec_stepWaitExpire_ends (wait : s.power.wait = .duration) : exec .stepWaitExpire s = .next (s.stepTo (s.seqStep + 1)) :=
  congrArg _ (if_pos wait)

theorem exec_stepWaitExpire_idle (wait : s.power.wait ≠ .duration) : exec .stepWaitExpire s = .next s :=
  congrArg _ (if_neg wait)

theorem exec_seqsyncHigh_passes (wait : s.power.wait = .sync n) :
    exec .seqsyncHigh s = .next (((s.wf F.SEQ_STAT_sync_state n).stepTo (s.seqStep + 1)).seqsync false) := by
  rw [exec_seqsyncHigh, execSeqsyncHigh, wait]

theorem exec_syncTimeoutExpire_waiting (wait : s.power.wait = .sync n) :
    exec .syncTimeoutExpire s = .next (if s.phase = 1 then s.seqFault 4 0 else ((s.seqFaultNote 4 0).seqsync true).stepTo (s.seqStep + 1)) := by
  rw [exec_syncTimeoutExpire, execSyncTimeoutExpire, wait]

theorem exec_seqsync_idle (wait : ∀ k, s.power.wait ≠ .sync k) : exec .seqsyncHigh s = .next s ∧ exec .syncTimeoutExpire s = .next s := by
  rw [exec_seqsyncHigh, execSeqsyncHigh, exec_syncTimeoutExpire, execSyncTimeoutExpire]
  cases h : s.power.wait with
  | sync k => exact absurd h (wait k)
  | _ => exact ⟨rfl, rfl⟩

theorem exec_checkTimeoutExpire_waiting (wait : s.power.wait = .level n b) :
    exec .checkTimeoutExpire s = .next (if s.phase = 1 then s.seqFault 3 0 else (s.seqFaultNote 3 0).stepTo (s.seqStep + 1)) := by
  rw [exec_checkTimeoutExpire, execCheckTimeoutExpire, wait]

theorem exec_checkTimeoutExpire_idle (wait : ∀ k c, s.power.wait ≠ .level k c) : exec .checkTimeoutExpire s = .next s := by
  rw [exec_checkTimeoutExpire, execCheckTimeoutExpire]
  cases h : s.power.wait with
  | level k c => exact absurd h (wait k c)
  | _ => rfl

end

/-! ## Rails that come on, fail or chatter (R462, R467, R468) -/

section
variable {s : State} {rail : Nat}

theorem exec_railOnDone_enabled (en : (s.power.rail rail).en = true) : exec (.railOnDone rail) s = .next (s.railUp rail) :=
  congrArg _ (if_pos en)

theorem exec_railOnDone_idle (low : (s.power.rail rail).en = false) : exec (.railOnDone rail) s = .next s := by
  rw [exec_railOnDone, execRailOnDone, if_neg (Bool.eq_false_iff.mp low)]

theorem exec_onTimeoutExpire_idle (h : (s.power.rail rail).en = false ∨ (s.power.rail rail).pg = true) : exec (.onTimeoutExpire rail) s = .next s := by
  rw [exec_onTimeoutExpire, execOnTimeoutExpire, if_pos (by simpa using h)]

section
variable (en : (s.power.rail rail).en = true) (pg : (s.power.rail rail).pg = false)
include en pg

theorem exec_onTimeoutExpire_powerUp (up : s.phase = 1) : exec (.onTimeoutExpire rail) s = .next (s.seqFault 1 rail) := by
  rw [exec_onTimeoutExpire, execOnTimeoutExpire, if_neg (by simp [en, pg]), if_pos up]

/-- Rails 2 to 9 are the tiles'; one that returns needs its rail (R34). -/
theorem exec_onTimeoutExpire_return (on : s.phase = 2) (tile : 2 ≤ rail ∧ rail ≤ 9 ∧ s.tileState (rail - 2) = 3) :
    exec (.onTimeoutExpire rail) s = .next ((s.failReturn (rail - 2)).enLow rail) := by
  rw [exec_onTimeoutExpire, execOnTimeoutExpire, if_neg (by simp [en, pg]), if_neg (by omega), if_pos ⟨on, tile⟩]

end

theorem exec_dischargeTimeout_passes (h0 : rail ≠ 0) (low : (s.power.rail rail).en = false) (on : (s.power.rail rail).on = true) :
    exec (.dischargeTimeout rail) s = .next ((if s.rollsBack then s else s.seqFaultNote 5 rail).setRail rail (fun x => { x with passed := true })).seqRecheck := by
  rw [exec_dischargeTimeout, execDischargeTimeout, if_pos (by simp [h0, low, on])]

theorem exec_dischargeTimeout_idle (h : rail = 0 ∨ (s.power.rail rail).en = true ∨ (s.power.rail rail).on = false) : exec (.dischargeTimeout rail) s = .next s := by
  rw [exec_dischargeTimeout, execDischargeTimeout, if_neg (by simpa [imp_iff_not_or] using h)]

theorem exec_pgChatter_fault (h : s.phase = 1 ∧ (s.power.dep rail).mode ≠ 0) : exec (.pgChatter rail) s = .next (s.seqFault 2 rail) :=
  congrArg _ (if_pos h)

theorem exec_pgChatter_idle (h : s.phase ≠ 1 ∨ (s.power.dep rail).mode = 0) : exec (.pgChatter rail) s = .next s := by
  rw [exec_pgChatter, execPgChatter, if_neg (by simpa [imp_iff_not_or] using h)]

end

/-- Settles O32: an event by what the sequencer waits for or how the rail stands, a timeout also by the phase; the fault registers clear under management write. -/
theorem sequencerEventsTakeEffect : Obligations.SequencerEventsTakeEffect := by
  unfold Obligations.SequencerEventsTakeEffect
  intro s rail iface n b
  refine ⟨exec_stepWaitExpire_ends, fun wait => ⟨exec_seqsyncHigh_passes wait, fun up => ?_, fun down => ?_⟩, fun wait => ⟨fun up => ?_, fun down => ?_⟩,
    exec_railOnDone_enabled, fun ⟨up, en, pg⟩ => exec_onTimeoutExpire_powerUp en pg up, fun ⟨on, en, pg, tile⟩ => exec_onTimeoutExpire_return en pg on tile,
    fun ⟨h0, low, on⟩ => exec_dischargeTimeout_passes h0 low on, exec_pgChatter_fault, exec_stepWaitExpire_idle, exec_seqsync_idle,
    exec_checkTimeoutExpire_idle, exec_railOnDone_idle, exec_onTimeoutExpire_idle, exec_dischargeTimeout_idle, exec_pgChatter_idle,
    fun ⟨h, hm⟩ => ⟨congrArg _ (State.regWrite_held h hm hm), congrArg _ (State.regWrite_held h hm hm)⟩⟩
  case refine_1 => rw [exec_syncTimeoutExpire_waiting wait, if_pos up]
  case refine_2 => rw [exec_syncTimeoutExpire_waiting wait, if_neg down]
  case refine_3 => rw [exec_checkTimeoutExpire_waiting wait, if_pos up]
  case refine_4 => rw [exec_checkTimeoutExpire_waiting wait, if_neg down]

end Sys2Proof.Machine
end

section
/-! PROOFS. Sleep, temperatures and time (13, R402, R403, R406, R417; 15, R489 to R491; 16, R496 to R508). -/
namespace Sys2Proof.Machine

/-! ## The commands' meanings: sleep, temperatures and time -/

theorem exec_tileSleepEntryDone (tile : Nat) (s : State) : exec (.tileSleepEntryDone tile) s = execTileSleepEntryDone tile s := rfl
theorem exec_tileWakeDone (tile : Nat) (s : State) : exec (.tileWakeDone tile) s = execTileWakeDone tile s := rfl
theorem exec_p1Enter (s : State) : exec .p1Enter s = execP1Enter s := rfl
theorem exec_p2Enter (s : State) : exec .p2Enter s = execP2Enter s := rfl
theorem exec_thermalSample (sensor : Nat) (temp : Int) (s : State) : exec (.thermalSample sensor temp) s = execThermalSample sensor temp s := rfl
theorem exec_thermalHistorySave (s : State) : exec .thermalHistorySave s = execThermalHistorySave s := rfl
theorem exec_gladeSecond (s : State) : exec .gladeSecond s = execGladeSecond s := rfl
theorem exec_eventFifoTake (s : State) : exec .eventFifoTake s = execEventFifoTake s := rfl

/-! ## Tiles sleep and wake (R489, R490) -/

section
variable {s : State} {tile d : Nat}

theorem exec_tileIdleT1_sleeps (may : s.maySleep tile 1 = true) :
    exec (.tileIdleT1 tile) s = .next ((s.modTile tile (fun x => { x with depth := 1 })).countTile tile 143) := congrArg _ (if_pos may)

theorem exec_tileIdleT2_begins (may : s.maySleep tile 2 = true) :
    exec (.tileIdleT2 tile) s = .next (s.modTile tile (fun x => { x with entering := some 2 })) := congrArg _ (if_pos may)

theorem exec_tileIdleT3_begins (may : s.maySleep tile 3 = true) :
    exec (.tileIdleT3 tile) s = .next (s.modTile tile (fun x => { x.dropCaches with entering := some 3 })) := congrArg _ (if_pos may)

theorem exec_tileIdleT1_idle (no : s.maySleep tile 1 = false) : exec (.tileIdleT1 tile) s = .next s := congrArg _ (if_neg (Bool.eq_false_iff.mp no))
theorem exec_tileIdleT2_idle (no : s.maySleep tile 2 = false) : exec (.tileIdleT2 tile) s = .next s := congrArg _ (if_neg (Bool.eq_false_iff.mp no))
theorem exec_tileIdleT3_idle (no : s.maySleep tile 3 = false) : exec (.tileIdleT3 tile) s = .next s := congrArg _ (if_neg (Bool.eq_false_iff.mp no))

/-- An entry that ends leaves the tile at its depth, counted, its links Idle. -/
theorem exec_tileSleepEntryDone_enters (here : tile < s.tileCount) (entering : (s.tile tile).entering = some d) : exec (.tileSleepEntryDone tile) s =
    .next (((s.modTile tile (fun x => { x with depth := d, entering := none })).countTile tile (142 + d)).idleLinks tile) := by
  rw [exec_tileSleepEntryDone, execTileSleepEntryDone, entering]
  exact congrArg _ (if_neg here.not_ge)

theorem exec_tileSleepEntryDone_idle (h : (s.tile tile).entering = none ∨ s.tileCount ≤ tile) : exec (.tileSleepEntryDone tile) s = .next s := by
  rw [exec_tileSleepEntryDone, execTileSleepEntryDone]
  cases entering : (s.tile tile).entering with
  | none => rfl
  | some d => exact congrArg _ (if_pos (h.resolve_left (by simp [entering])))

theorem exec_tileWake_present (here : tile < s.tileCount) : exec (.tileWake tile) s = .next (s.wakeTile tile) := congrArg _ (if_neg here.not_ge)
theorem exec_tileWake_absent (absent : s.tileCount ≤ tile) : exec (.tileWake tile) s = .next s := congrArg _ (if_pos absent)

/-- A tile that wakes is in T0; after a deep sleep its fine time is the hub's again. -/
def State.awakened (s : State) (tile : Nat) : State :=
  s.modTile tile (fun x => { x with depth := 0, waking := false, entering := none, fineOff := if 2 ≤ x.depth then 0 else x.fineOff })

theorem exec_tileWakeDone_wakes (here : tile < s.tileCount) (waking : (s.tile tile).waking = true) : exec (.tileWakeDone tile) s =
    .next ((if 2 ≤ (s.tile tile).depth then (s.awakened tile).resumeLinks tile else s.awakened tile).releaseHeld tile) := by
  rw [exec_tileWakeDone, execTileWakeDone, if_neg (by simp [here.not_ge, waking])]
  simp only [decide_eq_true_eq]
  rfl

theorem exec_tileWakeDone_idle (h : (s.tile tile).waking = false ∨ s.tileCount ≤ tile) : exec (.tileWakeDone tile) s = .next s := by
  rw [exec_tileWakeDone, execTileWakeDone, if_pos (by simpa using h.symm)]

end

/-! ## The package sleeps (R491) -/

section
variable {s : State}

/-- P0 goes to P1: enabled, and no request in flight. -/
def State.mayP1 (s : State) : Prop := s.phase = 2 ∧ s.power.pstate = 0 ∧ s.rb F.SEQ_SLEEP_p1_en = true ∧ s.reqs = []

/-- P0 or P1 goes to P2: enabled, every link that is up in L1, no USB4, no work that keeps the package out, every tile in service in T3. -/
def State.mayP2 (s : State) : Prop :=
  s.phase = 2 ∧ s.power.pstate ≤ 1 ∧ s.rb F.SEQ_SLEEP_p2_en = true ∧ s.links.all (fun l => !l.2.up || l.2.l1) = true ∧ s.usb4 = false ∧ s.parkWork = false ∧
    s.tileList.all (fun t => (s.tile t).depth == 3 || !s.tileInService t) = true

theorem exec_p1Enter_enters (may : s.mayP1) : exec .p1Enter s = .next ((s.setPstate 1).countHub 48) := by
  rw [exec_p1Enter, execP1Enter, if_pos (by simpa [State.mayP1] using may)]

theorem exec_p1Enter_idle (no : ¬s.mayP1) : exec .p1Enter s = .next s := by
  rw [exec_p1Enter, execP1Enter, if_neg (by simpa [State.mayP1] using no)]

theorem exec_p2Enter_enters (may : s.mayP2) : exec .p2Enter s = .next ((s.setPstate 2).countHub 49) := by
  rw [exec_p2Enter, execP2Enter, if_pos (by simpa only [State.mayP2, Bool.not_eq_true'] using may)]

theorem exec_p2Enter_idle (no : ¬s.mayP2) : exec .p2Enter s = .next s := by
  rw [exec_p2Enter, execP2Enter, if_neg (by simpa only [State.mayP2, Bool.not_eq_true'] using no)]

end

/-! ## Temperatures (R496, R497, R503, R508) -/

section
variable {s : State} {sensor : Nat} {temp : Int}

theorem exec_thermalSample_unsampled (no : s.sampled sensor = false) : exec (.thermalSample sensor temp) s = .next s := by
  rw [exec_thermalSample, execThermalSample, if_pos (by rw [no]; rfl)]

theorem exec_thermalSample_fault (sampled : s.sampled sensor = true) (out : isZone sensor = true ∧ (temp < -400 ∨ 1500 < temp)) :
    exec (.thermalSample sensor temp) s = .next (s.sensorFault sensor temp) := by
  rw [exec_thermalSample, execThermalSample, if_neg (by simp [sampled]), if_pos (by simpa using out)]

theorem exec_thermalSample_good (sampled : s.sampled sensor = true) (within : isZone sensor = false ∨ -400 ≤ temp ∧ temp ≤ 1500) :
    exec (.thermalSample sensor temp) s = .next (s.goodSample sensor temp) := by
  rw [exec_thermalSample, execThermalSample, if_neg (by simp [sampled]), if_neg (by simpa [imp_iff_not_or] using within)]

/-- The power-up that follows a thermal shutdown: minimum time off over, VIN valid, the sensors cool. -/
def State.mayRestart (s : State) : Prop :=
  s.phase = 0 ∧ s.power.after = .thermal ∧ s.power.minOff = true ∧ s.power.vinValid = true ∧ s.coolEnough = true

theorem exec_thermalRestart_starts (may : s.mayRestart) : exec .thermalRestart s = .next s.startPowerUp := congrArg _ (if_pos may)
theorem exec_thermalRestart_idle (no : ¬s.mayRestart) : exec .thermalRestart s = .next s := congrArg _ (if_neg no)

theorem exec_thermalHistorySave_eq : exec .thermalHistorySave s = .next (if s.phase = 2 ∧ s.power.committed = false then s.saveHist else s) := by
  rw [exec_thermalHistorySave, execThermalHistorySave]
  by_cases on : s.phase = 2 ∧ s.power.committed = false
  · rw [if_pos on, if_neg (by simp [on])]
  · rw [if_neg on, if_pos (by simpa [imp_iff_not_or] using on)]

end

/-! ## Seconds and events (R402, R403, R417, R507) -/

section
variable {s : State}

theorem exec_gladeSecond_off (off : (s.power.rail 0).on = false) : exec .gladeSecond s = .next s := by
  rw [exec_gladeSecond, execGladeSecond, if_pos (by rw [off]; rfl)]

theorem exec_gladeSecond_on (on : (s.power.rail 0).on = true) : exec .gladeSecond s =
    let t : State := { s with glade := { s.glade with elapsed := (s.glade.elapsed + 1) % 2 ^ 32 } }
    .next (each ((upto 32).filter (fun z => t.zoneType z != 0xFF)) t.opSecond State.zoneSecond).renewBounds := by
  rw [exec_gladeSecond, execGladeSecond, if_neg (by simp [on])]

variable {x : FifoItem} {l : List FifoItem}

theorem exec_eventFifoTake_held (h : s.evfHand = x :: l) : exec .eventFifoTake s = .next (({ s with evfHand := l } : State).handleItem x) := by
  rw [exec_eventFifoTake, execEventFifoTake, h]

theorem exec_eventFifoTake_oldest (hh : s.evfHand = []) (h : s.evf = x :: l) : exec .eventFifoTake s = .next (({ s with evf := l } : State).handleItem x) := by
  rw [exec_eventFifoTake, execEventFifoTake, hh, h]

theorem exec_eventFifoTake_empty (hh : s.evfHand = []) (h : s.evf = []) : exec .eventFifoTake s = .next s := by
  rw [exec_eventFifoTake, execEventFifoTake, hh, h]

end

/-- Settles O38: a tile's sleep by whether it may sleep, enters or wakes, the package's by its condition, a sample by the sensor and its range, a second by the Glade rail, the FIFO by its oldest item. -/
theorem sleepThermalAndTimeStepsTakeEffect : Obligations.SleepThermalAndTimeStepsTakeEffect := by
  unfold Obligations.SleepThermalAndTimeStepsTakeEffect
  intro s tile sensor d temp
  exact ⟨exec_tileIdleT1_sleeps, exec_tileIdleT2_begins, exec_tileIdleT3_begins, exec_tileIdleT1_idle, exec_tileIdleT2_idle, exec_tileIdleT3_idle,
    fun here => ⟨exec_tileSleepEntryDone_enters here, exec_tileWake_present here, exec_tileWakeDone_wakes here⟩,
    exec_tileSleepEntryDone_idle, exec_tileWake_absent, exec_tileWakeDone_idle, ⟨exec_p1Enter_enters, exec_p1Enter_idle⟩, ⟨exec_p2Enter_enters, exec_p2Enter_idle⟩, rfl,
    exec_thermalSample_unsampled, fun sampled => ⟨exec_thermalSample_fault sampled, exec_thermalSample_good sampled⟩,
    ⟨exec_thermalRestart_starts, exec_thermalRestart_idle⟩, exec_thermalHistorySave_eq, exec_gladeSecond_off, exec_gladeSecond_on, rfl,
    fun _ _ => exec_eventFifoTake_held, fun _ _ ⟨hh, h⟩ => exec_eventFifoTake_oldest hh h, fun ⟨hh, h⟩ => exec_eventFifoTake_empty hh h⟩

end Sys2Proof.Machine
end

section
/-! PROOFS. The sideband's common command codes and the reads of its response (14, R447, R454 to R456). -/
namespace Sys2Proof.Machine

/-! ## The commands' meanings: common command codes -/

theorem exec_entdaa (n : Nat) (s : State) : exec (.entdaa n) s = execEntdaa n s := rfl
theorem exec_sidebandPrivateRead (s : State) : exec .sidebandPrivateRead s = execSidebandPrivateRead s := rfl
theorem exec_getpid (s : State) : exec .getpid s = .next (s.directCcc (fun s => s.ccc (le 6 s.pid).reverse)) := rfl
theorem exec_getbcr (s : State) : exec .getbcr s = .next (s.directCcc (fun s => s.ccc [0x06#8])) := rfl
theorem exec_getdcr (s : State) : exec .getdcr s = .next (s.directCcc (fun s => s.ccc [0x00#8])) := rfl
theorem exec_getmwl (s : State) : exec .getmwl s = .next (s.directCcc (fun s => s.ccc (le 2 s.sb.mwl).reverse)) := rfl
theorem exec_getmrl (s : State) : exec .getmrl s = .next (s.directCcc (fun s => s.ccc (le 2 s.sb.mrl).reverse)) := rfl
theorem exec_getstatus (s : State) : exec .getstatus s = .next (s.directCcc (fun s =>
    ({ s with freeCtr := s.freeCtr + 1 } : State).ccc (Config.standardPayload 0x90 [] s.freeCtr))) := rfl

section
variable {s : State} {n : Nat} {go : State → State}

/-! ## Codes that name the dynamic address (R450, R454; log 167) -/

/-- The device takes direct codes: no parameter is being written and an address is held. -/
def State.takesDirect (s : State) : Prop := s.ps.writing.isSome = false ∧ s.rb F.WDN_I3C_STAT_addr_valid = true

theorem State.not_takesDirect_iff : ¬s.takesDirect ↔ (s.ps.writing.isSome || !s.rb F.WDN_I3C_STAT_addr_valid) = true := by
  simp only [State.takesDirect, not_and_or, Bool.or_eq_true, Bool.not_eq_true', Bool.not_eq_true, Bool.not_eq_false]

theorem State.next_directCcc_nacked (no : ¬s.takesDirect) : (.next (s.directCcc go) : Host.Outcome State Fault Refusal) = .next (s.send .nack) :=
  congrArg _ (if_pos (State.not_takesDirect_iff.mp no))

theorem State.next_directCcc (may : s.takesDirect) : (.next (s.directCcc go) : Host.Outcome State Fault Refusal) = .next (go s) :=
  congrArg _ (if_neg (mt State.not_takesDirect_iff.mpr (not_not_intro may)))

theorem exec_direct_nacked (no : ¬s.takesDirect) :
    ∀ c ∈ ([.getpid, .getbcr, .getdcr, .getmwl, .getmrl, .getstatus] : List Instr), exec c s = .next (s.send .nack) := by
  simp only [List.forall_mem_cons, List.not_mem_nil, false_imp_iff, implies_true, and_true, exec_getpid, exec_getbcr, exec_getdcr, exec_getmwl, exec_getmrl, exec_getstatus,
    State.next_directCcc_nacked no]

/-! ## The address is assigned (R454, R455) -/

theorem exec_entdaa_takes (h : s.power.pins.posnIn = true ∧ s.rb F.WDN_I3C_STAT_addr_valid = false) : exec (.entdaa n) s =
    .next (((((s.send (.ccc ((le 6 s.pid).reverse ++ [0x06#8, 0x00#8]))).wf F.WDN_I3C_STAT_dyn_addr n).wf F.WDN_I3C_STAT_addr_valid 1).wf F.WDN_I3C_STAT_posn_out 1).send
      (.pin .posnOut true)) := by
  rw [exec_entdaa, execEntdaa, if_pos (by simp [h])]
  rfl

theorem exec_entdaa_idle (h : s.power.pins.posnIn = false ∨ s.rb F.WDN_I3C_STAT_addr_valid = true) : exec (.entdaa n) s = .next s := by
  rw [exec_entdaa, execEntdaa, if_neg (by simpa [imp_iff_not_or] using h)]

/-! ## The reads of the response (R456) -/

/-- The bytes of such a read: status, the flag of more to come with the fragment's number, the length and the fragment. -/
def State.fragmentBytes (s : State) : Bytes :=
  let part := s.sb.response.take (s.sb.mrl - 5)
  le 1 s.sb.status ++ le 1 (b2n (decide (s.sb.mrl - 5 < s.sb.response.length)) + 2 * (s.sb.frag % 128)) ++ le 2 part.length ++ part

theorem exec_sidebandPrivateRead_nacked (h : s.nacking = true ∨ s.rb F.WDN_I3C_STAT_addr_valid = false) : exec .sidebandPrivateRead s = .next (s.send .nack) := by
  rw [exec_sidebandPrivateRead, execSidebandPrivateRead, if_pos (by simpa using h)]

theorem exec_sidebandPrivateRead_answers (hn : s.nacking = false) (hv : s.rb F.WDN_I3C_STAT_addr_valid = true) : exec .sidebandPrivateRead s =
    .next (({ s with sb := { s.sb with response := s.sb.response.drop (s.sb.mrl - 5), frag := s.sb.frag + 1 } } : State).send
      (.ccc (s.fragmentBytes ++ le 1 (crc8 s.fragmentBytes)))) := by
  rw [exec_sidebandPrivateRead, execSidebandPrivateRead, if_neg (by simp [hn, hv])]
  rfl

end

/-- Settles O45: the broadcast codes have one effect each, ENTDAA turns on POSN_IN and the address, a direct code on the address and the store's write, a read of the response on the NACK. -/
theorem sidebandBusCommandsTakeEffect : Obligations.SidebandBusCommandsTakeEffect := by
  unfold Obligations.SidebandBusCommandsTakeEffect
  intro s n
  refine ⟨rfl, rfl, rfl, rfl, exec_entdaa_takes, exec_entdaa_idle, rfl, rfl, ⟨exec_direct_nacked, fun may => ?_⟩, rfl, exec_sidebandPrivateRead_nacked,
    fun ⟨hn, hv⟩ => exec_sidebandPrivateRead_answers hn hv⟩
  have answers (go : State → State) : (.next (s.directCcc go) : Host.Outcome State Fault Refusal) = .next (go s) := State.next_directCcc may
  exact ⟨answers _, answers _, answers _, answers _, answers _, answers _⟩

end Sys2Proof.Machine
end

section
/-! PROOFS. The event FIFO and the clock, the ring log and the request trace (13, R410 to R431). -/
namespace Sys2Proof.Machine

/-! ## The commands' meanings: log and trace -/

theorem exec_evfData0Read (s : State) : exec .evfData0Read s = execEvfData0Read s := rfl
theorem exec_traceDataRead (iface : Nat) (s : State) : exec (.traceDataRead iface) s = execTraceDataRead iface s := rfl
theorem exec_logRecordWriteDone (s : State) : exec .logRecordWriteDone s = execLogRecordWriteDone s := rfl
theorem exec_logQueueGapWrite (s : State) : exec .logQueueGapWrite s = execLogQueueGapWrite s := rfl
theorem exec_rateWindowEnd (code : Nat) (s : State) : exec (.rateWindowEnd code) s = execRateWindowEnd code s := rfl
theorem exec_traceStart (iface value : Nat) (s : State) : exec (.traceStart iface value) s = execTraceStart iface value s := rfl
theorem exec_traceStop (iface : Nat) (s : State) : exec (.traceStop iface) s = execTraceStop iface s := rfl

/-! ## Reads of the event FIFO, the clock and the trace (R416, R429, R431) -/

section
variable {s : State}

theorem exec_evfData0Read_empty (h : s.fifoEntry = none) : exec .evfData0Read s = .next (s.wf F.WDN_EVF_STAT_underrun 1) := by
  rw [exec_evfData0Read, execEvfData0Read, h]

theorem exec_evfData0Read_latches {e : Bytes} {t : State} (h : s.fifoEntry = some (e, t)) : exec .evfData0Read s = .next (t.latchEntry e) := by
  rw [exec_evfData0Read, execEvfData0Read, h]

section
variable {iface : Nat} (h : s.hears iface 0 = true)
include h

theorem exec_fineLoRead_denied (hr : s.holds iface .mgmtRead = false) : exec (.fineLoRead iface) s =
    .next ((s.deny iface F.WDN_FINE_LO_fine.addr .mgmtRead).readOut iface F.WDN_FINE_LO_fine.addr 0) :=
  congrArg _ (State.under_denied h hr)

theorem exec_traceDataRead_denied (hr : s.holds iface .mgmtRead = false) : exec (.traceDataRead iface) s =
    .next ((s.deny iface (F.RLG_TRC_DATA_word 0).addr .mgmtRead).readOut iface (F.RLG_TRC_DATA_word 0).addr 0) :=
  congrArg _ (State.under_denied h hr)

variable (hr : s.holds iface .mgmtRead = true)
include hr

theorem exec_fineLoRead_latches : exec (.fineLoRead iface) s =
    .next ((s.wf F.WDN_FINE_HI_fine (s.fine / 2 ^ 32)).readOut iface F.WDN_FINE_LO_fine.addr (s.fine % 2 ^ 32)) :=
  congrArg _ (State.under_held h hr)

theorem exec_traceDataRead_other (other : s.rf F.RLG_TRC_CTRL_owner ≠ iface) :
    exec (.traceDataRead iface) s = .next (s.readOut iface (F.RLG_TRC_DATA_word 0).addr 0) := by
  rw [exec_traceDataRead, execTraceDataRead, State.under_held h hr, if_pos other]

theorem exec_traceDataRead_owner (own : s.rf F.RLG_TRC_CTRL_owner = iface) : exec (.traceDataRead iface) s =
    .next ((s.takeTrace iface).readOut iface (F.RLG_TRC_DATA_word 0).addr ((s.takeTrace iface).rf (F.RLG_TRC_DATA_word 0))) := by
  rw [exec_traceDataRead, execTraceDataRead, State.under_held h hr, if_neg (not_not_intro own)]

end

end

/-! ## The ring log's writer (R419 to R424) -/

section
variable {s : State} {code : Nat}

/-- The ring log with its record placed, the next record number, and an erase begun where it is due. -/
def RingLog.recordPlaced (l : RingLog) (r : LogRec) : RingLog :=
  ({ l.place (.held r) r.heart with writing := none, next := (l.next + 1) % 2 ^ 32 } : RingLog).startErase

theorem exec_logRecordWriteDone_placed {r : LogRec} (writing : s.log.writing = some r) : exec .logRecordWriteDone s =
    .next ((({ s with log := s.log.recordPlaced r } : State).countHub 37).countHub 53).logKick := by
  rw [exec_logRecordWriteDone, execLogRecordWriteDone, writing]
  rfl

theorem exec_logRecordWriteDone_idle (absent : s.log.writing = none) : exec .logRecordWriteDone s = .next s := by
  rw [exec_logRecordWriteDone, execLogRecordWriteDone, absent]

/-- The ring log without its oldest sector, and the next erase begun where it is due. -/
def RingLog.sectorErased (l : RingLog) : RingLog :=
  ({ l with sectors := l.sectors.tail, first := (l.first + 1) % 281, erased := l.erased + 1, erasing := false } : RingLog).startErase

theorem exec_logSectorEraseDone_erased (erasing : s.log.erasing = true) :
    exec .logSectorEraseDone s = .next (({ s with log := s.log.sectorErased } : State).countHub 54) := congrArg _ (if_pos erasing)

theorem exec_logSectorEraseDone_idle (no : s.log.erasing = false) : exec .logSectorEraseDone s = .next s := congrArg _ (if_neg (Bool.eq_false_iff.mp no))

/-- Records were dropped, the queue has room again, and the log takes records. -/
def State.writesGap (s : State) : Prop := 0 < s.log.dropped ∧ s.log.queue.length < 512 ∧ s.log.frozen = false ∧ s.power.committed = false

theorem exec_logQueueGapWrite_writes (may : s.writesGap) : exec .logQueueGapWrite s =
    .next (({ s with log := { s.log with dropped := 0 } } : State).writerRecord 0x0002 (le 4 s.log.dropped ++ le 1 0)) := by
  rw [exec_logQueueGapWrite, execLogQueueGapWrite, if_pos (by simpa [State.writesGap] using may)]

theorem exec_logQueueGapWrite_idle (no : ¬s.writesGap) : exec .logQueueGapWrite s = .next s := by
  rw [exec_logQueueGapWrite, execLogQueueGapWrite, if_neg (by simpa [State.writesGap] using no)]

theorem exec_rateWindowEnd_counted {st : RateState} (h : tget s.glade.rates code = some st) : exec (.rateWindowEnd code) s =
    .next { s with glade := { s.glade with rates := tput s.glade.rates code { st with running := false, count := 0 } } } := by
  rw [exec_rateWindowEnd, execRateWindowEnd, h]

theorem exec_rateWindowEnd_idle (h : tget s.glade.rates code = none) : exec (.rateWindowEnd code) s = .next s := by
  rw [exec_rateWindowEnd, execRateWindowEnd, h]

end

/-! ## Freeze and thaw (R426) -/

section
variable {s : State} {iface : Nat}

theorem exec_logFreeze_frozen (frozen : s.log.frozen = true) : exec (.logFreeze iface) s = .next s := congrArg _ (if_pos frozen)
theorem exec_logThaw_thawed (thawed : s.log.frozen = false) : exec (.logThaw iface) s = .next s := congrArg _ (if_neg (Bool.eq_false_iff.mp thawed))

variable (h : s.hears iface 0 = true) (hr : s.holds iface .logFreeze = true) (hm : s.holds iface .mgmtWrite = true)
include h hr hm

theorem exec_logFreeze_held (thawed : s.log.frozen = false) : exec (.logFreeze iface) s = .next (s.freezeLog iface) :=
  congrArg _ ((if_neg (Bool.eq_false_iff.mp thawed)).trans (State.regWrite_held h hr hm))

theorem exec_logThaw_held (frozen : s.log.frozen = true) : exec (.logThaw iface) s = .next (s.thawLog iface false) :=
  congrArg _ ((if_pos frozen).trans (State.regWrite_held h hr hm))

end

/-! ## The request trace (R410, R413) -/

section
variable {s : State} {iface value : Nat} (h : s.hears iface 0 = true)

/-- The trace right over the compartment named, or over every one. -/
def State.mayTrace (s : State) (iface : Nat) (all : Prop) [Decidable all] (comp : Nat) : Prop :=
  s.holds iface .mgmtWrite = true ∧ (if all then s.coversAll iface .trace else s.covers iface .trace comp) = true

/-- The trace empties, its setting is taken from the word written, and its owner is the writer. -/
def State.startsTrace (s : State) (iface value : Nat) : State :=
  let a := ((({ s with trace := ⟨[], []⟩ } : State).wf F.RLG_TRC_CTRL_enable 1).wf F.RLG_TRC_CTRL_all (bits value 1 1)).wf F.RLG_TRC_CTRL_compartment (bits value 13 2)
  let c := ((a.wf F.RLG_TRC_CTRL_ports (bits value 17 14)).wf F.RLG_TRC_CTRL_wrap (bits value 18 18)).wf F.RLG_TRC_CTRL_sample_log2 (bits value 22 19)
  (c.wf F.RLG_TRC_CTRL_owner iface).wf F.RLG_TRC_STAT_full 0

include h

theorem exec_traceStart_running (on : s.rb F.RLG_TRC_CTRL_enable = true) : exec (.traceStart iface value) s = .next s := by
  rw [exec_traceStart, execTraceStart, if_neg (by simp [h]), if_pos on]

theorem exec_traceStop_stopped (off : s.rb F.RLG_TRC_CTRL_enable = false) : exec (.traceStop iface) s = .next s := by
  rw [exec_traceStop, execTraceStop, if_neg (by simp [h]), if_pos (by rw [off]; rfl)]

theorem exec_traceStart_denied (off : s.rb F.RLG_TRC_CTRL_enable = false) (no : ¬s.mayTrace iface (bits value 1 1 = 1) (bits value 13 2)) :
    exec (.traceStart iface value) s = .next (s.deny iface F.RLG_TRC_CTRL_enable.addr .trace) := by
  rw [exec_traceStart, execTraceStart, if_neg (by simp [h]), if_neg (Bool.eq_false_iff.mp off)]
  exact congrArg _ (if_neg (mt (Bool.and_eq_true _ _).mp no))

theorem exec_traceStart_starts (off : s.rb F.RLG_TRC_CTRL_enable = false) (may : s.mayTrace iface (bits value 1 1 = 1) (bits value 13 2)) :
    exec (.traceStart iface value) s = .next (s.startsTrace iface value) := by
  rw [exec_traceStart, execTraceStart, if_neg (by simp [h]), if_neg (Bool.eq_false_iff.mp off)]
  exact congrArg _ (if_pos ((Bool.and_eq_true _ _).mpr may))

variable (on : s.rb F.RLG_TRC_CTRL_enable = true)
include on

theorem exec_traceStop_denied (no : ¬s.mayTrace iface (s.rb F.RLG_TRC_CTRL_all) (s.rf F.RLG_TRC_CTRL_compartment)) :
    exec (.traceStop iface) s = .next (s.deny iface F.RLG_TRC_CTRL_enable.addr .trace) := by
  rw [exec_traceStop, execTraceStop, if_neg (by simp [h]), if_neg (by simp [on])]
  exact congrArg _ (if_neg (mt (Bool.and_eq_true _ _).mp no))

theorem exec_traceStop_stops (may : s.mayTrace iface (s.rb F.RLG_TRC_CTRL_all) (s.rf F.RLG_TRC_CTRL_compartment)) :
    exec (.traceStop iface) s = .next s.stopTrace := by
  rw [exec_traceStop, execTraceStop, if_neg (by simp [h]), if_neg (by simp [on])]
  exact congrArg _ (if_pos ((Bool.and_eq_true _ _).mpr may))

end

/-- Settles O41: a read by its right and what it finds, the log's writer by its write, erase and dropped records, freeze and thaw by the log's state, the trace by its enable and the trace right. -/
theorem logCommandsTakeEffect : Obligations.LogCommandsTakeEffect := by
  unfold Obligations.LogCommandsTakeEffect
  intro s iface ld code value b
  exact ⟨exec_evfData0Read_empty, fun _ _ => exec_evfData0Read_latches,
    fun ⟨h, hr⟩ => ⟨exec_fineLoRead_denied h hr, exec_traceDataRead_denied h hr⟩,
    fun ⟨h, hr⟩ => ⟨exec_fineLoRead_latches h hr, exec_traceDataRead_other h hr, exec_traceDataRead_owner h hr⟩,
    fun _ => exec_logRecordWriteDone_placed, exec_logRecordWriteDone_idle, exec_logSectorEraseDone_idle, exec_logSectorEraseDone_erased,
    ⟨exec_logQueueGapWrite_idle, exec_logQueueGapWrite_writes⟩, exec_rateWindowEnd_idle, fun _ => exec_rateWindowEnd_counted,
    exec_logFreeze_frozen, exec_logThaw_thawed, fun ⟨h, hr, hm⟩ => ⟨exec_logFreeze_held h hr hm, exec_logThaw_held h hr hm⟩, rfl,
    fun ⟨h, hc, hr⟩ => congrArg _ (State.command_held h hc hr),
    fun h => ⟨exec_traceStart_running h, exec_traceStop_stopped h, fun ⟨off, no⟩ => exec_traceStart_denied h off no, fun ⟨on, no⟩ => exec_traceStop_denied h on no,
      fun ⟨on, may⟩ => exec_traceStop_stops h on may, fun ⟨off, may⟩ => exec_traceStart_starts h off may⟩⟩

end Sys2Proof.Machine
end

section
/-! PROOFS. Firmware transfer and activation, watchdogs and processor debug (14, R433 to R442, R453). -/
namespace Sys2Proof.Machine

/-! ## The commands' meanings: firmware and processors -/

theorem exec_transferFw (iface ld : Nat) (action : XferAction) (slot offset : Nat) (data : Bytes) (s : State) :
    exec (.transferFw iface ld action slot offset data) s = execTransferFw iface ld action slot offset data s := rfl
theorem exec_activateFw (iface ld : Nat) (online : Bool) (slot : Nat) (s : State) : exec (.activateFw iface ld online slot) s = execActivateFw iface ld online slot s := rfl
theorem exec_processorReady (core : Nat) (measured : Bool) (s : State) : exec (.processorReady core measured) s = execProcessorReady core measured s := rfl
theorem exec_stewardReadyTimeout (tile : Nat) (s : State) : exec (.stewardReadyTimeout tile) s = execStewardReadyTimeout tile s := rfl
theorem exec_fwTrialEnd (s : State) : exec .fwTrialEnd s = execFwTrialEnd s := rfl

/-! ## TRANSFER_FW (R438) -/

/-- The slot that is not active, the one a transfer and an activation name. -/
def State.otherSlot (s : State) : Nat := 1 - s.rf F.WDN_FW_STAT_active_slot

/-- What a transfer that begins anew finds: another interface's is dropped. -/
def State.xferAnew (s : State) (iface : Nat) : State :=
  match s.fw.xfer with
  | some x => if x.iface ≠ iface then s.abortFw else s
  | none => s

/-- A part of the interface's own transfer goes on from the bytes it has got; with no such transfer it is out of order. -/
def State.xferOwn (s : State) (iface : Nat) (go : Bytes → Answer) : Answer :=
  match s.fw.xfer with
  | some x => if x.iface = iface then go x.bytes else answer .fwOutOfOrder s
  | none => answer .fwOutOfOrder s

/-- What a part of a transfer to the inactive slot answers, with no activation running. -/
def State.xferPart (s : State) (iface offset : Nat) (data : Bytes) : XferAction → Answer
  | .full => if offset = 0 then (s.xferAnew iface).finishFw data else answer .fwOutOfOrder (s.xferAnew iface)
  | .initiate =>
    let t := s.xferAnew iface
    if offset ≠ 0 ∨ data.length % 128 ≠ 0 then answer .fwOutOfOrder t
    else answer .success (({ t with fw := { t.fw with xfer := some ⟨iface, data⟩, slots := t.fw.slots.set s.otherSlot none } } : State).seedProgram.wf F.WDN_FW_STAT_busy 1)
  | .next => s.xferOwn iface (fun got =>
    if offset * 128 ≠ got.length ∨ data.length % 128 ≠ 0 ∨ 0x200000 < got.length + data.length then answer .fwOutOfOrder s
    else answer .success ({ s with fw := { s.fw with xfer := some ⟨iface, got ++ data⟩ } } : State).seedProgram)
  | .finish => s.xferOwn iface (fun got => if offset * 128 ≠ got.length then answer .fwOutOfOrder s else s.finishFw (got ++ data))
  | .abort => s.xferOwn iface (fun _ => answer .success s.abortFw)

section
variable {s : State} {iface : Nat} {go : Bytes → Answer}

theorem State.xferOwn_mine {got : Bytes} (mine : s.fw.xfer = some ⟨iface, got⟩) : s.xferOwn iface go = go got := by
  rw [State.xferOwn, mine]
  exact if_pos rfl

theorem State.xferOwn_other (other : ∀ got, s.fw.xfer ≠ some ⟨iface, got⟩) : s.xferOwn iface go = answer .fwOutOfOrder s := by
  rw [State.xferOwn]
  cases h : s.fw.xfer with
  | none => rfl
  | some x =>
    refine if_neg (fun own => other x.bytes ?_)
    rw [h, ← own]

end

section
variable {s : State} {iface ld slot offset : Nat} {data : Bytes} {action : XferAction} (h : s.hears iface ld = true) (hr : (s.heard iface).holds iface .firmware = true)
include h hr

theorem exec_transferFw_long (long : iface < 4 ∧ mailboxSize < 16 + data.length) :
    exec (.transferFw iface ld action slot offset data) s = .next (s.answers iface ld 0x0201 (answer .invalidLength (s.heard iface))) := by
  rw [exec_transferFw, execTransferFw]
  exact congrArg _ (State.command_answers h hr (if_pos long))

variable (fits : ¬(iface < 4 ∧ mailboxSize < 16 + data.length))
include fits

theorem exec_transferFw_wrongSlot (wrong : slot ≠ (s.heard iface).otherSlot) :
    exec (.transferFw iface ld action slot offset data) s = .next (s.answers iface ld 0x0201 (answer .invalidSlot (s.heard iface))) := by
  rw [exec_transferFw, execTransferFw]
  exact congrArg _ (State.command_answers h hr ((if_neg fits).trans (if_pos wrong)))

variable (hs : slot = (s.heard iface).otherSlot)
include hs

theorem exec_transferFw_activating (act : (s.heard iface).fw.act.isSome = true) :
    exec (.transferFw iface ld action slot offset data) s = .next (s.answers iface ld 0x0201 (answer .fwInProgress (s.heard iface))) := by
  rw [exec_transferFw, execTransferFw]
  exact congrArg _ (State.command_answers h hr ((if_neg fits).trans ((if_neg (not_not_intro hs)).trans (if_pos act))))

theorem exec_transferFw_part (idle : (s.heard iface).fw.act = none) :
    exec (.transferFw iface ld action slot offset data) s = .next (s.answers iface ld 0x0201 ((s.heard iface).xferPart iface offset data action)) := by
  rw [exec_transferFw, execTransferFw]
  refine congrArg _ (State.command_answers h hr ((if_neg fits).trans ((if_neg (not_not_intro hs)).trans ((if_neg (by simp [idle])).trans ?_))))
  cases action with
  | full | initiate => cases found : (s.heard iface).fw.xfer <;> simp [State.xferPart, State.xferAnew, State.otherSlot, found]
  | next | finish | abort => cases found : (s.heard iface).fw.xfer <;> simp [State.xferPart, State.xferOwn, ite_or, found]

end

/-! ## ACTIVATE_FW (R439) -/

section
variable {s : State} {iface ld slot : Nat} {online : Bool}

/-- Firmware is not activated now: a tile is out, an apply or a brace runs, the trim is safe, or a trial lasts. -/
def State.barsActivation (s : State) : Prop :=
  (!s.tileList.all s.tileInService) = true ∨ s.applyRunning = true ∨ s.rb F.SEQ_VIN_braced = true ∨ s.rb F.RST_STAT_trim_safe = true ∨ s.rb F.WDN_FW_STAT_trial = true

/-- The slot's image is checked: the reads counted, the result shown. -/
def State.fwChecked (s : State) (slot : Nat) : State := (s.fwCounted ((s.fwSlot slot).getD [])).wf F.WDN_FW_STAT_result (s.fwCheck ((s.fwSlot slot).getD []))

/-- The activation on the next cold reset: the slot is marked. -/
def State.marksSlot (s : State) (slot : Nat) : Answer := answer .success ({ s with fw := { s.fw with marked := some slot } } : State).seedProgram

/-- The activation online: the slot record names the slot, a trial begins, and the warden restarts into it. -/
def State.startsActivation (s : State) (iface ld slot : Nat) : Answer :=
  answer .background (((((s.wf F.WDN_FW_STAT_active_slot slot).wf F.WDN_FW_STAT_trial 1).wf F.WDN_FW_STAT_busy 1).wf F.WDN_FW_STAT_failed_core 15).modLd iface ld
    (fun d => { d with bg := some 0x0202 }) |>.restartCore ⟨slot, iface, ld, 0, false⟩)

variable (h : s.hears iface ld = true) (hr : (s.heard iface).holds iface .firmware = true)
include h hr

theorem exec_activateFw_wrongSlot (wrong : slot ≠ (s.heard iface).otherSlot) :
    exec (.activateFw iface ld online slot) s = .next (s.answers iface ld 0x0202 (answer .invalidSlot (s.heard iface))) := by
  rw [exec_activateFw, execActivateFw]
  exact congrArg _ (State.command_answers h hr (if_pos wrong))

variable (hs : slot = (s.heard iface).otherSlot)
include hs

theorem exec_activateFw_inProgress (busy : (s.heard iface).fw.act.isSome = true ∨ (s.heard iface).fw.xfer.isSome = true) :
    exec (.activateFw iface ld online slot) s = .next (s.answers iface ld 0x0202 (answer .fwInProgress (s.heard iface))) := by
  rw [exec_activateFw, execActivateFw]
  exact congrArg _ (State.command_answers h hr ((if_neg (not_not_intro hs)).trans (if_pos busy)))

variable (idle : (s.heard iface).fw.act = none ∧ (s.heard iface).fw.xfer = none)
include idle

theorem exec_activateFw_busy (bg : ((s.heard iface).ld iface ld).bg.isSome = true) :
    exec (.activateFw iface ld true slot) s = .next (s.answers iface ld 0x0202 (answer .busy (s.heard iface))) := by
  rw [exec_activateFw, execActivateFw]
  exact congrArg _ (State.command_answers h hr ((if_neg (not_not_intro hs)).trans ((if_neg (by simp [idle])).trans (if_pos ⟨rfl, bg⟩))))

variable (free : ¬(online = true ∧ ((s.heard iface).ld iface ld).bg.isSome = true))
include free

theorem exec_activateFw_barred (off : (s.heard iface).barsActivation) :
    exec (.activateFw iface ld online slot) s = .next (s.answers iface ld 0x0202 (answer .coldResetRequired (s.heard iface))) := by
  rw [exec_activateFw, execActivateFw]
  exact congrArg _ (State.command_answers h hr ((if_neg (not_not_intro hs)).trans ((if_neg (by simp [idle])).trans ((if_neg free).trans (if_pos off)))))

/-- The check decides: its code is the answer, or the slot is marked, or activated online. -/
theorem exec_activateFw_checks (on : ¬(s.heard iface).barsActivation) : exec (.activateFw iface ld online slot) s = .next (s.answers iface ld 0x0202 (
    let t := (s.heard iface).fwChecked slot
    let code := (s.heard iface).fwCheck (((s.heard iface).fwSlot slot).getD [])
    if code ≠ 0 then answer (fwRet code) t else if online then t.startsActivation iface ld slot else t.marksSlot slot)) := by
  rw [exec_activateFw, execActivateFw]
  refine congrArg _ (State.command_answers h hr ((if_neg (not_not_intro hs)).trans ((if_neg (by simp [idle])).trans ((if_neg free).trans ((if_neg on).trans ?_)))))
  cases online with
  | false => exact if_congr Iff.rfl rfl (if_pos rfl)
  | true => exact if_congr Iff.rfl rfl (if_neg (by decide))

end

/-! ## The processors restart (R439, R440) -/

section
variable {s : State} {core : Nat} {measured : Bool}

theorem exec_restart_none (absent : s.fw.act = none) : exec (.processorReady core measured) s = .next s ∧ exec (.stewardReadyTimeout core) s = .next s := by
  rw [exec_processorReady, execProcessorReady, exec_stewardReadyTimeout, execStewardReadyTimeout, absent]
  exact ⟨rfl, rfl⟩

variable {a : FwAct} (act : s.fw.act = some a)

/-- The processor runs the slot; the next one restarts, or the activation ends. -/
def State.coreRuns (s : State) (a : FwAct) (core : Nat) : State :=
  let t : State := { s with fw := { s.fw with running := s.fw.running.set core a.slot } }
  if a.rolling then (if core = 0 then t.endActivation a else t.restartCore { a with core := core - 1 })
  else if core < t.tileCount then t.restartCore { a with core := core + 1 } else t.endActivation a

include act

theorem exec_processorReady_restarts (awaited : a.core = core) : exec (.processorReady core true) s =
    .next (if (s.coreRuns a core).irqNow core then (s.coreRuns a core).assertLine core else s.coreRuns a core) := by
  rw [exec_processorReady, execProcessorReady, act]
  exact congrArg _ (if_neg (by simp [awaited]))

theorem exec_processorReady_idle (h : a.core ≠ core ∨ measured = false) : exec (.processorReady core measured) s = .next s := by
  rw [exec_processorReady, execProcessorReady, act]
  exact congrArg _ (if_pos (by simpa using h))

theorem exec_stewardReadyTimeout_idle (h : a.core ≠ core + 1 ∨ a.rolling = true) : exec (.stewardReadyTimeout core) s = .next s := by
  rw [exec_stewardReadyTimeout, execStewardReadyTimeout, act]
  exact congrArg _ (if_pos h)

theorem exec_stewardReadyTimeout_rollsBack (h : a.core = core + 1 ∧ a.rolling = false) : exec (.stewardReadyTimeout core) s =
    .next ((((s.wf F.WDN_FW_STAT_active_slot (1 - a.slot)).wf F.WDN_FW_STAT_trial 0).wf F.WDN_FW_STAT_failed_core (core + 1)).restartCore
      { a with slot := 1 - a.slot, rolling := true }) := by
  rw [exec_stewardReadyTimeout, execStewardReadyTimeout, act]
  exact congrArg _ (if_neg (by simp [h]))

end

/-! ## The trial ends (R442) -/

section
variable {s : State}

/-- A trial has lasted 60 operating seconds with no fault, and no activation runs. -/
def State.trialOver (s : State) : Prop := s.rb F.WDN_FW_STAT_trial = true ∧ s.fw.act = none ∧ s.fw.fault = false ∧ s.fw.trialStart + 60 ≤ s.glade.opsec

theorem State.not_trialOver_iff : ¬s.trialOver ↔
    (!s.rb F.WDN_FW_STAT_trial) = true ∨ s.fw.act.isSome = true ∨ s.fw.fault = true ∨ s.glade.opsec < s.fw.trialStart + 60 := by
  simp only [State.trialOver, not_and_or, Bool.not_eq_true', Bool.not_eq_true, Bool.not_eq_false, Nat.not_le, Option.isSome_iff_ne_none, ne_eq]

theorem exec_fwTrialEnd_idle (no : ¬s.trialOver) : exec .fwTrialEnd s = .next s := by
  rw [exec_fwTrialEnd, execFwTrialEnd, if_pos (State.not_trialOver_iff.mp no)]

section
variable (ended : s.trialOver)
include ended

theorem exec_fwTrialEnd_empty (absent : (s.wf F.WDN_FW_STAT_trial 0).fwSlot ((s.wf F.WDN_FW_STAT_trial 0).rf F.WDN_FW_STAT_active_slot) = none) :
    exec .fwTrialEnd s = .next (s.wf F.WDN_FW_STAT_trial 0) := by
  rw [exec_fwTrialEnd, execFwTrialEnd, if_neg (mt State.not_trialOver_iff.mpr (not_not_intro ended))]
  simp only [absent]

theorem exec_fwTrialEnd_raises {b : Bytes} (image : (s.wf F.WDN_FW_STAT_trial 0).fwSlot ((s.wf F.WDN_FW_STAT_trial 0).rf F.WDN_FW_STAT_active_slot) = some b) :
    exec .fwTrialEnd s = let t := s.wf F.WDN_FW_STAT_trial 0
      .next (if getLe b 0x14 4 % 2 = 1
        then { t with fuses := { t.fuses with floor := t.fuses.floor.mapIdx (fun i c => if i < getLe b 0x0C 4 then 3 else c) } } else t) := by
  rw [exec_fwTrialEnd, execFwTrialEnd, if_neg (mt State.not_trialOver_iff.mpr (not_not_intro ended))]
  simp only [image]

end

end

/-! ## Processors are debugged (R453) -/

section
variable {s : State} {iface op core : Nat} {go : State → Answer}

/-- A core-debug operation under its right: run on a processor the part has, Invalid Input on another. -/
theorem State.next_coreOp (h : s.hears iface 0 = true) (hr : (s.heard iface).holds iface .coreDebug = true) :
    (.next (s.coreOp iface op core go) : Host.Outcome State Fault Refusal) = .next (
      let a := go (s.heard iface)
      if carries iface op then
        (if core ≤ (s.heard iface).tileCount then a.state.reply iface 0 op a.code a.payload else (s.heard iface).reply iface 0 op .invalidInput [])
      else (s.heard iface).reply iface 0 op .unsupported []) := by
  rw [State.coreOp, State.command_answered h hr rfl]
  by_cases present : core ≤ (s.heard iface).tileCount
  · simp only [if_pos present]
  · simp only [if_neg present]
    rfl

end

/-- Settles O42: a transfer by its length, slot and part, an activation by its slot, what bars it and the check, a restart by the processor awaited, a trial by its end; debug by the processor. -/
theorem firmwareAndProcessorCommandsTakeEffect : Obligations.FirmwareAndProcessorCommandsTakeEffect := by
  unfold Obligations.FirmwareAndProcessorCommandsTakeEffect
  intro s iface ld slot offset core address count data upset action
  refine ⟨fun ⟨h, hr⟩ => ⟨exec_transferFw_long h hr, fun ⟨fits, wrong⟩ => exec_transferFw_wrongSlot h hr fits wrong,
      fun ⟨fits, hs, act⟩ => exec_transferFw_activating h hr fits hs act, fun ⟨fits, hs, idle⟩ => ?_, fun wrong _ => exec_activateFw_wrongSlot h hr wrong,
      fun ⟨hs, busy⟩ _ => exec_activateFw_inProgress h hr hs busy, fun ⟨hs, noAct, noXfer⟩ => ?_⟩,
    fun m absent => exec_restart_none absent, fun a act => ⟨exec_processorReady_restarts act, exec_processorReady_idle act (.inr rfl),
      fun other => exec_processorReady_idle act (.inl other), exec_stewardReadyTimeout_idle act, exec_stewardReadyTimeout_rollsBack act⟩,
    ⟨exec_fwTrialEnd_idle, fun ⟨ended, absent⟩ => exec_fwTrialEnd_empty ended absent, fun b ⟨ended, image⟩ => exec_fwTrialEnd_raises ended image⟩, rfl, rfl, rfl, fun ⟨h, hr⟩ => ?_⟩
  case refine_1 =>
    have part {a : Answer} (e : (s.heard iface).xferPart iface offset data action = a) :
        exec (.transferFw iface ld action slot offset data) s = .next (s.answers iface ld 0x0201 a) := by
      rw [exec_transferFw_part h hr fits hs idle, e]
    refine ⟨?_, ?_, fun got mine => ⟨?_, ?_, ?_⟩, fun ⟨other, notFull, notInitiate⟩ => part ?_⟩
    case refine_1 | refine_2 => rintro rfl; exact part rfl
    case refine_3 | refine_4 | refine_5 => rintro rfl; exact part (by rw [State.xferPart, State.xferOwn_mine mine])
    case refine_6 =>
      cases action with
      | full => exact absurd rfl notFull
      | initiate => exact absurd rfl notInitiate
      | next | finish | abort => rw [State.xferPart, State.xferOwn_other other]
  case refine_2 =>
    have idle := And.intro noAct noXfer
    exact ⟨exec_activateFw_busy h hr hs idle, exec_activateFw_barred h hr hs idle (by simp), fun ⟨free, off⟩ => exec_activateFw_barred h hr hs idle (by simp [free]) off,
      exec_activateFw_checks h hr hs idle (by simp), fun ⟨free, on⟩ => exec_activateFw_checks h hr hs idle (by simp [free]) on⟩
  case refine_3 => exact ⟨State.next_coreOp h hr, State.next_coreOp h hr, State.next_coreOp h hr, State.next_coreOp h hr⟩

end Sys2Proof.Machine
end

section
/-! PROOFS. The parameter store: its commands on the registers, the debug channels and the sideband, and its background steps (14, R448 to R458). -/
namespace Sys2Proof.Machine

/-! ## The commands' meanings: the parameter store -/

theorem exec_psRead (iface key length : Nat) (s : State) : exec (.psRead iface key length) s = execPsRead iface key length s := rfl
theorem exec_psWrite (iface key length : Nat) (s : State) : exec (.psWrite iface key length) s = execPsWrite iface key length s := rfl
theorem exec_psDelete (iface key length : Nat) (s : State) : exec (.psDelete iface key length) s = execPsDelete iface key length s := rfl
theorem exec_psWriteDone (ok : Bool) (s : State) : exec (.psWriteDone ok) s = execPsWriteDone ok s := rfl
theorem exec_psCompact (s : State) : exec .psCompact s = execPsCompact s := rfl
theorem exec_psSectorEraseDone (ok : Bool) (s : State) : exec (.psSectorEraseDone ok) s = execPsSectorEraseDone ok s := rfl
theorem exec_storeRead (iface key : Nat) (s : State) : exec (.storeRead iface key) s = execStoreRead iface key s := rfl
theorem exec_storeWrite (iface key : Nat) (value : Bytes) (s : State) : exec (.storeWrite iface key value) s = execStoreWrite iface key value s := rfl
theorem exec_paramRead (key : Nat) (s : State) : exec (.paramRead key) s = execParamRead key s := rfl
theorem exec_paramWrite (key : Nat) (value : Bytes) (s : State) : exec (.paramWrite key value) s = execParamWrite key value s := rfl

/-! ## What a read and a write of a key come to (R449 to R451) -/

section
variable (s : State) (iface op key : Nat)

theorem State.psRead_eq : s.psRead iface op key =
    if s.holds iface .paramRead = false then (5, [], s.deny iface op .paramRead) else if psArea key = .reserved then (4, [], s) else if key = 0x0010 then (2, [], s)
    else match s.psGet key with | some v => (0, shownRecord key v, s) | none => (1, [], s) := by
  rw [State.psRead]
  simp only [Bool.not_eq_true'] <;> rfl

/-- The record a write of a key begins, of the next generation. -/
def State.nextRecord (s : State) (key : Nat) (value : Option Bytes) : PsRec :=
  ⟨key, ((s.ps.newest key).map (·.gen)).getD 0 + 1, (psArea key).num, value.isNone, value.getD []⟩

theorem State.psStart_eq (value : Option Bytes) : s.psStart iface op key value =
    if s.holds iface .paramWrite = false then (5, s.deny iface op .paramWrite) else if psArea key = .reserved ∨ 2020 < (value.getD []).length then (4, s)
    else if psArea key = .device ∨ (psArea key = .owner ∧ s.power.pins.nvwp = false) then (2, s)
    else if s.ps.writing.isSome = true ∨ s.power.committed = true then (6, s)
    else if value = none ∧ s.psGet key = none then (1, s) else if s.psOver key (value.getD []).length = true then (3, s)
    else if s.glade.fallback = none ∧ s.ps.erased = [] then (6, s)
    else (0, (({ s with ps := { s.ps with writing := some (s.nextRecord key value), waiter := some (iface, op) } } : State).wf F.WDN_PS_STAT_busy 1).wf F.WDN_PS_CTRL_go 1) := by
  rw [State.psStart, ite_or (P := psArea key = .device)]
  simp only [Bool.not_eq_true', Option.isNone_iff_eq_none, List.isEmpty_iff]
  rfl

end

/-! ## The registers (R448 to R452, R458) -/

section
variable {s : State} {iface key length : Nat} (h : s.hears iface 0 = true) (hm : s.holds iface .mgmtWrite = true)
include h hm

/-- A read shows its result; a value found goes to the buffer, and its length to the control register. -/
theorem exec_psRead_held {a : Nat × Bytes × State} (ha : s.psRead iface F.WDN_PS_CTRL_go.addr key = a) : exec (.psRead iface key length) s =
    .next (if a.1 = 5 then a.2.2.wf F.WDN_PS_STAT_result 5
      else if a.1 = 0 then
        let t := (a.2.2.psCtrl key 1 a.2.1.length).wf F.WDN_PS_STAT_result 0
        { t with ps := { t.ps with buf := fit 2048 a.2.1 } }
      else (a.2.2.psCtrl key 1 length).wf F.WDN_PS_STAT_result a.1) := by
  obtain ⟨res, v, t⟩ := a
  rw [exec_psRead, execPsRead, State.psGo, State.regWrite_held h hm hm, ha]
  by_cases found : res = 0
  · simp only [found, if_true]
  · simp only [if_neg found]

/-- What a write or a delete leaves: its fields in the control register unless the right was missing, and its result. -/
def psTook (key op length : Nat) (a : Nat × State) : State := (if a.1 = 5 then a.2 else a.2.psCtrl key op length).wf F.WDN_PS_STAT_result a.1

theorem exec_psWrite_held {a : Nat × State} (ha : s.psStart iface F.WDN_PS_CTRL_go.addr key (some (fit length s.ps.buf)) = a) :
    exec (.psWrite iface key length) s = .next (psTook key 2 length a) := by
  rw [exec_psWrite, execPsWrite, State.psGo, State.regWrite_held h hm hm, ha]
  rfl

theorem exec_psDelete_held {a : Nat × State} (ha : s.psStart iface F.WDN_PS_CTRL_go.addr key none = a) :
    exec (.psDelete iface key length) s = .next (psTook key 3 length a) := by
  rw [exec_psDelete, execPsDelete, State.psGo, State.regWrite_held h hm hm, ha]
  rfl

end

/-! ## The debug channels and the sideband (R451, R453, R456) -/

section
variable {s : State} {iface key : Nat} {value : Bytes} (h : s.hears iface 0 = true)
include h

theorem exec_storeRead_answers {a : Nat × Bytes × State} (ha : (s.heard iface).psRead iface 0xD010 key = a) : exec (.storeRead iface key) s =
    .next (s.answers iface 0 0xD010 (if a.1 = 5 then answer .invalidSecurityState a.2.2 else ⟨.success, le 1 a.1 ++ a.2.1, a.2.2⟩)) := by
  rw [exec_storeRead, execStoreRead, State.next_command_free h, ha]

theorem exec_storeWrite_answers {a : Nat × State} (ha : (s.heard iface).psStart iface 0xD011 key (some value) = a) : exec (.storeWrite iface key value) s =
    .next (s.answers iface 0 0xD011 (if a.1 = 5 then answer .invalidSecurityState a.2 else if a.1 = 0 then answer .background a.2 else ⟨.success, le 1 a.1, a.2⟩)) := by
  rw [exec_storeWrite, execStoreWrite, State.next_command_free h, ha]

end

section
variable {s : State} {key : Nat} {value : Bytes}

theorem exec_param_nacked (down : ¬s.sidebandUp) : exec (.paramRead key) s = .next (s.send .nack) ∧ exec (.paramWrite key value) s = .next (s.send .nack) :=
  ⟨State.next_sideband_nacked down, State.next_sideband_nacked down⟩

variable (up : s.sidebandUp)
include up

theorem exec_paramRead_sends {a : Nat × Bytes × State} (ha : (s.irqEdge irqSideband).psRead 5 0x05 key = a) :
    exec (.paramRead key) s = sidebandSends (sbStatus a.1, a.2.1, a.2.2) := by
  rw [exec_paramRead, execParamRead, State.next_sideband up, ha]

theorem exec_paramWrite_sends {a : Nat × State} (ha : (s.irqEdge irqSideband).psStart 5 0x06 key (some value) = a) :
    exec (.paramWrite key value) s = sidebandSends (sbStatus a.1, [], a.2) := by
  rw [exec_paramWrite, execParamWrite, State.next_sideband up, ha]

end

/-! ## The store's background steps (R449, R450, R452; log 165) -/

section
variable {s : State} {ok : Bool}

theorem exec_psWriteDone_idle (absent : s.ps.writing = none) : exec (.psWriteDone ok) s = .next s := by
  rw [exec_psWriteDone, execPsWriteDone, absent]

theorem exec_psWriteDone_stores {r : PsRec} (writing : s.ps.writing = some r) : exec (.psWriteDone ok) s =
    let t := ((s.psStored ok r).wf F.WDN_PS_STAT_busy 0).wf F.WDN_PS_CTRL_go 0
    .next ((t.wf F.WDN_PS_STAT_result 0).countHub 53).psAnswered.psStat.paramFallback := by
  rw [exec_psWriteDone, execPsWriteDone, writing]

theorem exec_psSectorEraseDone_idle (absent : s.ps.erasing = []) : exec (.psSectorEraseDone ok) s = .next s := by
  rw [exec_psSectorEraseDone, execPsSectorEraseDone, absent]

/-- The store with the sector under erasure erased, or failed. -/
def ParamStore.sectorErased (p : ParamStore) (ok : Bool) (e : Nat × Nat) (rest : List (Nat × Nat)) : ParamStore :=
  if ok then { p with erasing := rest, erased := p.erased ++ [(e.1, e.2 + 1)] } else { p with erasing := rest, failed := p.failed ++ [e.1] }

theorem exec_psSectorEraseDone_ends {e : Nat × Nat} {rest : List (Nat × Nat)} (erasing : s.ps.erasing = e :: rest) : exec (.psSectorEraseDone ok) s =
    .next ((({ s with ps := s.ps.sectorErased ok e rest } : State).countHub 54).psStat.paramFallback) := by
  rw [exec_psSectorEraseDone, execPsSectorEraseDone, erasing]
  rfl

theorem exec_psCompact_empty (absent : s.ps.sectors = []) : exec .psCompact s = .next s := by
  rw [exec_psCompact, execPsCompact, absent]

section
variable {old : PsSector} {rest : List PsSector}

/-- The oldest sector's records that are still the newest of their key. -/
def ParamStore.keptOf (p : ParamStore) (old : PsSector) : List PsRec := old.recs.filter (fun r => p.newest r.key == some r)

/-- The store without its oldest sector, its newest records moved to the head. -/
def ParamStore.movedFrom (p : ParamStore) (old : PsSector) (rest : List PsSector) : ParamStore :=
  each (p.keptOf old) { p with sectors := rest } ParamStore.append

/-- The store compacts: few erased sectors, another sector to move to, no erase, write, fall-back or commit, and room for every record moved. -/
def State.mayCompact (s : State) (old : PsSector) (rest : List PsSector) : Prop :=
  s.ps.erased.length < 2 ∧ rest ≠ [] ∧ s.ps.erasing = [] ∧ s.ps.writing = none ∧ s.glade.fallback = none ∧ s.power.committed = false ∧
    (rest.map (fun x => x.recs.length)).sum + (s.ps.keptOf old).length ≤ (s.ps.movedFrom old rest).recs.length

theorem State.not_mayCompact_iff : ¬s.mayCompact old rest ↔
    2 ≤ s.ps.erased.length ∨ rest.isEmpty = true ∨ (!s.ps.erasing.isEmpty) = true ∨ s.ps.writing.isSome = true ∨ s.glade.fallback.isSome = true ∨ s.power.committed = true ∨
      (s.ps.movedFrom old rest).recs.length < (rest.map (fun x => x.recs.length)).sum + (s.ps.keptOf old).length := by
  simp only [State.mayCompact, not_and_or, Nat.not_lt, Nat.not_le, not_not, List.isEmpty_iff, Bool.not_eq_true', List.isEmpty_eq_false_iff, Option.isSome_iff_ne_none, ne_eq,
    Bool.not_eq_false]

variable (sectors : s.ps.sectors = old :: rest)
include sectors

theorem exec_psCompact_idle (no : ¬s.mayCompact old rest) : exec .psCompact s = .next s := by
  rw [exec_psCompact, execPsCompact, sectors]
  exact congrArg _ (if_pos (State.not_mayCompact_iff.mp no))

theorem exec_psCompact_moves (may : s.mayCompact old rest) : exec .psCompact s =
    let p := s.ps.movedFrom old rest
    .next ({ s with ps := if s.ps.failed.contains old.pos then p else { p with erasing := p.erasing ++ [(old.pos, old.erases)] } } : State).psStat.paramFallback := by
  rw [exec_psCompact, execPsCompact, sectors]
  exact congrArg _ (if_neg (mt State.not_mayCompact_iff.mpr (not_not_intro may)))

end

end

/-- Settles O43: a read and a write by their result, on the registers, a debug channel and the sideband; the store's own steps by what it writes, erases or may move. -/
theorem parameterStoreCommandsTakeEffect : Obligations.ParameterStoreCommandsTakeEffect := by
  unfold Obligations.ParameterStoreCommandsTakeEffect
  intro s iface key length v look start go took
  have read (t : State) (i op : Nat) : t.psRead i op key = look t i op := t.psRead_eq i op key
  have write (t : State) (i op : Nat) (val : Option Bytes) : t.psStart i op key val = start t i op val := t.psStart_eq i op key val
  exact ⟨fun ⟨h, hm⟩ => ⟨exec_psRead_held h hm (read _ _ _), exec_psWrite_held h hm (write _ _ _ _), exec_psDelete_held h hm (write _ _ _ _),
      fun hr => congrArg _ (State.regWrite_held h hr hm)⟩,
    fun h => ⟨exec_storeRead_answers h (read _ _ _), exec_storeWrite_answers h (write _ _ _ _)⟩,
    ⟨exec_param_nacked, fun up => ⟨exec_paramRead_sends up (read (s.irqEdge irqSideband) 5 0x05), exec_paramWrite_sends up (write (s.irqEdge irqSideband) 5 0x06 (some v))⟩⟩,
    fun b => exec_psWriteDone_idle, fun r b => exec_psWriteDone_stores, exec_psCompact_empty, fun old rest sectors => ⟨exec_psCompact_idle sectors, exec_psCompact_moves sectors⟩,
    fun b => exec_psSectorEraseDone_idle, fun b e rest => exec_psSectorEraseDone_ends⟩

end Sys2Proof.Machine
end
